-- ==== Sys2Proof/Word.lean ====
section
/-!
DEFINITION. The 32-bit word of the register space (R93), bit fields of words, and the plain arithmetic the manual's
formulas use: saturation, two's-complement reading, rounding shifts, and sparse stores of words by address.
-/

namespace Sys2Proof

/-- Every register is 32 bits wide (R93). -/
abbrev Word := BitVec 32

/-- A byte of a frame, of a buffer or of DRAM. -/
abbrev Byte := BitVec 8

/-- Bits `hi` down to `lo` of a number, as a number. -/
def bits (n hi lo : Nat) : Nat := (n >>> lo) % 2 ^ (hi + 1 - lo)

/-- One bit of a number. -/
def bit (n i : Nat) : Bool := n.testBit i

/-- `n` with bits `hi` down to `lo` replaced by the low bits of `v`. -/
def putBits (n hi lo v : Nat) : Nat :=
  n - (bits n hi lo) * 2 ^ lo + (v % 2 ^ (hi + 1 - lo)) * 2 ^ lo

/-- `n` with bit `i` set to `b`. -/
def putBit (n i : Nat) (b : Bool) : Nat := putBits n i i b.toNat

/-- Two's-complement value of the low `w` bits of `n`. -/
def toS (w n : Nat) : Int :=
  if n % 2 ^ w < 2 ^ (w - 1) then (n % 2 ^ w : Nat) else ((n % 2 ^ w : Nat) : Int) - 2 ^ w

/-- The `w`-bit two's-complement pattern of an integer. -/
def ofS (w : Nat) (i : Int) : Nat := (i % (2 ^ w : Nat)).toNat

/-- The nearest value of an integer inside `[lo, hi]`. -/
def clampI (lo hi i : Int) : Int := if i < lo then lo else if hi < i then hi else i

/-- The nearest value of a number inside `[lo, hi]`. -/
def clampN (lo hi n : Nat) : Nat := if n < lo then lo else if hi < n then hi else n

/-- An integer cut to an unsigned range `0 … hi`. -/
def satN (hi : Nat) (i : Int) : Nat := (clampI 0 hi i).toNat

/-- Division by `2 ^ k` with half a unit added first and the result floored. -/
def rshr (i : Int) (k : Nat) : Int := (i + (if k = 0 then 0 else 2 ^ (k - 1))) / 2 ^ k

/-- Floor division with half the divisor added first, for a positive divisor. -/
def rdiv (i d : Int) : Int := if d = 0 then 0 else (2 * i + d) / (2 * d)

/-- Floor of the square root, by bisection over `2 ^ fuel`. -/
def isqrtAux : Nat → Nat → Nat → Nat
  | 0, _, r => r
  | k + 1, n, r => if (r + 2 ^ k) * (r + 2 ^ k) ≤ n then isqrtAux k n (r + 2 ^ k) else isqrtAux k n r

/-- Floor of the square root of a number below `2 ^ 256`. -/
def isqrt (n : Nat) : Nat := isqrtAux 128 n 0

/-! Sparse stores: association lists with strictly rising keys that list no entry equal to what an unlisted key reads. -/

/-- A sparse store of values by key. -/
abbrev Store (α : Type) := List (Nat × α)

namespace Store
variable {α : Type}

/-- The value at `k`: the first entry of that key, else `d`. -/
def get (d : α) : Store α → Nat → α
  | [], _ => d
  | (a, v) :: r, k => if a = k then v else get d r k

/-- The store without the key `k`. -/
def erase (st : Store α) (k : Nat) : Store α := st.filter fun e => e.1 ≠ k

/-- The store with `v` at `k`, in key order. -/
def put : Store α → Nat → α → Store α
  | [], k, v => [(k, v)]
  | (a, x) :: r, k, v =>
    if k < a then (k, v) :: (a, x) :: r else if a = k then (k, v) :: r else (a, x) :: put r k v

/-- The store with `v` at `k`; the value an unlisted `k` reads as removes the entry. -/
def set [DecidableEq α] (d : α) (st : Store α) (k : Nat) (v : α) : Store α :=
  if v = d then st.erase k else st.put k v

/-- The store without the keys `lo … hi - 1`. -/
def clear (st : Store α) (lo hi : Nat) : Store α := st.filter fun e => !(lo ≤ e.1 && e.1 < hi)

/-- Canonical form: keys rise strictly and no entry equals what its key reads when unlisted. -/
def wf [DecidableEq α] (d : Nat → α) : Store α → Bool
  | [] => true
  | [(a, v)] => decide (v ≠ d a)
  | (a, v) :: (b, w) :: r => decide (v ≠ d a) && decide (a < b) && wf d ((b, w) :: r)

end Store

/-! Fixed numbers of like things. -/

/-- The `i`-th element, or the type's default outside the vector. -/
def vget {α : Type} [Inhabited α] {n : Nat} (v : Vector α n) (i : Nat) : α := v[i]?.getD default

/-- The vector with its `i`-th element changed; unchanged outside the vector. -/
def vmod {α : Type} {n : Nat} (v : Vector α n) (i : Nat) (f : α → α) : Vector α n :=
  if h : i < n then v.set i (f v[i]) h else v

/-- The little-endian bytes of a number. -/
def leBytes : Nat → Nat → List Byte
  | 0, _ => []
  | k + 1, n => BitVec.ofNat 8 n :: leBytes k (n / 256)

/-- The number that little-endian bytes spell. -/
def ofLe : List Byte → Nat
  | [] => 0
  | b :: r => b.toNat + 256 * ofLe r

/-- The number that big-endian bytes spell. -/
def ofBe (l : List Byte) : Nat := ofLe l.reverse

/-- The big-endian bytes of a number. -/
def beBytes (k n : Nat) : List Byte := (leBytes k n).reverse

end Sys2Proof
end

