-- ==== Sys2Proof/Syntax.lean ====
section
/-!
DEFINITION. The commands of the part: one constructor for each row of spec/opcode_table.json, in the table's order. The table
gives a row no operands; the operands are the model's (log entry 2): what the manual's text for the row leaves to the sender, the
board or the sensor. A cluster `g` is a global index (tile `g / 2`, cluster `g % 2`, R11).
-/

namespace Sys2Proof

/-- The two control ports (R110, R113). -/
inductive Port where
  | a | b
deriving DecidableEq, Repr

/-- How long a supervised rail or PKG_RST_N stays low: too short to act, in the band where the part may do either
(R55 0.5–2 µs, R57 200 ns–1 µs), or long enough to act always. -/
inductive Dip where
  | short | between | long
deriving DecidableEq, Repr

/-- The rails of R55: a common rail, a tile's I/O bank (0 S0, 1 S1, 2 M, 3 X) or a tile's VDDQ_DDR. -/
inductive Rail where
  | common | bank (t : Fin 8) (b : Fin 4) | vddq (t : Fin 8)
deriving DecidableEq, Repr

/-- The uses of a temperature whose delivery can go stale (R242, R377): shading, the lamp bar, the LED die. -/
inductive TempUse where
  | shd | lampBar | lampDie
deriving DecidableEq, Repr

/-- A qualified change of the encoder inputs (R334): one count up or down, an error, the index. -/
inductive EncEdge where
  | up | down | error | index
deriving DecidableEq, Repr

/-- A change of a limit or home input (R343): a filtered level, or chatter. -/
inductive LimChange where
  | level (b : Bool) | chatter
deriving DecidableEq, Repr

/-- A PCIe memory request to BAR0: a read of 1–16 DW, or write DWs with a flag for "all byte enables set" (R111). -/
inductive Bar0Req where
  | read (dws : Fin 17)
  | write (dws : List (Word × Bool))
deriving DecidableEq, Repr

/-- What a calibration measured of one slice (R189): offset in 1/16 LSB, gain in 2^-15, skew in 0.25 ps, residual RMS in LSB. -/
structure SliceMeas where
  ofs : Int
  gain : Nat
  skew : Int
  res : Nat
deriving DecidableEq, Repr, Inhabited

/-- What a shadow step measured (R191, R192, R194): the offset, gain and skew that a fit over its pairs gives and the residual RMS; and, used
when the residual is out of limits, the offset, gain and residual of the self-check. `at_` numbers the phase and readout position of the
line in progress at which the step ends, as `phase × 65536 + position` (log entry 27). -/
structure StepFit where
  ofs : Int
  gain : Nat
  skew : Int
  res : Nat
  selfOfs : Int
  selfGain : Nat
  selfRes : Nat
  at_ : Nat
deriving DecidableEq, Repr, Inhabited

/-- The end of a shadow step (R191, R192): its fit, the pairs collected, the standard deviation of x in LSB and the mean absolute local slope
in LSB per ns (log entry 27). -/
structure StepEnd extends StepFit where
  pairs : Nat
  sd : Nat
  slope : Nat
deriving DecidableEq, Repr, Inhabited

/-- A level change of a pin: first seen in the sample at time base `n`, it holds for `held` samples (R171). -/
structure PinEdge where
  n : BitVec 64
  held : Nat
deriving DecidableEq, Repr, Inhabited

/-- The words a framing lane received since the readout window opened, or of late outside one, the last of them at instant `n` (R159). -/
structure LaneWords where
  n : BitVec 64
  words : List Nat
deriving DecidableEq, Repr, Inhabited

/-- The queue of which the register consumer takes the head, and whether in the CLK_FAB cycle of the other port's POP or DISCARD (R324). -/
structure HeadTake where
  q : Fin 32
  late : Bool
deriving DecidableEq, Repr, Inhabited

/-- Link U of tile `t` lost, and the frames retried at its two ends while it was up (R494). -/
structure LinkLoss where
  t : Fin 8
  retriesU : BitVec 16
  retriesL : BitVec 16
deriving DecidableEq, Repr, Inhabited

/-- A check-lane comparison that will differ (R289, R290): its point (0 an add, 1 synthesis, 2 stages 4–6, 3 overlap samples sent, 4 a
formatted value, 5 a record), output line, plane, sample index, stream (point 4) or side sent to (point 3: 0 left, 1 right), and the
exclusive or of the check lane's and the sample lane's result (log entry 43). -/
structure Upset where
  point : Nat
  k : Nat
  p : Nat
  s : Nat
  n : Nat := 0
  x : Nat
deriving DecidableEq, Repr, Inhabited

/-- What a video input carries during a line (R152, R153): its level as steps in order of time (250 ps from L0, level in LSB of the
converter), the sensor's black level as step 3 gives it, and by phase and readout position what the converting slice adds to the nominal
result (log entry 39). -/
structure InputData where
  wave : List (Int × Int) := []
  black : Int := 0
  err : List (List Int) := []
deriving DecidableEq, Repr, Inhabited

/-- What a port receives during a readout (R153, R159): its video inputs 0–5, and for each digital lane 0–7 the words since L0, each
number holding the bits as received with the first in the highest place. An entry of a line-valid lane is its level at a word boundary (log entry 39). -/
structure LineData where
  inputs : List InputData := []
  lanes : List (List Nat) := []
deriving DecidableEq, Repr, Inhabited

/-- What deskew finds of a lane (R157): the taps at which TRAIN arrives without error, a word received at the tap chosen (none: no stable
word in 256), and by how many words the lane is late (log entry 27). -/
structure LaneFind where
  taps : BitVec 64 := 0
  word : Option Nat := none
  late : Int := 0
deriving DecidableEq, Repr, Inhabited

/-- Source of a datagram: MAC address, IP address (an IPv4 address in the low 32 bits), UDP port (R448). -/
structure NetSrc where
  mac : BitVec 48
  ip : BitVec 128
  port : BitVec 16
deriving DecidableEq, Repr

/-- Destination address of a received frame (R443). -/
inductive FrameDst where
  | own | broadcast | ptp | other
deriving DecidableEq, Repr

/-- What a received frame carries (R442, R443); `other` is everything the part does not accept: fragments, options, pause frames. -/
inductive FrameBody where
  | arp (target : BitVec 32)
  | icmp (echo : List Byte)
  | nd (target : BitVec 128)
  | ptp (bytes : List Byte)
  | udp (port : BitVec 16) (src : NetSrc) (payload : List Byte)
  | other
deriving DecidableEq, Repr

/-- A received Ethernet frame: destination, VLAN tag, checksums, codewords the FEC corrected and could not correct, contents (log entry 59). -/
structure Frame where
  dst : FrameDst
  tag : Option (BitVec 12)
  csumOk : Bool
  corr : Nat
  uncorr : Nat
  body : FrameBody
deriving DecidableEq, Repr

/-- A PCIe configuration request, by the fields it reads or writes (R433, R434). -/
inductive CfgReq where
  | ids
  | command (memory busMaster : Bool)
  | power (d : Fin 4)
  | msix (enable mask : Bool)
  | devctl (mps mrrs : Fin 8)
  | bar0 (addr : BitVec 64)
  | bar2 (addr : BitVec 64)
deriving DecidableEq, Repr

/-- What a PCIe read of the part's own brings back: data, data with EP set, a completion with status UR or CA, or a completion
time-out (R470). -/
inductive Cpl where
  | ok (bytes : List Byte) | poison | error | timeout
deriving DecidableEq, Repr

/-- How a two-wire transfer ends on the bus (R533–R536). -/
inductive TwcEnd where
  | complete | nackAddr | nackData | contention | aborted
deriving DecidableEq, Repr

/-- The commands (writes and reads of registers, events on pins, links and clocks, ends of what the part does). -/
inductive Instr where
  /-- RAIL_DIP. A supervised rail stays low for a time (R55). -/
  | railDip (rail : Rail) (dip : Dip)
  /-- POWER_ON_RESET_RELEASE. The power-on reset is released; the straps and TEST_EN are sampled (R40, R42, R56). -/
  | powerOnResetRelease (boot : Fin 8) (hmode : Fin 4) (quad : Bool) (testEn : Bool)
  /-- PACKAGE_RESET. A low pulse on PKG_RST_N (R57). -/
  | packageReset (dip : Dip)
  /-- MAIN_PLL_LOCK. The main PLL of a tile locks (R58). -/
  | mainPllLock (t : Fin 8)
  /-- SELF_TEST_DONE. The self-test of a tile completes (R58). -/
  | selfTestDone (t : Fin 8) (pass : Bool)
  /-- DECLARER_ELECTION. The ring links have trained: roles are given (R500, R505). -/
  | declarerElection
  /-- TILE_RST_GO. A write of `PWR.TILE_RST` with GO = 1 and the KEY in `v` (R69). -/
  | tileRstGo (p : Port) (t : Fin 8) (v : Word)
  /-- TILE_RESET. A tile reset that is due starts (R62, R69). -/
  | tileReset (t : Fin 8)
  /-- TILE_RESET_RELEASE. The internal reset of a tile reset ends (R62, R83). -/
  | tileResetRelease (t : Fin 8)
  /-- DOM_REQ_WRITE. A write of `PWR.DOM_REQ` (R60). -/
  | domReqWrite (p : Port) (t : Fin 8) (v : Word)
  /-- SHT_MODE_WRITE. A write of `PWR.SHT_MODE` (R64). -/
  | shtModeWrite (p : Port) (t : Fin 8) (v : Word)
  /-- DOMAIN_SWITCHED. The power sequencer completes the change it is making (R61). -/
  | domainSwitched (t : Fin 8)
  /-- REFCLK_LOSS. No REFCLK edge for 1 µs (R74). -/
  | refclkLoss
  /-- REFCLK_RETURN. REFCLK has been back for 100 µs (R74). -/
  | refclkReturn
  /-- TB_CAPTURE. A write of `TB.CTRL` with CAPTURE = 1 (R78). -/
  | tbCapture (p : Port) (t : Fin 8) (v : Word)
  /-- TB_LOAD. A write of `TB.CTRL` with LOAD = 1 (R79). -/
  | tbLoad (p : Port) (t : Fin 8) (v : Word)
  /-- TB_ALARM_FIRE. The time base reaches the alarm value (R80). -/
  | tbAlarmFire (t : Fin 8)
  /-- PPS_IN_EDGE. A rising edge on PPS_IN at time base `n` of tile 0 (R81). -/
  | ppsInEdge (n : BitVec 64)
  /-- BLOCK_SOFT_RESET. A write of PAGE_CTRL with SRST = 1 (R84). -/
  | blockSoftReset (p : Port) (tf : Fin 16) (page : Fin 256) (v : Word)
  /-- PAGE_ENABLE_WRITE. A write of PAGE_CTRL.ENABLE (R97). -/
  | pageEnableWrite (p : Port) (tf : Fin 16) (page : Fin 256) (en : Bool)
  /-- PAGE_LOCK. A write of PAGE_CTRL with LOCK = 1 (R98). -/
  | pageLock (p : Port) (tf : Fin 16) (page : Fin 256) (v : Word)
  /-- INT_SET. A write of INT_SET (R97). -/
  | intSet (p : Port) (tf : Fin 16) (page : Fin 256) (v : Word)
  /-- COMMIT_NOW. A write of COMMIT with NOW = 1 (R101). -/
  | commitNow (p : Port) (tf : Fin 16) (page : Fin 256) (v : Word)
  /-- COMMIT_DEAL. A write of COMMIT with DEAL = 1 (R102). -/
  | commitDeal (p : Port) (tf : Fin 16) (page : Fin 256) (v : Word)
  /-- COMMIT_LINE. A write of COMMIT with LINE = 1 (R102). -/
  | commitLine (p : Port) (tf : Fin 16) (page : Fin 256) (v : Word)
  /-- WIN_ADDR_WRITE. A write of WIN_ADDR (R105). -/
  | winAddrWrite (p : Port) (tf : Fin 16) (page : Fin 256) (v : Word)
  /-- WIN_STEP. A write of WIN_CTRL with STEP = 1 (R104). -/
  | winStep (p : Port) (tf : Fin 16) (page : Fin 256) (v : Word)
  /-- WIN_DATA_WRITE. A write of WIN_DATAw (R105). -/
  | winDataWrite (p : Port) (tf : Fin 16) (page : Fin 256) (w : Fin 4) (v : Word)
  /-- REGISTER_WRITE. A write of any register address (R91–R95). -/
  | registerWrite (p : Port) (addr : BitVec 24) (v : Word)
  /-- BAR0_REQUEST. A memory request to BAR0 of tile `t`, poisoned when `ep` (R111, R441). -/
  | bar0Request (t : Fin 8) (addr : BitVec 24) (req : Bar0Req) (ep : Bool)
  /-- A_DETACH. A write of `PORTS.A_PATH` with DETACH = 1 (R110). -/
  | aDetach (p : Port) (v : Word)
  /-- CPB_WRITE. A WRITE frame with the CRC the host sent (R114–R116). -/
  | cpbWrite (addr : BitVec 24) (data : Word) (crc : Byte)
  /-- CPB_READ. A READ frame; `ready`: the register is there by the start of STAT; `cut`: CPB_CS_N rises before the part's CRC (R114, R116). -/
  | cpbRead (addr : BitVec 24) (crc : Byte) (ready : Bool) (cut : Bool)
  /-- CPB_FETCH. A FETCH frame (R116). -/
  | cpbFetch (crc : Byte)
  /-- CPB_SET_QUAD. A SET_QUAD frame (R114). -/
  | cpbSetQuad (crc : Byte)
  /-- CPB_SET_SINGLE. A SET_SINGLE frame (R114). -/
  | cpbSetSingle (crc : Byte)
  /-- CPB_FRAME_DISCARD. A frame with another command, or cut short (R114). -/
  | cpbFrameDiscard
  /-- CPB_WRITE_APPLY. The write at the head of port B's queue is applied (R116). -/
  | cpbWriteApply
  /-- CPB_READ_COMPLETE. A pending read of port B completes (R116). -/
  | cpbReadComplete
  /-- SEM_CLAIM. A write of CLAIMn (R121). -/
  | semClaim (p : Port) (n : Fin 64) (v : Word)
  /-- KEEPALIVE. A write of `PORTS.KEEPALIVE` (R125). -/
  | keepalive (p : Port) (v : Word)
  /-- KEEPALIVE_EXPIRY. The window of a port ends (R126). -/
  | keepaliveExpiry (p : Port)
  /-- EOI_A. A write of `PORTS.EOI_A` (R130). -/
  | eoiA (p : Port) (v : Word)
  /-- HAND_CFG_WRITE. A write of HAND_CFGh (R134). -/
  | handCfgWrite (p : Port) (h : Fin 16) (v : Word)
  /-- ARM. The command ARM written to HAND_CMDh (R138, R139). -/
  | arm (p : Port) (h : Fin 16)
  /-- DISARM. The command DISARM written to HAND_CMDh (R138, R139). -/
  | disarm (p : Port) (h : Fin 16)
  /-- TO_READY. The command TO_READY written to HAND_CMDh (R138, R139). -/
  | toReady (p : Port) (h : Fin 16)
  /-- TO_CALIBRATE. The command TO_CALIBRATE written to HAND_CMDh (R138, R139). -/
  | toCalibrate (p : Port) (h : Fin 16)
  /-- TO_SCAN. The command TO_SCAN written to HAND_CMDh (R138, R139). -/
  | toScan (p : Port) (h : Fin 16)
  /-- HOLD_SET. The command HOLD_SET written to HAND_CMDh (R138, R139). -/
  | holdSet (p : Port) (h : Fin 16)
  /-- HOLD_CLEAR. The command HOLD_CLEAR written to HAND_CMDh (R138, R139). -/
  | holdClear (p : Port) (h : Fin 16)
  /-- DEAL_START. The command DEAL_START written to HAND_CMDh (R138, R139). -/
  | dealStart (p : Port) (h : Fin 16)
  /-- DEAL_END. The command DEAL_END written to HAND_CMDh (R138, R139). -/
  | dealEnd (p : Port) (h : Fin 16)
  /-- HAND_CMD_LEAVE_QUEUE. The head entry leaves the queue of hand `h` in the segment of tile `seg` (R140). -/
  | handCmdLeaveQueue (h : Fin 16) (seg : Fin 8)
  /-- HAND_TRANSITION. The current command of hand `h` takes effect at its grid point (R138). -/
  | handTransition (h : Fin 16) (seg : Fin 8)
  /-- DEAL_PIN_EDGE. An edge of the deal pin of hand `h`, sampled at time base `n` of its tile (R143). -/
  | dealPinEdge (h : Fin 16) (n : BitVec 64) (rising : Bool)
  /-- MAX_LINES_REACHED. The reference stream has released MAX_LINES lines of the deal (R143). -/
  | maxLinesReached (h : Fin 16) (seg : Fin 8)
  /-- LEADIN_DONE. The lead-in captures of the deal have been triggered (R144). -/
  | leadinDone (h : Fin 16) (seg : Fin 8)
  /-- DRAIN_COMPLETE. Every capture of the ended deal is accumulated or missing (R145). -/
  | drainComplete (h : Fin 16) (seg : Fin 8)
  /-- DRAIN_WINDOW_END. The drain window closes (R145). -/
  | drainWindowEnd (h : Fin 16) (seg : Fin 8)
  /-- PREP. A write of `MODE.TILE_CMD.PREP` (R136). -/
  | prep (p : Port) (tiles : BitVec 8)
  /-- PREP_COMPLETE. The last preparation step of a tile ends (R136, R137). -/
  | prepComplete (t : Fin 8)
  /-- DORMANT_REQUEST. A write of `MODE.TILE_CMD.DORM` (R141). -/
  | dormantRequest (p : Port) (tiles : BitVec 8)
  /-- WAKE. Wake sources of a DORMANT tile occur: GPIO edges, the alarm, a control-port access (R68). -/
  | wake (t : Fin 8) (gpio : BitVec 8) (alarm : Bool) (cp : Bool)
  /-- CAPTURE_TRIGGER. The dealer of cluster `g` reaches grid point `n`; `hr` is the headroom of the line before, in mV by string (R170). -/
  | captureTrigger (g : Fin 16) (n : BitVec 64) (hr : List Nat)
  /-- TRIG_PIN_EDGE. The level of TRIG pin `pin` changes; `hr` by cluster of the tile (R171, R172). -/
  | trigPinEdge (t : Fin 8) (pin : Fin 4) (rising : Bool) (edge : PinEdge) (hr : List (List Nat))
  /-- PHASE_SWITCH. The EXT_PHASE grid of hand `h` reaches its switch point (R172). -/
  | phaseSwitch (h : Fin 16) (seg : Fin 8)
  /-- POSITION_CROSSING. The position of LEGACY_POS hand `h` reaches the next pitch boundary at time base `n` (R173). -/
  | positionCrossing (h : Fin 16) (seg : Fin 8) (n : BitVec 64) (hr : List (List Nat))
  /-- LINE_COMPLETE. A captured line completes at stage 1 with what the port received (R150, R155, R187). -/
  | lineComplete (g : Fin 16) (inputs : List InputData) (lanes : List (List Nat))
  /-- DIGITAL_LINE_START. The words that the framing lane received end with a line start (R159). -/
  | digitalLineStart (g : Fin 16) (framing : LaneWords)
  /-- READOUT_TIMEOUT. The digital readout window reaches RD_TIMEOUT (R160). -/
  | readoutTimeout (g : Fin 16)
  /-- LANE_LOCK_LOST. DLCK leaves its lock range (R156). -/
  | laneLockLost (g : Fin 16)
  /-- DESKEW_GO. A write of `SPORT.DESKEW` with GO = 1 (R157). -/
  | deskewGo (p : Port) (g : Fin 16) (v : Word)
  /-- DESKEW_COMPLETE. Deskew ends with each lane's findings (R157). -/
  | deskewComplete (g : Fin 16) (lanes : List LaneFind)
  /-- SSPI_TX. A write of SSPI TX (R179). -/
  | sspiTx (p : Port) (g : Fin 16) (v : Word)
  /-- SSPI_RXPOP. A write of SSPI CMD with RXPOP = 1 (R179). -/
  | sspiRxpop (p : Port) (g : Fin 16) (v : Word)
  /-- SSPI_FLUSH. A write of SSPI CMD with FLUSH = 1 (R181). -/
  | sspiFlush (p : Port) (g : Fin 16) (v : Word)
  /-- SSPI_FRAME_DONE. A sensor SPI frame ends with the bits read on MISO (R179). -/
  | sspiFrameDone (g : Fin 16) (miso : Word)
  /-- VC_FULL_CAL. A write of `VC.CAL_CMD` with FULL = 1 (R188). -/
  | vcFullCal (p : Port) (g : Fin 16) (v : Word)
  /-- VC_CAL_COMPLETE. A full or restore calibration ends with what it measured of each slice, by converter (R188, R189). -/
  | vcCalComplete (g : Fin 16) (meas : List (List SliceMeas))
  /-- SHADOW_STEP_COMPLETE. A shadow step of converter `v` ends with its fit (R193, R194). -/
  | shadowStepComplete (g : Fin 16) (v : Fin 6) (fit : StepEnd)
  /-- HANDOVER. The handover of converter `v` falls in phase `phase` (R193). -/
  | handover (g : Fin 16) (v : Fin 6) (phase : Fin 6)
  /-- BG_STEP_TIMEOUT. BGCAL_TMO elapses in a shadow step with the pairs it has collected (R192). -/
  | bgStepTimeout (g : Fin 16) (v : Fin 6) (pairs : Nat) (fit : StepFit)
  /-- POSITION_SAMPLE. A position sample of its hand arrives at member `g` (R25, R329). -/
  | positionSample (g : Fin 16)
  /-- POSITION_TIMEOUT. ACC.POS_TMO passes without a later sample (R212). -/
  | positionTimeout (g : Fin 16)
  /-- ACCUMULATE. Stage 3 takes the next line; `errs` are accumulator words found with an error (R215, R224). -/
  | accumulate (g : Fin 16) (errs : List Upset)
  /-- T_HOST_WRITE. A write of `LAMP.T_HOST` or `SHD.T_HOST` (R242). -/
  | tHostWrite (p : Port) (g : Fin 16) (lamp : Bool) (v : Word)
  /-- TEMP_STALE. 100 ms pass after the last delivery to one use of a temperature (R242, R377). -/
  | tempStale (g : Fin 16) (use : TempUse)
  /-- BUILD_DARK. A write of `CAL.CMD` with BUILD_DARK = 1 (R257). -/
  | buildDark (p : Port) (g : Fin 16) (v : Word)
  /-- BUILD_GAIN. A write of `CAL.CMD` with BUILD_GAIN = 1 (R257). -/
  | buildGain (p : Port) (g : Fin 16) (v : Word)
  /-- BUILD_DEFECT. A write of `CAL.CMD` with BUILD_DEFECT = 1 (R257). -/
  | buildDefect (p : Port) (g : Fin 16) (v : Word)
  /-- BUILD_COMPLETE. The table builder ends (R257). -/
  | buildComplete (g : Fin 16)
  /-- MELD_TAKE_LINE. Stage 7 takes the next released line of cluster `g` (R267). -/
  | meldTakeLine (g : Fin 16)
  /-- OVERLAP_ARRIVAL. Overlap samples arrive at the owner `g` of a seam (R274). -/
  | overlapArrival (g : Fin 16) (right : Bool)
  /-- MELD_TIMEOUT. MELD.TMO passes without the sender's samples (R275). -/
  | meldTimeout (g : Fin 16)
  /-- END_OF_DEAL_NOTICE. A sender's end-of-deal notice arrives at the owner `g` (R278). -/
  | endOfDealNotice (g : Fin 16) (right : Bool)
  /-- STAGE9_CREDIT_RESUME. A queue of cluster `g` has FREE again (R288). -/
  | stage9CreditResume (g : Fin 16)
  /-- CHK_POP. A write of `CHK.POP` (R291). -/
  | chkPop (p : Port) (t : Fin 8) (v : Word)
  /-- CHECK_INJECT. A write of `CHK.INJECT` with ONCE = 1 (R292). -/
  | checkInject (p : Port) (t : Fin 8) (v : Word)
  /-- TRICK_OPEN. A producer that waits for FREE of queue `q` opens its trick (R306). -/
  | trickOpen (t : Fin 8) (q : Fin 32)
  /-- TRICK_CLOSE. The open trick of queue `q` takes its header (R302). -/
  | trickClose (t : Fin 8) (q : Fin 32)
  /-- TRICK_DELIVERY. The host port completes a delivery from the head of the queue in turn (R304, R432). -/
  | trickDelivery (t : Fin 8)
  /-- QUE_FETCH. The operation FETCH written to `QUE.CMD` for queue `q` (R318, R320). -/
  | queFetch (p : Port) (t : Fin 8) (q : Fin 32)
  /-- QUE_POP. The operation POP written to `QUE.CMD` for a queue (R320, R324). -/
  | quePop (p : Port) (t : Fin 8) (take : HeadTake)
  /-- QUE_DISCARD. The operation DISCARD written to `QUE.CMD` for a queue (R320, R324). -/
  | queDiscard (p : Port) (t : Fin 8) (take : HeadTake)
  /-- QUE_RESET. The operation RESET written to `QUE.CMD` for queue `q` (R318, R320). -/
  | queReset (p : Port) (t : Fin 8) (q : Fin 32)
  /-- REAP_DONE. The reaper has returned the old list of queue `q` (R319). -/
  | reapDone (t : Fin 8) (q : Fin 32)
  /-- SPILL_WRITE. The spill writer appends the head trick of queue `q` (R313, R314). -/
  | spillWrite (t : Fin 8) (q : Fin 32)
  /-- REPLAY_TRICK. The host port completes a delivery from the spill list of the queue in turn (R314). -/
  | replayTrick (t : Fin 8)
  /-- SRAM_REINIT. A write of `KITTY.CMD` with SRAM_REINIT = 1 (R311, R312, R327). -/
  | sramReinit (p : Port) (t : Fin 8) (v : Word)
  /-- DRAM_INIT. A write of `KITTY.CMD` with DRAM_INIT = 1 (R311, R312, R327). -/
  | dramInit (p : Port) (t : Fin 8) (v : Word)
  /-- DRAM_RELEASE. A write of `KITTY.CMD` with DRAM_RELEASE = 1 (R311, R312, R327). -/
  | dramRelease (p : Port) (t : Fin 8) (v : Word)
  /-- SELFTEST. A write of `KITTY.CMD` with SELFTEST = 1 (R311, R312, R327). -/
  | selftest (p : Port) (t : Fin 8) (v : Word)
  /-- SELFTEST_DONE. The kitty self-test ends, with the first failing cell if any (R327). -/
  | selftestDone (t : Fin 8) (fail : Option (Fin 32768))
  /-- PLANNER_TICK. The next 4 µs planner tick; `leds` are headroom readings in mV by cluster and string for direct drive (R329, R374). -/
  | plannerTick (leds : List (List Nat))
  /-- LEVEL_LOST. Tile `u`'s pace factors have been missing at tile `t` (R356). -/
  | levelLost (t : Fin 8) (u : Fin 8)
  /-- MICROSTEP_EVENT. The commanded position crosses an integer at time base `n` (R330). -/
  | microstepEvent (g : Fin 16) (n : BitVec 64)
  /-- AXIS_GO. A write of `AXIS.CTRL` with GO = 1 (R335). -/
  | axisGo (p : Port) (g : Fin 16) (v : Word)
  /-- AXIS_STOP. A write of `AXIS.CTRL` with STOP = 1 (R337). -/
  | axisStop (p : Port) (g : Fin 16) (v : Word)
  /-- AXIS_ESTOP. A write of `AXIS.CTRL` with ESTOP = 1 (R340). -/
  | axisEstop (p : Port) (g : Fin 16) (v : Word)
  /-- HOME_GO. A write of `AXIS.CTRL` with HOME_GO = 1 (R345). -/
  | homeGo (p : Port) (g : Fin 16) (v : Word)
  /-- FORGET. A write of `AXIS.CTRL` with FORGET = 1 (R350). -/
  | forget (p : Port) (g : Fin 16) (v : Word)
  /-- CHAT_CLR. A write of `AXIS.CTRL` with CHAT_CLR = 1 (R343). -/
  | chatClr (p : Port) (g : Fin 16) (v : Word)
  /-- AXIS_SNAP. A write of `AXIS.CTRL` with SNAP = 1 (R352). -/
  | axisSnap (p : Port) (g : Fin 16) (v : Word)
  /-- AXIS_DRV_EN_WRITE. A write of `AXIS.CTRL.DRV_EN` (R342). -/
  | axisDrvEnWrite (p : Port) (g : Fin 16) (en : Bool)
  /-- ENCODER_EDGE. A qualified change of the encoder inputs (R334). -/
  | encoderEdge (g : Fin 16) (kind : EncEdge)
  /-- LIMIT_INPUT_CHANGE. LIM_NEG, LIM_POS or HOME (0, 1, 2) takes a filtered level or chatters (R343). -/
  | limitInputChange (g : Fin 16) (i : Fin 3) (change : LimChange)
  /-- DRV_FAULT. DRV_FAULT_N changes (R340, R342). -/
  | drvFault (g : Fin 16) (active : Bool)
  /-- HOMING_NOT_FOUND. SEEK has travelled HOME_MAX (R347). -/
  | homingNotFound (g : Fin 16)
  /-- IREF_HOLD_TIMEOUT. HOLD_DLY passes without a microstep event (R333). -/
  | irefHoldTimeout (g : Fin 16)
  /-- BST_EN_WRITE. A write of `LAMP.CTRL` (R366). -/
  | bstEnWrite (p : Port) (g : Fin 16) (v : Word)
  /-- LAMP_DIRECT. A write of `LAMP.CTRL` with its DIRECT bit (R374). -/
  | lampDirect (p : Port) (g : Fin 16) (v : Word)
  /-- SHUT_CLR. A write of `LAMP.CTRL` with SHUT_CLR = 1 (R379). -/
  | shutClr (p : Port) (g : Fin 16) (v : Word)
  /-- BINNING_READ_COMPLETE. The binning read of stage `g` ends with its 64 bytes, or fails (R375, R376). -/
  | binningReadComplete (g : Fin 16) (record : Option (List Byte))
  /-- LCHAIN_GO. A write of `LCHAIN.CMD` with GO = 1 (R386). -/
  | lchainGo (p : Port) (t : Fin 8) (v : Word)
  /-- LCHAIN_FRAME_DONE. A lamp-chain frame and its gap end (R385). -/
  | lchainFrameDone (t : Fin 8)
  /-- PATTERN_TICK. The next 1 ms engine tick (R389). -/
  | patternTick
  /-- PATT_START. A write of `PATT.CMD.START` (R390). -/
  | pattStart (p : Port) (t : Fin 8) (mask : BitVec 4)
  /-- PATT_STOP. A write of `PATT.CMD.STOP` (R390). -/
  | pattStop (p : Port) (t : Fin 8) (mask : BitVec 4)
  /-- MON_SLOT. The next 500 ns slot begins; `raw` is the result of the conversion before (R397). -/
  | monSlot (t : Fin 8) (raw : BitVec 16)
  /-- MON_CAL. A write of `MON.CMD` with CAL = 1 (R398). -/
  | monCal (p : Port) (t : Fin 8) (v : Word)
  /-- MON_CAL_DONE. Self-calibration ends with the factors it measured (R399). -/
  | monCalDone (t : Fin 8) (ofs : Int) (gain : Nat) (lin : List Int)
  /-- TRUMP. A write of `MON.TRUMP` with GO = 1 (R401). -/
  | trump (p : Port) (t : Fin 8) (v : Word)
  /-- MON_SNAP. A write of `MON.CMD` with SNAP = 1 (R405). -/
  | monSnap (p : Port) (t : Fin 8) (v : Word)
  /-- SNAP_PERIOD. The periodic snapshot instant arrives (R405). -/
  | snapPeriod (t : Fin 8)
  /-- SNAPSHOT_COMPLETE. The snapshot copy completes (R405). -/
  | snapshotComplete (t : Fin 8)
  /-- FE_HALF_START. A front-end half begins; `mask`: channels whose excitation is at fault (R410, R415). -/
  | feHalfStart (t : Fin 8) (mask : BitVec 8)
  /-- FE_OVERRUN. A half ends before the last conversion of a visit (R413). -/
  | feOverrun (t : Fin 8)
  /-- MEAS_FAILSAFE_TIMEOUT. 100 ms pass without a delivery to output `o` (R421). -/
  | measFailsafeTimeout (t : Fin 8) (o : Fin 2)
  /-- HOST_RESTART. A write of `HOSTP.CMD` with RESTART = 1 (R427). -/
  | hostRestart (p : Port) (t : Fin 8) (v : Word)
  /-- LINK_UP. Training completes at a generation and width (R428). -/
  | linkUp (t : Fin 8) (gen : Fin 8) (width : Fin 8)
  /-- TRAIN_FAIL. The link has not come up within its bound (R428). -/
  | trainFail (t : Fin 8)
  /-- PERST. HP_PERST_N goes low (R437). -/
  | perst (t : Fin 8)
  /-- HOT_RESET. A PCIe hot reset is received (R429). -/
  | hotReset (t : Fin 8)
  /-- DL_DOWN. The data link layer leaves DL_Active (R429). -/
  | dlDown (t : Fin 8)
  /-- FLR. A Function Level Reset is received (R433). -/
  | flr (t : Fin 8)
  /-- PCS_LOSS. The PCS has been lost for DEBOUNCE ms (R429). -/
  | pcsLoss (t : Fin 8)
  /-- HOST_SILENT. LIVE.MS ms pass without an accepted datagram (R429). -/
  | hostSilent (t : Fin 8)
  /-- DOORBELL. A write of a queue's doorbell; `beAll`: all byte enables set; `ep`: poisoned (R439, R441). -/
  | doorbell (t : Fin 8) (q : Fin 32) (v : Word) (beAll : Bool) (ep : Bool)
  /-- ETH_FRAME_RECEIVED. A frame is received (R443). -/
  | ethFrameReceived (t : Fin 8) (frame : Frame)
  /-- PTP_RX_POP. A write of `ETH.PTP_CMD` with RX_POP = 1 (R444). -/
  | ptpRxPop (p : Port) (t : Fin 8) (v : Word)
  /-- PTP_TX_GO. A write of `ETH.PTP_CMD` with TX_GO = 1 (R445). -/
  | ptpTxGo (p : Port) (t : Fin 8) (v : Word)
  /-- PTP_TX_DONE. The PTP frame has been sent (R445). -/
  | ptpTxDone (t : Fin 8)
  /-- SLEW_RATE_WRITE. A write of `ETH.SLEW_RATE` (R446). -/
  | slewRateWrite (p : Port) (t : Fin 8) (v : Word)
  /-- SLEW_OFS_WRITE. A write of `ETH.SLEW_OFS` (R446). -/
  | slewOfsWrite (p : Port) (t : Fin 8) (v : Word)
  /-- CONTROL_REQ. A CONTROL_REQ datagram arrives; `body` follows its TYPE byte (R449–R451). -/
  | controlReq (t : Fin 8) (src : NetSrc) (body : List Byte)
  /-- CREDIT_GRANT. A CREDIT_GRANT datagram arrives; `lenOk`: it is 16 bytes long (R455). -/
  | creditGrant (t : Fin 8) (src : NetSrc) (session : Word) (q : Byte) (limit : Word) (lenOk : Bool)
  /-- THAIG_EVENT. An EVENT that is due is sent (R452). -/
  | thaigEvent (t : Fin 8)
  /-- EVENT_REPEAT. REPEAT_MS elapses (R452). -/
  | eventRepeat (t : Fin 8)
  /-- DMA_GO. A write of CHc_CMD with GO = 1 (R466, R472). -/
  | dmaGo (p : Port) (t : Fin 8) (c : Fin 16)
  /-- DMA_STOP. A write of CHc_CMD with STOP = 1 (R466, R472). -/
  | dmaStop (p : Port) (t : Fin 8) (c : Fin 16)
  /-- DMA_RESUME. A write of CHc_CMD with RESUME = 1 (R466, R472). -/
  | dmaResume (p : Port) (t : Fin 8) (c : Fin 16)
  /-- DESC_FETCHED. A descriptor read returns (R466). -/
  | descFetched (t : Fin 8) (c : Fin 16) (cpl : Cpl)
  /-- DESC_POLL. POLL_US elapses in WAIT_VALID (R466). -/
  | descPoll (t : Fin 8) (c : Fin 16)
  /-- DMA_BURST. A channel issues its next burst (R467). -/
  | dmaBurst (t : Fin 8) (c : Fin 16)
  /-- DMA_TRANSACTION_DONE. Outstanding transaction `i` of a channel completes (R471). -/
  | dmaTransactionDone (t : Fin 8) (c : Fin 16) (i : Fin 256) (cpl : Cpl)
  /-- DMA_TIMEOUT. A transaction has had no response for DMA.TMO (R470). -/
  | dmaTimeout (t : Fin 8) (c : Fin 16)
  /-- DRAM_TRAINING_DONE. DRAM training ends, with the step that failed if any (R482). -/
  | dramTrainingDone (t : Fin 8) (fail : Option (Fin 16))
  /-- MR4_READ. MR4 of the dies is read: `hot` asks for the high rate, `above` lies above the operating range (R484). -/
  | mr4Read (t : Fin 8) (code : Byte) (hot : Bool) (above : Bool)
  /-- DRAM_RETRAIN. A periodic retraining (R484). -/
  | dramRetrain (t : Fin 8)
  /-- REFRESH_DUE. An all-bank refresh falls due at time base `n` (R485). -/
  | refreshDue (t : Fin 8) (n : BitVec 64)
  /-- PANIC_ON. The real-time buffer reaches the panic threshold (R487). -/
  | panicOn (t : Fin 8) (n : BitVec 64) (fill : Nat) (full : Bool)
  /-- PANIC_OFF. The real-time buffer falls to the clear threshold (R489). -/
  | panicOff (t : Fin 8) (n : BitVec 64) (fill : Nat)
  /-- RING_LINK_DOWN. A ring link goes down (R494). -/
  | ringLinkDown (loss : LinkLoss)
  /-- RING_LINK_UP. Link U of tile `t` trains, with the delay each end measured (R494). -/
  | ringLinkUp (t : Fin 8) (delayU : BitVec 16) (delayL : BitVec 16)
  /-- REACH_SETTLE. 20 µs after the last link change the reachability map takes effect (R496). -/
  | reachSettle
  /-- RECONCILE. Member `g` is reconciled with its hand after a rejoin (R516). -/
  | reconcile (g : Fin 16)
  /-- SYNC_SEND. The time master `t` sends a SYNC message (R497). -/
  | syncSend (t : Fin 8)
  /-- SYNC_RECEIVE. A SYNC message arrives at tile `t` (R498). -/
  | syncReceive (t : Fin 8)
  /-- SYNC_LOST. No SYNC message for 30 µs at tile `t` (R498). -/
  | syncLost (t : Fin 8)
  /-- HEARTBEAT_SEND. Declarer `t` sends its heartbeat (R502). -/
  | heartbeatSend (t : Fin 8)
  /-- HEARTBEAT_MISS. Tile `t` misses a heartbeat (`beat`), or its response is missed (R502). -/
  | heartbeatMiss (t : Fin 8) (beat : Bool)
  /-- MIRROR_COPY_DONE. The copy of the mirror to the successor is complete (R501). -/
  | mirrorCopyDone
  /-- WATCHDOG_CHECK. The tile watchdog runs its test transaction (R507). -/
  | watchdogCheck (t : Fin 8) (pass : Bool)
  /-- RECOVERY_TIMEOUT. A step of a recovery runs out its 10 ms (R508). -/
  | recoveryTimeout (t : Fin 8)
  /-- TILE_ANSWERS. A lost tile answers on the ring (R508). -/
  | tileAnswers (t : Fin 8)
  /-- RECOVER. A write of `DECL.CMD.RECOVER` on page DECL of tile `t` (R508). -/
  | recover (p : Port) (t : Fin 8) (tiles : BitVec 8)
  /-- AGEING. An ageing monitor crosses a multiple of 50 (R521). -/
  | ageing (t : Fin 8) (mon : Fin 256) (life : Fin 65536)
  /-- TWC_GO. A write of `TWC.CMD` with GO = 1 (R532–R538). -/
  | twcGo (p : Port) (t : Fin 8) (v : Word)
  /-- TWC_ABORT. A write of `TWC.CMD` with ABORT = 1 (R532–R538). -/
  | twcAbort (p : Port) (t : Fin 8) (v : Word)
  /-- TWC_CLEAR. A write of `TWC.CMD` with CLEAR = 1 (R532–R538). -/
  | twcClear (p : Port) (t : Fin 8) (v : Word)
  /-- ALERT_READ. A write of `TWC.CMD` with ALERT_READ = 1 (R532–R538). -/
  | alertRead (p : Port) (t : Fin 8) (v : Word)
  /-- ALERT_EDGE. Filtered ALERT_N changes (R538). -/
  | alertEdge (t : Fin 8) (low : Bool)
  /-- TWC_RETRY_GAP. The retry gap ends in piece `piece` of the transfer (R533). -/
  | twcRetryGap (t : Fin 8) (piece : Fin 257)
  /-- TWC_TRANSFER_END. The transfer ends on the bus after `done` data bytes (R533–R536). -/
  | twcTransferEnd (t : Fin 8) (e : TwcEnd) (done : Fin 257) (data : List Byte)
  /-- SCL_LOW_TIMEOUT. SCL has been low for SCL_MS ms; `cont`: in a contention wait (R529). -/
  | sclLowTimeout (t : Fin 8) (cont : Bool) (done : Fin 257) (data : List Byte)
  /-- SDA_LOW_TIMEOUT. SDA has been low for SDA_MS ms; `cont`: in a contention wait (R529). -/
  | sdaLowTimeout (t : Fin 8) (cont : Bool) (done : Fin 257) (data : List Byte)
  /-- BUS_CLEAR_END. A bus clear ends with SDA at a level (R537). -/
  | busClearEnd (t : Fin 8) (sda : Bool)
  /-- GPIO_EDGE. The board drives GPIO pin `pin` to a level at time base `n` (R576). -/
  | gpioEdge (t : Fin 8) (pin : Fin 8) (rising : Bool) (n : BitVec 64)
  /-- CONTROL_PORTS_USABLE. 2 ms after the release of power-on reset (R58). -/
  | controlPortsUsable
  /-- TILE_PAGES_ANSWER. 1 ms after a tile reset's trigger the tile's pages answer (R83). -/
  | tilePagesAnswer (t : Fin 8)
  /-- BANK_RAIL_RAMP. A bank or VDDQ_DDR rail is above its threshold, a bank at 3.3 V (`v33`) or 1.8 V (R47). -/
  | bankRailRamp (rail : Rail) (v33 : Bool)
  /-- LANE_LOCK_GAINED. DLCK enters its range (R156). -/
  | laneLockGained (g : Fin 16)
  /-- PERST_RELEASE. HP_PERST_N rises (R437). -/
  | perstRelease (t : Fin 8)
  /-- CONFIG_REQUEST. A PCIe configuration request, answered successfully when `ready` (R428, R433). -/
  | configRequest (t : Fin 8) (req : CfgReq) (ready : Bool)
  /-- MSIX_TABLE_WRITE. A write of one word of the MSI-X table (R440). -/
  | msixTableWrite (t : Fin 8) (dword : Fin 256) (v : Word) (ep : Bool)
  /-- BST_OK_CHANGE. The boost output enters or leaves the band about VSET (R366). -/
  | bstOkChange (g : Fin 16) (ok : Bool)
  /-- JTAG_TCK_EDGE. An edge of JTAG_TCK, or JTAG_TRST_N low (R41). -/
  | jtagTckEdge (rising : Bool) (tms : Bool) (tdi : Bool) (trstLow : Bool)
  /-- SPILL_LEVEL_REPORT. Tile `t` reports its spill cells (R525). -/
  | spillLevelReport (t : Fin 8)
deriving DecidableEq, Repr

end Sys2Proof
end

