-- ==== Sys2Proof/Decode.lean ====
section
/-!
DEFINITION. The command a word of the opcode table spells. The table gives no row any bits: the commands of this block are accesses
and events, not words, so no word spells one.
-/

namespace Sys2Proof

/-- The command that a word of `nbits` bits spells by the table: none (log entry 2). -/
def decodeTableWord (_nbits _w : Nat) : Option Instr := none

end Sys2Proof
end

