-- ==== Sys2Proof/Config.lean ====
section
/-!
DEFINITION. What the manual leaves open. Each constant here has no body, so nothing can be proved about its value; a step applies
it to the counter `Mach.free`, which it then advances, or to the operands it depends on (log entry 3).
-/

namespace Sys2Proof.Config

/-- A number the manual leaves open, one for every use (log entry 3). -/
opaque freeNat : Nat → Nat

/-- A choice the manual leaves to the part, one for every use (R55, R57; log entry 3). -/
opaque freeBool : Nat → Bool

/-- Bits of the JTAG instruction register less two, which R41 does not give (log entry 3). -/
opaque irBits : Nat

/-- Where in tile `t`'s section of the boundary-scan chain a ball's cell stands; R41 gives no order (log entries 3, 90). -/
opaque scanRank : Nat → Nat → Nat

/-- Further cells before a ball's cell, such as output enables; R41 gives none (log entries 3, 90). -/
opaque cellsBefore : Nat → Nat → Nat

/-- A JTAG instruction that selects the chain also hands the balls to the update register (log entries 3, 90). -/
opaque drivesBalls : List Bool → Bool

/-- The update register enables the output of a tile's ball (log entries 3, 90). -/
opaque cellDrives : List Bool → Nat → Nat → Bool

/-- Whether a JTAG instruction other than BYPASS selects the boundary-scan chain; R41 names no codes (log entry 3). -/
opaque selectsChain : List Bool → Bool

/-- Level of an output whose offset takes a ramp past the end of its step; R391 states none (log entry 3). Operands: the step element,
the level before it, the tick. -/
opaque levelPast : Nat → Nat → Nat → Nat

/-- Byte `i` of a meld buffer slot as a line is stored in it; R274 gives no layout (log entries 3, 50). First operand: the use. -/
opaque slotByte : Nat → Nat → Byte

/-- Value and flags of sample `i` of plane `p` that a slot's bytes spell; R274 gives no layout (log entries 3, 50). -/
opaque slotValue : List Byte → Nat → Nat → Nat
opaque slotFlags : List Byte → Nat → Nat → Nat

end Sys2Proof.Config
end

