-- ==== Sys2Proof/Machine/Fields.lean ====
section
/-! DEFINITION. The register fields of every page, named as the manual names them: page, register, field. Each is copied from
the field maps of the chapters (rule named at each group); `stride` is the distance between two registers of an indexed family. -/

namespace Sys2Proof.Machine

/-- A field of a 32-bit register: byte offset in its page, top and bottom bit, distance of the next register of its family. -/
structure Field where
  off : Nat
  hi : Nat
  lo : Nat
  stride : Nat := 0
deriving DecidableEq, Repr

/-- The same field of the `i`-th register of its family. -/
def Field.nth (f : Field) (i : Nat) : Field := { f with off := f.off + i * f.stride }

/-- Number of bits of a field. -/
def Field.width (f : Field) : Nat := f.hi + 1 - f.lo

namespace F

/-! Common page header (R97, R101). -/
def PAGE_CTRL_LOCK : Field := ⟨0x004, 2, 2, 0⟩
def PAGE_CTRL_SRST : Field := ⟨0x004, 1, 1, 0⟩
def PAGE_CTRL_ENABLE : Field := ⟨0x004, 0, 0, 0⟩
def PAGE_STAT_BLOCK_STAT : Field := ⟨0x008, 31, 16, 0⟩
def INT_RAW_EVENTS : Field := ⟨0x010, 31, 0, 0⟩
def INT_EN_EN : Field := ⟨0x014, 31, 0, 0⟩
def INT_ROUTE_ROUTE : Field := ⟨0x020, 1, 0, 0⟩
def ERR_COUNT_COUNT : Field := ⟨0x024, 15, 0, 0⟩
def COMMIT_REF : Field := ⟨0x030, 8, 8, 0⟩
def COMMIT_NOW : Field := ⟨0x030, 2, 2, 0⟩
def COMMIT_DEAL : Field := ⟨0x030, 1, 1, 0⟩
def COMMIT_LINE : Field := ⟨0x030, 0, 0, 0⟩
/-! Window registers (R104), at base 0x200 on every page that has a window. -/
def WIN_SEL_ARRAY : Field := ⟨0x200, 3, 0, 0⟩
def WIN_ADDR_INDEX : Field := ⟨0x204, 23, 0, 0⟩
def WIN_CTRL_STEP : Field := ⟨0x208, 1, 1, 0⟩
def WIN_CTRL_RANGE_ERR : Field := ⟨0x208, 0, 0, 0⟩
def WIN_DATA_DATA : Field := ⟨0x20C, 31, 0, 4⟩
/-! Page TILE (R128). -/
def TILE_IRQ_A_LO_PAGE : Field := ⟨0x080, 31, 0, 0⟩
def TILE_IRQ_A_HI_PAGE : Field := ⟨0x084, 31, 0, 0⟩
def TILE_IRQ_B_LO_PAGE : Field := ⟨0x088, 31, 0, 0⟩
def TILE_IRQ_B_HI_PAGE : Field := ⟨0x08C, 31, 0, 0⟩
/-! Page PWR (R65, R66, R67, R68, R69). -/
def PWR_DOM_REQ_REQ_HI : Field := ⟨0x040, 19, 15, 0⟩
def PWR_DOM_REQ_SHT_MIRROR : Field := ⟨0x040, 14, 13, 0⟩
def PWR_DOM_REQ_REQ_LO : Field := ⟨0x040, 12, 2, 0⟩
def PWR_DOM_REQ_ALWAYS : Field := ⟨0x040, 1, 0, 0⟩
def PWR_DOM_STAT_SEQ_BUSY : Field := ⟨0x044, 24, 24, 0⟩
def PWR_DOM_STAT_ON : Field := ⟨0x044, 19, 0, 0⟩
def PWR_SHT_MODE_SHT1 : Field := ⟨0x048, 3, 2, 0⟩
def PWR_SHT_MODE_SHT0 : Field := ⟨0x048, 1, 0, 0⟩
def PWR_WAKE_CFG_CP_WAKE : Field := ⟨0x04C, 18, 18, 0⟩
def PWR_WAKE_CFG_ALARM_WAKE : Field := ⟨0x04C, 17, 17, 0⟩
def PWR_WAKE_CFG_GPIO_POL : Field := ⟨0x04C, 15, 8, 0⟩
def PWR_WAKE_CFG_GPIO_WAKE : Field := ⟨0x04C, 7, 0, 0⟩
def PWR_WAKE_CAUSE_GPIO : Field := ⟨0x050, 15, 8, 0⟩
def PWR_WAKE_CAUSE_ALARM : Field := ⟨0x050, 1, 1, 0⟩
def PWR_WAKE_CAUSE_CP : Field := ⟨0x050, 0, 0, 0⟩
def PWR_RST_CAUSE_RAIL_TILE : Field := ⟨0x054, 6, 6, 0⟩
def PWR_RST_CAUSE_CLK_LOSS : Field := ⟨0x054, 5, 5, 0⟩
def PWR_RST_CAUSE_TILE_WDOG : Field := ⟨0x054, 4, 4, 0⟩
def PWR_RST_CAUSE_TILE_DECL : Field := ⟨0x054, 3, 3, 0⟩
def PWR_RST_CAUSE_TILE_REG : Field := ⟨0x054, 2, 2, 0⟩
def PWR_RST_CAUSE_PKG : Field := ⟨0x054, 1, 1, 0⟩
def PWR_RST_CAUSE_POR : Field := ⟨0x054, 0, 0, 0⟩
def PWR_TILE_RST_KEY : Field := ⟨0x058, 31, 16, 0⟩
def PWR_TILE_RST_GO : Field := ⟨0x058, 0, 0, 0⟩
def PWR_DORM_CFG_DRAM_SR : Field := ⟨0x05C, 0, 0, 0⟩
def PWR_RAIL_STAT_BANK_33 : Field := ⟨0x060, 11, 8, 0⟩
def PWR_RAIL_STAT_BANK_OK : Field := ⟨0x060, 7, 4, 0⟩
def PWR_RAIL_STAT_VDDQ_OK : Field := ⟨0x060, 0, 0, 0⟩
def PWR_OFF_ACCESS_COUNT : Field := ⟨0x064, 15, 0, 0⟩
/-! Page CLK (R75). -/
def CLK_STAT_REF_LOSS_CNT : Field := ⟨0x040, 31, 16, 0⟩
def CLK_STAT_RING_PLL_LOCK : Field := ⟨0x040, 3, 3, 0⟩
def CLK_STAT_HOST_PLL_LOCK : Field := ⟨0x040, 2, 2, 0⟩
def CLK_STAT_MAIN_LOCK : Field := ⟨0x040, 1, 1, 0⟩
def CLK_STAT_REF_OK : Field := ⟨0x040, 0, 0, 0⟩
/-! Page TB (R82). -/
def TB_CTRL_PPS_OUT_EN : Field := ⟨0x040, 3, 3, 0⟩
def TB_CTRL_ALARM_EN : Field := ⟨0x040, 2, 2, 0⟩
def TB_CTRL_LOAD : Field := ⟨0x040, 1, 1, 0⟩
def TB_CTRL_CAPTURE : Field := ⟨0x040, 0, 0, 0⟩
def TB_CAP_FRAC_F : Field := ⟨0x044, 3, 0, 0⟩
def TB_CAP_LO_N_LO : Field := ⟨0x048, 31, 0, 0⟩
def TB_CAP_HI_N_HI : Field := ⟨0x04C, 31, 0, 0⟩
def TB_LOAD_LO_N_LO : Field := ⟨0x050, 31, 0, 0⟩
def TB_LOAD_HI_N_HI : Field := ⟨0x054, 31, 0, 0⟩
def TB_ALARM_LO_N_LO : Field := ⟨0x058, 31, 0, 0⟩
def TB_ALARM_HI_N_HI : Field := ⟨0x05C, 31, 0, 0⟩
def TB_STAT_MASTER : Field := ⟨0x060, 4, 4, 0⟩
def TB_STAT_LOAD_PEND : Field := ⟨0x060, 3, 3, 0⟩
def TB_STAT_ALARM_HIT : Field := ⟨0x060, 2, 2, 0⟩
def TB_STAT_DEGRADED : Field := ⟨0x060, 1, 1, 0⟩
def TB_STAT_SYNCED : Field := ⟨0x060, 0, 0, 0⟩
def TB_PPS_LO_N_LO : Field := ⟨0x064, 31, 0, 0⟩
def TB_PPS_HI_N_HI : Field := ⟨0x068, 31, 0, 0⟩
/-! Page RING (R523). -/
def RING_CFG_U_EN : Field := ⟨0x040, 1, 1, 0⟩
def RING_CFG_L_EN : Field := ⟨0x040, 0, 0, 0⟩
def RING_STAT_REACH : Field := ⟨0x044, 23, 16, 0⟩
def RING_STAT_U_UP : Field := ⟨0x044, 9, 9, 0⟩
def RING_STAT_L_UP : Field := ⟨0x044, 8, 8, 0⟩
def RING_STAT_OUTSIDE : Field := ⟨0x044, 1, 1, 0⟩
def RING_STAT_SETTLED : Field := ⟨0x044, 0, 0, 0⟩
def RING_DELAY_L_DELAY : Field := ⟨0x048, 15, 0, 0⟩
def RING_DELAY_U_DELAY : Field := ⟨0x04C, 15, 0, 0⟩
def RING_ERR_L_RETRIES : Field := ⟨0x050, 31, 16, 0⟩
def RING_ERR_L_DOWNS : Field := ⟨0x050, 15, 0, 0⟩
def RING_ERR_U_RETRIES : Field := ⟨0x054, 31, 16, 0⟩
def RING_ERR_U_DOWNS : Field := ⟨0x054, 15, 0, 0⟩
def RING_SYNC_STEPS : Field := ⟨0x058, 31, 16, 0⟩
def RING_SYNC_ERR : Field := ⟨0x058, 15, 0, 0⟩
/-! Page DECL (R524). -/
def DECL_ROLE_SUCC : Field := ⟨0x040, 23, 20, 0⟩
def DECL_ROLE_DECL : Field := ⟨0x040, 19, 16, 0⟩
def DECL_ROLE_ROLE : Field := ⟨0x040, 1, 0, 0⟩
def DECL_HEALTH_FAILED : Field := ⟨0x044, 31, 24, 0⟩
def DECL_HEALTH_ASLEEP : Field := ⟨0x044, 23, 16, 0⟩
def DECL_HEALTH_LOST : Field := ⟨0x044, 15, 8, 0⟩
def DECL_HEALTH_HEALTHY : Field := ⟨0x044, 7, 0, 0⟩
def DECL_WDOG_EN : Field := ⟨0x048, 31, 31, 0⟩
def DECL_WDOG_LIMIT : Field := ⟨0x048, 7, 0, 0⟩
def DECL_RECOV_RETRY : Field := ⟨0x04C, 3, 0, 0⟩
def DECL_CMD_RECOVER : Field := ⟨0x050, 7, 0, 0⟩
def DECL_AGE_LIFE : Field := ⟨0x054, 15, 0, 0⟩
def DECL_HB_MISS_COUNT : Field := ⟨0x058, 15, 0, 0⟩
def DECL_SUCCESSIONS_COUNT : Field := ⟨0x05C, 15, 0, 0⟩
def DECL_RECOVERIES_COUNT : Field := ⟨0x060, 15, 0, 0⟩
def DECL_LOG_LOST_COUNT : Field := ⟨0x064, 15, 0, 0⟩
def DECL_AON_SEQ_K : Field := ⟨0x068, 31, 0, 0⟩
/-! Page SPORT (R168). -/
def SPORT_CFG_LANE_EN : Field := ⟨0x040, 31, 24, 0⟩
def SPORT_CFG_RX_TERM : Field := ⟨0x040, 21, 21, 0⟩
def SPORT_CFG_RX_SLVS : Field := ⟨0x040, 20, 20, 0⟩
def SPORT_CFG_VIN_EN : Field := ⟨0x040, 13, 8, 0⟩
def SPORT_CFG_KIND : Field := ⟨0x040, 1, 0, 0⟩
def SPORT_PIXCLK_PIXPER : Field := ⟨0x044, 7, 0, 0⟩
def SPORT_SAMPLE_SHP : Field := ⟨0x048, 27, 16, 0⟩
def SPORT_SAMPLE_SHD : Field := ⟨0x048, 11, 0, 0⟩
def SPORT_READOUT_RD_COUNT : Field := ⟨0x04C, 31, 16, 0⟩
def SPORT_READOUT_RD_START : Field := ⟨0x04C, 15, 0, 0⟩
def SPORT_CLAMP_CLP_START : Field := ⟨0x050, 31, 16, 0⟩
def SPORT_CLAMP_CLP_LEN : Field := ⟨0x050, 15, 0, 0⟩
def SPORT_AFE_PGA : Field := ⟨0x054, 25, 16, 4⟩
def SPORT_AFE_CLAMP_EN : Field := ⟨0x054, 12, 12, 4⟩
def SPORT_AFE_OFFSET : Field := ⟨0x054, 9, 0, 4⟩
def SPORT_OBC_EN : Field := ⟨0x06C, 0, 0, 0⟩
def SPORT_OB_MEAN01_MEAN1 : Field := ⟨0x070, 31, 16, 0⟩
def SPORT_OB_MEAN01_MEAN0 : Field := ⟨0x070, 15, 0, 0⟩
def SPORT_OB_MEAN23_MEAN3 : Field := ⟨0x074, 31, 16, 0⟩
def SPORT_OB_MEAN23_MEAN2 : Field := ⟨0x074, 15, 0, 0⟩
def SPORT_OB_MEAN45_MEAN5 : Field := ⟨0x078, 31, 16, 0⟩
def SPORT_OB_MEAN45_MEAN4 : Field := ⟨0x078, 15, 0, 0⟩
def SPORT_DIG_CFG_WPL : Field := ⟨0x080, 31, 16, 0⟩
def SPORT_DIG_CFG_LV_LANE : Field := ⟨0x080, 10, 8, 0⟩
def SPORT_DIG_CFG_FRAMING : Field := ⟨0x080, 4, 4, 0⟩
def SPORT_DIG_CFG_LSB_FIRST : Field := ⟨0x080, 3, 3, 0⟩
def SPORT_DIG_CFG_WORD : Field := ⟨0x080, 2, 0, 0⟩
def SPORT_SYNC01_SYNC1 : Field := ⟨0x084, 31, 16, 0⟩
def SPORT_SYNC01_SYNC0 : Field := ⟨0x084, 15, 0, 0⟩
def SPORT_SYNC2_SOL : Field := ⟨0x088, 31, 16, 0⟩
def SPORT_SYNC2_SYNC2 : Field := ⟨0x088, 15, 0, 0⟩
def SPORT_EOL_CODE_MASK : Field := ⟨0x08C, 31, 16, 0⟩
def SPORT_EOL_EOL : Field := ⟨0x08C, 15, 0, 0⟩
def SPORT_RD_TIMEOUT_TICKS : Field := ⟨0x090, 19, 0, 0⟩
def SPORT_DESKEW_TRAIN : Field := ⟨0x094, 31, 16, 0⟩
def SPORT_DESKEW_GO : Field := ⟨0x094, 0, 0, 0⟩
def SPORT_DESKEW_STAT_LANE_OK : Field := ⟨0x098, 31, 24, 0⟩
def SPORT_DESKEW_STAT_DESKEWED : Field := ⟨0x098, 1, 1, 0⟩
def SPORT_DESKEW_STAT_LANE_LOCK : Field := ⟨0x098, 0, 0, 0⟩
def SPORT_LANE_TAP_TAP : Field := ⟨0x0A0, 21, 16, 4⟩
def SPORT_LANE_TAP_SLIP : Field := ⟨0x0A0, 12, 8, 4⟩
def SPORT_LANE_TAP_EYE : Field := ⟨0x0A0, 7, 0, 4⟩
def SPORT_TOCFG_PH : Field := ⟨0x0C0, 23, 16, 4⟩
def SPORT_TOCFG_HI : Field := ⟨0x0C0, 15, 8, 4⟩
def SPORT_TOCFG_INIT : Field := ⟨0x0C0, 2, 2, 4⟩
def SPORT_TOCFG_GATED : Field := ⟨0x0C0, 1, 1, 4⟩
def SPORT_TOCFG_EN : Field := ⟨0x0C0, 0, 0, 4⟩
def SPORT_TOPAIR_LVDS : Field := ⟨0x100, 7, 0, 0⟩
def SPORT_MCLK_DIV : Field := ⟨0x104, 15, 8, 0⟩
def SPORT_MCLK_LVDS : Field := ⟨0x104, 2, 2, 0⟩
def SPORT_MCLK_EN : Field := ⟨0x104, 0, 0, 0⟩
def SPORT_TO_BANK_BANK : Field := ⟨0x108, 0, 0, 0⟩
def SPORT_BUSY_BUSY : Field := ⟨0x10C, 0, 0, 0⟩
def SPORT_FRAME_ERR_COUNT : Field := ⟨0x110, 15, 0, 0⟩
def SPORT_UNSOLICITED_COUNT : Field := ⟨0x114, 15, 0, 0⟩
def SPORT_EDGE_CUT_COUNT : Field := ⟨0x118, 15, 0, 0⟩
/-! Page DEAL (R177). -/
def DEAL_SRC_POL : Field := ⟨0x040, 6, 6, 0⟩
def DEAL_SRC_PIN : Field := ⟨0x040, 5, 4, 0⟩
def DEAL_SRC_SRC : Field := ⟨0x040, 1, 0, 0⟩
def DEAL_PERIOD_TICKS : Field := ⟨0x044, 19, 0, 0⟩
def DEAL_PHASE_TICKS : Field := ⟨0x048, 19, 0, 0⟩
def DEAL_PHASES_P : Field := ⟨0x04C, 2, 0, 0⟩
def DEAL_PH_PITCH_TICKS : Field := ⟨0x050, 19, 0, 0⟩
def DEAL_EXP_START_TICKS : Field := ⟨0x054, 19, 0, 0⟩
def DEAL_EXP_LEN_TICKS : Field := ⟨0x058, 19, 0, 0⟩
def DEAL_TRIG_FILT_FILT : Field := ⟨0x05C, 7, 0, 0⟩
def DEAL_MIN_SPACING_TICKS : Field := ⟨0x060, 19, 0, 0⟩
def DEAL_EXT_OFS_TICKS : Field := ⟨0x064, 19, 0, 0⟩
def DEAL_STAT_SWITCH_PEND : Field := ⟨0x06C, 2, 2, 0⟩
def DEAL_STAT_BUSY : Field := ⟨0x06C, 1, 1, 0⟩
def DEAL_STAT_RUNNING : Field := ⟨0x06C, 0, 0, 0⟩
def DEAL_PHASE_ACT_TICKS : Field := ⟨0x070, 19, 0, 0⟩
def DEAL_TRIG_CNT_COUNT : Field := ⟨0x074, 31, 0, 0⟩
def DEAL_OVERRUN_COUNT : Field := ⟨0x078, 15, 0, 0⟩
def DEAL_TRIG_IGNORED_COUNT : Field := ⟨0x07C, 15, 0, 0⟩
def DEAL_LAST_LO_N : Field := ⟨0x080, 31, 0, 0⟩
def DEAL_LAST_HI_N : Field := ⟨0x084, 31, 0, 0⟩
/-! Page VC (R205). -/
def VC_CFG_PAIR : Field := ⟨0x040, 2, 0, 0⟩
def VC_BGCAL_SHADOW_LOG2 : Field := ⟨0x044, 12, 8, 0⟩
def VC_BGCAL_EN : Field := ⟨0x044, 0, 0, 0⟩
def VC_BGCAL_TMO_MS : Field := ⟨0x048, 15, 0, 0⟩
def VC_LIM_OFS_LSB : Field := ⟨0x04C, 11, 0, 0⟩
def VC_LIM_GAIN_UNITS : Field := ⟨0x050, 11, 0, 0⟩
def VC_LIM_SKEW_UNITS : Field := ⟨0x054, 7, 0, 0⟩
def VC_LIM_RES_LSB : Field := ⟨0x058, 7, 0, 0⟩
def VC_CAL_CMD_FULL : Field := ⟨0x05C, 0, 0, 0⟩
def VC_STAT_CAL_BUSY : Field := ⟨0x060, 31, 31, 0⟩
def VC_STAT_CAL_FORM : Field := ⟨0x060, 30, 30, 0⟩
def VC_STAT_CAL_OK : Field := ⟨0x060, 5, 0, 0⟩
def VC_WIDTH_W : Field := ⟨0x064, 16, 0, 0⟩
def VC_HANDOVERS_COUNT : Field := ⟨0x068, 31, 0, 0⟩
def VC_BG_STALL_COUNT : Field := ⟨0x06C, 15, 0, 0⟩
def VC_CONV_MAP_FAILED : Field := ⟨0x080, 31, 31, 16⟩
def VC_CONV_MAP_NOSPARE : Field := ⟨0x080, 30, 30, 16⟩
def VC_CONV_MAP_RETIRED : Field := ⟨0x080, 28, 24, 16⟩
def VC_CONV_MAP_DUMMY : Field := ⟨0x080, 19, 16, 16⟩
def VC_CONV_MAP_POS3 : Field := ⟨0x080, 15, 12, 16⟩
def VC_CONV_MAP_POS2 : Field := ⟨0x080, 11, 8, 16⟩
def VC_CONV_MAP_POS1 : Field := ⟨0x080, 7, 4, 16⟩
def VC_CONV_MAP_POS0 : Field := ⟨0x080, 3, 0, 16⟩
def VC_CONV_BG_STEPS : Field := ⟨0x084, 31, 16, 16⟩
def VC_CONV_BG_SHADOW_POS : Field := ⟨0x084, 11, 8, 16⟩
def VC_CONV_BG_G_SKIP : Field := ⟨0x084, 2, 2, 16⟩
def VC_CONV_BG_S_SKIP : Field := ⟨0x084, 1, 1, 16⟩
def VC_CONV_BG_ACTIVE : Field := ⟨0x084, 0, 0, 16⟩
def VC_CONV_DRIFT_GAIN_MAX : Field := ⟨0x088, 31, 16, 16⟩
def VC_CONV_DRIFT_OFS_MAX : Field := ⟨0x088, 15, 0, 16⟩
/-! Page ACC (R231). -/
def ACC_CFG_DIR_NEG : Field := ⟨0x040, 0, 0, 0⟩
def ACC_PITCH_PITCH : Field := ⟨0x044, 31, 0, 0⟩
def ACC_ALONG_OFS_OFS : Field := ⟨0x048, 31, 0, 0⟩
def ACC_LIMITS_WMIN : Field := ⟨0x04C, 30, 16, 0⟩
def ACC_LIMITS_DEPTH : Field := ⟨0x04C, 6, 0, 0⟩
def ACC_POS_TMO_US : Field := ⟨0x050, 9, 0, 0⟩
def ACC_STAT_POS_EST : Field := ⟨0x060, 3, 3, 0⟩
def ACC_STAT_HELD : Field := ⟨0x060, 2, 2, 0⟩
def ACC_STAT_ACCUM : Field := ⟨0x060, 1, 1, 0⟩
def ACC_STAT_WAIT : Field := ⟨0x060, 0, 0, 0⟩
def ACC_HELD_LINES_COUNT : Field := ⟨0x064, 15, 0, 0⟩
def ACC_NEXT_LINE_LO_K : Field := ⟨0x068, 31, 0, 0⟩
def ACC_NEXT_LINE_HI_K : Field := ⟨0x06C, 15, 0, 0⟩
def ACC_ORIGIN_LO_O : Field := ⟨0x070, 31, 0, 0⟩
def ACC_ORIGIN_HI_O : Field := ⟨0x074, 31, 0, 0⟩
def ACC_HWM_LO_HWM : Field := ⟨0x078, 31, 0, 0⟩
def ACC_HWM_HI_HWM : Field := ⟨0x07C, 31, 0, 0⟩
def ACC_CAPTURES_COUNT : Field := ⟨0x080, 31, 0, 0⟩
def ACC_MISSING_COUNT : Field := ⟨0x084, 15, 0, 0⟩
def ACC_BEHIND_COUNT : Field := ⟨0x088, 15, 0, 0⟩
def ACC_OVERCAP_COUNT : Field := ⟨0x08C, 15, 0, 0⟩
def ACC_LONG_SPAN_COUNT : Field := ⟨0x090, 15, 0, 0⟩
def ACC_SYNTH_COUNT : Field := ⟨0x094, 15, 0, 0⟩
def ACC_DROPPED_COUNT : Field := ⟨0x098, 15, 0, 0⟩
def ACC_FORCED_COUNT : Field := ⟨0x09C, 15, 0, 0⟩
def ACC_POS_EST_COUNT : Field := ⟨0x0A0, 15, 0, 0⟩
def ACC_LAT_LINES_COUNT : Field := ⟨0x0C0, 31, 0, 0⟩
def ACC_LAT_LOSS_DROPPED : Field := ⟨0x0C4, 31, 16, 0⟩
def ACC_LAT_LOSS_SYNTH : Field := ⟨0x0C4, 15, 0, 0⟩
def ACC_LAT_CAP_OVERCAP : Field := ⟨0x0C8, 31, 16, 0⟩
def ACC_LAT_CAP_MISSING : Field := ⟨0x0C8, 15, 0, 0⟩
def ACC_LAT_TRK_COUNT : Field := ⟨0x0CC, 31, 0, 0⟩
/-! Page SHD (R262). -/
def SHD_CFG_LIVE_K : Field := ⟨0x040, 19, 16, 0⟩
def SHD_CFG_TEMP_SRC : Field := ⟨0x040, 10, 8, 0⟩
def SHD_CFG_LIN_EN : Field := ⟨0x040, 4, 4, 0⟩
def SHD_CFG_TCO_EN : Field := ⟨0x040, 3, 3, 0⟩
def SHD_CFG_LIVE_EN : Field := ⟨0x040, 2, 2, 0⟩
def SHD_CFG_DEFECT_EN : Field := ⟨0x040, 1, 1, 0⟩
def SHD_CFG_SHADE_EN : Field := ⟨0x040, 0, 0, 0⟩
def SHD_REF_FIRST_S : Field := ⟨0x044, 16, 0, 0⟩
def SHD_REF_COUNT_N : Field := ⟨0x048, 12, 0, 0⟩
def SHD_T_HOST_T : Field := ⟨0x04C, 15, 0, 0⟩
def SHD_LIVE_BASE_BASE : Field := ⟨0x050, 15, 0, 4⟩
def SHD_LIVE_CLAMPED : Field := ⟨0x070, 16, 16, 4⟩
def SHD_LIVE_LIVE : Field := ⟨0x070, 15, 0, 4⟩
def SHD_REF_LIVE_M : Field := ⟨0x090, 19, 0, 4⟩
def SHD_T_NOW_VALID : Field := ⟨0x0B0, 31, 31, 0⟩
def SHD_T_NOW_STALE : Field := ⟨0x0B0, 30, 30, 0⟩
def SHD_T_NOW_T : Field := ⟨0x0B0, 15, 0, 0⟩
def SHD_CLIP_COUNT : Field := ⟨0x0C0, 15, 0, 0⟩
def SHD_LIVE_CLAMP_COUNT : Field := ⟨0x0C4, 15, 0, 0⟩
def SHD_REF_BAD_COUNT : Field := ⟨0x0C8, 15, 0, 0⟩
def SHD_DEF_UNRES_COUNT : Field := ⟨0x0CC, 15, 0, 0⟩
def SHD_ECC_SEC_COUNT : Field := ⟨0x0D0, 15, 0, 0⟩
def SHD_ECC_DED_COUNT : Field := ⟨0x0D4, 15, 0, 0⟩
def SHD_ECC_LAST_VALID : Field := ⟨0x0D8, 31, 31, 0⟩
def SHD_ECC_LAST_E : Field := ⟨0x0D8, 16, 0, 0⟩
def SHD_OFF_DROP_COUNT : Field := ⟨0x0DC, 15, 0, 0⟩
def SHD_TBL_CTRL_VALID : Field := ⟨0x100, 0, 0, 0⟩
def SHD_TBL_GEOM_P : Field := ⟨0x104, 22, 20, 0⟩
def SHD_TBL_GEOM_W : Field := ⟨0x104, 16, 0, 0⟩
def SHD_TBL_TCAL_T : Field := ⟨0x108, 15, 0, 0⟩
def SHD_TBL_TAG_TAG : Field := ⟨0x10C, 31, 0, 0⟩
def SHD_TBL_REFCAL_REFCAL : Field := ⟨0x110, 19, 0, 4⟩
/-! Page CAL (R264). -/
def CAL_CFG_DEF_CLEAR : Field := ⟨0x040, 8, 8, 0⟩
def CAL_CFG_KIND : Field := ⟨0x040, 6, 4, 0⟩
def CAL_CFG_DELIVER : Field := ⟨0x040, 1, 1, 0⟩
def CAL_CFG_SUMS_EN : Field := ⟨0x040, 0, 0, 0⟩
def CAL_LAMP_SCALE_SCALE : Field := ⟨0x044, 15, 0, 0⟩
def CAL_TARGET_T : Field := ⟨0x048, 15, 0, 0⟩
def CAL_DEF_GAIN_GMAX : Field := ⟨0x04C, 31, 16, 0⟩
def CAL_DEF_GAIN_GMIN : Field := ⟨0x04C, 15, 0, 0⟩
def CAL_DEF_LIM_SPREAD_MAX : Field := ⟨0x050, 31, 16, 0⟩
def CAL_DEF_LIM_DMAX : Field := ⟨0x050, 15, 0, 0⟩
def CAL_CMD_BUILD_DEFECT : Field := ⟨0x054, 2, 2, 0⟩
def CAL_CMD_BUILD_GAIN : Field := ⟨0x054, 1, 1, 0⟩
def CAL_CMD_BUILD_DARK : Field := ⟨0x054, 0, 0, 0⟩
def CAL_STAT_ABORTED : Field := ⟨0x058, 2, 2, 0⟩
def CAL_STAT_SUMS_VALID : Field := ⟨0x058, 1, 1, 0⟩
def CAL_STAT_BUSY : Field := ⟨0x058, 0, 0, 0⟩
def CAL_SUMS_GEOM_P : Field := ⟨0x05C, 22, 20, 0⟩
def CAL_SUMS_GEOM_W : Field := ⟨0x05C, 16, 0, 0⟩
def CAL_SUMS_LINES_COUNT : Field := ⟨0x060, 31, 0, 0⟩
def CAL_T_MEAN_VALID : Field := ⟨0x064, 31, 31, 0⟩
def CAL_T_MEAN_T : Field := ⟨0x064, 15, 0, 0⟩
def CAL_T_RANGE_TMAX : Field := ⟨0x068, 31, 16, 0⟩
def CAL_T_RANGE_TMIN : Field := ⟨0x068, 15, 0, 0⟩
def CAL_BUILD_POS_E : Field := ⟨0x06C, 16, 0, 0⟩
def CAL_NOSAMP_COUNT : Field := ⟨0x070, 16, 0, 0⟩
def CAL_GAIN_CLAMP_COUNT : Field := ⟨0x074, 16, 0, 0⟩
def CAL_DEF_MARKED_COUNT : Field := ⟨0x078, 16, 0, 0⟩
def CAL_SAT_COUNT : Field := ⟨0x07C, 15, 0, 0⟩
/-! Page MELD (R294). -/
def MELD_SEG_CFG_RIGHT_VALID : Field := ⟨0x040, 31, 31, 64⟩
def MELD_SEG_CFG_RIGHT_G : Field := ⟨0x040, 27, 24, 64⟩
def MELD_SEG_CFG_LEFT_VALID : Field := ⟨0x040, 23, 23, 64⟩
def MELD_SEG_CFG_LEFT_G : Field := ⟨0x040, 19, 16, 64⟩
def MELD_SEG_CFG_EN : Field := ⟨0x040, 0, 0, 64⟩
def MELD_SEG_CROSS_CROSS : Field := ⟨0x044, 20, 0, 64⟩
def MELD_SEG_OVL_OVL_R : Field := ⟨0x048, 28, 16, 64⟩
def MELD_SEG_OVL_OVL_L : Field := ⟨0x048, 12, 0, 64⟩
def MELD_SEG_BLEND_BW_R : Field := ⟨0x04C, 28, 16, 64⟩
def MELD_SEG_BLEND_BW_L : Field := ⟨0x04C, 12, 0, 64⟩
def MELD_SEG_STAT_DEG_R : Field := ⟨0x050, 31, 31, 64⟩
def MELD_SEG_STAT_DEG_L : Field := ⟨0x050, 30, 30, 64⟩
def MELD_SEG_STAT_OWN_R : Field := ⟨0x050, 29, 29, 64⟩
def MELD_SEG_STAT_OWN_L : Field := ⟨0x050, 28, 28, 64⟩
def MELD_LATE_COUNT : Field := ⟨0x054, 15, 0, 64⟩
def MELD_DEG_LINES_COUNT : Field := ⟨0x058, 15, 0, 64⟩
def MELD_OVF_COUNT : Field := ⟨0x05C, 15, 0, 64⟩
def MELD_LATE_DISCARD_COUNT : Field := ⟨0x060, 15, 0, 64⟩
def MELD_BUF_BASE_LO_ADDR : Field := ⟨0x100, 31, 12, 0⟩
def MELD_BUF_BASE_HI_ADDR : Field := ⟨0x104, 31, 0, 0⟩
def MELD_BUF_CFG_KIB : Field := ⟨0x108, 31, 16, 0⟩
def MELD_BUF_CFG_LINES : Field := ⟨0x108, 11, 0, 0⟩
def MELD_TMO_US : Field := ⟨0x10C, 6, 0, 0⟩
def MELD_OFF_DROP_COUNT : Field := ⟨0x110, 15, 0, 0⟩
/-! Page OUTF (R295). -/
def OUTF_STR_CFG_EN : Field := ⟨0x040, 31, 31, 16⟩
def OUTF_STR_CFG_SRC : Field := ⟨0x040, 16, 16, 16⟩
def OUTF_STR_CFG_PLANES : Field := ⟨0x040, 13, 8, 16⟩
def OUTF_STR_CFG_FORMAT : Field := ⟨0x040, 3, 0, 16⟩
def OUTF_STR_LINES_COUNT : Field := ⟨0x044, 31, 0, 16⟩
def OUTF_STR_TRICKS_COUNT : Field := ⟨0x048, 31, 0, 16⟩
def OUTF_STR_WAIT_COUNT : Field := ⟨0x04C, 15, 0, 16⟩
def OUTF_TONE_LUT_EN1 : Field := ⟨0x0C0, 9, 9, 0⟩
def OUTF_TONE_LUT_EN0 : Field := ⟨0x0C0, 8, 8, 0⟩
def OUTF_TONE_BANK1 : Field := ⟨0x0C0, 1, 1, 0⟩
def OUTF_TONE_BANK0 : Field := ⟨0x0C0, 0, 0, 0⟩
/-! Page CHK (R296). -/
def CHK_CFG_LOG : Field := ⟨0x040, 0, 0, 0⟩
def CHK_INJECT_ONCE : Field := ⟨0x044, 0, 0, 0⟩
def CHK_FAILS_COUNT : Field := ⟨0x048, 31, 0, 0⟩
def CHK_CHECKED_LO_COUNT : Field := ⟨0x050, 31, 0, 0⟩
def CHK_CHECKED_HI_COUNT : Field := ⟨0x054, 31, 0, 0⟩
def CHK_REC_STAT_LVL : Field := ⟨0x060, 4, 0, 0⟩
def CHK_REC_LOST_COUNT : Field := ⟨0x064, 15, 0, 0⟩
def CHK_REC0_VALID : Field := ⟨0x070, 31, 31, 0⟩
def CHK_REC0_POINT : Field := ⟨0x070, 28, 28, 0⟩
def CHK_REC0_CLUSTER : Field := ⟨0x070, 24, 24, 0⟩
def CHK_REC0_PLANE : Field := ⟨0x070, 22, 20, 0⟩
def CHK_REC0_SAMPLE : Field := ⟨0x070, 16, 0, 0⟩
def CHK_REC1_LINE : Field := ⟨0x074, 31, 0, 0⟩
def CHK_REC2_LINE : Field := ⟨0x078, 15, 0, 0⟩
def CHK_REC3_DEAL : Field := ⟨0x07C, 31, 0, 0⟩
def CHK_REC4_A : Field := ⟨0x080, 31, 0, 0⟩
def CHK_REC5_B : Field := ⟨0x084, 31, 0, 0⟩
def CHK_POP_POP : Field := ⟨0x088, 0, 0, 0⟩
/-! Page QUE (R325). -/
def QUE_CMD_OP : Field := ⟨0x040, 15, 8, 0⟩
def QUE_CMD_QUEUE : Field := ⟨0x040, 4, 0, 0⟩
def QUE_RD_CELL_WORD : Field := ⟨0x048, 31, 0, 4⟩
def QUE_Q_CFG_LIMIT : Field := ⟨0x100, 31, 16, 32⟩
def QUE_Q_CFG_PROD : Field := ⟨0x100, 12, 8, 32⟩
def QUE_Q_CFG_SPILL_OK : Field := ⟨0x100, 4, 4, 32⟩
def QUE_Q_CFG_CONS : Field := ⟨0x100, 3, 2, 32⟩
def QUE_Q_CFG_MODE : Field := ⟨0x100, 1, 0, 32⟩
def QUE_Q_STAT_REAPING : Field := ⟨0x104, 6, 6, 32⟩
def QUE_Q_STAT_REPLAY : Field := ⟨0x104, 5, 5, 32⟩
def QUE_Q_STAT_SPILL : Field := ⟨0x104, 4, 4, 32⟩
def QUE_Q_STAT_CONS_IN : Field := ⟨0x104, 3, 3, 32⟩
def QUE_Q_STAT_HDR_WAIT : Field := ⟨0x104, 2, 2, 32⟩
def QUE_Q_STAT_OPEN : Field := ⟨0x104, 1, 1, 32⟩
def QUE_Q_STAT_EMPTY : Field := ⟨0x104, 0, 0, 32⟩
def QUE_Q_LEVEL_TRICKS : Field := ⟨0x108, 31, 16, 32⟩
def QUE_Q_LEVEL_CELLS : Field := ⟨0x108, 15, 0, 32⟩
def QUE_Q_FREE_CELLS : Field := ⟨0x10C, 15, 0, 32⟩
def QUE_Q_SPILL_CELLS_CELLS : Field := ⟨0x110, 28, 0, 32⟩
def QUE_Q_SPILL_TRICKS_TRICKS : Field := ⟨0x114, 31, 0, 32⟩
def QUE_Q_DCRED_TRICKS : Field := ⟨0x118, 15, 0, 32⟩
def QUE_Q_ERRS_ABANDONED : Field := ⟨0x11C, 31, 24, 32⟩
def QUE_Q_ERRS_DISCARDS : Field := ⟨0x11C, 23, 16, 32⟩
def QUE_Q_ERRS_POISON : Field := ⟨0x11C, 15, 0, 32⟩
/-! Page KITTY (R326). -/
def KITTY_SRAM_FREE_CELLS : Field := ⟨0x040, 16, 0, 0⟩
def KITTY_SRAM_LEAKED_CELLS : Field := ⟨0x044, 16, 0, 0⟩
def KITTY_DRAM_BASE_LO_ADDR : Field := ⟨0x048, 31, 12, 0⟩
def KITTY_DRAM_BASE_HI_ADDR : Field := ⟨0x04C, 31, 0, 0⟩
def KITTY_DRAM_CELLS_CELLS : Field := ⟨0x050, 28, 0, 0⟩
def KITTY_DRAM_FREE_CELLS : Field := ⟨0x054, 28, 0, 0⟩
def KITTY_DRAM_LOW_CELLS : Field := ⟨0x058, 28, 0, 0⟩
def KITTY_DRAM_LEAKED_CELLS : Field := ⟨0x05C, 28, 0, 0⟩
def KITTY_CMD_SELFTEST : Field := ⟨0x060, 3, 3, 0⟩
def KITTY_CMD_DRAM_RELEASE : Field := ⟨0x060, 2, 2, 0⟩
def KITTY_CMD_DRAM_INIT : Field := ⟨0x060, 1, 1, 0⟩
def KITTY_CMD_SRAM_REINIT : Field := ⟨0x060, 0, 0, 0⟩
def KITTY_STAT_ST_FAIL : Field := ⟨0x064, 7, 7, 0⟩
def KITTY_STAT_ST_PASS : Field := ⟨0x064, 6, 6, 0⟩
def KITTY_STAT_ST_BUSY : Field := ⟨0x064, 5, 5, 0⟩
def KITTY_STAT_REAP_BUSY : Field := ⟨0x064, 4, 4, 0⟩
def KITTY_STAT_DRAM_FULL : Field := ⟨0x064, 3, 3, 0⟩
def KITTY_STAT_NEAR_FULL : Field := ⟨0x064, 2, 2, 0⟩
def KITTY_STAT_DRAM_READY : Field := ⟨0x064, 1, 1, 0⟩
def KITTY_STAT_SRAM_READY : Field := ⟨0x064, 0, 0, 0⟩
def KITTY_PTR_ERR_COUNT : Field := ⟨0x068, 15, 0, 0⟩
def KITTY_ST_CELL_VALID : Field := ⟨0x06C, 31, 31, 0⟩
def KITTY_ST_CELL_INDEX : Field := ⟨0x06C, 16, 0, 0⟩
/-! Page DMA (R491). -/
def DMA_HOP_LIMIT_HOPS : Field := ⟨0x040, 31, 0, 0⟩
def DMA_TMO_US : Field := ⟨0x044, 19, 0, 0⟩
def DMA_OUTSTANDING_SLOTS : Field := ⟨0x048, 8, 0, 0⟩
def DMA_CLASS_SHARE : Field := ⟨0x060, 24, 16, 4⟩
def DMA_CLASS_BURST_LOG2 : Field := ⟨0x060, 3, 0, 4⟩
def DMA_CH_CFG_MAX_OUT : Field := ⟨0x100, 31, 24, 64⟩
def DMA_CH_CFG_POLL_US : Field := ⟨0x100, 23, 16, 64⟩
def DMA_CH_CFG_WB : Field := ⟨0x100, 1, 1, 64⟩
def DMA_CH_CFG_WAIT_VALID : Field := ⟨0x100, 0, 0, 64⟩
def DMA_CH_START_LO_ADDR : Field := ⟨0x104, 31, 5, 64⟩
def DMA_CH_START_HI_ADDR : Field := ⟨0x108, 31, 0, 64⟩
def DMA_CH_CMD_RESUME : Field := ⟨0x10C, 2, 2, 64⟩
def DMA_CH_CMD_STOP : Field := ⟨0x10C, 1, 1, 64⟩
def DMA_CH_CMD_GO : Field := ⟨0x10C, 0, 0, 64⟩
def DMA_CH_STAT_STATE : Field := ⟨0x110, 31, 28, 64⟩
def DMA_CH_STAT_CAUSE : Field := ⟨0x110, 27, 24, 64⟩
def DMA_CH_STAT_REC_WAIT : Field := ⟨0x110, 8, 8, 64⟩
def DMA_CH_STAT_OUT : Field := ⟨0x110, 6, 0, 64⟩
def DMA_CH_DESC_LO_ADDR : Field := ⟨0x114, 31, 0, 64⟩
def DMA_CH_DESC_HI_ADDR : Field := ⟨0x118, 31, 0, 64⟩
def DMA_CH_OFS_OFS : Field := ⟨0x11C, 23, 0, 64⟩
def DMA_CH_HOPS_COUNT : Field := ⟨0x120, 31, 0, 64⟩
def DMA_CH_BYTES_LO_COUNT : Field := ⟨0x124, 31, 0, 64⟩
def DMA_CH_BYTES_HI_COUNT : Field := ⟨0x128, 31, 0, 64⟩
def DMA_CH_DONE_COUNT : Field := ⟨0x12C, 31, 0, 64⟩
def DMA_CH_ERRS_COUNT : Field := ⟨0x130, 15, 0, 64⟩
/-! Page DRAM (R492). -/
def DRAM_CFG_SIZE : Field := ⟨0x040, 27, 24, 0⟩
def DRAM_CFG_RANKS : Field := ⟨0x040, 20, 20, 0⟩
def DRAM_CFG_TYPE : Field := ⟨0x040, 17, 16, 0⟩
def DRAM_CFG_RATE : Field := ⟨0x040, 10, 8, 0⟩
def DRAM_ECC_PROT : Field := ⟨0x044, 20, 16, 0⟩
def DRAM_ECC_EN : Field := ⟨0x044, 0, 0, 0⟩
def DRAM_CAP_MIB : Field := ⟨0x048, 15, 0, 0⟩
def DRAM_TIMING_IDLE_NS : Field := ⟨0x04C, 31, 16, 0⟩
def DRAM_TIMING_RFC_NS : Field := ⟨0x04C, 15, 0, 0⟩
def DRAM_RETRAIN_MS : Field := ⟨0x050, 15, 0, 0⟩
def DRAM_RT_PANIC_PCT : Field := ⟨0x054, 15, 8, 0⟩
def DRAM_RT_CLEAR_PCT : Field := ⟨0x054, 7, 0, 0⟩
def DRAM_AGE_NS : Field := ⟨0x058, 15, 0, 0⟩
def DRAM_MASK_BA0_LO_MASK : Field := ⟨0x060, 31, 0, 0⟩
def DRAM_MASK_BA0_HI_MASK : Field := ⟨0x064, 31, 0, 0⟩
def DRAM_MASK_BA1_LO_MASK : Field := ⟨0x068, 31, 0, 0⟩
def DRAM_MASK_BA1_HI_MASK : Field := ⟨0x06C, 31, 0, 0⟩
def DRAM_MASK_BA2_LO_MASK : Field := ⟨0x070, 31, 0, 0⟩
def DRAM_MASK_BA2_HI_MASK : Field := ⟨0x074, 31, 0, 0⟩
def DRAM_MASK_BG0_LO_MASK : Field := ⟨0x078, 31, 0, 0⟩
def DRAM_MASK_BG0_HI_MASK : Field := ⟨0x07C, 31, 0, 0⟩
def DRAM_MASK_BG1_LO_MASK : Field := ⟨0x080, 31, 0, 0⟩
def DRAM_MASK_BG1_HI_MASK : Field := ⟨0x084, 31, 0, 0⟩
def DRAM_STAT_TRAIN_STEP : Field := ⟨0x0A0, 31, 28, 0⟩
def DRAM_STAT_HOT_RATE : Field := ⟨0x0A0, 6, 6, 0⟩
def DRAM_STAT_DEV_HOT : Field := ⟨0x0A0, 5, 5, 0⟩
def DRAM_STAT_PANIC : Field := ⟨0x0A0, 4, 4, 0⟩
def DRAM_STAT_SELF_REFRESH : Field := ⟨0x0A0, 3, 3, 0⟩
def DRAM_STAT_KEPT : Field := ⟨0x0A0, 2, 2, 0⟩
def DRAM_STAT_TRAINING : Field := ⟨0x0A0, 1, 1, 0⟩
def DRAM_STAT_TRAINED : Field := ⟨0x0A0, 0, 0, 0⟩
def DRAM_REF_OWED_MAX : Field := ⟨0x0A4, 19, 16, 0⟩
def DRAM_REF_OWED_NOW : Field := ⟨0x0A4, 3, 0, 0⟩
def DRAM_RT_FILL_PEAK : Field := ⟨0x0A8, 25, 16, 0⟩
def DRAM_RT_FILL_NOW : Field := ⟨0x0A8, 9, 0, 0⟩
def DRAM_PANICS_COUNT : Field := ⟨0x0B0, 15, 0, 0⟩
def DRAM_REF_FORCED_COUNT : Field := ⟨0x0B4, 15, 0, 0⟩
def DRAM_ECC_SEC_COUNT : Field := ⟨0x0B8, 15, 0, 0⟩
def DRAM_ECC_DED_COUNT : Field := ⟨0x0BC, 15, 0, 0⟩
def DRAM_RETRAINS_COUNT : Field := ⟨0x0C0, 15, 0, 0⟩
def DRAM_RT_FULL_COUNT : Field := ⟨0x0C4, 15, 0, 0⟩
def DRAM_ECC_LAST_LO_ADDR : Field := ⟨0x0C8, 31, 0, 0⟩
def DRAM_ECC_LAST_HI_ADDR : Field := ⟨0x0CC, 31, 0, 0⟩
def DRAM_MR4_VALUE : Field := ⟨0x0D0, 7, 0, 0⟩
/-! Page HOSTP (R458). -/
def HOSTP_CFG_CTRL_CAP : Field := ⟨0x040, 31, 31, 0⟩
def HOSTP_CFG_FEC : Field := ⟨0x040, 20, 20, 0⟩
def HOSTP_CFG_PMD : Field := ⟨0x040, 17, 16, 0⟩
def HOSTP_CFG_WIDTH : Field := ⟨0x040, 13, 12, 0⟩
def HOSTP_CFG_RATE : Field := ⟨0x040, 10, 8, 0⟩
def HOSTP_CFG_MODE : Field := ⟨0x040, 1, 0, 0⟩
def HOSTP_CMD_RESTART : Field := ⟨0x044, 0, 0, 0⟩
def HOSTP_STAT_DOWN_CAUSE : Field := ⟨0x048, 31, 28, 0⟩
def HOSTP_STAT_RATE_NOW : Field := ⟨0x048, 22, 20, 0⟩
def HOSTP_STAT_WIDTH_NOW : Field := ⟨0x048, 17, 16, 0⟩
def HOSTP_STAT_ATTACHED : Field := ⟨0x048, 5, 5, 0⟩
def HOSTP_STAT_SILENT : Field := ⟨0x048, 4, 4, 0⟩
def HOSTP_STAT_LINK : Field := ⟨0x048, 3, 3, 0⟩
def HOSTP_STAT_TRAINING : Field := ⟨0x048, 2, 2, 0⟩
def HOSTP_STAT_PHY_UP : Field := ⟨0x048, 1, 1, 0⟩
/-! Page PCIE (R459). -/
def PCIE_ID_DEVICE : Field := ⟨0x040, 31, 16, 0⟩
def PCIE_ID_VENDOR : Field := ⟨0x040, 15, 0, 0⟩
def PCIE_STAT_DSTATE : Field := ⟨0x044, 31, 30, 0⟩
def PCIE_STAT_BUS_MASTER : Field := ⟨0x044, 29, 29, 0⟩
def PCIE_STAT_MSIX_EN : Field := ⟨0x044, 28, 28, 0⟩
def PCIE_STAT_MSIX_MASK : Field := ⟨0x044, 27, 27, 0⟩
def PCIE_STAT_MPS : Field := ⟨0x044, 26, 24, 0⟩
def PCIE_STAT_MRRS : Field := ⟨0x044, 22, 20, 0⟩
def PCIE_STAT_GEN : Field := ⟨0x044, 18, 16, 0⟩
def PCIE_STAT_LANES : Field := ⟨0x044, 14, 12, 0⟩
def PCIE_COUNTS_POISON_RX : Field := ⟨0x048, 31, 16, 0⟩
def PCIE_COUNTS_UR_SENT : Field := ⟨0x048, 15, 0, 0⟩
def PCIE_AER_COR_COUNT : Field := ⟨0x04C, 15, 0, 0⟩
def PCIE_AER_UNC_COUNT : Field := ⟨0x050, 15, 0, 0⟩
def PCIE_DB_ERR_COUNT : Field := ⟨0x054, 15, 0, 0⟩
def PCIE_Q_RING_LO_ADDR : Field := ⟨0x100, 31, 12, 32⟩
def PCIE_Q_RING_HI_ADDR : Field := ⟨0x104, 31, 0, 32⟩
def PCIE_Q_RING_CFG_EN : Field := ⟨0x108, 31, 31, 32⟩
def PCIE_Q_RING_CFG_VEC_EN : Field := ⟨0x108, 16, 16, 32⟩
def PCIE_Q_RING_CFG_SLOTS_LOG2 : Field := ⟨0x108, 4, 0, 32⟩
def PCIE_Q_WB_LO_ADDR : Field := ⟨0x10C, 31, 2, 32⟩
def PCIE_Q_WB_HI_ADDR : Field := ⟨0x110, 31, 0, 32⟩
def PCIE_Q_DELIVERED_COUNT : Field := ⟨0x114, 31, 0, 32⟩
def PCIE_Q_CONSUMED_COUNT : Field := ⟨0x118, 31, 0, 32⟩
/-! Page ETH (R460). -/
def ETH_MAC_LO_MAC : Field := ⟨0x040, 31, 0, 0⟩
def ETH_MAC_HI_MAC : Field := ⟨0x044, 15, 0, 0⟩
def ETH_CFG_VLAN_EN : Field := ⟨0x048, 31, 31, 0⟩
def ETH_CFG_PCP : Field := ⟨0x048, 30, 28, 0⟩
def ETH_CFG_VID : Field := ⟨0x048, 27, 16, 0⟩
def ETH_CFG_IPV6 : Field := ⟨0x048, 15, 15, 0⟩
def ETH_CFG_MTU : Field := ⟨0x048, 13, 0, 0⟩
def ETH_DEBOUNCE_MS : Field := ⟨0x04C, 7, 0, 0⟩
def ETH_IP4_ADDR : Field := ⟨0x050, 31, 0, 0⟩
def ETH_IP6_n_ADDR : Field := ⟨0x054, 31, 0, 4⟩
def ETH_RX_FRAMES_COUNT : Field := ⟨0x064, 31, 0, 0⟩
def ETH_TX_FRAMES_COUNT : Field := ⟨0x068, 31, 0, 0⟩
def ETH_RX_DROP_FILTER : Field := ⟨0x06C, 31, 16, 0⟩
def ETH_RX_DROP_CSUM : Field := ⟨0x06C, 15, 0, 0⟩
def ETH_FEC_UNCORR : Field := ⟨0x070, 31, 16, 0⟩
def ETH_FEC_CORR : Field := ⟨0x070, 15, 0, 0⟩
def ETH_PTP_CFG_EN : Field := ⟨0x080, 0, 0, 0⟩
def ETH_PTP_RX_LVL : Field := ⟨0x084, 11, 8, 0⟩
def ETH_PTP_RX_HEAD : Field := ⟨0x084, 2, 0, 0⟩
def ETH_PTP_RX_DROP_COUNT : Field := ⟨0x088, 15, 0, 0⟩
def ETH_PTP_CMD_TX_GO : Field := ⟨0x08C, 1, 1, 0⟩
def ETH_PTP_CMD_RX_POP : Field := ⟨0x08C, 0, 0, 0⟩
def ETH_PTP_TX_LEN_LEN : Field := ⟨0x090, 7, 0, 0⟩
def ETH_PTP_TX_TS_LO_N : Field := ⟨0x094, 31, 0, 0⟩
def ETH_PTP_TX_TS_HI_N : Field := ⟨0x098, 31, 0, 0⟩
def ETH_PTP_TX_TSF_VALID : Field := ⟨0x09C, 31, 31, 0⟩
def ETH_PTP_TX_TSF_F : Field := ⟨0x09C, 3, 0, 0⟩
def ETH_SLEW_RATE_RATE : Field := ⟨0x0A0, 31, 0, 0⟩
def ETH_SLEW_OFS_OFS : Field := ⟨0x0A4, 31, 0, 0⟩
def ETH_SLEW_STAT_REMAIN : Field := ⟨0x0A8, 31, 0, 0⟩
/-! Page THAIG (R461). -/
def THAIG_CFG_SRC_PORT : Field := ⟨0x040, 31, 16, 0⟩
def THAIG_CFG_PORT : Field := ⟨0x040, 15, 0, 0⟩
def THAIG_SESSION_TAG : Field := ⟨0x044, 31, 0, 0⟩
def THAIG_EVT_EN : Field := ⟨0x048, 31, 31, 0⟩
def THAIG_EVT_REPEAT_MS : Field := ⟨0x048, 15, 0, 0⟩
def THAIG_LIVE_MS : Field := ⟨0x04C, 15, 0, 0⟩
def THAIG_SEQ_EXPECT : Field := ⟨0x050, 31, 0, 0⟩
def THAIG_SEQ_STAT_SYNCED : Field := ⟨0x054, 0, 0, 0⟩
def THAIG_DROPS_FILTER : Field := ⟨0x058, 31, 24, 0⟩
def THAIG_DROPS_SESSION : Field := ⟨0x058, 23, 16, 0⟩
def THAIG_DROPS_FORMAT : Field := ⟨0x058, 15, 8, 0⟩
def THAIG_DROPS_BUSY : Field := ⟨0x058, 7, 0, 0⟩
def THAIG_SEQ_ERR_COUNT : Field := ⟨0x05C, 15, 0, 0⟩
def THAIG_RETRIES_COUNT : Field := ⟨0x060, 15, 0, 0⟩
def THAIG_GRANT_ERR_COUNT : Field := ⟨0x064, 15, 0, 0⟩
def THAIG_EVT_SEQ_SEQ : Field := ⟨0x068, 31, 0, 0⟩
def THAIG_DEST_CFG_VALID : Field := ⟨0x100, 31, 31, 32⟩
def THAIG_DEST_CFG_ANY : Field := ⟨0x100, 30, 30, 32⟩
def THAIG_DEST_CFG_CTRL_OK : Field := ⟨0x100, 29, 29, 32⟩
def THAIG_DEST_CFG_PORT : Field := ⟨0x100, 15, 0, 32⟩
def THAIG_DEST_MAC_LO_MAC : Field := ⟨0x104, 31, 0, 32⟩
def THAIG_DEST_MAC_HI_MAC : Field := ⟨0x108, 15, 0, 32⟩
def THAIG_DEST_IP0_ADDR : Field := ⟨0x10C, 31, 0, 32⟩
def THAIG_DEST_IP1_ADDR : Field := ⟨0x110, 31, 0, 32⟩
def THAIG_DEST_IP2_ADDR : Field := ⟨0x114, 31, 0, 32⟩
def THAIG_DEST_IP3_ADDR : Field := ⟨0x118, 31, 0, 32⟩
def THAIG_Q_CFG_EN : Field := ⟨0x300, 31, 31, 16⟩
def THAIG_Q_CFG_DSEL : Field := ⟨0x300, 17, 16, 16⟩
def THAIG_Q_CFG_PORT : Field := ⟨0x300, 15, 0, 16⟩
def THAIG_Q_SENT_COUNT : Field := ⟨0x304, 31, 0, 16⟩
def THAIG_Q_LIMIT_LIMIT : Field := ⟨0x308, 31, 0, 16⟩
/-! Page AXIS (R352). -/
def AXIS_CFG_DRV_FAULT_EN : Field := ⟨0x040, 19, 19, 0⟩
def AXIS_CFG_HOME_POL : Field := ⟨0x040, 18, 18, 0⟩
def AXIS_CFG_LIM_POS_POL : Field := ⟨0x040, 17, 17, 0⟩
def AXIS_CFG_LIM_NEG_POL : Field := ⟨0x040, 16, 16, 0⟩
def AXIS_CFG_STEP_SHIFT : Field := ⟨0x040, 11, 8, 0⟩
def AXIS_CFG_IREF_MODE : Field := ⟨0x040, 6, 5, 0⟩
def AXIS_CFG_ENC_INV : Field := ⟨0x040, 4, 4, 0⟩
def AXIS_CFG_ENC_EN : Field := ⟨0x040, 3, 3, 0⟩
def AXIS_CFG_DIR_INV : Field := ⟨0x040, 2, 2, 0⟩
def AXIS_CFG_STEP_INV : Field := ⟨0x040, 1, 1, 0⟩
def AXIS_CFG_PROFILE : Field := ⟨0x040, 0, 0, 0⟩
def AXIS_CTRL_SNAP : Field := ⟨0x044, 7, 7, 0⟩
def AXIS_CTRL_CHAT_CLR : Field := ⟨0x044, 6, 6, 0⟩
def AXIS_CTRL_FORGET : Field := ⟨0x044, 5, 5, 0⟩
def AXIS_CTRL_HOME_GO : Field := ⟨0x044, 4, 4, 0⟩
def AXIS_CTRL_ESTOP : Field := ⟨0x044, 3, 3, 0⟩
def AXIS_CTRL_STOP : Field := ⟨0x044, 2, 2, 0⟩
def AXIS_CTRL_GO : Field := ⟨0x044, 1, 1, 0⟩
def AXIS_CTRL_DRV_EN : Field := ⟨0x044, 0, 0, 0⟩
def AXIS_MODE_VEL : Field := ⟨0x048, 0, 0, 0⟩
def AXIS_TARGET_LO_TARGET : Field := ⟨0x04C, 31, 0, 0⟩
def AXIS_TARGET_HI_TARGET : Field := ⟨0x050, 15, 0, 0⟩
def AXIS_VTARGET_LO_VTARGET : Field := ⟨0x054, 31, 0, 0⟩
def AXIS_VTARGET_HI_VTARGET : Field := ⟨0x058, 15, 0, 0⟩
def AXIS_VMAX_V : Field := ⟨0x05C, 22, 0, 0⟩
def AXIS_ACC_A : Field := ⟨0x060, 31, 0, 0⟩
def AXIS_DEC_A : Field := ⟨0x064, 31, 0, 0⟩
def AXIS_EDEC_A : Field := ⟨0x068, 31, 0, 0⟩
def AXIS_JERK_J : Field := ⟨0x06C, 31, 0, 0⟩
def AXIS_HOME_V_V : Field := ⟨0x070, 22, 0, 0⟩
def AXIS_CREEP_V : Field := ⟨0x074, 22, 0, 0⟩
def AXIS_HOME_CFG_ENC_ZERO : Field := ⟨0x078, 1, 1, 0⟩
def AXIS_HOME_CFG_SEEK_NEG : Field := ⟨0x078, 0, 0, 0⟩
def AXIS_HOME_MAX_D : Field := ⟨0x07C, 31, 0, 0⟩
def AXIS_HOME_POS_LO_POS : Field := ⟨0x080, 31, 0, 0⟩
def AXIS_HOME_POS_HI_POS : Field := ⟨0x084, 15, 0, 0⟩
def AXIS_STEP_TIM_DIR_HOLD : Field := ⟨0x088, 31, 24, 0⟩
def AXIS_STEP_TIM_DIR_SU : Field := ⟨0x088, 23, 16, 0⟩
def AXIS_STEP_TIM_STEP_LO : Field := ⟨0x088, 15, 8, 0⟩
def AXIS_STEP_TIM_STEP_HI : Field := ⟨0x088, 7, 0, 0⟩
def AXIS_ENC_FILT_FILT : Field := ⟨0x08C, 7, 0, 0⟩
def AXIS_LIM_FILT_CHAT_THR : Field := ⟨0x090, 31, 24, 0⟩
def AXIS_LIM_FILT_FILT_US : Field := ⟨0x090, 15, 0, 0⟩
def AXIS_IREF_PER_PER : Field := ⟨0x094, 15, 0, 0⟩
def AXIS_IREF_LVL_HOLD_DLY : Field := ⟨0x098, 31, 16, 0⟩
def AXIS_IREF_LVL_HOLD : Field := ⟨0x098, 15, 8, 0⟩
def AXIS_IREF_LVL_RUN : Field := ⟨0x098, 7, 0, 0⟩
def AXIS_STAT_HOME_PHASE : Field := ⟨0x0A0, 18, 16, 0⟩
def AXIS_STAT_PACED : Field := ⟨0x0A0, 15, 15, 0⟩
def AXIS_STAT_ESTOPPED : Field := ⟨0x0A0, 14, 14, 0⟩
def AXIS_STAT_DECEL_RAISED : Field := ⟨0x0A0, 13, 13, 0⟩
def AXIS_STAT_AT_TARGET : Field := ⟨0x0A0, 12, 12, 0⟩
def AXIS_STAT_UNCERTAIN : Field := ⟨0x0A0, 11, 11, 0⟩
def AXIS_STAT_HOMED : Field := ⟨0x0A0, 10, 10, 0⟩
def AXIS_STAT_DRV_FAULT : Field := ⟨0x0A0, 9, 9, 0⟩
def AXIS_STAT_CHAT_HOME : Field := ⟨0x0A0, 8, 8, 0⟩
def AXIS_STAT_CHAT_POS : Field := ⟨0x0A0, 7, 7, 0⟩
def AXIS_STAT_CHAT_NEG : Field := ⟨0x0A0, 6, 6, 0⟩
def AXIS_STAT_HOME_IN : Field := ⟨0x0A0, 5, 5, 0⟩
def AXIS_STAT_LIM_POS_IN : Field := ⟨0x0A0, 4, 4, 0⟩
def AXIS_STAT_LIM_NEG_IN : Field := ⟨0x0A0, 3, 3, 0⟩
def AXIS_STAT_DIR : Field := ⟨0x0A0, 2, 2, 0⟩
def AXIS_STAT_HOLD_CUR : Field := ⟨0x0A0, 1, 1, 0⟩
def AXIS_STAT_MOVING : Field := ⟨0x0A0, 0, 0, 0⟩
def AXIS_INDEX_INDEX : Field := ⟨0x0A4, 9, 0, 0⟩
def AXIS_SNAP_T_LO_N : Field := ⟨0x0A8, 31, 0, 0⟩
def AXIS_SNAP_T_HI_N : Field := ⟨0x0AC, 31, 0, 0⟩
def AXIS_SNAP_POS_LO_POS : Field := ⟨0x0B0, 31, 0, 0⟩
def AXIS_SNAP_POS_HI_POS : Field := ⟨0x0B4, 15, 0, 0⟩
def AXIS_SNAP_VEL_LO_VEL : Field := ⟨0x0B8, 31, 0, 0⟩
def AXIS_SNAP_VEL_HI_VEL : Field := ⟨0x0BC, 15, 0, 0⟩
def AXIS_SNAP_ENC_LO_ENC : Field := ⟨0x0C0, 31, 0, 0⟩
def AXIS_SNAP_ENC_HI_ENC : Field := ⟨0x0C4, 15, 0, 0⟩
def AXIS_ZLATCH_LO_ENC : Field := ⟨0x0C8, 31, 0, 0⟩
def AXIS_ZLATCH_HI_ENC : Field := ⟨0x0CC, 15, 0, 0⟩
def AXIS_HOMECAP_LO_POS : Field := ⟨0x0D0, 31, 0, 0⟩
def AXIS_HOMECAP_HI_POS : Field := ⟨0x0D4, 15, 0, 0⟩
def AXIS_LAST_CAUSE_HOMING : Field := ⟨0x0D8, 15, 8, 0⟩
def AXIS_LAST_CAUSE_STOP : Field := ⟨0x0D8, 7, 0, 0⟩
def AXIS_ENC_ERR_COUNT : Field := ⟨0x0DC, 15, 0, 0⟩
def AXIS_LIM_TRIPS_COUNT : Field := ⟨0x0E0, 15, 0, 0⟩
def AXIS_EVT_LOST_COUNT : Field := ⟨0x0E4, 15, 0, 0⟩
def AXIS_REFUSED_COUNT : Field := ⟨0x0E8, 15, 0, 0⟩
/-! Page PACE (R364). -/
def PACE_CFG_AX1_EN : Field := ⟨0x040, 1, 1, 0⟩
def PACE_CFG_AX0_EN : Field := ⟨0x040, 0, 0, 0⟩
def PACE_VSCAN0_LO_V : Field := ⟨0x044, 31, 0, 0⟩
def PACE_VSCAN0_HI_V : Field := ⟨0x048, 15, 0, 0⟩
def PACE_VSCAN1_LO_V : Field := ⟨0x04C, 31, 0, 0⟩
def PACE_VSCAN1_HI_V : Field := ⟨0x050, 15, 0, 0⟩
def PACE_CREDIT_C_HIGH : Field := ⟨0x054, 31, 16, 0⟩
def PACE_CREDIT_C_LOW : Field := ⟨0x054, 15, 0, 0⟩
def PACE_RESUME_F : Field := ⟨0x058, 15, 0, 0⟩
def PACE_VMIN_V : Field := ⟨0x05C, 22, 0, 0⟩
def PACE_SPILL_STOP_CELLS : Field := ⟨0x060, 28, 0, 0⟩
def PACE_FACTOR_F_TILE : Field := ⟨0x070, 31, 16, 4⟩
def PACE_FACTOR_F_HAND : Field := ⟨0x070, 15, 0, 4⟩
def PACE_LEVEL_FS : Field := ⟨0x078, 31, 16, 4⟩
def PACE_LEVEL_C : Field := ⟨0x078, 15, 0, 4⟩
def PACE_LEFT_OUT_TILES : Field := ⟨0x080, 7, 0, 0⟩
def PACE_HOLDS_COUNT : Field := ⟨0x084, 15, 0, 0⟩
def PACE_EVT_LOST_COUNT : Field := ⟨0x088, 15, 0, 0⟩
/-! Page LAMP (R383). -/
def LAMP_CFG_STALE_OFF : Field := ⟨0x040, 19, 19, 0⟩
def LAMP_CFG_TSRC : Field := ⟨0x040, 18, 16, 0⟩
def LAMP_CFG_EE_PW : Field := ⟨0x040, 8, 8, 0⟩
def LAMP_CFG_EE_EN : Field := ⟨0x040, 7, 7, 0⟩
def LAMP_CFG_STR_EN : Field := ⟨0x040, 5, 0, 0⟩
def LAMP_EE_ADDR : Field := ⟨0x044, 22, 16, 0⟩
def LAMP_EE_PTR : Field := ⟨0x044, 15, 0, 0⟩
def LAMP_CUR01_CUR1 : Field := ⟨0x048, 27, 16, 0⟩
def LAMP_CUR01_CUR0 : Field := ⟨0x048, 11, 0, 0⟩
def LAMP_CUR23_CUR3 : Field := ⟨0x04C, 27, 16, 0⟩
def LAMP_CUR23_CUR2 : Field := ⟨0x04C, 11, 0, 0⟩
def LAMP_CUR45_CUR5 : Field := ⟨0x050, 27, 16, 0⟩
def LAMP_CUR45_CUR4 : Field := ⟨0x050, 11, 0, 0⟩
def LAMP_STB_CENTRE : Field := ⟨0x054, 19, 0, 0⟩
def LAMP_ON_01_ON1 : Field := ⟨0x060, 31, 16, 12⟩
def LAMP_ON_01_ON0 : Field := ⟨0x060, 15, 0, 12⟩
def LAMP_ON_23_ON3 : Field := ⟨0x064, 31, 16, 12⟩
def LAMP_ON_23_ON2 : Field := ⟨0x064, 15, 0, 12⟩
def LAMP_ON_45_ON5 : Field := ⟨0x068, 31, 16, 12⟩
def LAMP_ON_45_ON4 : Field := ⟨0x068, 15, 0, 12⟩
def LAMP_DERATE_KNEE : Field := ⟨0x0B0, 31, 16, 0⟩
def LAMP_DERATE_SLOPE : Field := ⟨0x0B0, 15, 0, 0⟩
def LAMP_SHUT_BAR_SHUT : Field := ⟨0x0B4, 31, 16, 0⟩
def LAMP_SHUT_HYST : Field := ⟨0x0B4, 7, 0, 0⟩
def LAMP_T_HOST_T : Field := ⟨0x0B8, 15, 0, 0⟩
def LAMP_BST_CFG_FSW_SEL : Field := ⟨0x0C0, 27, 24, 0⟩
def LAMP_BST_CFG_ILIM : Field := ⟨0x0C0, 23, 16, 0⟩
def LAMP_BST_CFG_RATIO : Field := ⟨0x0C0, 15, 0, 0⟩
def LAMP_BST_V_VMAX : Field := ⟨0x0C4, 31, 16, 0⟩
def LAMP_BST_V_VMIN : Field := ⟨0x0C4, 15, 0, 0⟩
def LAMP_HR_BAND : Field := ⟨0x0C8, 31, 16, 0⟩
def LAMP_HR_TARGET : Field := ⟨0x0C8, 15, 0, 0⟩
def LAMP_CTRL_SHUT_CLR : Field := ⟨0x0CC, 3, 3, 0⟩
def LAMP_CTRL_DIRECT : Field := ⟨0x0CC, 2, 2, 0⟩
def LAMP_CTRL_BST_EN : Field := ⟨0x0CC, 1, 1, 0⟩
def LAMP_STAT_VSET : Field := ⟨0x0D0, 31, 16, 0⟩
def LAMP_STAT_SHUT_CAUSE : Field := ⟨0x0D0, 11, 10, 0⟩
def LAMP_STAT_HR_LOW : Field := ⟨0x0D0, 9, 9, 0⟩
def LAMP_STAT_DERATING : Field := ⟨0x0D0, 8, 8, 0⟩
def LAMP_STAT_SHUT : Field := ⟨0x0D0, 7, 7, 0⟩
def LAMP_STAT_STROBING : Field := ⟨0x0D0, 6, 6, 0⟩
def LAMP_STAT_T_VALID : Field := ⟨0x0D0, 5, 5, 0⟩
def LAMP_STAT_T_STALE : Field := ⟨0x0D0, 4, 4, 0⟩
def LAMP_STAT_BIN_VALID : Field := ⟨0x0D0, 3, 3, 0⟩
def LAMP_STAT_BST_OK : Field := ⟨0x0D0, 1, 1, 0⟩
def LAMP_STAT_BST_RUN : Field := ⟨0x0D0, 0, 0, 0⟩
def LAMP_DER_NOW_T : Field := ⟨0x0D4, 31, 16, 0⟩
def LAMP_DER_NOW_D : Field := ⟨0x0D4, 15, 0, 0⟩
def LAMP_HR_MIN_MV : Field := ⟨0x0D8, 15, 0, 0⟩
def LAMP_DIE_T_T : Field := ⟨0x0DC, 15, 0, 0⟩
def LAMP_BIN_WL_W3_W0 : Field := ⟨0x0E0, 31, 0, 8⟩
def LAMP_BIN_WH_SCALE : Field := ⟨0x0E4, 31, 16, 8⟩
def LAMP_BIN_WH_W5_W4 : Field := ⟨0x0E4, 15, 0, 8⟩
def LAMP_EFF_CODE : Field := ⟨0x110, 11, 0, 4⟩
def LAMP_HR_LOW_CNT_COUNT : Field := ⟨0x130, 15, 0, 0⟩
def LAMP_STB_CUT_COUNT : Field := ⟨0x134, 15, 0, 0⟩
def LAMP_CUR_CLAMP_COUNT : Field := ⟨0x138, 15, 0, 0⟩
def LAMP_SHUTS_COUNT : Field := ⟨0x13C, 15, 0, 0⟩
def LAMP_BIN_ERR_CAUSE : Field := ⟨0x140, 3, 0, 0⟩
def LAMP_EVT_LOST_COUNT : Field := ⟨0x144, 15, 0, 0⟩
/-! Page LCHAIN (R387). -/
def LCHAIN_CFG_NODES : Field := ⟨0x040, 22, 16, 0⟩
def LCHAIN_CFG_GAP_BITS : Field := ⟨0x040, 7, 0, 0⟩
def LCHAIN_CMD_NO_LATCH : Field := ⟨0x044, 2, 2, 0⟩
def LCHAIN_CMD_BANK : Field := ⟨0x044, 1, 1, 0⟩
def LCHAIN_CMD_GO : Field := ⟨0x044, 0, 0, 0⟩
def LCHAIN_STAT_LATCHING : Field := ⟨0x048, 2, 2, 0⟩
def LCHAIN_STAT_GAP : Field := ⟨0x048, 1, 1, 0⟩
def LCHAIN_STAT_SENDING : Field := ⟨0x048, 0, 0, 0⟩
def LCHAIN_FRAMES_COUNT : Field := ⟨0x04C, 31, 0, 0⟩
/-! Page PATT (R392). -/
def PATT_ENG_CFG_REPEAT : Field := ⟨0x040, 31, 24, 16⟩
def PATT_ENG_CFG_LEN_M1 : Field := ⟨0x040, 19, 16, 16⟩
def PATT_ENG_STAT_RUNS : Field := ⟨0x044, 31, 24, 16⟩
def PATT_ENG_STAT_STEP : Field := ⟨0x044, 19, 16, 16⟩
def PATT_ENG_STAT_RUNNING : Field := ⟨0x044, 8, 8, 16⟩
def PATT_ENG_STAT_LEVEL : Field := ⟨0x044, 7, 0, 16⟩
def PATT_CMD_STOP : Field := ⟨0x080, 11, 8, 0⟩
def PATT_CMD_START : Field := ⟨0x080, 3, 0, 0⟩
def PATT_IND_OFS : Field := ⟨0x0A0, 11, 8, 4⟩
def PATT_IND_ENG : Field := ⟨0x0A0, 5, 4, 4⟩
def PATT_IND_SRC : Field := ⟨0x0A0, 2, 1, 4⟩
def PATT_IND_INV : Field := ⟨0x0A0, 0, 0, 4⟩
def PATT_IND_PWM_PRE : Field := ⟨0x0C0, 7, 0, 0⟩
/-! Page MON (R423). -/
def MON_CFG_DELIVER : Field := ⟨0x040, 16, 16, 0⟩
def MON_CFG_SNAP_MS : Field := ⟨0x040, 15, 0, 0⟩
def MON_SEQ_CFG_LEN : Field := ⟨0x044, 6, 0, 0⟩
def MON_CMD_SNAP : Field := ⟨0x048, 1, 1, 0⟩
def MON_CMD_CAL : Field := ⟨0x048, 0, 0, 0⟩
def MON_TRUMP_GO : Field := ⟨0x04C, 31, 31, 0⟩
def MON_TRUMP_SNAP_AFTER : Field := ⟨0x04C, 8, 8, 0⟩
def MON_TRUMP_CH : Field := ⟨0x04C, 5, 0, 0⟩
def MON_STAT_CAL_FAIL : Field := ⟨0x050, 4, 4, 0⟩
def MON_STAT_SEQ_RUN : Field := ⟨0x050, 3, 3, 0⟩
def MON_STAT_TRUMP_PEND : Field := ⟨0x050, 2, 2, 0⟩
def MON_STAT_CAL_BUSY : Field := ⟨0x050, 1, 1, 0⟩
def MON_STAT_CAL_VALID : Field := ⟨0x050, 0, 0, 0⟩
def MON_TRUMP_T_LO_N : Field := ⟨0x054, 31, 0, 0⟩
def MON_TRUMP_T_HI_N : Field := ⟨0x058, 31, 0, 0⟩
def MON_TRUMP_DROP_CAL : Field := ⟨0x05C, 31, 16, 0⟩
def MON_TRUMP_DROP_BUSY : Field := ⟨0x05C, 15, 0, 0⟩
def MON_SNAP_STAT_BUSY : Field := ⟨0x060, 1, 1, 0⟩
def MON_SNAP_STAT_READY : Field := ⟨0x060, 0, 0, 0⟩
def MON_SNAP_SEQ_SEQ : Field := ⟨0x064, 31, 0, 0⟩
def MON_SNAP_T_LO_N : Field := ⟨0x068, 31, 0, 0⟩
def MON_SNAP_T_HI_N : Field := ⟨0x06C, 31, 0, 0⟩
def MON_SNAP_LOST_COUNT : Field := ⟨0x070, 15, 0, 0⟩
def MON_CAL_OFS_OFS : Field := ⟨0x080, 15, 0, 0⟩
def MON_CAL_GAIN_GAIN : Field := ⟨0x084, 15, 0, 0⟩
def MON_CAL_LIN03_LIN3_LIN0 : Field := ⟨0x088, 31, 0, 0⟩
def MON_CAL_LIN47_LIN7_LIN4 : Field := ⟨0x08C, 31, 0, 0⟩
def MON_LIM_CFG_EN : Field := ⟨0x0A0, 31, 31, 8⟩
def MON_LIM_CFG_CH : Field := ⟨0x0A0, 29, 24, 8⟩
def MON_LIM_CFG_HYST : Field := ⟨0x0A0, 15, 0, 8⟩
def MON_LIM_THR_HI : Field := ⟨0x0A4, 31, 16, 8⟩
def MON_LIM_THR_LO : Field := ⟨0x0A4, 15, 0, 8⟩
def MON_LIM_STAT_STATE0 : Field := ⟨0x0E0, 1, 0, 0⟩
def MON_LIM_STAT_STATE1 : Field := ⟨0x0E0, 3, 2, 0⟩
def MON_LIM_STAT_STATE2 : Field := ⟨0x0E0, 5, 4, 0⟩
def MON_LIM_STAT_STATE3 : Field := ⟨0x0E0, 7, 6, 0⟩
def MON_LIM_STAT_STATE4 : Field := ⟨0x0E0, 9, 8, 0⟩
def MON_LIM_STAT_STATE5 : Field := ⟨0x0E0, 11, 10, 0⟩
def MON_LIM_STAT_STATE6 : Field := ⟨0x0E0, 13, 12, 0⟩
def MON_LIM_STAT_STATE7 : Field := ⟨0x0E0, 15, 14, 0⟩
def MON_SLOT_DIV : Field := ⟨0x100, 11, 8, 4⟩
def MON_SLOT_CH : Field := ⟨0x100, 5, 0, 4⟩
def MON_FK_FK : Field := ⟨0x300, 3, 0, 4⟩
def MON_AVG_A : Field := ⟨0x400, 31, 0, 4⟩
/-! Page FE (R424). -/
def FE_CFG_PERIOD_US : Field := ⟨0x040, 19, 0, 0⟩
def FE_CFG2_D : Field := ⟨0x044, 31, 24, 0⟩
def FE_CFG2_EXC_SET : Field := ⟨0x044, 23, 16, 0⟩
def FE_CFG2_RAIL : Field := ⟨0x044, 15, 0, 0⟩
def FE_OW_THR_THR : Field := ⟨0x048, 15, 0, 0⟩
def FE_STAT_NEG : Field := ⟨0x04C, 1, 1, 0⟩
def FE_STAT_RUN : Field := ⟨0x04C, 0, 0, 0⟩
def FE_CYCLES_COUNT : Field := ⟨0x050, 31, 0, 0⟩
def FE_OVERRUN_COUNT : Field := ⟨0x054, 15, 0, 0⟩
def FE_EVT_LOST_COUNT : Field := ⟨0x058, 15, 0, 0⟩
def FE_CH_CFG_EN : Field := ⟨0x080, 31, 31, 32⟩
def FE_CH_CFG_EXC : Field := ⟨0x080, 29, 28, 32⟩
def FE_CH_CFG_LEVEL : Field := ⟨0x080, 27, 16, 32⟩
def FE_CH_CFG_GAIN : Field := ⟨0x080, 14, 12, 32⟩
def FE_CH_CFG_NCONV_M1 : Field := ⟨0x080, 11, 6, 32⟩
def FE_CH_CFG_DIAG_EN : Field := ⟨0x080, 5, 5, 32⟩
def FE_CH_CFG_DIAG_I : Field := ⟨0x080, 4, 4, 32⟩
def FE_CH_CFG_FK : Field := ⟨0x080, 3, 0, 32⟩
def FE_CH_TIM_DIS : Field := ⟨0x084, 15, 8, 32⟩
def FE_CH_TIM_SET : Field := ⟨0x084, 7, 0, 32⟩
def FE_CH_TEMP_TEMP_EN : Field := ⟨0x088, 31, 31, 32⟩
def FE_CH_TEMP_SHIFT : Field := ⟨0x088, 20, 16, 32⟩
def FE_CH_TEMP_LO : Field := ⟨0x088, 15, 0, 32⟩
def FE_CH_STAT_PEND : Field := ⟨0x08C, 31, 31, 32⟩
def FE_CH_STAT_OPEN : Field := ⟨0x08C, 30, 30, 32⟩
def FE_CH_STAT_RAIL : Field := ⟨0x08C, 29, 29, 32⟩
def FE_CH_STAT_EXC_FAULT : Field := ⟨0x08C, 28, 28, 32⟩
def FE_CH_STAT_T_VALID : Field := ⟨0x08C, 27, 27, 32⟩
def FE_CH_STAT_LAST : Field := ⟨0x08C, 15, 0, 32⟩
def FE_CH_LASTPASS_LO_N : Field := ⟨0x090, 31, 0, 32⟩
def FE_CH_LASTPASS_HI_N : Field := ⟨0x094, 31, 0, 32⟩
def FE_CH_CNT_BLANKED : Field := ⟨0x098, 31, 16, 32⟩
def FE_CH_CNT_RAIL : Field := ⟨0x098, 15, 0, 32⟩
def FE_CH_AVG_A : Field := ⟨0x09C, 31, 0, 32⟩
/-! Page MEAS (R425). -/
def MEAS_OUT_CFG_EN : Field := ⟨0x040, 31, 31, 32⟩
def MEAS_OUT_CFG_MODE : Field := ⟨0x040, 30, 30, 32⟩
def MEAS_OUT_CFG_USE_T : Field := ⟨0x040, 29, 29, 32⟩
def MEAS_OUT_CFG_INV : Field := ⟨0x040, 28, 28, 32⟩
def MEAS_OUT_CFG_CH : Field := ⟨0x040, 5, 0, 32⟩
def MEAS_OUT_CAR_HZ : Field := ⟨0x044, 16, 0, 32⟩
def MEAS_OUT_FLO_HZ : Field := ⟨0x048, 16, 0, 32⟩
def MEAS_OUT_FHI_HZ : Field := ⟨0x04C, 16, 0, 32⟩
def MEAS_OUT_LO_V : Field := ⟨0x050, 31, 0, 32⟩
def MEAS_OUT_HI_V : Field := ⟨0x054, 31, 0, 32⟩
def MEAS_OUT_STAT_FAILSAFE : Field := ⟨0x058, 31, 31, 32⟩
def MEAS_OUT_STAT_U : Field := ⟨0x058, 15, 0, 32⟩
def MEAS_OUT_UPDATES_COUNT : Field := ⟨0x05C, 31, 0, 32⟩
/-! Page TWC (R543). -/
def TWC_CFG_RETRY_N : Field := ⟨0x040, 23, 20, 0⟩
def TWC_CFG_ALERT_AUTO : Field := ⟨0x040, 16, 16, 0⟩
def TWC_CFG_FILT : Field := ⟨0x040, 13, 8, 0⟩
def TWC_CFG_SPEED : Field := ⟨0x040, 1, 0, 0⟩
def TWC_TIMING_GAP : Field := ⟨0x044, 23, 16, 0⟩
def TWC_TIMING_SCL_MS : Field := ⟨0x044, 15, 8, 0⟩
def TWC_TIMING_SDA_MS : Field := ⟨0x044, 7, 0, 0⟩
def TWC_XFER_KIND : Field := ⟨0x048, 25, 24, 0⟩
def TWC_XFER_PTR_W : Field := ⟨0x048, 21, 20, 0⟩
def TWC_XFER_PAGE_LOG2 : Field := ⟨0x048, 19, 16, 0⟩
def TWC_XFER_ADDR : Field := ⟨0x048, 6, 0, 0⟩
def TWC_PTR_PTR : Field := ⟨0x04C, 15, 0, 0⟩
def TWC_LEN_LEN : Field := ⟨0x050, 8, 0, 0⟩
def TWC_CMD_CLEAR : Field := ⟨0x054, 3, 3, 0⟩
def TWC_CMD_ALERT_READ : Field := ⟨0x054, 2, 2, 0⟩
def TWC_CMD_ABORT : Field := ⟨0x054, 1, 1, 0⟩
def TWC_CMD_GO : Field := ⟨0x054, 0, 0, 0⟩
def TWC_STAT_DONE : Field := ⟨0x058, 31, 23, 0⟩
def TWC_STAT_TRIES : Field := ⟨0x058, 22, 19, 0⟩
def TWC_STAT_RESULT : Field := ⟨0x058, 18, 15, 0⟩
def TWC_STAT_OWNER : Field := ⟨0x058, 14, 12, 0⟩
def TWC_STAT_PEND : Field := ⟨0x058, 11, 11, 0⟩
def TWC_STAT_BUSY : Field := ⟨0x058, 10, 10, 0⟩
def TWC_STAT_SDA_STUCK : Field := ⟨0x058, 9, 9, 0⟩
def TWC_STAT_CLEARING : Field := ⟨0x058, 8, 8, 0⟩
def TWC_STAT_ALERT_IN : Field := ⟨0x058, 2, 2, 0⟩
def TWC_STAT_SDA_IN : Field := ⟨0x058, 1, 1, 0⟩
def TWC_STAT_SCL_IN : Field := ⟨0x058, 0, 0, 0⟩
def TWC_ALERT_VALID : Field := ⟨0x05C, 31, 31, 0⟩
def TWC_ALERT_ADDR : Field := ⟨0x05C, 14, 8, 0⟩
def TWC_ALERT_BYTE : Field := ⟨0x05C, 7, 0, 0⟩
def TWC_XFERS_COUNT : Field := ⟨0x060, 31, 0, 0⟩
def TWC_NACKS_COUNT : Field := ⟨0x064, 15, 0, 0⟩
def TWC_CONTENTIONS_COUNT : Field := ⟨0x068, 15, 0, 0⟩
def TWC_TMO_SCL : Field := ⟨0x06C, 31, 16, 0⟩
def TWC_TMO_SDA : Field := ⟨0x06C, 15, 0, 0⟩
def TWC_EVT_LOST_COUNT : Field := ⟨0x070, 15, 0, 0⟩
/-! Page GPIO (R575). -/
def GPIO_DIR_OE : Field := ⟨0x040, 7, 0, 0⟩
def GPIO_OUT_LEVEL : Field := ⟨0x044, 7, 0, 0⟩
def GPIO_IN_TRIG : Field := ⟨0x048, 11, 8, 0⟩
def GPIO_IN_GPIO : Field := ⟨0x048, 7, 0, 0⟩
def GPIO_EDGE_FALL : Field := ⟨0x04C, 15, 8, 0⟩
def GPIO_EDGE_RISE : Field := ⟨0x04C, 7, 0, 0⟩
/-! Page SSPI (R181). -/
def SSPI_CFG_BLANK_ONLY : Field := ⟨0x040, 25, 25, 64⟩
def SSPI_CFG_CS_HOLD : Field := ⟨0x040, 24, 24, 64⟩
def SSPI_CFG_DIV : Field := ⟨0x040, 23, 16, 64⟩
def SSPI_CFG_BITS : Field := ⟨0x040, 12, 8, 64⟩
def SSPI_CFG_LSB_FIRST : Field := ⟨0x040, 2, 2, 64⟩
def SSPI_CFG_MODE : Field := ⟨0x040, 1, 0, 64⟩
def SSPI_BLANK_OFS_TICKS : Field := ⟨0x044, 19, 0, 64⟩
def SSPI_TX_DATA : Field := ⟨0x048, 31, 0, 64⟩
def SSPI_RX_DATA : Field := ⟨0x04C, 31, 0, 64⟩
def SSPI_CMD_FLUSH : Field := ⟨0x050, 1, 1, 64⟩
def SSPI_CMD_RXPOP : Field := ⟨0x050, 0, 0, 64⟩
def SSPI_STAT_RX_LVL : Field := ⟨0x054, 20, 16, 64⟩
def SSPI_STAT_TX_LVL : Field := ⟨0x054, 12, 8, 64⟩
def SSPI_STAT_BUSY : Field := ⟨0x054, 0, 0, 64⟩
/-! Page PKG (R4, R43). -/
def PKG_IDENT_IDENT : Field := ⟨0x040, 31, 0, 0⟩
def PKG_STRAPS_CPB_QUAD : Field := ⟨0x044, 6, 6, 0⟩
def PKG_STRAPS_HMODE : Field := ⟨0x044, 5, 4, 0⟩
def PKG_STRAPS_BOOT : Field := ⟨0x044, 2, 0, 0⟩
/-! Page SEM (R120). -/
def SEM_CLAIM_CLAIM : Field := ⟨0x040, 1, 0, 4⟩
def SEM_OWNER_OWNER : Field := ⟨0x140, 1, 0, 4⟩
def SEM_HELD_A_LO_HELD : Field := ⟨0x240, 31, 0, 0⟩
def SEM_HELD_A_HI_HELD : Field := ⟨0x244, 31, 0, 0⟩
def SEM_HELD_B_LO_HELD : Field := ⟨0x248, 31, 0, 0⟩
def SEM_HELD_B_HI_HELD : Field := ⟨0x24C, 31, 0, 0⟩
/-! Page PORTS (R127). -/
def PORTS_ID_ID : Field := ⟨0x040, 1, 0, 0⟩
def PORTS_KEEPALIVE_KICK : Field := ⟨0x044, 31, 0, 0⟩
def PORTS_KA_WIN_A_MS : Field := ⟨0x048, 15, 0, 0⟩
def PORTS_KA_WIN_B_MS : Field := ⟨0x04C, 15, 0, 0⟩
def PORTS_STAT_CPB_QUAD : Field := ⟨0x050, 16, 16, 0⟩
def PORTS_STAT_A_TILE : Field := ⟨0x050, 15, 12, 0⟩
def PORTS_STAT_A_PATH : Field := ⟨0x050, 9, 8, 0⟩
def PORTS_STAT_WAS_LOST_B : Field := ⟨0x050, 3, 3, 0⟩
def PORTS_STAT_WAS_LOST_A : Field := ⟨0x050, 2, 2, 0⟩
def PORTS_STAT_ALIVE_B : Field := ⟨0x050, 1, 1, 0⟩
def PORTS_STAT_ALIVE_A : Field := ⟨0x050, 0, 0, 0⟩
def PORTS_A_PATH_DETACH : Field := ⟨0x054, 0, 0, 0⟩
def PORTS_IRQ_CFG_PIN_B_EN : Field := ⟨0x058, 1, 1, 0⟩
def PORTS_IRQ_CFG_PIN_A_EN : Field := ⟨0x058, 0, 0, 0⟩
def PORTS_IRQ_SUM_A_GLOBAL : Field := ⟨0x05C, 8, 8, 0⟩
def PORTS_IRQ_SUM_A_TILE : Field := ⟨0x05C, 7, 0, 0⟩
def PORTS_IRQ_SUM_B_GLOBAL : Field := ⟨0x060, 8, 8, 0⟩
def PORTS_IRQ_SUM_B_TILE : Field := ⟨0x060, 7, 0, 0⟩
def PORTS_IRQ_GLOB_A_PAGE : Field := ⟨0x064, 6, 0, 0⟩
def PORTS_IRQ_GLOB_B_PAGE : Field := ⟨0x068, 6, 0, 0⟩
def PORTS_EOI_A_VECTOR : Field := ⟨0x06C, 5, 0, 0⟩
def PORTS_CPB_CFG_WAIT : Field := ⟨0x070, 7, 0, 0⟩
def PORTS_CPB_ERR_FRAME : Field := ⟨0x074, 31, 16, 0⟩
def PORTS_CPB_ERR_CRC : Field := ⟨0x074, 15, 0, 0⟩
def PORTS_A_FOREIGN_COUNT : Field := ⟨0x078, 15, 0, 0⟩
def PORTS_BAD_ADDR_COUNT : Field := ⟨0x07C, 15, 0, 0⟩
def PORTS_BCAST_MISS_COUNT : Field := ⟨0x080, 15, 0, 0⟩
/-! Page MODE (R132, R133). -/
def MODE_HAND_CFG_VALID : Field := ⟨0x040, 31, 31, 4⟩
def MODE_HAND_CFG_POS_KIND : Field := ⟨0x040, 27, 26, 4⟩
def MODE_HAND_CFG_POS_CLUSTER : Field := ⟨0x040, 23, 20, 4⟩
def MODE_HAND_CFG_MEMBERS : Field := ⟨0x040, 15, 0, 4⟩
def MODE_HAND_SPEED_SPEED : Field := ⟨0x080, 31, 0, 4⟩
def MODE_HAND_CMD_CMD : Field := ⟨0x0C0, 3, 0, 4⟩
def MODE_HAND_DEALCFG_LEADIN : Field := ⟨0x100, 31, 24, 4⟩
def MODE_HAND_DEALCFG_END_PIN : Field := ⟨0x100, 20, 20, 4⟩
def MODE_HAND_DEALCFG_START_PIN : Field := ⟨0x100, 19, 19, 4⟩
def MODE_HAND_DEALCFG_PIN_EDGE : Field := ⟨0x100, 18, 18, 4⟩
def MODE_HAND_DEALCFG_PIN_TILE : Field := ⟨0x100, 15, 12, 4⟩
def MODE_HAND_DEALCFG_PIN_SEL : Field := ⟨0x100, 3, 0, 4⟩
def MODE_HAND_MAXLINES_MAX_LINES : Field := ⟨0x140, 31, 0, 4⟩
def MODE_HAND_NEXT_NEXT : Field := ⟨0x180, 31, 0, 4⟩
def MODE_HAND_DEAL_DEAL : Field := ⟨0x1C0, 31, 0, 4⟩
def MODE_HAND_STAT_QUEUED : Field := ⟨0x200, 14, 12, 4⟩
def MODE_HAND_STAT_ISL_MEMBER : Field := ⟨0x200, 11, 11, 4⟩
def MODE_HAND_STAT_MEMBER_LOST : Field := ⟨0x200, 10, 10, 4⟩
def MODE_HAND_STAT_HOLD_PACE : Field := ⟨0x200, 9, 9, 4⟩
def MODE_HAND_STAT_HOLD_HOST : Field := ⟨0x200, 8, 8, 4⟩
def MODE_HAND_STAT_LEADIN : Field := ⟨0x200, 7, 7, 4⟩
def MODE_HAND_STAT_DRAINING : Field := ⟨0x200, 6, 6, 4⟩
def MODE_HAND_STAT_DEAL_OPEN : Field := ⟨0x200, 5, 5, 4⟩
def MODE_HAND_STAT_ARMED : Field := ⟨0x200, 4, 4, 4⟩
def MODE_HAND_STAT_STATE : Field := ⟨0x200, 2, 0, 4⟩
def MODE_HAND_LINES_LINES : Field := ⟨0x240, 31, 0, 4⟩
def MODE_TILE_MODE_PREP_ERR : Field := ⟨0x280, 15, 12, 4⟩
def MODE_TILE_MODE_PREP_BUSY : Field := ⟨0x280, 9, 9, 4⟩
def MODE_TILE_MODE_PREPARED : Field := ⟨0x280, 8, 8, 4⟩
def MODE_TILE_MODE_MODE : Field := ⟨0x280, 2, 0, 4⟩
def MODE_TILE_CMD_DORM : Field := ⟨0x2A0, 15, 8, 0⟩
def MODE_TILE_CMD_PREP : Field := ⟨0x2A0, 7, 0, 0⟩
def MODE_ISLAND_EN_EN : Field := ⟨0x2A4, 7, 0, 0⟩
/-! Page GUARD (R123). -/
def GUARD_ENTRY_VALID : Field := ⟨0x040, 31, 31, 4⟩
def GUARD_ENTRY_TILE : Field := ⟨0x040, 27, 24, 4⟩
def GUARD_ENTRY_PAGE : Field := ⟨0x040, 15, 8, 4⟩
def GUARD_ENTRY_SEM : Field := ⟨0x040, 5, 0, 4⟩
def GUARD_BLOCKED_A_COUNT : Field := ⟨0x140, 15, 0, 0⟩
def GUARD_BLOCKED_B_COUNT : Field := ⟨0x144, 15, 0, 0⟩
/-! Page FAULTLOG (R526). -/
def FAULTLOG_HEAD_SEQ : Field := ⟨0x040, 31, 0, 0⟩
def FAULTLOG_HELD_COUNT : Field := ⟨0x044, 10, 0, 0⟩
def FAULTLOG_OVERWRITTEN_COUNT : Field := ⟨0x048, 15, 0, 0⟩
/-! Page ISLAND (R525). -/
def ISLAND_STAT_ISLAND : Field := ⟨0x040, 31, 24, 0⟩
def ISLAND_STAT_UNREACH : Field := ⟨0x040, 23, 16, 0⟩
def ISLAND_STAT_SEGMENT : Field := ⟨0x040, 15, 8, 0⟩
def ISLAND_STAT_ISL_VIEW : Field := ⟨0x040, 0, 0, 0⟩
def ISLAND_CAUSE_PART : Field := ⟨0x044, 15, 8, 0⟩
def ISLAND_CAUSE_LINK : Field := ⟨0x044, 7, 0, 0⟩
def ISLAND_PARTITIONS_COUNT : Field := ⟨0x048, 15, 0, 0⟩
def ISLAND_REJOINS_COUNT : Field := ⟨0x04C, 15, 0, 0⟩
def ISLAND_CUT_T_LO_N : Field := ⟨0x050, 31, 0, 0⟩
def ISLAND_CUT_T_HI_N : Field := ⟨0x054, 31, 0, 0⟩
def ISLAND_JOIN_T_LO_N : Field := ⟨0x058, 31, 0, 0⟩
def ISLAND_JOIN_T_HI_N : Field := ⟨0x05C, 31, 0, 0⟩
def ISLAND_SPILL_CELLS : Field := ⟨0x060, 28, 0, 4⟩
end F

end Sys2Proof.Machine
end

