-- ==== Sys2Proof/Machine/RegMap.lean ====
section
/-! DEFINITION. The register map (R92, R94, R570–R573): every register of every page with the bits of each access code and its reset
value, copied from the field maps. `rw`, `rws`, `w1c` are the bits of those codes, `act` the W1S and WO bits (a write starts an action).
Bits in none of the masks are RO or "—". -/

namespace Sys2Proof.Machine

/-- One register, or one indexed family of `count` registers `stride` bytes apart. -/
structure RegRow where
  off : Nat
  stride : Nat
  count : Nat
  rw : Nat
  rws : Nat
  w1c : Nat
  act : Nat
  reset : Nat
deriving DecidableEq, Repr

namespace Map

/-- Page TILE: R128. -/
def TILE : List RegRow :=
  [⟨0x080, 0, 1, 0x0, 0x0, 0x0, 0x0, 0x0⟩,
   ⟨0x084, 0, 1, 0x0, 0x0, 0x0, 0x0, 0x0⟩,
   ⟨0x088, 0, 1, 0x0, 0x0, 0x0, 0x0, 0x0⟩,
   ⟨0x08C, 0, 1, 0x0, 0x0, 0x0, 0x0, 0x0⟩]

/-- Page PWR: R65, R66, R67, R68, R69. RAIL_STAT holds 0xF1 until the rails are reported, the model's choice (log entry 125). -/
def PWR : List RegRow :=
  [⟨0x040, 0, 1, 0xF9FFC, 0x0, 0x0, 0x0, 0x7⟩,
   ⟨0x044, 0, 1, 0x0, 0x0, 0x0, 0x0, 0x3⟩,
   ⟨0x048, 0, 1, 0xF, 0x0, 0x0, 0x0, 0x0⟩,
   ⟨0x04C, 0, 1, 0x6FFFF, 0x0, 0x0, 0x0, 0x40000⟩,
   ⟨0x050, 0, 1, 0x0, 0x0, 0x0, 0x0, 0x0⟩,
   ⟨0x054, 0, 1, 0x0, 0x0, 0x7F, 0x0, 0x1⟩,
   ⟨0x058, 0, 1, 0x0, 0x0, 0x0, 0xFFFF0001, 0x0⟩,
   ⟨0x05C, 0, 1, 0x1, 0x0, 0x0, 0x0, 0x0⟩,
   ⟨0x060, 0, 1, 0x0, 0x0, 0x0, 0x0, 0xF1⟩,
   ⟨0x064, 0, 1, 0x0, 0x0, 0x0, 0x0, 0x0⟩]

/-- Page CLK: R75. -/
def CLK : List RegRow :=
  [⟨0x040, 0, 1, 0x0, 0x0, 0x0, 0x0, 0x0⟩]

/-- Page TB: R82. -/
def TB : List RegRow :=
  [⟨0x040, 0, 1, 0xC, 0x0, 0x0, 0x3, 0x0⟩,
   ⟨0x044, 0, 1, 0x0, 0x0, 0x0, 0x0, 0x0⟩,
   ⟨0x048, 0, 1, 0x0, 0x0, 0x0, 0x0, 0x0⟩,
   ⟨0x04C, 0, 1, 0x0, 0x0, 0x0, 0x0, 0x0⟩,
   ⟨0x050, 0, 1, 0xFFFFFFFF, 0x0, 0x0, 0x0, 0x0⟩,
   ⟨0x054, 0, 1, 0xFFFFFFFF, 0x0, 0x0, 0x0, 0x0⟩,
   ⟨0x058, 0, 1, 0xFFFFFFFF, 0x0, 0x0, 0x0, 0x0⟩,
   ⟨0x05C, 0, 1, 0xFFFFFFFF, 0x0, 0x0, 0x0, 0x0⟩,
   ⟨0x060, 0, 1, 0x0, 0x0, 0x0, 0x0, 0x0⟩,
   ⟨0x064, 0, 1, 0x0, 0x0, 0x0, 0x0, 0x0⟩,
   ⟨0x068, 0, 1, 0x0, 0x0, 0x0, 0x0, 0x0⟩]

/-- Page RING: R523. -/
def RING : List RegRow :=
  [⟨0x040, 0, 1, 0x3, 0x0, 0x0, 0x0, 0x3⟩,
   ⟨0x044, 0, 1, 0x0, 0x0, 0x0, 0x0, 0x0⟩,
   ⟨0x048, 0, 1, 0x0, 0x0, 0x0, 0x0, 0x0⟩,
   ⟨0x04C, 0, 1, 0x0, 0x0, 0x0, 0x0, 0x0⟩,
   ⟨0x050, 0, 1, 0x0, 0x0, 0x0, 0x0, 0x0⟩,
   ⟨0x054, 0, 1, 0x0, 0x0, 0x0, 0x0, 0x0⟩,
   ⟨0x058, 0, 1, 0x0, 0x0, 0x0, 0x0, 0x0⟩]

/-- Page DECL: R524. -/
def DECL : List RegRow :=
  [⟨0x040, 0, 1, 0x0, 0x0, 0x0, 0x0, 0xF00000⟩,
   ⟨0x044, 0, 1, 0x0, 0x0, 0x0, 0x0, 0x0⟩,
   ⟨0x048, 0, 1, 0x800000FF, 0x0, 0x0, 0x0, 0x8000000A⟩,
   ⟨0x04C, 0, 1, 0xF, 0x0, 0x0, 0x0, 0x3⟩,
   ⟨0x050, 0, 1, 0x0, 0x0, 0x0, 0xFF, 0x0⟩,
   ⟨0x054, 0, 1, 0x0, 0x0, 0x0, 0x0, 0x0⟩,
   ⟨0x058, 0, 1, 0x0, 0x0, 0x0, 0x0, 0x0⟩,
   ⟨0x05C, 0, 1, 0x0, 0x0, 0x0, 0x0, 0x0⟩,
   ⟨0x060, 0, 1, 0x0, 0x0, 0x0, 0x0, 0x0⟩,
   ⟨0x064, 0, 1, 0x0, 0x0, 0x0, 0x0, 0x0⟩,
   ⟨0x068, 0, 1, 0x0, 0x0, 0x0, 0x0, 0x0⟩]

/-- Page SPORT: R168. -/
def SPORT : List RegRow :=
  [⟨0x040, 0, 1, 0xFF303F03, 0x0, 0x0, 0x0, 0x0⟩,
   ⟨0x044, 0, 1, 0xFF, 0x0, 0x0, 0x0, 0x8⟩,
   ⟨0x048, 0, 1, 0xFFF0FFF, 0x0, 0x0, 0x0, 0x0⟩,
   ⟨0x04C, 0, 1, 0xFFFFFFFF, 0x0, 0x0, 0x0, 0x0⟩,
   ⟨0x050, 0, 1, 0xFFFFFFFF, 0x0, 0x0, 0x0, 0x0⟩,
   ⟨0x054, 4, 6, 0x0, 0x3FF13FF, 0x0, 0x0, 0x1000⟩,
   ⟨0x06C, 0, 1, 0x0, 0x1, 0x0, 0x0, 0x1⟩,
   ⟨0x070, 0, 1, 0x0, 0x0, 0x0, 0x0, 0x0⟩,
   ⟨0x074, 0, 1, 0x0, 0x0, 0x0, 0x0, 0x0⟩,
   ⟨0x078, 0, 1, 0x0, 0x0, 0x0, 0x0, 0x0⟩,
   ⟨0x080, 0, 1, 0xFFFF071F, 0x0, 0x0, 0x0, 0x702⟩,
   ⟨0x084, 0, 1, 0xFFFFFFFF, 0x0, 0x0, 0x0, 0xFFFF⟩,
   ⟨0x088, 0, 1, 0xFFFFFFFF, 0x0, 0x0, 0x0, 0x8000000⟩,
   ⟨0x08C, 0, 1, 0xFFFFFFFF, 0x0, 0x0, 0x0, 0xFFFF0900⟩,
   ⟨0x090, 0, 1, 0xFFFFF, 0x0, 0x0, 0x0, 0x0⟩,
   ⟨0x094, 0, 1, 0xFFFF0000, 0x0, 0x0, 0x1, 0xF0F0000⟩,
   ⟨0x098, 0, 1, 0x0, 0x0, 0x0, 0x0, 0x0⟩,
   ⟨0x0A0, 4, 8, 0x0, 0x0, 0x0, 0x0, 0x0⟩,
   ⟨0x0C0, 4, 16, 0xFFFF07, 0x0, 0x0, 0x0, 0x0⟩,
   ⟨0x100, 0, 1, 0xFF, 0x0, 0x0, 0x0, 0x0⟩,
   ⟨0x104, 0, 1, 0xFF05, 0x0, 0x0, 0x0, 0x400⟩,
   ⟨0x108, 0, 1, 0x0, 0x1, 0x0, 0x0, 0x0⟩,
   ⟨0x10C, 0, 1, 0x0, 0x0, 0x0, 0x0, 0x0⟩,
   ⟨0x110, 0, 1, 0x0, 0x0, 0x0, 0x0, 0x0⟩,
   ⟨0x114, 0, 1, 0x0, 0x0, 0x0, 0x0, 0x0⟩,
   ⟨0x118, 0, 1, 0x0, 0x0, 0x0, 0x0, 0x0⟩]

/-- Page DEAL: R177. -/
def DEAL : List RegRow :=
  [⟨0x040, 0, 1, 0x73, 0x0, 0x0, 0x0, 0x0⟩,
   ⟨0x044, 0, 1, 0xFFFFF, 0x0, 0x0, 0x0, 0xC350⟩,
   ⟨0x048, 0, 1, 0xFFFFF, 0x0, 0x0, 0x0, 0x0⟩,
   ⟨0x04C, 0, 1, 0x7, 0x0, 0x0, 0x0, 0x1⟩,
   ⟨0x050, 0, 1, 0xFFFFF, 0x0, 0x0, 0x0, 0x0⟩,
   ⟨0x054, 0, 1, 0xFFFFF, 0x0, 0x0, 0x0, 0x0⟩,
   ⟨0x058, 0, 1, 0xFFFFF, 0x0, 0x0, 0x0, 0x0⟩,
   ⟨0x05C, 0, 1, 0xFF, 0x0, 0x0, 0x0, 0x2⟩,
   ⟨0x060, 0, 1, 0xFFFFF, 0x0, 0x0, 0x0, 0x3E8⟩,
   ⟨0x064, 0, 1, 0xFFFFF, 0x0, 0x0, 0x0, 0x0⟩,
   ⟨0x06C, 0, 1, 0x0, 0x0, 0x0, 0x0, 0x0⟩,
   ⟨0x070, 0, 1, 0x0, 0x0, 0x0, 0x0, 0x0⟩,
   ⟨0x074, 0, 1, 0x0, 0x0, 0x0, 0x0, 0x0⟩,
   ⟨0x078, 0, 1, 0x0, 0x0, 0x0, 0x0, 0x0⟩,
   ⟨0x07C, 0, 1, 0x0, 0x0, 0x0, 0x0, 0x0⟩,
   ⟨0x080, 0, 1, 0x0, 0x0, 0x0, 0x0, 0x0⟩,
   ⟨0x084, 0, 1, 0x0, 0x0, 0x0, 0x0, 0x0⟩]

/-- Page VC: R205. -/
def VC : List RegRow :=
  [⟨0x040, 0, 1, 0x7, 0x0, 0x0, 0x0, 0x0⟩,
   ⟨0x044, 0, 1, 0x0, 0x1F01, 0x0, 0x0, 0xC01⟩,
   ⟨0x048, 0, 1, 0x0, 0xFFFF, 0x0, 0x0, 0x64⟩,
   ⟨0x04C, 0, 1, 0x0, 0xFFF, 0x0, 0x0, 0x100⟩,
   ⟨0x050, 0, 1, 0x0, 0xFFF, 0x0, 0x0, 0x28F⟩,
   ⟨0x054, 0, 1, 0x0, 0xFF, 0x0, 0x0, 0x20⟩,
   ⟨0x058, 0, 1, 0x0, 0xFF, 0x0, 0x0, 0x20⟩,
   ⟨0x05C, 0, 1, 0x0, 0x0, 0x0, 0x1, 0x0⟩,
   ⟨0x060, 0, 1, 0x0, 0x0, 0x0, 0x0, 0x0⟩,
   ⟨0x064, 0, 1, 0x1FFFF, 0x0, 0x0, 0x0, 0x0⟩,
   ⟨0x068, 0, 1, 0x0, 0x0, 0x0, 0x0, 0x0⟩,
   ⟨0x06C, 0, 1, 0x0, 0x0, 0x0, 0x0, 0x0⟩,
   ⟨0x080, 16, 6, 0x0, 0x0, 0x0, 0x0, 0xFFFFF⟩,
   ⟨0x084, 16, 6, 0x0, 0x0, 0x0, 0x0, 0x0⟩,
   ⟨0x088, 16, 6, 0x0, 0x0, 0x0, 0x0, 0x0⟩]

/-- Page ACC: R231. -/
def ACC : List RegRow :=
  [⟨0x040, 0, 1, 0x1, 0x0, 0x0, 0x0, 0x0⟩,
   ⟨0x044, 0, 1, 0xFFFFFFFF, 0x0, 0x0, 0x0, 0x10000⟩,
   ⟨0x048, 0, 1, 0xFFFFFFFF, 0x0, 0x0, 0x0, 0x0⟩,
   ⟨0x04C, 0, 1, 0x0, 0x7FFF007F, 0x0, 0x0, 0x800010⟩,
   ⟨0x050, 0, 1, 0x3FF, 0x0, 0x0, 0x0, 0x10⟩,
   ⟨0x060, 0, 1, 0x0, 0x0, 0x0, 0x0, 0x0⟩,
   ⟨0x064, 0, 1, 0x0, 0x0, 0x0, 0x0, 0x0⟩,
   ⟨0x068, 0, 1, 0x0, 0x0, 0x0, 0x0, 0x0⟩,
   ⟨0x06C, 0, 1, 0x0, 0x0, 0x0, 0x0, 0x0⟩,
   ⟨0x070, 0, 1, 0x0, 0x0, 0x0, 0x0, 0x0⟩,
   ⟨0x074, 0, 1, 0x0, 0x0, 0x0, 0x0, 0x0⟩,
   ⟨0x078, 0, 1, 0x0, 0x0, 0x0, 0x0, 0x0⟩,
   ⟨0x07C, 0, 1, 0x0, 0x0, 0x0, 0x0, 0x0⟩,
   ⟨0x080, 0, 1, 0x0, 0x0, 0x0, 0x0, 0x0⟩,
   ⟨0x084, 0, 1, 0x0, 0x0, 0x0, 0x0, 0x0⟩,
   ⟨0x088, 0, 1, 0x0, 0x0, 0x0, 0x0, 0x0⟩,
   ⟨0x08C, 0, 1, 0x0, 0x0, 0x0, 0x0, 0x0⟩,
   ⟨0x090, 0, 1, 0x0, 0x0, 0x0, 0x0, 0x0⟩,
   ⟨0x094, 0, 1, 0x0, 0x0, 0x0, 0x0, 0x0⟩,
   ⟨0x098, 0, 1, 0x0, 0x0, 0x0, 0x0, 0x0⟩,
   ⟨0x09C, 0, 1, 0x0, 0x0, 0x0, 0x0, 0x0⟩,
   ⟨0x0A0, 0, 1, 0x0, 0x0, 0x0, 0x0, 0x0⟩,
   ⟨0x0C0, 0, 1, 0x0, 0x0, 0x0, 0x0, 0x0⟩,
   ⟨0x0C4, 0, 1, 0x0, 0x0, 0x0, 0x0, 0x0⟩,
   ⟨0x0C8, 0, 1, 0x0, 0x0, 0x0, 0x0, 0x0⟩,
   ⟨0x0CC, 0, 1, 0x0, 0x0, 0x0, 0x0, 0x0⟩]

/-- Page SHD: R262. -/
def SHD : List RegRow :=
  [⟨0x040, 0, 1, 0x700, 0xF001F, 0x0, 0x0, 0x6001F⟩,
   ⟨0x044, 0, 1, 0x0, 0x1FFFF, 0x0, 0x0, 0x0⟩,
   ⟨0x048, 0, 1, 0x0, 0x1FFF, 0x0, 0x0, 0x0⟩,
   ⟨0x04C, 0, 1, 0xFFFF, 0x0, 0x0, 0x0, 0x0⟩,
   ⟨0x050, 4, 6, 0x0, 0xFFFF, 0x0, 0x0, 0x8000⟩,
   ⟨0x070, 4, 6, 0x0, 0x0, 0x0, 0x0, 0x8000⟩,
   ⟨0x090, 4, 6, 0x0, 0x0, 0x0, 0x0, 0x0⟩,
   ⟨0x0B0, 0, 1, 0x0, 0x0, 0x0, 0x0, 0x0⟩,
   ⟨0x0C0, 0, 1, 0x0, 0x0, 0x0, 0x0, 0x0⟩,
   ⟨0x0C4, 0, 1, 0x0, 0x0, 0x0, 0x0, 0x0⟩,
   ⟨0x0C8, 0, 1, 0x0, 0x0, 0x0, 0x0, 0x0⟩,
   ⟨0x0CC, 0, 1, 0x0, 0x0, 0x0, 0x0, 0x0⟩,
   ⟨0x0D0, 0, 1, 0x0, 0x0, 0x0, 0x0, 0x0⟩,
   ⟨0x0D4, 0, 1, 0x0, 0x0, 0x0, 0x0, 0x0⟩,
   ⟨0x0D8, 0, 1, 0x0, 0x0, 0x0, 0x0, 0x0⟩,
   ⟨0x0DC, 0, 1, 0x0, 0x0, 0x0, 0x0, 0x0⟩,
   ⟨0x100, 0, 1, 0x1, 0x0, 0x0, 0x0, 0x0⟩,
   ⟨0x104, 0, 1, 0x71FFFF, 0x0, 0x0, 0x0, 0x0⟩,
   ⟨0x108, 0, 1, 0xFFFF, 0x0, 0x0, 0x0, 0x0⟩,
   ⟨0x10C, 0, 1, 0xFFFFFFFF, 0x0, 0x0, 0x0, 0x0⟩,
   ⟨0x110, 4, 6, 0xFFFFF, 0x0, 0x0, 0x0, 0x0⟩]

/-- Page CAL: R264. -/
def CAL : List RegRow :=
  [⟨0x040, 0, 1, 0x100, 0x73, 0x0, 0x0, 0x1⟩,
   ⟨0x044, 0, 1, 0x0, 0xFFFF, 0x0, 0x0, 0x8000⟩,
   ⟨0x048, 0, 1, 0xFFFF, 0x0, 0x0, 0x0, 0xEA60⟩,
   ⟨0x04C, 0, 1, 0xFFFFFFFF, 0x0, 0x0, 0x0, 0xC0002000⟩,
   ⟨0x050, 0, 1, 0xFFFFFFFF, 0x0, 0x0, 0x0, 0x10000800⟩,
   ⟨0x054, 0, 1, 0x0, 0x0, 0x0, 0x7, 0x0⟩,
   ⟨0x058, 0, 1, 0x0, 0x0, 0x0, 0x0, 0x0⟩,
   ⟨0x05C, 0, 1, 0x0, 0x0, 0x0, 0x0, 0x0⟩,
   ⟨0x060, 0, 1, 0x0, 0x0, 0x0, 0x0, 0x0⟩,
   ⟨0x064, 0, 1, 0x0, 0x0, 0x0, 0x0, 0x0⟩,
   ⟨0x068, 0, 1, 0x0, 0x0, 0x0, 0x0, 0x0⟩,
   ⟨0x06C, 0, 1, 0x0, 0x0, 0x0, 0x0, 0x0⟩,
   ⟨0x070, 0, 1, 0x0, 0x0, 0x0, 0x0, 0x0⟩,
   ⟨0x074, 0, 1, 0x0, 0x0, 0x0, 0x0, 0x0⟩,
   ⟨0x078, 0, 1, 0x0, 0x0, 0x0, 0x0, 0x0⟩,
   ⟨0x07C, 0, 1, 0x0, 0x0, 0x0, 0x0, 0x0⟩]

/-- Page MELD: R294. -/
def MELD : List RegRow :=
  [⟨0x040, 64, 2, 0x8F8F0001, 0x0, 0x0, 0x0, 0x0⟩,
   ⟨0x044, 64, 2, 0x1FFFFF, 0x0, 0x0, 0x0, 0x0⟩,
   ⟨0x048, 64, 2, 0x1FFF1FFF, 0x0, 0x0, 0x0, 0x0⟩,
   ⟨0x04C, 64, 2, 0x0, 0x1FFF1FFF, 0x0, 0x0, 0x0⟩,
   ⟨0x050, 64, 2, 0x0, 0x0, 0x0, 0x0, 0x0⟩,
   ⟨0x054, 64, 2, 0x0, 0x0, 0x0, 0x0, 0x0⟩,
   ⟨0x058, 64, 2, 0x0, 0x0, 0x0, 0x0, 0x0⟩,
   ⟨0x05C, 64, 2, 0x0, 0x0, 0x0, 0x0, 0x0⟩,
   ⟨0x060, 64, 2, 0x0, 0x0, 0x0, 0x0, 0x0⟩,
   ⟨0x100, 0, 1, 0xFFFFF000, 0x0, 0x0, 0x0, 0x0⟩,
   ⟨0x104, 0, 1, 0xFFFFFFFF, 0x0, 0x0, 0x0, 0x0⟩,
   ⟨0x108, 0, 1, 0xFFFF0FFF, 0x0, 0x0, 0x0, 0x8⟩,
   ⟨0x10C, 0, 1, 0x0, 0x7F, 0x0, 0x0, 0x14⟩,
   ⟨0x110, 0, 1, 0x0, 0x0, 0x0, 0x0, 0x0⟩]

/-- Page OUTF: R295. -/
def OUTF : List RegRow :=
  [⟨0x040, 16, 8, 0x0, 0x80013F0F, 0x0, 0x0, 0x103⟩,
   ⟨0x044, 16, 8, 0x0, 0x0, 0x0, 0x0, 0x0⟩,
   ⟨0x048, 16, 8, 0x0, 0x0, 0x0, 0x0, 0x0⟩,
   ⟨0x04C, 16, 8, 0x0, 0x0, 0x0, 0x0, 0x0⟩,
   ⟨0x0C0, 0, 1, 0x0, 0x303, 0x0, 0x0, 0x0⟩]

/-- Page CHK: R296. -/
def CHK : List RegRow :=
  [⟨0x040, 0, 1, 0x1, 0x0, 0x0, 0x0, 0x1⟩,
   ⟨0x044, 0, 1, 0x0, 0x0, 0x0, 0x1, 0x0⟩,
   ⟨0x048, 0, 1, 0x0, 0x0, 0x0, 0x0, 0x0⟩,
   ⟨0x050, 0, 1, 0x0, 0x0, 0x0, 0x0, 0x0⟩,
   ⟨0x054, 0, 1, 0x0, 0x0, 0x0, 0x0, 0x0⟩,
   ⟨0x060, 0, 1, 0x0, 0x0, 0x0, 0x0, 0x0⟩,
   ⟨0x064, 0, 1, 0x0, 0x0, 0x0, 0x0, 0x0⟩,
   ⟨0x070, 0, 1, 0x0, 0x0, 0x0, 0x0, 0x0⟩,
   ⟨0x074, 0, 1, 0x0, 0x0, 0x0, 0x0, 0x0⟩,
   ⟨0x078, 0, 1, 0x0, 0x0, 0x0, 0x0, 0x0⟩,
   ⟨0x07C, 0, 1, 0x0, 0x0, 0x0, 0x0, 0x0⟩,
   ⟨0x080, 0, 1, 0x0, 0x0, 0x0, 0x0, 0x0⟩,
   ⟨0x084, 0, 1, 0x0, 0x0, 0x0, 0x0, 0x0⟩,
   ⟨0x088, 0, 1, 0x0, 0x0, 0x0, 0x1, 0x0⟩]

/-- Page QUE: R325. -/
def QUE : List RegRow :=
  [⟨0x040, 0, 1, 0x0, 0x0, 0x0, 0xFF1F, 0x0⟩,
   ⟨0x044, 0, 1, 0x0, 0x0, 0x0, 0x0, 0x0⟩,
   ⟨0x048, 4, 8, 0x0, 0x0, 0x0, 0x0, 0x0⟩,
   ⟨0x100, 32, 32, 0xFFFF1F1F, 0x0, 0x0, 0x0, 0x10⟩,
   ⟨0x104, 32, 32, 0x0, 0x0, 0x0, 0x0, 0x1⟩,
   ⟨0x108, 32, 32, 0x0, 0x0, 0x0, 0x0, 0x0⟩,
   ⟨0x10C, 32, 32, 0x0, 0x0, 0x0, 0x0, 0x0⟩,
   ⟨0x110, 32, 32, 0x0, 0x0, 0x0, 0x0, 0x0⟩,
   ⟨0x114, 32, 32, 0x0, 0x0, 0x0, 0x0, 0x0⟩,
   ⟨0x118, 32, 32, 0x0, 0x0, 0x0, 0x0, 0x0⟩,
   ⟨0x11C, 32, 32, 0x0, 0x0, 0x0, 0x0, 0x0⟩]

/-- Page KITTY: R326. -/
def KITTY : List RegRow :=
  [⟨0x040, 0, 1, 0x0, 0x0, 0x0, 0x0, 0x8000⟩,
   ⟨0x044, 0, 1, 0x0, 0x0, 0x0, 0x0, 0x0⟩,
   ⟨0x048, 0, 1, 0xFFFFF000, 0x0, 0x0, 0x0, 0x0⟩,
   ⟨0x04C, 0, 1, 0xFFFFFFFF, 0x0, 0x0, 0x0, 0x0⟩,
   ⟨0x050, 0, 1, 0x1FFFFFFF, 0x0, 0x0, 0x0, 0x0⟩,
   ⟨0x054, 0, 1, 0x0, 0x0, 0x0, 0x0, 0x0⟩,
   ⟨0x058, 0, 1, 0x1FFFFFFF, 0x0, 0x0, 0x0, 0x100000⟩,
   ⟨0x05C, 0, 1, 0x0, 0x0, 0x0, 0x0, 0x0⟩,
   ⟨0x060, 0, 1, 0x0, 0x0, 0x0, 0xF, 0x0⟩,
   ⟨0x064, 0, 1, 0x0, 0x0, 0x0, 0x0, 0x1⟩,
   ⟨0x068, 0, 1, 0x0, 0x0, 0x0, 0x0, 0x0⟩,
   ⟨0x06C, 0, 1, 0x0, 0x0, 0x0, 0x0, 0x0⟩]

/-- Page DMA: R491. -/
def DMA : List RegRow :=
  [⟨0x040, 0, 1, 0xFFFFFFFF, 0x0, 0x0, 0x0, 0x10000⟩,
   ⟨0x044, 0, 1, 0xFFFFF, 0x0, 0x0, 0x0, 0x3E8⟩,
   ⟨0x048, 0, 1, 0x0, 0x0, 0x0, 0x0, 0x0⟩,
   ⟨0x060, 4, 8, 0x1FF000F, 0x0, 0x0, 0x0, 0x100000C⟩,
   ⟨0x100, 64, 16, 0xFFFF0003, 0x0, 0x0, 0x0, 0x100A0000⟩,
   ⟨0x104, 64, 16, 0xFFFFFFE0, 0x0, 0x0, 0x0, 0x0⟩,
   ⟨0x108, 64, 16, 0xFFFFFFFF, 0x0, 0x0, 0x0, 0x0⟩,
   ⟨0x10C, 64, 16, 0x0, 0x0, 0x0, 0x7, 0x0⟩,
   ⟨0x110, 64, 16, 0x0, 0x0, 0x0, 0x0, 0x0⟩,
   ⟨0x114, 64, 16, 0x0, 0x0, 0x0, 0x0, 0x0⟩,
   ⟨0x118, 64, 16, 0x0, 0x0, 0x0, 0x0, 0x0⟩,
   ⟨0x11C, 64, 16, 0x0, 0x0, 0x0, 0x0, 0x0⟩,
   ⟨0x120, 64, 16, 0x0, 0x0, 0x0, 0x0, 0x0⟩,
   ⟨0x124, 64, 16, 0x0, 0x0, 0x0, 0x0, 0x0⟩,
   ⟨0x128, 64, 16, 0x0, 0x0, 0x0, 0x0, 0x0⟩,
   ⟨0x12C, 64, 16, 0x0, 0x0, 0x0, 0x0, 0x0⟩,
   ⟨0x130, 64, 16, 0x0, 0x0, 0x0, 0x0, 0x0⟩]

/-- Page DRAM: R492. -/
def DRAM : List RegRow :=
  [⟨0x040, 0, 1, 0xF130700, 0x0, 0x0, 0x0, 0x0⟩,
   ⟨0x044, 0, 1, 0x1F0001, 0x0, 0x0, 0x0, 0x0⟩,
   ⟨0x048, 0, 1, 0x0, 0x0, 0x0, 0x0, 0x0⟩,
   ⟨0x04C, 0, 1, 0xFFFFFFFF, 0x0, 0x0, 0x0, 0xC80000⟩,
   ⟨0x050, 0, 1, 0xFFFF, 0x0, 0x0, 0x0, 0x64⟩,
   ⟨0x054, 0, 1, 0xFFFF, 0x0, 0x0, 0x0, 0x4B32⟩,
   ⟨0x058, 0, 1, 0xFFFF, 0x0, 0x0, 0x0, 0x7D0⟩,
   ⟨0x060, 0, 1, 0xFFFFFFFF, 0x0, 0x0, 0x0, 0x1000⟩,
   ⟨0x064, 0, 1, 0xFFFFFFFF, 0x0, 0x0, 0x0, 0x0⟩,
   ⟨0x068, 0, 1, 0xFFFFFFFF, 0x0, 0x0, 0x0, 0x2000⟩,
   ⟨0x06C, 0, 1, 0xFFFFFFFF, 0x0, 0x0, 0x0, 0x0⟩,
   ⟨0x070, 0, 1, 0xFFFFFFFF, 0x0, 0x0, 0x0, 0x4000⟩,
   ⟨0x074, 0, 1, 0xFFFFFFFF, 0x0, 0x0, 0x0, 0x0⟩,
   ⟨0x078, 0, 1, 0xFFFFFFFF, 0x0, 0x0, 0x0, 0x4000⟩,
   ⟨0x07C, 0, 1, 0xFFFFFFFF, 0x0, 0x0, 0x0, 0x0⟩,
   ⟨0x080, 0, 1, 0xFFFFFFFF, 0x0, 0x0, 0x0, 0x8000⟩,
   ⟨0x084, 0, 1, 0xFFFFFFFF, 0x0, 0x0, 0x0, 0x0⟩,
   ⟨0x0A0, 0, 1, 0x0, 0x0, 0x0, 0x0, 0x0⟩,
   ⟨0x0A4, 0, 1, 0x0, 0x0, 0x0, 0x0, 0x0⟩,
   ⟨0x0A8, 0, 1, 0x0, 0x0, 0x0, 0x0, 0x0⟩,
   ⟨0x0B0, 0, 1, 0x0, 0x0, 0x0, 0x0, 0x0⟩,
   ⟨0x0B4, 0, 1, 0x0, 0x0, 0x0, 0x0, 0x0⟩,
   ⟨0x0B8, 0, 1, 0x0, 0x0, 0x0, 0x0, 0x0⟩,
   ⟨0x0BC, 0, 1, 0x0, 0x0, 0x0, 0x0, 0x0⟩,
   ⟨0x0C0, 0, 1, 0x0, 0x0, 0x0, 0x0, 0x0⟩,
   ⟨0x0C4, 0, 1, 0x0, 0x0, 0x0, 0x0, 0x0⟩,
   ⟨0x0C8, 0, 1, 0x0, 0x0, 0x0, 0x0, 0x0⟩,
   ⟨0x0CC, 0, 1, 0x0, 0x0, 0x0, 0x0, 0x0⟩,
   ⟨0x0D0, 0, 1, 0x0, 0x0, 0x0, 0x0, 0x0⟩]

/-- Page HOSTP: R458. -/
def HOSTP : List RegRow :=
  [⟨0x040, 0, 1, 0x80133703, 0x0, 0x0, 0x0, 0x22000⟩,
   ⟨0x044, 0, 1, 0x0, 0x0, 0x0, 0x1, 0x0⟩,
   ⟨0x048, 0, 1, 0x0, 0x0, 0x0, 0x0, 0x0⟩]

/-- Page PCIE: R459. -/
def PCIE : List RegRow :=
  [⟨0x040, 0, 1, 0x0, 0x0, 0x0, 0x0, 0x1FC7⟩,
   ⟨0x044, 0, 1, 0x0, 0x0, 0x0, 0x0, 0x200000⟩,
   ⟨0x048, 0, 1, 0x0, 0x0, 0x0, 0x0, 0x0⟩,
   ⟨0x04C, 0, 1, 0x0, 0x0, 0x0, 0x0, 0x0⟩,
   ⟨0x050, 0, 1, 0x0, 0x0, 0x0, 0x0, 0x0⟩,
   ⟨0x054, 0, 1, 0x0, 0x0, 0x0, 0x0, 0x0⟩,
   ⟨0x100, 32, 32, 0xFFFFF000, 0x0, 0x0, 0x0, 0x0⟩,
   ⟨0x104, 32, 32, 0xFFFFFFFF, 0x0, 0x0, 0x0, 0x0⟩,
   ⟨0x108, 32, 32, 0x8001001F, 0x0, 0x0, 0x0, 0x6⟩,
   ⟨0x10C, 32, 32, 0xFFFFFFFC, 0x0, 0x0, 0x0, 0x0⟩,
   ⟨0x110, 32, 32, 0xFFFFFFFF, 0x0, 0x0, 0x0, 0x0⟩,
   ⟨0x114, 32, 32, 0x0, 0x0, 0x0, 0x0, 0x0⟩,
   ⟨0x118, 32, 32, 0x0, 0x0, 0x0, 0x0, 0x0⟩]

/-- Page ETH: R460. -/
def ETH : List RegRow :=
  [⟨0x040, 0, 1, 0xFFFFFFFF, 0x0, 0x0, 0x0, 0x0⟩,
   ⟨0x044, 0, 1, 0xFFFF, 0x0, 0x0, 0x0, 0x257⟩,
   ⟨0x048, 0, 1, 0xFFFFBFFF, 0x0, 0x0, 0x0, 0x105DC⟩,
   ⟨0x04C, 0, 1, 0xFF, 0x0, 0x0, 0x0, 0x2⟩,
   ⟨0x050, 0, 1, 0xFFFFFFFF, 0x0, 0x0, 0x0, 0x0⟩,
   ⟨0x054, 4, 4, 0xFFFFFFFF, 0x0, 0x0, 0x0, 0x0⟩,
   ⟨0x064, 0, 1, 0x0, 0x0, 0x0, 0x0, 0x0⟩,
   ⟨0x068, 0, 1, 0x0, 0x0, 0x0, 0x0, 0x0⟩,
   ⟨0x06C, 0, 1, 0x0, 0x0, 0x0, 0x0, 0x0⟩,
   ⟨0x070, 0, 1, 0x0, 0x0, 0x0, 0x0, 0x0⟩,
   ⟨0x080, 0, 1, 0x1, 0x0, 0x0, 0x0, 0x0⟩,
   ⟨0x084, 0, 1, 0x0, 0x0, 0x0, 0x0, 0x0⟩,
   ⟨0x088, 0, 1, 0x0, 0x0, 0x0, 0x0, 0x0⟩,
   ⟨0x08C, 0, 1, 0x0, 0x0, 0x0, 0x3, 0x0⟩,
   ⟨0x090, 0, 1, 0xFF, 0x0, 0x0, 0x0, 0x3C⟩,
   ⟨0x094, 0, 1, 0x0, 0x0, 0x0, 0x0, 0x0⟩,
   ⟨0x098, 0, 1, 0x0, 0x0, 0x0, 0x0, 0x0⟩,
   ⟨0x09C, 0, 1, 0x0, 0x0, 0x0, 0x0, 0x0⟩,
   ⟨0x0A0, 0, 1, 0xFFFFFFFF, 0x0, 0x0, 0x0, 0x0⟩,
   ⟨0x0A4, 0, 1, 0x0, 0x0, 0x0, 0xFFFFFFFF, 0x0⟩,
   ⟨0x0A8, 0, 1, 0x0, 0x0, 0x0, 0x0, 0x0⟩]

/-- Page THAIG: R461. -/
def THAIG : List RegRow :=
  [⟨0x040, 0, 1, 0xFFFFFFFF, 0x0, 0x0, 0x0, 0x772F772E⟩,
   ⟨0x044, 0, 1, 0xFFFFFFFF, 0x0, 0x0, 0x0, 0x0⟩,
   ⟨0x048, 0, 1, 0x8000FFFF, 0x0, 0x0, 0x0, 0x80000064⟩,
   ⟨0x04C, 0, 1, 0xFFFF, 0x0, 0x0, 0x0, 0x0⟩,
   ⟨0x050, 0, 1, 0x0, 0x0, 0x0, 0x0, 0x0⟩,
   ⟨0x054, 0, 1, 0x0, 0x0, 0x0, 0x0, 0x0⟩,
   ⟨0x058, 0, 1, 0x0, 0x0, 0x0, 0x0, 0x0⟩,
   ⟨0x05C, 0, 1, 0x0, 0x0, 0x0, 0x0, 0x0⟩,
   ⟨0x060, 0, 1, 0x0, 0x0, 0x0, 0x0, 0x0⟩,
   ⟨0x064, 0, 1, 0x0, 0x0, 0x0, 0x0, 0x0⟩,
   ⟨0x068, 0, 1, 0x0, 0x0, 0x0, 0x0, 0x0⟩,
   ⟨0x100, 32, 4, 0xE000FFFF, 0x0, 0x0, 0x0, 0x0⟩,
   ⟨0x104, 32, 4, 0xFFFFFFFF, 0x0, 0x0, 0x0, 0x0⟩,
   ⟨0x108, 32, 4, 0xFFFF, 0x0, 0x0, 0x0, 0x0⟩,
   ⟨0x10C, 32, 4, 0xFFFFFFFF, 0x0, 0x0, 0x0, 0x0⟩,
   ⟨0x110, 32, 4, 0xFFFFFFFF, 0x0, 0x0, 0x0, 0x0⟩,
   ⟨0x114, 32, 4, 0xFFFFFFFF, 0x0, 0x0, 0x0, 0x0⟩,
   ⟨0x118, 32, 4, 0xFFFFFFFF, 0x0, 0x0, 0x0, 0x0⟩,
   ⟨0x300, 16, 32, 0x8003FFFF, 0x0, 0x0, 0x0, 0x80000000⟩,
   ⟨0x304, 16, 32, 0x0, 0x0, 0x0, 0x0, 0x0⟩,
   ⟨0x308, 16, 32, 0x0, 0x0, 0x0, 0x0, 0x0⟩]

/-- Page AXIS: R352. -/
def AXIS : List RegRow :=
  [⟨0x040, 0, 1, 0xF0F7F, 0x0, 0x0, 0x0, 0x80000⟩,
   ⟨0x044, 0, 1, 0x1, 0x0, 0x0, 0xFE, 0x0⟩,
   ⟨0x048, 0, 1, 0x1, 0x0, 0x0, 0x0, 0x0⟩,
   ⟨0x04C, 0, 1, 0xFFFFFFFF, 0x0, 0x0, 0x0, 0x0⟩,
   ⟨0x050, 0, 1, 0xFFFF, 0x0, 0x0, 0x0, 0x0⟩,
   ⟨0x054, 0, 1, 0xFFFFFFFF, 0x0, 0x0, 0x0, 0x0⟩,
   ⟨0x058, 0, 1, 0xFFFF, 0x0, 0x0, 0x0, 0x0⟩,
   ⟨0x05C, 0, 1, 0x7FFFFF, 0x0, 0x0, 0x0, 0x0⟩,
   ⟨0x060, 0, 1, 0xFFFFFFFF, 0x0, 0x0, 0x0, 0x0⟩,
   ⟨0x064, 0, 1, 0xFFFFFFFF, 0x0, 0x0, 0x0, 0x0⟩,
   ⟨0x068, 0, 1, 0xFFFFFFFF, 0x0, 0x0, 0x0, 0x0⟩,
   ⟨0x06C, 0, 1, 0xFFFFFFFF, 0x0, 0x0, 0x0, 0x0⟩,
   ⟨0x070, 0, 1, 0x7FFFFF, 0x0, 0x0, 0x0, 0x0⟩,
   ⟨0x074, 0, 1, 0x7FFFFF, 0x0, 0x0, 0x0, 0x0⟩,
   ⟨0x078, 0, 1, 0x3, 0x0, 0x0, 0x0, 0x0⟩,
   ⟨0x07C, 0, 1, 0xFFFFFFFF, 0x0, 0x0, 0x0, 0x0⟩,
   ⟨0x080, 0, 1, 0xFFFFFFFF, 0x0, 0x0, 0x0, 0x0⟩,
   ⟨0x084, 0, 1, 0xFFFF, 0x0, 0x0, 0x0, 0x0⟩,
   ⟨0x088, 0, 1, 0xFFFFFFFF, 0x0, 0x0, 0x0, 0x32321919⟩,
   ⟨0x08C, 0, 1, 0xFF, 0x0, 0x0, 0x0, 0x2⟩,
   ⟨0x090, 0, 1, 0xFF00FFFF, 0x0, 0x0, 0x0, 0x80003E8⟩,
   ⟨0x094, 0, 1, 0xFFFF, 0x0, 0x0, 0x0, 0x1F4⟩,
   ⟨0x098, 0, 1, 0xFFFFFFFF, 0x0, 0x0, 0x0, 0x6480FF⟩,
   ⟨0x0A0, 0, 1, 0x0, 0x0, 0x0, 0x0, 0x0⟩,
   ⟨0x0A4, 0, 1, 0x0, 0x0, 0x0, 0x0, 0x0⟩,
   ⟨0x0A8, 0, 1, 0x0, 0x0, 0x0, 0x0, 0x0⟩,
   ⟨0x0AC, 0, 1, 0x0, 0x0, 0x0, 0x0, 0x0⟩,
   ⟨0x0B0, 0, 1, 0x0, 0x0, 0x0, 0x0, 0x0⟩,
   ⟨0x0B4, 0, 1, 0x0, 0x0, 0x0, 0x0, 0x0⟩,
   ⟨0x0B8, 0, 1, 0x0, 0x0, 0x0, 0x0, 0x0⟩,
   ⟨0x0BC, 0, 1, 0x0, 0x0, 0x0, 0x0, 0x0⟩,
   ⟨0x0C0, 0, 1, 0x0, 0x0, 0x0, 0x0, 0x0⟩]
  ++ [⟨0x0C4, 0, 1, 0x0, 0x0, 0x0, 0x0, 0x0⟩,
   ⟨0x0C8, 0, 1, 0x0, 0x0, 0x0, 0x0, 0x0⟩,
   ⟨0x0CC, 0, 1, 0x0, 0x0, 0x0, 0x0, 0x0⟩,
   ⟨0x0D0, 0, 1, 0x0, 0x0, 0x0, 0x0, 0x0⟩,
   ⟨0x0D4, 0, 1, 0x0, 0x0, 0x0, 0x0, 0x0⟩,
   ⟨0x0D8, 0, 1, 0x0, 0x0, 0x0, 0x0, 0x0⟩,
   ⟨0x0DC, 0, 1, 0x0, 0x0, 0x0, 0x0, 0x0⟩,
   ⟨0x0E0, 0, 1, 0x0, 0x0, 0x0, 0x0, 0x0⟩,
   ⟨0x0E4, 0, 1, 0x0, 0x0, 0x0, 0x0, 0x0⟩,
   ⟨0x0E8, 0, 1, 0x0, 0x0, 0x0, 0x0, 0x0⟩]

/-- Page PACE: R364. -/
def PACE : List RegRow :=
  [⟨0x040, 0, 1, 0x3, 0x0, 0x0, 0x0, 0x0⟩,
   ⟨0x044, 0, 1, 0x0, 0xFFFFFFFF, 0x0, 0x0, 0x0⟩,
   ⟨0x048, 0, 1, 0x0, 0xFFFF, 0x0, 0x0, 0x0⟩,
   ⟨0x04C, 0, 1, 0x0, 0xFFFFFFFF, 0x0, 0x0, 0x0⟩,
   ⟨0x050, 0, 1, 0x0, 0xFFFF, 0x0, 0x0, 0x0⟩,
   ⟨0x054, 0, 1, 0xFFFFFFFF, 0x0, 0x0, 0x0, 0x1000010⟩,
   ⟨0x058, 0, 1, 0x0, 0xFFFF, 0x0, 0x0, 0x2000⟩,
   ⟨0x05C, 0, 1, 0x0, 0x7FFFFF, 0x0, 0x0, 0x0⟩,
   ⟨0x060, 0, 1, 0x0, 0x1FFFFFFF, 0x0, 0x0, 0x40000⟩,
   ⟨0x070, 4, 2, 0x0, 0x0, 0x0, 0x0, 0x80008000⟩,
   ⟨0x078, 4, 2, 0x0, 0x0, 0x0, 0x0, 0x80000000⟩,
   ⟨0x080, 0, 1, 0x0, 0x0, 0x0, 0x0, 0x0⟩,
   ⟨0x084, 0, 1, 0x0, 0x0, 0x0, 0x0, 0x0⟩,
   ⟨0x088, 0, 1, 0x0, 0x0, 0x0, 0x0, 0x0⟩]

/-- Page LAMP: R383. -/
def LAMP : List RegRow :=
  [⟨0x040, 0, 1, 0xF01BF, 0x0, 0x0, 0x0, 0x80080⟩,
   ⟨0x044, 0, 1, 0x7FFFFF, 0x0, 0x0, 0x0, 0x500000⟩,
   ⟨0x048, 0, 1, 0x0, 0xFFF0FFF, 0x0, 0x0, 0x0⟩,
   ⟨0x04C, 0, 1, 0x0, 0xFFF0FFF, 0x0, 0x0, 0x0⟩,
   ⟨0x050, 0, 1, 0x0, 0xFFF0FFF, 0x0, 0x0, 0x0⟩,
   ⟨0x054, 0, 1, 0x0, 0xFFFFF, 0x0, 0x0, 0x0⟩,
   ⟨0x060, 12, 6, 0x0, 0xFFFFFFFF, 0x0, 0x0, 0x0⟩,
   ⟨0x064, 12, 6, 0x0, 0xFFFFFFFF, 0x0, 0x0, 0x0⟩,
   ⟨0x068, 12, 6, 0x0, 0xFFFFFFFF, 0x0, 0x0, 0x0⟩,
   ⟨0x0B0, 0, 1, 0xFFFFFFFF, 0x0, 0x0, 0x0, 0x46000C8⟩,
   ⟨0x0B4, 0, 1, 0xFFFF00FF, 0x0, 0x0, 0x0, 0x6E0000A⟩,
   ⟨0x0B8, 0, 1, 0xFFFF, 0x0, 0x0, 0x0, 0x0⟩,
   ⟨0x0C0, 0, 1, 0xFFFFFFF, 0x0, 0x0, 0x0, 0x1642800⟩,
   ⟨0x0C4, 0, 1, 0xFFFFFFFF, 0x0, 0x0, 0x0, 0x12C001F4⟩,
   ⟨0x0C8, 0, 1, 0xFFFFFFFF, 0x0, 0x0, 0x0, 0xC801F4⟩,
   ⟨0x0CC, 0, 1, 0x6, 0x0, 0x0, 0x8, 0x0⟩,
   ⟨0x0D0, 0, 1, 0x0, 0x0, 0x0, 0x0, 0x0⟩,
   ⟨0x0D4, 0, 1, 0x0, 0x0, 0x0, 0x0, 0x8000⟩,
   ⟨0x0D8, 0, 1, 0x0, 0x0, 0x0, 0x0, 0x0⟩,
   ⟨0x0DC, 0, 1, 0x0, 0x0, 0x0, 0x0, 0x0⟩,
   ⟨0x0E0, 8, 6, 0x0, 0x0, 0x0, 0x0, 0x0⟩,
   ⟨0x0E4, 8, 6, 0x0, 0x0, 0x0, 0x0, 0x0⟩,
   ⟨0x110, 4, 6, 0x0, 0x0, 0x0, 0x0, 0x0⟩,
   ⟨0x130, 0, 1, 0x0, 0x0, 0x0, 0x0, 0x0⟩,
   ⟨0x134, 0, 1, 0x0, 0x0, 0x0, 0x0, 0x0⟩,
   ⟨0x138, 0, 1, 0x0, 0x0, 0x0, 0x0, 0x0⟩,
   ⟨0x13C, 0, 1, 0x0, 0x0, 0x0, 0x0, 0x0⟩,
   ⟨0x140, 0, 1, 0x0, 0x0, 0x0, 0x0, 0x0⟩,
   ⟨0x144, 0, 1, 0x0, 0x0, 0x0, 0x0, 0x0⟩]

/-- Page LCHAIN: R387. -/
def LCHAIN : List RegRow :=
  [⟨0x040, 0, 1, 0x7F00FF, 0x0, 0x0, 0x0, 0x10004⟩,
   ⟨0x044, 0, 1, 0x6, 0x0, 0x0, 0x1, 0x0⟩,
   ⟨0x048, 0, 1, 0x0, 0x0, 0x0, 0x0, 0x0⟩,
   ⟨0x04C, 0, 1, 0x0, 0x0, 0x0, 0x0, 0x0⟩]

/-- Page PATT: R392. -/
def PATT : List RegRow :=
  [⟨0x040, 16, 4, 0xFF0F0000, 0x0, 0x0, 0x0, 0x0⟩,
   ⟨0x044, 16, 4, 0x0, 0x0, 0x0, 0x0, 0x0⟩,
   ⟨0x080, 0, 1, 0x0, 0x0, 0x0, 0xF0F, 0x0⟩,
   ⟨0x0A0, 4, 8, 0xF37, 0x0, 0x0, 0x0, 0x0⟩,
   ⟨0x0C0, 0, 1, 0xFF, 0x0, 0x0, 0x0, 0xF⟩]

/-- Page MON: R423. -/
def MON : List RegRow :=
  [⟨0x040, 0, 1, 0x1FFFF, 0x0, 0x0, 0x0, 0x0⟩,
   ⟨0x044, 0, 1, 0x7F, 0x0, 0x0, 0x0, 0x0⟩,
   ⟨0x048, 0, 1, 0x0, 0x0, 0x0, 0x3, 0x0⟩,
   ⟨0x04C, 0, 1, 0x0, 0x0, 0x0, 0x8000013F, 0x0⟩,
   ⟨0x050, 0, 1, 0x0, 0x0, 0x0, 0x0, 0x0⟩,
   ⟨0x054, 0, 1, 0x0, 0x0, 0x0, 0x0, 0x0⟩,
   ⟨0x058, 0, 1, 0x0, 0x0, 0x0, 0x0, 0x0⟩,
   ⟨0x05C, 0, 1, 0x0, 0x0, 0x0, 0x0, 0x0⟩,
   ⟨0x060, 0, 1, 0x0, 0x0, 0x0, 0x0, 0x0⟩,
   ⟨0x064, 0, 1, 0x0, 0x0, 0x0, 0x0, 0x0⟩,
   ⟨0x068, 0, 1, 0x0, 0x0, 0x0, 0x0, 0x0⟩,
   ⟨0x06C, 0, 1, 0x0, 0x0, 0x0, 0x0, 0x0⟩,
   ⟨0x070, 0, 1, 0x0, 0x0, 0x0, 0x0, 0x0⟩,
   ⟨0x080, 0, 1, 0x0, 0x0, 0x0, 0x0, 0x0⟩,
   ⟨0x084, 0, 1, 0x0, 0x0, 0x0, 0x0, 0x0⟩,
   ⟨0x088, 0, 1, 0x0, 0x0, 0x0, 0x0, 0x0⟩,
   ⟨0x08C, 0, 1, 0x0, 0x0, 0x0, 0x0, 0x0⟩,
   ⟨0x0A0, 8, 8, 0xBF00FFFF, 0x0, 0x0, 0x0, 0x0⟩,
   ⟨0x0A4, 8, 8, 0xFFFFFFFF, 0x0, 0x0, 0x0, 0x7FFF8000⟩,
   ⟨0x0E0, 0, 1, 0x0, 0x0, 0x0, 0x0, 0x0⟩,
   ⟨0x100, 4, 64, 0xF3F, 0x0, 0x0, 0x0, 0x30⟩,
   ⟨0x320, 4, 24, 0xF, 0x0, 0x0, 0x0, 0x4⟩,
   ⟨0x3C0, 4, 9, 0xF, 0x0, 0x0, 0x0, 0x4⟩,
   ⟨0x400, 4, 32, 0x0, 0x0, 0x0, 0x0, 0x0⟩,
   ⟨0x4C0, 4, 9, 0x0, 0x0, 0x0, 0x0, 0x0⟩]

/-- Page FE: R424. -/
def FE : List RegRow :=
  [⟨0x040, 0, 1, 0xFFFFF, 0x0, 0x0, 0x0, 0x3E8⟩,
   ⟨0x044, 0, 1, 0xFFFFFFFF, 0x0, 0x0, 0x0, 0x8140200⟩,
   ⟨0x048, 0, 1, 0xFFFF, 0x0, 0x0, 0x0, 0x800⟩,
   ⟨0x04C, 0, 1, 0x0, 0x0, 0x0, 0x0, 0x0⟩,
   ⟨0x050, 0, 1, 0x0, 0x0, 0x0, 0x0, 0x0⟩,
   ⟨0x054, 0, 1, 0x0, 0x0, 0x0, 0x0, 0x0⟩,
   ⟨0x058, 0, 1, 0x0, 0x0, 0x0, 0x0, 0x0⟩,
   ⟨0x080, 32, 8, 0xBFFF7FFF, 0x0, 0x0, 0x0, 0xE4⟩,
   ⟨0x084, 32, 8, 0xFFFF, 0x0, 0x0, 0x0, 0x208⟩,
   ⟨0x088, 32, 8, 0x801FFFFF, 0x0, 0x0, 0x0, 0x0⟩,
   ⟨0x08C, 32, 8, 0x0, 0x0, 0x0, 0x0, 0x0⟩,
   ⟨0x090, 32, 8, 0x0, 0x0, 0x0, 0x0, 0x0⟩,
   ⟨0x094, 32, 8, 0x0, 0x0, 0x0, 0x0, 0x0⟩,
   ⟨0x098, 32, 8, 0x0, 0x0, 0x0, 0x0, 0x0⟩,
   ⟨0x09C, 32, 8, 0x0, 0x0, 0x0, 0x0, 0x0⟩]

/-- Page MEAS: R425. -/
def MEAS : List RegRow :=
  [⟨0x040, 32, 2, 0xF000003F, 0x0, 0x0, 0x0, 0x0⟩,
   ⟨0x044, 32, 2, 0x1FFFF, 0x0, 0x0, 0x0, 0x2710⟩,
   ⟨0x048, 32, 2, 0x1FFFF, 0x0, 0x0, 0x0, 0x1⟩,
   ⟨0x04C, 32, 2, 0x1FFFF, 0x0, 0x0, 0x0, 0x186A0⟩,
   ⟨0x050, 32, 2, 0xFFFFFFFF, 0x0, 0x0, 0x0, 0x0⟩,
   ⟨0x054, 32, 2, 0xFFFFFFFF, 0x0, 0x0, 0x0, 0x100000⟩,
   ⟨0x058, 32, 2, 0x0, 0x0, 0x0, 0x0, 0x0⟩,
   ⟨0x05C, 32, 2, 0x0, 0x0, 0x0, 0x0, 0x0⟩]

/-- Page TWC: R543. -/
def TWC : List RegRow :=
  [⟨0x040, 0, 1, 0xF13F03, 0x0, 0x0, 0x0, 0x310401⟩,
   ⟨0x044, 0, 1, 0xFFFFFF, 0x0, 0x0, 0x0, 0xA1919⟩,
   ⟨0x048, 0, 1, 0x33F007F, 0x0, 0x0, 0x0, 0x100050⟩,
   ⟨0x04C, 0, 1, 0xFFFF, 0x0, 0x0, 0x0, 0x0⟩,
   ⟨0x050, 0, 1, 0x1FF, 0x0, 0x0, 0x0, 0x1⟩,
   ⟨0x054, 0, 1, 0x0, 0x0, 0x0, 0xF, 0x0⟩,
   ⟨0x058, 0, 1, 0x0, 0x0, 0x0, 0x0, 0x0⟩,
   ⟨0x05C, 0, 1, 0x0, 0x0, 0x0, 0x0, 0x0⟩,
   ⟨0x060, 0, 1, 0x0, 0x0, 0x0, 0x0, 0x0⟩,
   ⟨0x064, 0, 1, 0x0, 0x0, 0x0, 0x0, 0x0⟩,
   ⟨0x068, 0, 1, 0x0, 0x0, 0x0, 0x0, 0x0⟩,
   ⟨0x06C, 0, 1, 0x0, 0x0, 0x0, 0x0, 0x0⟩,
   ⟨0x070, 0, 1, 0x0, 0x0, 0x0, 0x0, 0x0⟩]

/-- Page GPIO: R575. -/
def GPIO : List RegRow :=
  [⟨0x040, 0, 1, 0xFF, 0x0, 0x0, 0x0, 0x0⟩,
   ⟨0x044, 0, 1, 0xFF, 0x0, 0x0, 0x0, 0x0⟩,
   ⟨0x048, 0, 1, 0x0, 0x0, 0x0, 0x0, 0x0⟩,
   ⟨0x04C, 0, 1, 0xFFFF, 0x0, 0x0, 0x0, 0x0⟩]

/-- Page SSPI: R181. -/
def SSPI : List RegRow :=
  [⟨0x040, 64, 2, 0x3FF1F07, 0x0, 0x0, 0x0, 0x90F00⟩,
   ⟨0x044, 64, 2, 0xFFFFF, 0x0, 0x0, 0x0, 0x0⟩,
   ⟨0x048, 64, 2, 0x0, 0x0, 0x0, 0xFFFFFFFF, 0x0⟩,
   ⟨0x04C, 64, 2, 0x0, 0x0, 0x0, 0x0, 0x0⟩,
   ⟨0x050, 64, 2, 0x0, 0x0, 0x0, 0x3, 0x0⟩,
   ⟨0x054, 64, 2, 0x0, 0x0, 0x0, 0x0, 0x0⟩]

/-- Page PKG: R4, R43. -/
def PKG : List RegRow :=
  [⟨0x040, 0, 1, 0x0, 0x0, 0x0, 0x0, 0x0⟩,
   ⟨0x044, 0, 1, 0x0, 0x0, 0x0, 0x0, 0x0⟩]

/-- Page SEM: R120. -/
def SEM : List RegRow :=
  [⟨0x040, 4, 64, 0x3, 0x0, 0x0, 0x0, 0x0⟩,
   ⟨0x140, 4, 64, 0x0, 0x0, 0x0, 0x0, 0x0⟩,
   ⟨0x240, 0, 1, 0x0, 0x0, 0x0, 0x0, 0x0⟩,
   ⟨0x244, 0, 1, 0x0, 0x0, 0x0, 0x0, 0x0⟩,
   ⟨0x248, 0, 1, 0x0, 0x0, 0x0, 0x0, 0x0⟩,
   ⟨0x24C, 0, 1, 0x0, 0x0, 0x0, 0x0, 0x0⟩]

/-- Page PORTS: R127. -/
def PORTS : List RegRow :=
  [⟨0x040, 0, 1, 0x0, 0x0, 0x0, 0x0, 0x0⟩,
   ⟨0x044, 0, 1, 0x0, 0x0, 0x0, 0xFFFFFFFF, 0x0⟩,
   ⟨0x048, 0, 1, 0xFFFF, 0x0, 0x0, 0x0, 0x64⟩,
   ⟨0x04C, 0, 1, 0xFFFF, 0x0, 0x0, 0x0, 0x64⟩,
   ⟨0x050, 0, 1, 0x0, 0x0, 0xC, 0x0, 0x0⟩,
   ⟨0x054, 0, 1, 0x0, 0x0, 0x0, 0x1, 0x0⟩,
   ⟨0x058, 0, 1, 0x3, 0x0, 0x0, 0x0, 0x3⟩,
   ⟨0x05C, 0, 1, 0x0, 0x0, 0x0, 0x0, 0x0⟩,
   ⟨0x060, 0, 1, 0x0, 0x0, 0x0, 0x0, 0x0⟩,
   ⟨0x064, 0, 1, 0x0, 0x0, 0x0, 0x0, 0x0⟩,
   ⟨0x068, 0, 1, 0x0, 0x0, 0x0, 0x0, 0x0⟩,
   ⟨0x06C, 0, 1, 0x0, 0x0, 0x0, 0x3F, 0x0⟩,
   ⟨0x070, 0, 1, 0xFF, 0x0, 0x0, 0x0, 0x40⟩,
   ⟨0x074, 0, 1, 0x0, 0x0, 0x0, 0x0, 0x0⟩,
   ⟨0x078, 0, 1, 0x0, 0x0, 0x0, 0x0, 0x0⟩,
   ⟨0x07C, 0, 1, 0x0, 0x0, 0x0, 0x0, 0x0⟩,
   ⟨0x080, 0, 1, 0x0, 0x0, 0x0, 0x0, 0x0⟩]

/-- Page MODE: R132, R133. -/
def MODE : List RegRow :=
  [⟨0x040, 4, 16, 0x8CF0FFFF, 0x0, 0x0, 0x0, 0x0⟩,
   ⟨0x080, 4, 16, 0xFFFFFFFF, 0x0, 0x0, 0x0, 0x0⟩,
   ⟨0x0C0, 4, 16, 0x0, 0x0, 0x0, 0xF, 0x0⟩,
   ⟨0x100, 4, 16, 0xFF1CF00F, 0x0, 0x0, 0x0, 0x10000000⟩,
   ⟨0x140, 4, 16, 0xFFFFFFFF, 0x0, 0x0, 0x0, 0x0⟩,
   ⟨0x180, 4, 16, 0xFFFFFFFF, 0x0, 0x0, 0x0, 0x0⟩,
   ⟨0x1C0, 4, 16, 0x0, 0x0, 0x0, 0x0, 0x0⟩,
   ⟨0x200, 4, 16, 0x0, 0x0, 0x0, 0x0, 0x0⟩,
   ⟨0x240, 4, 16, 0x0, 0x0, 0x0, 0x0, 0x0⟩,
   ⟨0x280, 4, 8, 0x0, 0x0, 0x0, 0x0, 0x1⟩,
   ⟨0x2A0, 0, 1, 0x0, 0x0, 0x0, 0xFFFF, 0x0⟩,
   ⟨0x2A4, 0, 1, 0xFF, 0x0, 0x0, 0x0, 0x0⟩]

/-- Page GUARD: R123. -/
def GUARD : List RegRow :=
  [⟨0x040, 4, 64, 0x8F00FF3F, 0x0, 0x0, 0x0, 0x0⟩,
   ⟨0x140, 0, 1, 0x0, 0x0, 0x0, 0x0, 0x0⟩,
   ⟨0x144, 0, 1, 0x0, 0x0, 0x0, 0x0, 0x0⟩]

/-- Page FAULTLOG: R526. -/
def FAULTLOG : List RegRow :=
  [⟨0x040, 0, 1, 0x0, 0x0, 0x0, 0x0, 0x0⟩,
   ⟨0x044, 0, 1, 0x0, 0x0, 0x0, 0x0, 0x0⟩,
   ⟨0x048, 0, 1, 0x0, 0x0, 0x0, 0x0, 0x0⟩]

/-- Page ISLAND: R525. -/
def ISLAND : List RegRow :=
  [⟨0x040, 0, 1, 0x0, 0x0, 0x0, 0x0, 0x0⟩,
   ⟨0x044, 0, 1, 0x0, 0x0, 0x0, 0x0, 0x0⟩,
   ⟨0x048, 0, 1, 0x0, 0x0, 0x0, 0x0, 0x0⟩,
   ⟨0x04C, 0, 1, 0x0, 0x0, 0x0, 0x0, 0x0⟩,
   ⟨0x050, 0, 1, 0x0, 0x0, 0x0, 0x0, 0x0⟩,
   ⟨0x054, 0, 1, 0x0, 0x0, 0x0, 0x0, 0x0⟩,
   ⟨0x058, 0, 1, 0x0, 0x0, 0x0, 0x0, 0x0⟩,
   ⟨0x05C, 0, 1, 0x0, 0x0, 0x0, 0x0, 0x0⟩,
   ⟨0x060, 4, 8, 0x0, 0x0, 0x0, 0x0, 0x0⟩]

end Map

end Sys2Proof.Machine
end

