-- ==== Sys2Proof/Machine/Pages.lean ====
section
/-!
DEFINITION. The page catalogue (R570, R571): page numbers, block codes, domains and register lists, and the value every
register holds after power-on reset. A page is named by its key `256 × tile field + page number`; a register by
`4096 × page key + byte offset`, which is its 24-bit address (R91).
-/

namespace Sys2Proof.Machine

/-- Page keys. `t` is a tile, `g` a global cluster index (tile `g / 2`, cluster `g % 2`, R11). -/
def pageKey (tileField page : Nat) : Nat := 256 * tileField + page

namespace P
def tile (t : Nat) : Nat := pageKey t 0x00
def pwr (t : Nat) : Nat := pageKey t 0x01
def clk (t : Nat) : Nat := pageKey t 0x02
def tb (t : Nat) : Nat := pageKey t 0x03
def ring (t : Nat) : Nat := pageKey t 0x04
def decl (t : Nat) : Nat := pageKey t 0x05
def sport (g : Nat) : Nat := pageKey (g / 2) (0x08 + g % 2)
def deal (g : Nat) : Nat := pageKey (g / 2) (0x0A + g % 2)
def vc (g : Nat) : Nat := pageKey (g / 2) (0x0C + g % 2)
def acc (g : Nat) : Nat := pageKey (g / 2) (0x10 + g % 2)
def shd (g : Nat) : Nat := pageKey (g / 2) (0x12 + g % 2)
def cal (g : Nat) : Nat := pageKey (g / 2) (0x14 + g % 2)
def meld (t : Nat) : Nat := pageKey t 0x16
def outf (t : Nat) : Nat := pageKey t 0x17
def chk (t : Nat) : Nat := pageKey t 0x18
def que (t : Nat) : Nat := pageKey t 0x1C
def kitty (t : Nat) : Nat := pageKey t 0x1D
def dma (t : Nat) : Nat := pageKey t 0x1E
def dram (t : Nat) : Nat := pageKey t 0x1F
def hostp (t : Nat) : Nat := pageKey t 0x20
def pcie (t : Nat) : Nat := pageKey t 0x21
def eth (t : Nat) : Nat := pageKey t 0x22
def thaig (t : Nat) : Nat := pageKey t 0x23
def axis (g : Nat) : Nat := pageKey (g / 2) (0x28 + g % 2)
def pace (t : Nat) : Nat := pageKey t 0x2A
def lamp (g : Nat) : Nat := pageKey (g / 2) (0x2C + g % 2)
def lchain (t : Nat) : Nat := pageKey t 0x2E
def patt (t : Nat) : Nat := pageKey t 0x2F
def mon (t : Nat) : Nat := pageKey t 0x30
def fe (t : Nat) : Nat := pageKey t 0x31
def meas (t : Nat) : Nat := pageKey t 0x32
def twc (t : Nat) : Nat := pageKey t 0x34
def gpio (t : Nat) : Nat := pageKey t 0x35
def sspi (t : Nat) : Nat := pageKey t 0x36
def pkg : Nat := pageKey 14 0x00
def sem : Nat := pageKey 14 0x01
def ports : Nat := pageKey 14 0x02
def mode : Nat := pageKey 14 0x03
def guard : Nat := pageKey 14 0x04
def faultlog : Nat := pageKey 14 0x05
def island : Nat := pageKey 14 0x06
end P

/-- The tile field of a page key. -/
def tileOf (pk : Nat) : Nat := pk / 256

/-- The page number of a page key. -/
def pageOf (pk : Nat) : Nat := pk % 256

/-- The block code of a page number, and 0 where no page stands behind it (R570, R571). -/
def blockCode (tileField page : Nat) : Nat :=
  if tileField = 14 then (if page ≤ 6 then 0xE0 + page else 0)
  else match page with
  | 0x00 => 0x40 | 0x01 => 0x41 | 0x02 => 0x42 | 0x03 => 0x43 | 0x04 => 0x44 | 0x05 => 0x45
  | 0x08 => 0x48 | 0x09 => 0x48 | 0x0A => 0x4A | 0x0B => 0x4A | 0x0C => 0x4C | 0x0D => 0x4C
  | 0x10 => 0x50 | 0x11 => 0x50 | 0x12 => 0x52 | 0x13 => 0x52 | 0x14 => 0x54 | 0x15 => 0x54
  | 0x16 => 0x56 | 0x17 => 0x57 | 0x18 => 0x58 | 0x1C => 0x5C | 0x1D => 0x5D | 0x1E => 0x5E | 0x1F => 0x5F
  | 0x20 => 0x60 | 0x21 => 0x61 | 0x22 => 0x62 | 0x23 => 0x63 | 0x28 => 0x68 | 0x29 => 0x68 | 0x2A => 0x6A
  | 0x2C => 0x6C | 0x2D => 0x6C | 0x2E => 0x6E | 0x2F => 0x6F | 0x30 => 0x70 | 0x31 => 0x71 | 0x32 => 0x72
  | 0x34 => 0x74 | 0x35 => 0x75 | 0x36 => 0x76 | _ => 0

/-- A page stands behind the number (R92). -/
def pageExists (tileField page : Nat) : Bool := blockCode tileField page ≠ 0

/-- `PAGE_ID.INSTANCE`: cluster or port number of a paired page, else 0 (R97, R570). -/
def pageInstance (tileField page : Nat) : Nat :=
  if tileField = 14 then 0
  else if (0x08 ≤ page ∧ page ≤ 0x15) ∨ page = 0x28 ∨ page = 0x29 ∨ page = 0x2C ∨ page = 0x2D then page % 2 else 0

/-- Domain numbers of R59. -/
abbrev Dom := Nat
namespace D
def aon : Dom := 1
def ctrl : Dom := 2
def ring : Dom := 3
def hostphy : Dom := 4
def hostl : Dom := 5
def dram : Dom := 6
def dmaq : Dom := 7
def sport (c : Nat) : Dom := 8 + c
def vc (c : Nat) : Dom := 10 + c
def pipe (c : Nat) : Dom := 12 + c
def sht (c : Nat) : Dom := 14 + c
def mot : Dom := 16
def lamp : Dom := 17
def mon : Dom := 18
def meld : Dom := 19
def aux : Dom := 20
end D

/-- The domain that powers a tile page (R570). SSPI has two: its header needs either SPORT domain, each controller its own. -/
def domainOf (page : Nat) : Dom :=
  match page with
  | 0x01 => D.aon | 0x03 => D.aon
  | 0x04 => D.ring
  | 0x08 => D.sport 0 | 0x09 => D.sport 1 | 0x0A => D.sport 0 | 0x0B => D.sport 1
  | 0x0C => D.vc 0 | 0x0D => D.vc 1
  | 0x10 => D.pipe 0 | 0x11 => D.pipe 1 | 0x12 => D.pipe 0 | 0x13 => D.pipe 1 | 0x14 => D.pipe 0 | 0x15 => D.pipe 1
  | 0x16 => D.meld | 0x17 => D.meld | 0x18 => D.meld
  | 0x1C => D.dmaq | 0x1D => D.dmaq | 0x1E => D.dmaq | 0x1F => D.dram
  | 0x20 => D.hostphy | 0x21 => D.hostl | 0x22 => D.hostl | 0x23 => D.hostl
  | 0x28 => D.mot | 0x29 => D.mot | 0x2A => D.mot
  | 0x2C => D.lamp | 0x2D => D.lamp | 0x2E => D.lamp | 0x2F => D.lamp
  | 0x30 => D.mon | 0x31 => D.mon | 0x32 => D.aux | 0x34 => D.aux | 0x35 => D.aux
  | 0x36 => D.sport 0
  | _ => D.ctrl

/-- The tile pages, in page order (R570). -/
def tilePages : List Nat :=
  [0x00, 0x01, 0x02, 0x03, 0x04, 0x05, 0x08, 0x09, 0x0A, 0x0B, 0x0C, 0x0D, 0x10, 0x11, 0x12, 0x13, 0x14, 0x15,
   0x16, 0x17, 0x18, 0x1C, 0x1D, 0x1E, 0x1F, 0x20, 0x21, 0x22, 0x23, 0x28, 0x29, 0x2A, 0x2C, 0x2D, 0x2E, 0x2F,
   0x30, 0x31, 0x32, 0x34, 0x35, 0x36]

/-- The pages a domain powers (R570). -/
def pagesOfDomain (d : Dom) : List Nat := tilePages.filter fun p => domainOf p = d && p ≠ 0x36

/-- The block registers of a page (R92). -/
def pageRegs (tileField page : Nat) : List RegRow :=
  if tileField = 14 then
    match page with
    | 0 => Map.PKG | 1 => Map.SEM | 2 => Map.PORTS | 3 => Map.MODE | 4 => Map.GUARD | 5 => Map.FAULTLOG
    | 6 => Map.ISLAND | _ => []
  else match blockCode tileField page with
  | 0x40 => Map.TILE | 0x41 => Map.PWR | 0x42 => Map.CLK | 0x43 => Map.TB | 0x44 => Map.RING | 0x45 => Map.DECL
  | 0x48 => Map.SPORT | 0x4A => Map.DEAL | 0x4C => Map.VC | 0x50 => Map.ACC | 0x52 => Map.SHD | 0x54 => Map.CAL
  | 0x56 => Map.MELD | 0x57 => Map.OUTF | 0x58 => Map.CHK | 0x5C => Map.QUE | 0x5D => Map.KITTY | 0x5E => Map.DMA
  | 0x5F => Map.DRAM | 0x60 => Map.HOSTP | 0x61 => Map.PCIE | 0x62 => Map.ETH | 0x63 => Map.THAIG | 0x68 => Map.AXIS
  | 0x6A => Map.PACE | 0x6C => Map.LAMP | 0x6E => Map.LCHAIN | 0x6F => Map.PATT | 0x70 => Map.MON | 0x71 => Map.FE
  | 0x72 => Map.MEAS | 0x74 => Map.TWC | 0x75 => Map.GPIO | 0x76 => Map.SSPI | _ => []

/-- The page has a window at 0x200 (R570, "Window arrays"). -/
def hasWindow (tileField page : Nat) : Bool :=
  if tileField = 14 then page = 5
  else [0x48, 0x4C, 0x50, 0x52, 0x54, 0x57, 0x6E, 0x6F, 0x70, 0x71, 0x62, 0x74].contains (blockCode tileField page)

/-- The window registers of R104. -/
def windowRegs : List RegRow :=
  [⟨0x200, 0, 1, 0xF, 0, 0, 0, 0⟩, ⟨0x204, 0, 1, 0xFFFFFF, 0, 0, 0, 0⟩, ⟨0x208, 0, 1, 0, 0, 1, 2, 0⟩,
   ⟨0x20C, 4, 4, 0xFFFFFFFF, 0, 0, 0, 0⟩]

/-- The row of a register offset among some rows. -/
def findRow (off : Nat) : List RegRow → Option RegRow
  | [] => none
  | r :: rs =>
    if (r.off = off) || (r.stride ≠ 0 && decide (r.off ≤ off) && (off - r.off) % r.stride = 0
        && decide ((off - r.off) / r.stride < r.count)) then some r
    else findRow off rs

/-- The row of a block or window register of a page. -/
def rowOf (pk off : Nat) : Option RegRow :=
  match findRow off (pageRegs (tileOf pk) (pageOf pk)) with
  | some r => some r
  | none => if hasWindow (tileOf pk) (pageOf pk) then findRow off windowRegs else none

/-- Producer codes of queues 8–31 after power-on reset (R299). -/
def prodReset (q : Nat) : Nat := if 8 ≤ q ∧ q ≤ 17 then q - 7 else 0

/-- Reset value of a block register (field maps; the values that depend on tile, queue or entry are given here:
`QUE.Qq_CFG` (R325, R299), `THAIG.DEST0` (R461), `ETH.IP4` (R460); the fused MAC octets are the model's, log entry 5) (log entry 9). -/
def blockReset (pk off : Nat) : Nat :=
  match rowOf pk off with
  | none => 0
  | some r =>
    match blockCode (tileOf pk) (pageOf pk) with
    | 0x5C =>
      if 0x100 ≤ off ∧ off < 0x500 ∧ (off - 0x100) % 0x20 = 0 then
        let q := (off - 0x100) / 0x20
        (if q < 8 then 64 else 1024) * 0x10000 + prodReset q * 0x100 + 0x10 + (if q < 8 then 0 else 1)
      else r.reset
    | 0x63 => if off = 0x100 then 0xE0000000 + 30512 else r.reset
    | 0x62 => if off = 0x050 then 0xA9FE5710 + tileOf pk else if off = 0x040 then tileOf pk else r.reset
    | _ => r.reset

/-- What a register holds after power-on reset. The header registers of R97 read 0 but for INT_ROUTE (log entry 9). -/
def resetWord (key : Nat) : Word :=
  let pk := key / 4096
  let off := key % 4096
  if off = 0x020 then 3
  else if off < 0x040 then 0
  else BitVec.ofNat 32 (blockReset pk (if off < 0x800 then off else off - 0x800))

end Sys2Proof.Machine
end

