-- ==== Sys2Proof/Machine/Mach.lean ====
section
/-!
DEFINITION. The state the part holds beside its register words: power-up phase, time base, queues, logs and every engine a
chapter describes, as plain data; and `Mach`, all of it together. What software reads back as a register is held once, in
`Mach.regs`, or is computed from the fields here when it is read (Machine/Bus.lean).
-/

namespace Sys2Proof.Machine

/-- Package size (R3): two, four or eight tiles (log entry 8). -/
inductive Part where
  | p2 | p4 | p8
deriving DecidableEq, Repr, Inhabited

/-- Where a tile stands between a reset and answering on its pages (R56–R58, R83, R508). -/
inductive Life where
  | por        -- held in power-on or package reset
  | starting   -- released; register accesses are not answered yet (R58)
  | up         -- its pages answer
  | reset      -- tile reset, internal reset held
  | released   -- tile reset, internal reset released, pages do not answer yet (R83)
  | failed     -- held in tile reset by the declarer (R508)
deriving DecidableEq, Repr, Inhabited

/-- Modes of a cluster's shading SRAM (R64). -/
inductive ShtMode where
  | off | on | retain
deriving DecidableEq, Repr, Inhabited

/-- The change the power sequencer is making: a domain, or a shading SRAM mode (R61). -/
structure SeqStep where
  dom : Nat
  on : Bool
  sht : ShtMode := .off
deriving DecidableEq, Repr, Inhabited

/-- A fault record before its sequence number is known (R517, R518). `detail` holds bytes 0x10–0x1F, little-endian (log entry 77). -/
structure FaultRec where
  time : Nat
  seq : Nat
  code : Nat
  tile : Nat
  isl : Bool
  aon : Bool
  unit : Nat
  subA : Nat
  subB : Nat
  detail : Nat
deriving DecidableEq, Repr, Inhabited

/-- A trick (queue packet, R302): its 32-byte header and its payload bytes. -/
structure Trick where
  hdr : List Byte
  payload : List Byte
deriving DecidableEq, Repr, Inhabited

/-- A cell (R301): eight data words, the 64-bit tag, its pool index, and whether a header slot has been filled (R303). -/
structure Cell where
  idx : Nat
  words : List Word
  tag : BitVec 64
  filled : Bool
deriving DecidableEq, Repr, Inhabited

/-- An open trick of a queue (R302): cells reserved and not yet written, the header that will close it, the payload bytes that its
producer has still to write, and that producer (0: stage 9). -/
structure OpenTrick where
  reserved : Nat
  trick : Trick
  rest : List Byte
  prod : Nat
deriving DecidableEq, Repr, Inhabited

/-- A queue (R298–R319). `head0`/`head1` and `tail0`/`tail1` are the two pointer copies of R317; `spill` lists the DRAM kitty
cells of the spill list, in order, with its own pointer copies. `reapSram` are the SRAM cells that the
reaper reaches, `reapDram` head and recorded length of each old spill list (R319). `spillPart` counts the cells of the head trick that
already stand in the spill list while the writer waits for more (R315); `counted` says that a register consumer has read the head cell,
and `raised` that POISON was raised for the trick it reads (R316). -/
structure Queue where
  cells : List Cell := []
  opened : Option OpenTrick := none
  head0 : Nat := 0
  head1 : Nat := 0
  tail0 : Nat := 0
  tail1 : Nat := 0
  spill : List Nat := []
  spillTricks : Nat := 0
  spillPart : Nat := 0
  shead0 : Nat := 0
  shead1 : Nat := 0
  stail0 : Nat := 0
  stail1 : Nat := 0
  consIn : Bool := false
  counted : Bool := false
  raised : Bool := false
  replay : Bool := false
  reapSram : List Nat := []
  reapSramCount : Nat := 0
  reapDram : List (Nat × Nat) := []
  reapDramCount : Nat := 0
  leaked : Nat := 0
  dcred : Nat := 0
deriving DecidableEq, Repr, Inhabited

/-- A free list with its fresh counter, and the second copies of its head and counter (R311, R317). -/
structure Pool where
  free : List Nat := []
  freeHead1 : Option Nat := none
  fresh0 : Nat := 0
  fresh1 : Nat := 0
deriving DecidableEq, Repr, Inhabited

/-- The two kitties and the register consumer of a tile (R308–R321). -/
structure KittySt where
  sram : Pool := {}
  dram : Pool := {}
  sramReady : Bool := true
  dramReady : Bool := false
  dramFull : Bool := false
  nearFull : Bool := false
  testing : Bool := false
  shown : Option Cell := none
  shownQueue : Nat := 0
  spilling : Bool := false
deriving DecidableEq, Repr, Inhabited

/-- Commands in a hand's queue (R139, R140) and the boundaries that enter it from a pin or a line count. -/
inductive HandCmd where
  | arm | disarm | toReady | toCalibrate | toScan | dealStart | dealEnd | pinStart | pinEnd | linesEnd
deriving DecidableEq, Repr, Inhabited

/-- A hand beside its registers: the command queue, the command waiting for its grid point, the clusters idle since their tile
was lost (R146), the settings in force (taken at the last deal start, R134), and the grid (period and phase) it keeps once its leader
is lost (`gridHeld`); the instant at which the current command left the queue; whether the open deal has made its line-count end, and the
trigger time of the capture that released its MAX_LINES-th line (R143). Queue entries carry their time stamps (R140). -/
structure Hand where
  queue : List (Nat × HandCmd) := []
  current : Option HandCmd := none
  readyAfter : Bool := false
  drained : Bool := false
  endCause : Nat := 0
  endTime : Nat := 0
  lost : List Nat := []
  speed : Nat := 0
  leadInLen : Nat := 16
  maxLines : Nat := 0
  startN : Nat := 0
  sample : Option (Nat × Int) := none
  grid : Nat × Nat := (1000, 0)
  at_ : Nat := 0
  gridHeld : Bool := false
  linesDone : Bool := false
  lineTime : Option Nat := none
deriving DecidableEq, Repr, Inhabited

/-- Control port B (R113–R117): lane mode, write queue, the read in the background (address, writes of the queue that come before it), the last result, and the STAT flags that
wait to be reported. -/
structure CpbSt where
  quad : Bool := false
  usable : Bool := false
  writes : List (Nat × Word) := []
  reading : Option (Nat × Nat) := none
  result : Option Word := none
  reject : Bool := false
  crcErr : Bool := false
  addrErr : Bool := false
  blocked : Bool := false
  wseq : Nat := 0
deriving DecidableEq, Repr, Inhabited

/-- What leaves the part while a command takes effect. -/
inductive Out where
  | cpb (bytes : List Byte)                                    -- control port B part phase: STAT, DATA, CRC (R114)
  | msix (t vec : Nat) (addr data : Nat)                       -- an MSI-X message (R130, R440)
  | completion (t : Nat) (data : List Word)                    -- a successful PCIe completion
  | unsupported (t : Nat)                                      -- a completion with Unsupported Request (R441)
  | hostMem (t addr : Nat) (bytes : List Byte) (poison : Bool) -- a PCIe memory write by the part
  | frame (t : Nat) (tag : Option Nat) (sport mac ip port : Nat) (bytes : List Byte) -- a UDP datagram sent by the part: VLAN tag, source
                                                               -- port, destination and payload
  | netReply (t kind : Nat) (tag : Option Nat) (bytes : List Byte) -- a reply of the network layer: 0 ARP, 1 ICMP echo, 2 Neighbour
                                                               -- Advertisement
  | ptpFrame (t : Nat) (bytes : List Byte)                     -- a PTP frame sent (R445)
  | ring (src : Nat) (cls : Nat) (words : List Nat)            -- a ring message (R495)
  | bus (t : Nat) (bytes : List Byte)                          -- bytes on the two-wire bus
  | spi (g start mode half : Nat) (bits : List Bool) (held : Bool) -- a sensor SPI frame: CS_N falls at `start` unless held, mode, half a
                                                               -- clock period in ticks, bits in order (R178)
  | lchain (t : Nat) (frame : Nat)                             -- a lamp-chain frame (R385)
  | step (g at_ high : Nat) (dir : Bool)                       -- a STEP pulse: its rise, its length in ticks and DIR (R331, R332)
  | strobe (g string phase start stop code : Nat)              -- a lamp strobe (R370)
  | trigger (g n : Nat)                                -- a capture trigger at time base n (R148)
  | tdo (b : Bool)                                             -- JTAG_TDO (R41)
deriving DecidableEq, Repr


/-- A capture between its trigger and stage 3 (R148–R151, R218): trigger instant, exposure centroid of each phase in units of 125 ps,
whether the trigger fell in an open deal and in its lead-in, the depth cap in force, the trigger instants of the missing captures
whose marker it brings, and in LEGACY_POS the boundary it fills. -/
structure Capture where
  n : Nat := 0
  cents : List Nat := []
  counted : Bool := false
  leadIn : Bool := false
  depth : Nat := 0
  missing : List Nat := []
  legacy : Option Int := none
deriving DecidableEq, Repr, Inhabited

/-- A captured line at the entry of stage 3: one list of samples per phase (R149, R212). -/
structure Line where
  cap : Capture
  planes : List (List Nat)
deriving DecidableEq, Repr, Inhabited

/-- An edge of a timing output (R162): signal, ticks from the line origin, level. -/
structure Edge where
  sig : Nat
  time : Nat
  level : Bool
deriving DecidableEq, Repr, Inhabited

/-- A sensor SPI controller (R179, R180): FIFOs, the frame being shifted, the instant CS_N falls for it, a blanking instant at which a frame
may still start, and a flush that waits for the frame's end. -/
structure Spi where
  start : Nat := 0
  blankAt : Option Nat := none
  tx : List Nat := []
  rx : List Nat := []
  shift : Option Nat := none
  flush : Bool := false
deriving DecidableEq, Repr, Inhabited


/-- A video converter beside its registers (R182–R199): the AON copy of its map, factors and baselines (R87); for each slice the
time base at which it last entered and left service; the new factors waiting for a handover; the bridge step's state (R186); and the
factor words that positions 0–3 used earlier in the line being read, each with the first (phase, position) that no longer uses them. -/
structure Conv where
  aonOk : Bool := false
  aonMap : Nat := 0
  aonFactors : List Nat := []
  aonBase : List Nat := []
  entered : List Nat := [0, 0, 0, 0, 0]
  left : List Nat := [0, 0, 0, 0, 0]
  pend : Option Nat := none
  since : Nat := 0
  bridge : Bool := false
  bridgePos : Nat := 0
  resume : Nat := 0
  diff : Int × Int := (0, 0)
  hist : List (Nat × List Nat) := []
deriving DecidableEq, Repr, Inhabited


/-- The temperature record of a calibration deal (R255): contributions, their sum, the extremes. -/
structure TempRec where
  n : Nat := 0
  sum : Int := 0
  lo : Int := 0
  hi : Int := 0
deriving DecidableEq, Repr, Inhabited

/-- A sample with its flags on its way to the trick: bit 0 CLIPPED, 1 OVERCAP, 2 MISSING_CAPTURE, 3 CHECK_FAIL (R220, R285, R290). -/
structure Px where
  v : Nat
  flags : Nat := 0
deriving DecidableEq, Repr, Inhabited

/-- A line that stage 3 released and stages 4–6 passed on, or a raw footprint of a calibration deal (R222, R256): line number, deal,
TIME, line flags, the state of its seams at release (R277), and the samples of each plane, or the accumulator words. -/
structure OutLine where
  k : Nat := 0
  deal : Nat := 0
  time : Nat := 0
  synth : Bool := false
  posEst : Bool := false
  records : Bool := false
  degL : Bool := false
  degR : Bool := false
  planes : List (List Px) := []
deriving DecidableEq, Repr, Inhabited


/-- A short line held for synthesis (R223): its number, its mark of R212, and the flags of its samples by plane. -/
structure HeldLine where
  k : Nat
  posEst : Bool
  flags : List (List Nat)
deriving DecidableEq, Repr, Inhabited

/-- Stage 3 of a cluster beside its words (R209–R229): the position samples received since the hand was armed (time base, position in
2^-16 units, R329);
the origin once fixed; per plane the high-water mark and the previous centroid; the lowest open footprint; whether the deal has had a
full line; marks of R212 of the two open footprints; held lines; missing captures not yet placed; the wait ended by time-out;
extrapolation going on; the member's deal is over (R230); lines tracked; and the deal's statistics. -/
structure AccSt where
  samples : List (Nat × Int) := []
  accStart : Option Nat := none
  o : Option Int := none
  hwm : List Int := []
  cprev : List Int := []
  low : Nat := 0
  full : Bool := false
  est0 : Bool := false
  est1 : Bool := false
  held : List HeldLine := []
  orphans : List Nat := []
  waitOver : Bool := false
  est : Bool := false
  dead : Bool := false
  tracked : Nat := 0
  dLines : Nat := 0
  dSynth : Nat := 0
  dDrop : Nat := 0
  dOver : Nat := 0
  dMiss : Nat := 0
deriving DecidableEq, Repr, Inhabited


/-- Overlap samples of one line as a sender sends them (R271): line number, sender's index of the first sample, planes; `raw` are the
bytes that its slot took when it was stored (R274) (log entry 50). -/
structure Overlap where
  k : Nat
  base : Nat
  planes : List (List Px)
  synth : Bool
  raw : List Byte := []
deriving DecidableEq, Repr, Inhabited

/-- One seam at its owner (R274, R275, R278): samples on their way, samples in the buffer, the overflow mark, the sender's notice (log entry 50). -/
structure SeamSt where
  flight : List Overlap := []
  buf : List Overlap := []
  ovf : Option Nat := none
  notice : Bool := false
deriving DecidableEq, Repr, Inhabited

/-- A trick that stage 9 has formed and not yet written (R283, R288): its stream, the trick, its line number, whether it is the last of
its fragment in the stream, its FLAGS and those of the whole fragment; `eod` marks an end-of-deal trick. -/
structure OutTrick where
  n : Nat
  trick : Trick
  k : Nat
  last : Bool
  flags : Nat
  frag : Nat
  eod : Bool
deriving DecidableEq, Repr, Inhabited

/-- Statistics of a stream for its end-of-deal trick, and the deal they belong to (R286). -/
structure StrSt where
  deal : Nat := 0
  last : Option Nat := none
  flagsOr : Nat := 0
  chk : Nat := 0
  deg : Nat := 0
  late : Nat := 0
deriving DecidableEq, Repr, Inhabited


/-- What an axis planner is doing (R335–R347, R353). -/
inductive AxMode where
  | idle | pos | vel | stop | paced | release | edec | home
deriving DecidableEq, Repr, Inhabited

/-- Position state of an axis, held in AON (R348): commanded position in 2^-32 microsteps, the position its microstep events have
reached, encoder count, microstep index, HOMED and UNCERTAIN. -/
structure AxisAon where
  p : Int := 0
  pos : Int := 0
  enc : Int := 0
  idx : Nat := 0
  homed : Bool := false
  uncertain : Bool := false
deriving DecidableEq, Repr, Inhabited

/-- Planner and inputs of an axis (R329–R347): velocity in 2^-16 microsteps/s and acceleration in 2^-16 microsteps/s² since instant
`t0`, the instant `te` at which a braking ends; target and velocity target; a GO or STOP that the next tick takes; the raised ramp
of R338 and a DEC write since the last tick; the cause of an EDEC stop and whether the page disables at its end; the paced
target and its release (R341, R358); where SEEK began; whether a position move brakes to pass its target first (R337); level and last change
of DIR, the last STEP pulse and the last microstep event (R331–R333); the motion events' sequence number; levels of
LIM_NEG, LIM_POS, HOME (bits 0–2), raw edges since they last held for FILT_US, and DRV_FAULT_N active. -/
structure AxisSt where
  mode : AxMode := .idle
  v : Int := 0
  a : Int := 0
  t0 : Nat := 0
  te : Option Nat := none
  land : Bool := false
  tgt : Int := 0
  vt : Int := 0
  pendGo : Bool := false
  pendStop : Bool := false
  raised : Bool := false
  passing : Bool := false
  decNew : Bool := false
  cause : Nat := 0
  offAfter : Bool := false
  paced : Option Int := none
  pacedOff : Bool := false
  homeFrom : Int := 0
  dir : Bool := false
  dirAt : Option Nat := none
  lastPulse : Option Nat := none
  lastEv : Nat := 0
  seq : Nat := 0
  lim : Nat := 0
  noisy : Nat := 0
  drvFault : Bool := false
deriving DecidableEq, Repr, Inhabited

/-- A hand on a tile's pace loop (R354–R357): the tile's own factors of the last ticks, newest first, the last value used of each
member tile, the ticks since it was missing, and the spill factor of the tick before. -/
structure PaceHand where
  mine : List Nat := []
  prev : Store Nat := []
  miss : Store Nat := []
  fs : Nat := 32768
deriving DecidableEq, Repr, Inhabited


/-- A strobe of a line (R370): string, phase, time base at which the string lights and goes dark, code, and whether it runs to its end. -/
structure Strobe where
  string : Nat
  phase : Nat
  start : Nat
  stop : Nat
  code : Nat
deriving DecidableEq, Repr, Inhabited

/-- A lamp stage beside its registers (R366–R380): the strobes scheduled for the line, the strings its sinks measured, the count of
lines above the band, sources delivered and stale, strobes held until the boost is back after a shutdown, the EEPROM read of a
PREP, the sequence number of its events, and the strings whose sinks hold a current measured since LAMP came up, bit `n` for string `n`
(R394). -/
structure LampSt where
  strobes : List Strobe := []
  measured : List Nat := []
  above : Nat := 0
  dieValid : Bool := false
  dieStale : Bool := false
  barStale : Bool := false
  heldOff : Bool := false
  reading : Bool := false
  seq : Nat := 0
  heldCur : Nat := 0
deriving DecidableEq, Repr, Inhabited

/-- A sweep of the lamp chain (R386): bank and NO_LATCH taken at GO, the frame being sent, and the instant it began. -/
structure Sweep where
  bank : Nat
  noLatch : Bool
  frame : Nat
  start : Nat
deriving DecidableEq, Repr, Inhabited

/-- A pattern engine beside its registers (R388–R390): tick of its step, the step element in force, the level it ramps from, and a START
or STOP that the next tick takes. -/
structure PattEng where
  k : Nat := 0
  elem : Nat := 0
  from_ : Nat := 0
  start : Bool := false
  stop : Bool := false
deriving DecidableEq, Repr, Inhabited


/-- A live record of a monitor channel (R404). -/
structure MonRec where
  sum : Int := 0
  count : Nat := 0
  min : Int := 0
  max : Int := 0
  flags : Nat := 0
deriving DecidableEq, Repr, Inhabited

/-- A conversion of the monitor converter (R397): a trump, a front-end conversion (`last`: its visit's last), a sequencer slot (log entry 97). -/
inductive MonConv where
  | trump (ch : Nat) (snapAfter : Bool)
  | fe (ch : Nat) (last : Bool)
  | seq (ch : Nat)
deriving DecidableEq, Repr, Inhabited

/-- The monitor converter beside its registers (R395–R409): the conversion of the slot in progress, the pending trump, self-calibration
pending and running, the snapshot requested and the one being taken (boundary, records), the sequencer's pass, slot and the slots
(channel, DIV) of the pass, the live records, the channels whose filter holds a value, the limit events' sequence number, and the AON
copy of the factors (offset, gain, LIN03, LIN47). -/
structure MonSt where
  cur : Option MonConv := none
  trump : Option (Nat × Bool) := none
  calPend : Bool := false
  calRun : Bool := false
  snapReq : Bool := false
  snap : Option (Nat × List Nat) := none
  pass : Nat := 0
  slot : Nat := 0
  slots : List (Nat × Nat) := []
  recs : Vector MonRec 64 := Vector.replicate 64 {}
  filled : Nat := 0
  limSeq : Nat := 0
  aon : Option (Nat × Nat × Nat × Nat) := none
deriving DecidableEq, Repr, Inhabited

/-- A front-end channel beside its registers (R410–R416): CFG, TIM and TEMP in force, the sums of the two visits, what blanks the
result of the cycle, whether its first rail hit was at the high rail, the configuration changed, normal cycles since the last
diagnostic, the cycle is a diagnostic, its visit overran, and the last result that was not blanked. -/
structure FeCh where
  cfg : Nat := 0
  tim : Nat := 0
  temp : Nat := 0
  pos : Int := 0
  neg : Int := 0
  calMiss : Bool := false
  ovr : Bool := false
  railHit : Option Bool := none
  changed : Bool := false
  count : Nat := 0
  diag : Bool := false
  last : Option Int := none
deriving DecidableEq, Repr, Inhabited

/-- The front end beside its registers: running, half in progress and its start, CFG and CFG2 in force, conversions due (instant,
channel, last of its visit), channels, and the events' sequence number. -/
structure FeSt where
  run : Bool := false
  negHalf : Bool := false
  start : Nat := 0
  cfg : Nat := 0
  cfg2 : Nat := 0
  due : List (Nat × Nat × Bool) := []
  chs : Vector FeCh 8 := Vector.replicate 8 {}
  seq : Nat := 0
deriving DecidableEq, Repr, Inhabited

/-- A measurement output beside its registers (R420): the value that waits for a period's start, with that instant, and the start of a
period of the wave in force. -/
structure MeasOut where
  next : Option (Nat × Nat) := none
  epoch : Nat := 0
deriving DecidableEq, Repr, Inhabited

/-- An MSI-X vector of an endpoint's table (R435, R440): message address and data, mask bit, pending bit (log entry 55). -/
structure MsixVec where
  addr : Nat := 0
  data : Nat := 0
  masked : Bool := true
  pending : Bool := false
deriving DecidableEq, Repr, Inhabited

/-- A host port beside its registers (R426–R457): the configuration the link works with (R427), HP_PERST_N low, TRAIN_FAIL raised in
this training, a configuration request completed, Memory Space Enable and the two BARs, the MSI-X table, the queue vectors armed
(R440), the queues served last in the groups 8–31 and 0–7 (R432), the destination entries that have learned an address (R448), the
last executed request's response and the sender of the last accepted request (R451, R452: MAC, IP, port), an EVENT due, a PTP frame
waiting to be sent (R445). -/
structure HostSt where
  cfg : Nat := 0
  perstLow : Bool := false
  failShown : Bool := false
  cfgDone : Bool := false
  memEn : Bool := false
  bar0 : Nat := 0
  bar2 : Nat := 0
  vecs : Vector MsixVec 64 := Vector.replicate 64 {}
  armed : Nat := 0
  lastHi : Nat := 31
  lastLo : Nat := 7
  learned : Nat := 0
  resp : List Byte := []
  peer : Nat × Nat × Nat := (0, 0, 0)
  evtPair : Nat × Nat := (0, 0)
  evtDue : Bool := false
  ptpPend : Bool := false
  restart : Bool := false
deriving DecidableEq, Repr, Inhabited


/-- A transaction of a DMA channel (R467, R468): a descriptor fetch, the read of `len` source bytes at offset `ofs`, or a barrier read;
`host` when it holds a non-posted tag, `dram` when it reads or writes DRAM (R59), `dead` once its channel has halted, so that its data is
discarded (R470). -/
structure DmaTr where
  ofs : Nat := 0
  len : Nat := 0
  host : Bool := false
  fetch : Bool := false
  bar : Bool := false
  dead : Bool := false
  dram : Bool := false
deriving DecidableEq, Repr, Inhabited

/-- A DMA channel beside its registers (R465–R474): the descriptor, whether it has been read and found valid, whether it is complete;
bytes whose reads have been issued and the end of the burst; transactions outstanding, the last 8 descriptor addresses, records that
wait for FREE, and whether TRAINED fell while the chain ran; a fetch or barrier read that waits for a slot or a tag (R467, R473); bytes
by offset that have arrived of shading table slots still incomplete (R251). -/
structure DmaCh where
  ctrl : Nat := 0
  src : Nat := 0
  dst : Nat := 0
  next : Nat := 0
  tag : Nat := 0
  ready : Bool := false
  done : Bool := false
  issued : Nat := 0
  burstEnd : Nat := 0
  outs : List DmaTr := []
  recent : List Nat := []
  recs : List Trick := []
  dramLost : Bool := false
  wait : Option DmaTr := none
  part : List (Nat × Byte) := []
deriving DecidableEq, Repr, Inhabited


/-- A member of a hand as an island segment sees it since the cut (R142, R513, R516): hand, its STATE, ARMED, DEAL_OPEN and deal number;
the cause of the hand's end boundary of that deal, once made; and, once its tile has stepped its time base at rejoin, the
instant of that step (log entry 84). -/
structure CutView where
  hand : Nat := 0
  state : Nat := 0
  armed : Bool := false
  dealOpen : Bool := false
  deal : Nat := 0
  cause : Nat := 0
  stepped : Option Nat := none
deriving DecidableEq, Repr, Inhabited

/-- A tile's part in the ring beside its registers (R496–R516): `view` and `hands` the global page registers, as differences from reset
values, and the hands that an island declarer serves (its log is `TileSt.islLog`); `rate` the RATE in force in an island segment since
its cut (R499); the first SYNC message after a rejoin steps the time base; watchdog checks failed in a row; responses missed in a row
and one missed since the last heartbeat; heartbeats missed in a row; the recovery step reached (2–4), failed attempts in a row, and the
instant of the last return; when it last held the declarer role, by a count of elections and successions (0 never). -/
structure RingSt where
  view : Store Word := []
  hands : Vector Hand 16 := Vector.replicate 16 {}
  rate : Option Int := none
  stepDue : Bool := false
  wdFails : Nat := 0
  missed : Nat := 0
  missNow : Bool := false
  beats : Nat := 0
  recov : Option Nat := none
  fails : Nat := 0
  backAt : Option Nat := none
  declAt : Nat := 0
deriving DecidableEq, Repr, Inhabited


/-- A two-wire controller beside its registers (R530–R541): alert-response reads waiting; pieces of the running transfer completed
before the current one and the retries used in it; an ABORT waiting for a byte boundary; ENABLE written 0 during a transfer; the
sequence number of its events; the last levels known of SCL, SDA and ALERT_N. -/
structure TwcSt where
  alerts : Nat := 0
  piece : Nat := 0
  tries : Nat := 0
  abort : Bool := false
  disable : Bool := false
  seq : Nat := 0
  scl : Bool := true
  sda : Bool := true
  alertLow : Bool := false
deriving DecidableEq, Repr, Inhabited


/-- States of the IEEE 1149.1 test access port (log entry 90). -/
inductive Tap where
  | reset | idle | selDr | capDr | shDr | ex1Dr | pauDr | ex2Dr | updDr | selIr | capIr | shIr | ex1Ir | pauIr | ex2Ir | updIr
deriving DecidableEq, Repr, Inhabited

/-- The test logic (R41): TAP state, instruction shift register and instruction in force (none after a test-logic reset), the bypass bit,
the boundary-scan chain's shift and update registers, and the level of TDO while it is driven. -/
structure JtagSt where
  tap : Tap := .reset
  irShift : List Bool := []
  inst : Option (List Bool) := none
  bypass : Bool := false
  chain : List Bool := []
  update : List Bool := []
  tdo : Option Bool := none
deriving DecidableEq, Repr, Inhabited

/-- An access that waits until a declarer serves the global pages again (R107), with the tile it enters at: a port's write, a PCIe read
of `n` words, a Thaig control request with its source (MAC, IP, port) (log entry 13). -/
inductive HeldAcc where
  | write (p e addr : Nat) (v : Word)
  | pcieRead (t addr n : Nat)
  | thaig (t mac ip port : Nat) (bytes : List Byte)
deriving DecidableEq, Repr, Inhabited

/-- A tile beside its registers. `prepSteps` are the steps of the running preparation (bit 0 DRAM training, 1–2 converters, 3–4 lamp
binning, 5 monitor) and `prepConvs` the converters whose failure counts in it (bit 6c + v), as configured when PREP was written (R136). -/
structure TileSt where
  life : Life := .por
  n : Nat := 0
  sub : Nat := 0
  selfOk : Bool := false
  seq : Option SeqStep := none
  sht0 : ShtMode := .off
  sht1 : ShtMode := .off
  dormant : Bool := false
  trig : Nat := 0
  gpioIn : Nat := 0
  prepInvalid : Bool := false
  prepSteps : Nat := 0
  prepConvs : Nat := 0
  rstDue : Nat := 0
  aonLog : List FaultRec := []
  islLog : List FaultRec := []
  queues : Vector Queue 32 := Vector.replicate 32 {}
  kitty : KittySt := {}
  held : Store (List Trick) := []
  chkFifo : List (List Nat) := []
  strs : Vector StrSt 8 := Vector.replicate 8 {}
  pace : Vector PaceHand 16 := Vector.replicate 16 {}
  sweep : Option Sweep := none
  patt : Vector PattEng 4 := Vector.replicate 4 {}
  mon : MonSt := {}
  fe : FeSt := {}
  meas : Vector MeasOut 2 := Vector.replicate 2 {}
  host : HostSt := {}
  dma : Vector DmaCh 16 := Vector.replicate 16 {}
  dramAon : Option (List Word) := none
  dramKept : Bool := false
  refNext : Nat := 0
  ring : RingSt := {}
  twc : TwcSt := {}
deriving DecidableEq, Repr, Inhabited

/-- A cluster beside its registers: sensor port, dealer, converters, accumulation, shading, calibration. `failed` says that the line in
readout has failed (R161), `clampRef` holds the clamped levels of the inputs (R152), `laneSkew` the alignment of the lanes (R157); `prev…`
are edges, levels and origin of the line before, which runs on until L0 (R163); `phaseSwitch` is the pending re-phase (edge, switch point)
and `phaseNext` one accepted after that switch point (R172); `lastTrig` the last issued trigger while time only went forward. `capEnd` is the instant at which
the last capture of a deal completed at stage 1 or was lost (R145); `eodOk` says that the output pages were on at the end boundary (R293);
`upsets` are check-lane comparisons still to differ and `chkLogged` the lines whose first mismatch is logged (R290); `dropped` is the last
line dropped behind lines not yet formed (R275); `dealId` tells the deals of all hands apart (R286). -/
structure Cluster where
  reading : Option Capture := none
  started : Nat := 0
  failed : Bool := false
  clampRef : List Int := []
  laneSkew : List Int := []
  slot : Option Line := none
  dlckIn : Bool := false
  edges : List Edge := []
  toBase : Nat := 0
  origin : Nat := 0
  prevEdges : List Edge := []
  prevBase : Nat := 0
  prevOrigin : Nat := 0
  pendMissing : List Nat := []
  trigs : Nat := 0
  lastOfs : List Nat := []
  phaseSwitch : Option (Nat × Nat) := none
  phaseNext : Option (Nat × Nat) := none
  lastEdge : Option Nat := none
  lastTrig : Option Nat := none
  legacyOrg : Int := 0
  legacyTop : Int := 0
  legacyFirst : Option Int := none
  spi : Spi := {}
  convs : Vector Conv 6 := Vector.replicate 6 {}
  calStart : Nat := 0
  calHost : Bool := false
  liveJ : List Nat := [0, 0, 0, 0, 0, 0]
  calT : TempRec := {}
  acc : AccSt := {}
  released : List OutLine := []
  chkLogged : List Nat := []
  upsets : List Upset := []
  passed : Option Nat := none
  dropped : Option Nat := none
  dealId : Nat := 0
  inMeld : Option OutLine := none
  stage7 : Bool := false
  outTricks : List OutTrick := []
  creditWait : Bool := false
  seamL : SeamSt := {}
  seamR : SeamSt := {}
  degShown : Bool := false
  eodDue : Bool := false
  eodOk : Bool := false
  capEnd : Nat := 0
  drained : Bool := false
  axisAon : AxisAon := {}
  axis : AxisSt := {}
  lamp : LampSt := {}
  cut : Option CutView := none
  recEnd : Option (Nat × Nat × Nat) := none
  dropNext : Bool := false
deriving DecidableEq, Repr, Inhabited

/-- Everything the part holds. `regs` are the register words by address, unlisted ones at their reset value; `arr` the window
array elements (key `pageKey · 2^28 + array · 2^24 + index`, unlisted ones zero); `winAsm` the window words assembled so far;
`dram` the DRAM bytes by device address (key `tile · 2^36 + address`), `dramMark` its words with a bit error; `free` counts the
free values used (the model's own, log entry 3); `out` what left the part in the last step. -/
structure Mach where
  part : Part := .p8
  regs : Store Word := []
  arr : Store Nat := []
  winAsm : Store Nat := []
  dram : Store Byte := []
  dramMark : Store Nat := []
  tiles : Vector TileSt 8 := Vector.replicate 8 {}
  clus : Vector Cluster 16 := Vector.replicate 16 {}
  hands : Vector Hand 16 := Vector.replicate 16 {}
  cpb : CpbSt := {}
  pinA : Bool := false
  pinB : Bool := false
  msixArmed : Nat := 511
  kaWinA : Nat := 0
  kaWinB : Nat := 0
  kaClock : Nat := 0
  testHeld : Bool := false
  refLost : Bool := false
  pkgLog : List FaultRec := []
  free : Nat := 0
  out : List Out := []
  slewRate : Int := 0
  slewRemain : Int := 0
  slewCount : Nat := 0
  declStamp : Nat := 0
  copying : Option Nat := none
  viewOf : Option Nat := none
  joining : Nat := 0
  jtag : JtagSt := {}
  heldAcc : List HeldAcc := []
deriving DecidableEq, Repr, Inhabited

end Sys2Proof.Machine
end

