-- ==== Sys2Proof/Machine/Ops.lean ====
section
/-!
DEFINITION. The named operations every block uses: register words and fields, saturating and wrapping counters, events,
refusals (R92–R101), window elements (R104), tiles, clusters, hands, domains (R59), reachability (R109) and the fault log
(R517–R520 but for the trick, Machine/Queues.lean).
-/

namespace Sys2Proof.Machine.Mach

/-! ### Register words and fields -/

/-- The register word at a byte offset of a page. -/
def word (m : Mach) (pk off : Nat) : Word := Store.get (resetWord (pk * 4096 + off)) m.regs (pk * 4096 + off)

/-- The state with a register word replaced. -/
def setWord (m : Mach) (pk off : Nat) (w : Word) : Mach :=
  { m with regs := Store.set (resetWord (pk * 4096 + off)) m.regs (pk * 4096 + off) w }

/-- A field of a page's register. -/
def rd (m : Mach) (pk : Nat) (f : Field) : Nat := bits (m.word pk f.off).toNat f.hi f.lo

/-- A one-bit field. -/
def flag (m : Mach) (pk : Nat) (f : Field) : Bool := m.rd pk f ≠ 0

/-- The state with a field replaced. -/
def wr (m : Mach) (pk : Nat) (f : Field) (v : Nat) : Mach :=
  m.setWord pk f.off (BitVec.ofNat 32 (putBits (m.word pk f.off).toNat f.hi f.lo v))

/-- The state with a one-bit field set or cleared. -/
def wrb (m : Mach) (pk : Nat) (f : Field) (b : Bool) : Mach := m.wr pk f b.toNat

/-- The active copy of an RWS field (R100). -/
def act (m : Mach) (pk : Nat) (f : Field) : Nat := m.rd pk { f with off := f.off + 0x800 }

/-- The active copy of a one-bit RWS field. -/
def actFlag (m : Mach) (pk : Nat) (f : Field) : Bool := m.act pk f ≠ 0

/-- A field read as two's complement over its width. -/
def rdS (m : Mach) (pk : Nat) (f : Field) : Int := toS f.width (m.rd pk f)

/-- A count increased by `k`, saturating at its field's width (R99). -/
def incBy (m : Mach) (pk : Nat) (f : Field) (k : Nat) : Mach := m.wr pk f (min (m.rd pk f + k) (2 ^ f.width - 1))

/-- A saturating count increased by one. -/
def inc (m : Mach) (pk : Nat) (f : Field) : Mach := m.incBy pk f 1

/-- A wrapping count increased by one. -/
def incW (m : Mach) (pk : Nat) (f : Field) : Mach := m.wr pk f (m.rd pk f + 1)

/-- A 64-bit or narrower value held in a low and a high register. -/
def rd2 (m : Mach) (pk : Nat) (lo hi : Field) : Nat := m.rd pk lo + 2 ^ 32 * m.rd pk hi

/-- The state with such a value replaced. -/
def wr2 (m : Mach) (pk : Nat) (lo hi : Field) (v : Nat) : Mach := (m.wr pk lo v).wr pk hi (v / 2 ^ 32)

/-- The active copy of such a value. -/
def act2 (m : Mach) (pk : Nat) (lo hi : Field) : Nat := m.act pk lo + 2 ^ 32 * m.act pk hi

/-! ### Events and refusals -/

/-- An event of a page: its INT_RAW bit is set (R97). -/
def raise (m : Mach) (pk b : Nat) : Mach := m.setWord pk 0x010 (m.word pk 0x010 ||| BitVec.ofNat 32 (2 ^ b))

/-- A refused or invalid write counted in the page's ERR_COUNT (R97). -/
def errCount (m : Mach) (pk : Nat) : Mach := m.inc pk F.ERR_COUNT_COUNT

/-- A refusal that is counted and raises event `b`. -/
def refuse (m : Mach) (pk b : Nat) : Mach := (m.errCount pk).raise pk b

/-- The page is enabled (R97) (log entry 17). -/
def enabled (m : Mach) (pk : Nat) : Bool := m.flag pk F.PAGE_CTRL_ENABLE

/-! ### Window elements -/

/-- Key of element `i` of array `a` of a page. -/
def elKey (pk a i : Nat) : Nat := (pk * 16 + a) * 2 ^ 24 + i

/-- Element `i` of array `a` of a page. -/
def el (m : Mach) (pk a i : Nat) : Nat := Store.get 0 m.arr (elKey pk a i)

/-- The state with that element replaced. -/
def setEl (m : Mach) (pk a i v : Nat) : Mach := { m with arr := Store.set 0 m.arr (elKey pk a i) v }

/-- The state with every element of array `a` of a page zero. -/
def clearArr (m : Mach) (pk a : Nat) : Mach :=
  { m with arr := m.arr.clear (elKey pk a 0) (elKey pk (a + 1) 0) }

/-! ### Tiles, clusters and hands -/

/-- Number of tiles of the part (R3) (log entry 8). -/
def nTiles (m : Mach) : Nat := match m.part with | .p2 => 2 | .p4 => 4 | .p8 => 8

/-- Present under PKG.IDENT.TILEMAP (R91). -/
def present (m : Mach) (t : Nat) : Bool := t < m.nTiles

def tile (m : Mach) (t : Nat) : TileSt := vget m.tiles t
def modTile (m : Mach) (t : Nat) (f : TileSt → TileSt) : Mach := { m with tiles := vmod m.tiles t f }
def clu (m : Mach) (g : Nat) : Cluster := vget m.clus g
def modClu (m : Mach) (g : Nat) (f : Cluster → Cluster) : Mach := { m with clus := vmod m.clus g f }
def hand (m : Mach) (h : Nat) : Hand := vget m.hands h
def modHand (m : Mach) (h : Nat) (f : Hand → Hand) : Mach := { m with hands := vmod m.hands h f }

/-- The part with something that leaves it added to the step's outputs. -/
def emitOut (m : Mach) (o : Out) : Mach := { m with out := m.out ++ [o] }

/-- The tile is powered, out of reset and answers on its pages (R83, R109). -/
def answers (m : Mach) (t : Nat) : Bool := m.present t && decide ((m.tile t).life = .up)

/-- The tile is powered and out of reset, whether or not its pages answer yet (R58, R83). -/
def awake (m : Mach) (t : Nat) : Bool :=
  m.present t && (match (m.tile t).life with | .starting | .released | .up => true | _ => false)

/-- Tile `t` can be reached from tile `p` across the ring (R109, R496). -/
def reaches (m : Mach) (p t : Nat) : Bool := p = t || bit (m.rd (P.ring p) F.RING_STAT_REACH) t

/-- Time base N of a tile (R76). -/
def now (m : Mach) (t : Nat) : Nat := (m.tile t).n

/-- Domain `d` of tile `t` is on (R66). AON and CTRL are on whenever the tile is out of power-on reset. -/
def domOn (m : Mach) (t d : Nat) : Bool := bit (m.rd (P.pwr t) F.PWR_DOM_STAT_ON) (d - 1)

/-- The power sequencer is switching domain `d` off (R61, R62). -/
def goingOff (m : Mach) (t d : Nat) : Bool :=
  match (m.tile t).seq with
  | some s => decide (s.dom = d) && !s.on
  | none => false

/-- A block of tile `t` in domain `d` works: the tile is out of reset and the domain is on and not being switched off (R62). -/
def live (m : Mach) (t d : Nat) : Bool := m.awake t && m.domOn t d && !m.goingOff t d

/-- The hand that cluster `g` belongs to: formed (VALID = 1) with `g` among its members (R132); for a member cut off by a partition
the hand it had at the cut (R142). -/
def handOf (m : Mach) (g : Nat) : Option Nat :=
  match (m.clu g).cut with
  | some c => some c.hand
  | none => (List.range 16).find? fun h =>
      m.flag P.mode (F.MODE_HAND_CFG_VALID.nth h) && bit (m.rd P.mode (F.MODE_HAND_CFG_MEMBERS.nth h)) g

/-- STATE of a hand (R132): 0 not formed, 1 READY, 2 CALIBRATE, 3 SCAN, 4 HOLD. -/
def handState (m : Mach) (h : Nat) : Nat := m.rd P.mode (F.MODE_HAND_STAT_STATE.nth h)
def handArmed (m : Mach) (h : Nat) : Bool := m.flag P.mode (F.MODE_HAND_STAT_ARMED.nth h)
def dealOpen (m : Mach) (h : Nat) : Bool := m.flag P.mode (F.MODE_HAND_STAT_DEAL_OPEN.nth h)
def members (m : Mach) (h : Nat) : List Nat :=
  (List.range 16).filter fun g => bit (m.rd P.mode (F.MODE_HAND_CFG_MEMBERS.nth h)) g

/-- Members that follow the hand's boundaries: those no partition has cut off (R513). -/
def followers (m : Mach) (h : Nat) : List Nat := (m.members h).filter fun g => (m.clu g).cut.isNone

/-- The cluster's hand is armed: the condition under which its configuration is refused (R168 and its kin). -/
def armed (m : Mach) (g : Nat) : Bool :=
  match (m.clu g).cut with
  | some c => c.armed
  | none => match m.handOf g with | some h => m.handArmed h | none => false

/-- The cluster's hand is outside READY: its dealer runs deals (R59, R102). -/
def running (m : Mach) (g : Nat) : Bool :=
  match (m.clu g).cut with
  | some c => decide (2 ≤ c.state)
  | none => match m.handOf g with | some h => decide (2 ≤ m.handState h) | none => false

/-- The hand of one of the tile's clusters is armed. -/
def tileArmed (m : Mach) (t : Nat) : Bool := m.armed (2 * t) || m.armed (2 * t + 1)

/-- A deal is open for the cluster: its hand's, unless the member ended it at a rejoin (R516). -/
def inDeal (m : Mach) (g : Nat) : Bool :=
  match (m.clu g).cut with
  | some c => c.dealOpen
  | none => match m.handOf g with | some h => m.dealOpen h && (m.clu g).recEnd.isNone | none => false

/-- Number of the cluster's open or last deal (R132, R516). -/
def dealNo (m : Mach) (g : Nat) : Nat :=
  match (m.clu g).cut with
  | some c => c.deal
  | none => match (m.clu g).recEnd with
    | some e => e.2.1
    | none => match m.handOf g with | some h => m.rd P.mode (F.MODE_HAND_DEAL_DEAL.nth h) | none => 0

/-- The cluster sits idle because its tile was lost while the hand was armed (R146). -/
def idleMember (m : Mach) (g : Nat) : Bool :=
  match m.handOf g with | some h => (m.hand h).lost.contains g | none => false

/-- DORMANT entry of the tile is in progress: its sequencer still switches domains off (R85, R90). -/
def fallingAsleep (m : Mach) (t : Nat) : Bool := (m.tile t).dormant && (m.tile t).seq.isSome

/-! ### Values the manual leaves open -/

/-- A free number, and the state with the counter advanced (log entry 3). -/
def freeNat (m : Mach) : Nat × Mach := (Config.freeNat m.free, { m with free := m.free + 1 })

/-- A free choice, and the state with the counter advanced (log entry 3). -/
def freeBool (m : Mach) : Bool × Mach := (Config.freeBool m.free, { m with free := m.free + 1 })

/-! ### Pages -/

/-- Every register word of a page back at its reset value. -/
def resetPage (m : Mach) (pk : Nat) : Mach := { m with regs := m.regs.clear (pk * 4096) (pk * 4096 + 4096) }

/-- Every window element of a page zero, and no window word assembled. -/
def clearArrays (m : Mach) (pk : Nat) : Mach :=
  { m with arr := m.arr.clear (elKey pk 0 0) (elKey (pk + 1) 0 0), winAsm := m.winAsm.clear (pk * 4) (pk * 4 + 4) }

/-- The bits of a register word a block soft reset keeps (R84, R86): configuration, its active copies, INT_EN, INT_ROUTE, LOCK
and the window's own registers; status bits, counts and events go. -/
def keptBySoftReset (pk off : Nat) : Nat :=
  if off = 0x004 then 4
  else if off = 0x014 ∨ off = 0x020 then 0xFFFFFFFF
  else if off = 0x030 then 0x100
  else if off < 0x040 then 0
  else if 0x200 ≤ off ∧ off < 0x21C ∧ hasWindow (tileOf pk) (pageOf pk) then 0xFFFFFFFF
  else match rowOf pk (if off < 0x800 then off else off - 0x800) with
    | none => 0
    | some r => if off < 0x800 then r.rw ||| r.rws else r.rws

/-- A block soft reset of the page's registers: kept bits stay, every other bit returns to its reset value. -/
def softResetPage (m : Mach) (pk : Nat) : Mach :=
  let lo := pk * 4096
  let mine := m.regs.filter fun e => lo ≤ e.1 && e.1 < lo + 4096
  mine.foldl (fun m e =>
    let off := e.1 - lo
    let k := BitVec.ofNat 32 (keptBySoftReset pk off)
    m.setWord pk off ((e.2 &&& k) ||| (resetWord e.1 &&& ~~~k))) m

/-- Every RWS register of the page copied from shadow to active (R102). -/
def copyShadows (m : Mach) (pk : Nat) : Mach :=
  (pageRegs (tileOf pk) (pageOf pk)).foldl (fun m r =>
    if r.rws = 0 then m
    else (List.range r.count).foldl (fun m i =>
      let off := r.off + i * r.stride
      let mask := BitVec.ofNat 32 r.rws
      m.setWord pk (off + 0x800) ((m.word pk off &&& mask) ||| (m.word pk (off + 0x800) &&& ~~~mask))) m) m

/-- A commit that is due: the copy is made and the pending bits fall (R102). -/
def commitNow (m : Mach) (pk : Nat) : Mach :=
  ((m.copyShadows pk).wr pk F.COMMIT_DEAL 0).wr pk F.COMMIT_LINE 0

/-- The pages whose shadows follow dealer `g % 2` of tile `g / 2` (R102): those of the cluster, and MELD, OUTF, CHK and PACE
when their REF names it. -/
def pagesOfDealer (m : Mach) (g : Nat) : List Nat :=
  [P.sport g, P.deal g, P.vc g, P.acc g, P.shd g, P.cal g, P.axis g, P.lamp g] ++
  ([P.meld (g / 2), P.outf (g / 2), P.chk (g / 2), P.pace (g / 2)].filter fun pk => m.rd pk F.COMMIT_REF = g % 2)

/-- A line boundary of dealer `g`: pending LINE commits apply, and with them a pending DEAL (R102). -/
def lineBoundary (m : Mach) (g : Nat) : Mach :=
  (m.pagesOfDealer g).foldl (fun m pk => if m.flag pk F.COMMIT_LINE then m.commitNow pk else m) m

/-- A deal boundary of dealer `g`: every pending commit of its pages applies (R102, R103). -/
def dealBoundary (m : Mach) (g : Nat) : Mach :=
  (m.pagesOfDealer g).foldl (fun m pk => if m.flag pk F.COMMIT_LINE || m.flag pk F.COMMIT_DEAL then m.commitNow pk else m) m

/-! ### DRAM bytes -/

/-- Protected span of a tile's DRAM in bytes, 0 with ECC off (R480). -/
def dramProt (m : Mach) (t : Nat) : Nat :=
  if m.flag (P.dram t) F.DRAM_ECC_EN then m.rd (P.dram t) F.DRAM_ECC_PROT * 2 ^ 30 else 0

/-- Capacity of a tile's DRAM in bytes as fabric addresses see it; 0 while no type is set (R480, R492). -/
def dramCap (m : Mach) (t : Nat) : Nat :=
  if m.rd (P.dram t) F.DRAM_CFG_TYPE = 0 then 0
  else 2 ^ (30 + m.rd (P.dram t) F.DRAM_CFG_SIZE) - m.dramProt t / 8

/-- Device address of a fabric DRAM address (R480). -/
def dramDev (m : Mach) (t f : Nat) : Nat :=
  if f < m.dramProt t * 7 / 8 then f / 3584 * 4096 + f % 3584 else f + m.dramProt t / 8

/-- Key of a DRAM byte. -/
def dramKey (m : Mach) (t f : Nat) : Nat := t * 2 ^ 36 + m.dramDev t f

/-- A DRAM byte by fabric address (log entry 10). -/
def dramByte (m : Mach) (t f : Nat) : Byte := Store.get 0 m.dram (m.dramKey t f)

/-- `k` DRAM bytes from a fabric address. -/
def dramRead (m : Mach) (t f : Nat) : Nat → List Byte
  | 0 => []
  | k + 1 => m.dramByte t f :: dramRead m t (f + 1) k

/-- The state with bytes stored from a fabric address on (log entry 70). -/
def dramWrite (m : Mach) (t f : Nat) : List Byte → Mach
  | [] => m
  | b :: r =>
    dramWrite { m with dram := Store.set 0 m.dram (m.dramKey t f) b,
                       dramMark := m.dramMark.erase (m.dramKey t f / 8) } t (f + 1) r

/-! ### Register writes by access code (R94, R95) -/

/-- A write of the word `v` to a register under its access codes: RW and RWS bits take the written value, W1C bits written as 1
clear, all other bits stay. A register whose fields are all RO counts the write; an offset with no register ignores it. -/
def genericWrite (m : Mach) (pk off : Nat) (v : Word) : Mach :=
  match rowOf pk off with
  | none => m
  | some r =>
    if r.rw = 0 ∧ r.rws = 0 ∧ r.w1c = 0 ∧ r.act = 0 then m.errCount pk
    else
      let take := BitVec.ofNat 32 (r.rw ||| r.rws)
      let clear := v &&& BitVec.ofNat 32 r.w1c
      m.setWord pk off ((((m.word pk off) &&& ~~~take) ||| (v &&& take)) &&& ~~~clear)

/-- The value a field of the register would take from a written word. -/
def fieldOf (v : Word) (f : Field) : Nat := bits v.toNat f.hi f.lo

/-! ### Time (R76, R446) -/

/-- A declarer serves the primary segment: the keepalive windows run (R126). -/
def keepaliveRuns (m : Mach) : Bool := (List.range 8).any fun t => m.answers t && m.rd (P.decl t) F.DECL_ROLE_ROLE = 1

/-- Sixteenths of a tick of REMAIN that `k` further CLK_PIPE cycles absorb: one every 625 cycles (R446) (log entry 66). -/
def absorbed (m : Mach) (k : Nat) : Nat := min m.slewRemain.natAbs ((m.slewCount + k) / 625)

/-- What `k` CLK_PIPE cycles add to a tile's time base, in 2^-32 tick: RATE and the absorbed part of REMAIN on top (R446); in an island
segment the RATE of the cut alone (R499) (log entries 1, 66). -/
def elapsed (m : Mach) (ts : TileSt) (k : Nat) : Nat :=
  match ts.ring.rate with
  | some r => ((k : Int) * (2 ^ 32 + r)).toNat
  | none => ((k : Int) * (2 ^ 32 + m.slewRate) + m.slewRemain.sign * (m.absorbed k * 2 ^ 28 : Nat)).toNat

/-- A tile's time base in 2^-32 tick; F is the top four bits of its fraction (R76). -/
def time32 (m : Mach) (t : Nat) : Nat := (m.tile t).n * 2 ^ 32 + (m.tile t).sub

/-- Fraction F of a tile's time base in units of 125 ps (R76). -/
def fracF (m : Mach) (t : Nat) : Nat := (m.tile t).sub / 2 ^ 28

/-- `k` CLK_PIPE cycles pass: every time base out of power-on reset counts (R76, R77), and so does the clock of the keepalive windows
(R125, R126) (log entries 1, 92). -/
def passCycles (m : Mach) (k : Nat) : Mach :=
  let a := m.absorbed k
  let left := m.slewRemain - m.slewRemain.sign * (a : Int)
  { m with tiles := m.tiles.map fun ts =>
             if ts.life = .por then ts
             else
               let e := m.elapsed ts k
               { ts with n := (ts.n + (ts.sub + e) / 2 ^ 32) % 2 ^ 64, sub := (ts.sub + e) % 2 ^ 32 },
           kaClock := if m.keepaliveRuns then m.kaClock + k else m.kaClock,
           slewRemain := left,
           slewCount := if left = 0 then 0 else (m.slewCount + k) % 625 }

/-- Largest number below `2 ^ fuel` above `r` at which a falling predicate still holds. -/
def lastTrue (p : Nat → Bool) : Nat → Nat → Nat
  | 0, r => r
  | k + 1, r => if p (r + 2 ^ k) then lastTrue p k (r + 2 ^ k) else lastTrue p k r

/-- CLK_PIPE cycles until tile `t`'s time base reaches `n`, which lies ahead (log entry 6). -/
def cyclesTo (m : Mach) (t n : Nat) : Nat :=
  if m.slewRate = 0 ∧ m.slewRemain = 0 ∧ (m.tile t).ring.rate = none then n - m.now t
  else lastTrue (fun k => m.time32 t + m.elapsed (m.tile t) k < n * 2 ^ 32) 66 0 + 1

/-- Time passes until tile `t`'s time base reaches `n`: every time base of the part advances by as many cycles (log entry 6). An
instant already past leaves the time bases as they are. -/
def advance (m : Mach) (t n : Nat) : Mach := if n ≤ m.now t then m else m.passCycles (m.cyclesTo t n)

end Sys2Proof.Machine.Mach
end

