-- ==== Sys2Proof/Machine/Irq.lean ====
section
/-!
DEFINITION. Interrupt summaries (R128, R129): which events reach a port, the summary of a tile and of the package, and the global
page registers as a segment's serving declarer holds them (R107, R514).
-/

namespace Sys2Proof.Machine.Mach

/-- First register address of the global pages. -/
def globalBase : Nat := 14 * 256 * 4096

/-- The state with the global page registers, the hands and the fault log exchanged with those that island declarer `d` serves (R514) (log entries 84, 85). -/
def swapView (m : Mach) (d : Nat) : Mach :=
  let own := m.regs.filter fun e => globalBase ≤ e.1
  let rest := m.regs.filter fun e => e.1 < globalBase
  let ts := m.tile d
  { (m.modTile d fun ts => { ts with ring := { ts.ring with view := own, hands := m.hands }, islLog := m.pkgLog }) with
    regs := rest ++ ts.ring.view, hands := ts.ring.hands, pkgLog := ts.islLog,
    viewOf := if m.viewOf.isSome then none else some d }

/-- The island declarer whose view an access that enters at tile `p` meets; `none` in the primary segment, and within that view (R514). -/
def islandOf (m : Mach) (p : Nat) : Option Nat :=
  if m.viewOf.isNone && m.flag (P.ring p) F.RING_STAT_OUTSIDE then some (m.rd (P.decl p) F.DECL_ROLE_DECL) else none

/-- The tile that serves the global pages: the declarer, within a view its island declarer (R107, R514). -/
def declarer (m : Mach) : Option Nat :=
  match m.viewOf with
  | some d => some d
  | none => (List.range 8).find? fun t => m.answers t && m.rd (P.decl t) F.DECL_ROLE_ROLE = 1

/-- The tile that serves the global pages to accesses that enter at tile `p`. -/
def serving (m : Mach) (p : Nat) : Option Nat :=
  match m.islandOf p with
  | some d => some d
  | none => m.declarer

/-- An event of the page reaches port `p` (0 A, 1 B): INT_STAT is not zero and INT_ROUTE includes the port; SEM_LOST_A goes to port B
only and SEM_LOST_B to port A only, whatever INT_ROUTE says (R128). -/
def pageEvent (m : Mach) (pk p : Nat) : Bool :=
  let stat := ((m.word pk 0x010) &&& (m.word pk 0x014)).toNat
  let routed := bit (m.word pk 0x020).toNat p
  if pk = P.ports then (decide (stat / 4 ≠ 0) && routed) || bit stat (1 - p)
  else decide (stat ≠ 0) && routed

/-- Summary of a tile's pages for a port, bit p for page p (R128); zero while the tile does not answer. -/
def tileIrq (m : Mach) (t p : Nat) : Nat :=
  if !m.answers t then 0
  else (tilePages.map fun pg => if m.pageEvent (pageKey t pg) p then 2 ^ pg else 0).sum

/-- Summary of the global pages for a port. -/
def globIrq (m : Mach) (p : Nat) : Nat :=
  ((List.range 7).map fun pg => if m.pageEvent (pageKey 14 pg) p then 2 ^ pg else 0).sum

/-- `PORTS.IRQ_SUM` for a port as tile `d` serves it: bit 8 for the global pages, bit t for a tile that `d` reaches (R127, R128). -/
def irqSum (m : Mach) (d p : Nat) : Nat :=
  (decide (m.globIrq p ≠ 0)).toNat * 256 +
    ((List.range 8).map fun t => if m.reaches d t && decide (m.tileIrq t p ≠ 0) then 2 ^ t else 0).sum

/-- A function of the state computed in the view that accesses entering at tile `p` meet. -/
def viewed {α : Type} (m : Mach) (p : Nat) (f : Mach → α) : α :=
  match m.islandOf p with
  | some d => f (m.swapView d)
  | none => f m

/-- Tile through which a port's accesses enter: tile 0 for port B, the tile that carries port A for port A (R107, R119). -/
def entryTile (m : Mach) (p : Nat) : Nat := if p = 1 then 0 else m.rd P.ports F.PORTS_STAT_A_TILE

/-- The summary pair (IRQ_SUM, IRQ_GLOB) of a port for accesses that enter at tile `e`. -/
def irqPair (m : Mach) (e p : Nat) : Nat × Nat :=
  match m.serving e with
  | none => (0, 0)
  | some d => m.viewed e fun v => (v.irqSum d p, v.globIrq p)

/-- A port's interrupt pin is driven low: the summary of tile 0's segment is not zero and the pin is enabled (R129, R514). -/
def pinLow (m : Mach) (p : Nat) : Bool :=
  decide ((m.irqPair 0 p).1 ≠ 0) &&
    m.viewed 0 fun v => v.flag P.ports (if p = 0 then F.PORTS_IRQ_CFG_PIN_A_EN else F.PORTS_IRQ_CFG_PIN_B_EN)

/-! ### Island segments (R513, R514) -/

/-- The island declarers of the package. -/
def islandDeclarers (m : Mach) : List Nat := (List.range 8).filter fun d => m.answers d && m.rd (P.decl d) F.DECL_ROLE_ROLE = 3

/-- A tile whose hands and global pages the view in force is about: outside every island segment, or in the one whose view it is. -/
def inThisView (m : Mach) (t : Nat) : Bool :=
  match m.viewOf with
  | none => !m.flag (P.ring t) F.RING_STAT_OUTSIDE
  | some d => m.flag (P.ring t) F.RING_STAT_OUTSIDE && m.reaches d t

/-- A function applied in the view of island declarer `d`: there the members of its segment follow their hands and the others are cut
off; what it does to the hands is kept in the members' `cut` (R513) (log entry 84). -/
def inView (m : Mach) (d : Nat) (f : Mach → Mach) : Mach :=
  let cuts := m.clus.map Cluster.cut
  let mine := fun g => m.reaches d (g / 2)
  let v := m.swapView d
  let v := f { v with clus := v.clus.mapIdx fun g c =>
    { c with cut := if mine g then none else some (c.cut.getD { hand := (m.handOf g).getD 15 }) } }
  let r := v.swapView d
  { r with clus := r.clus.mapIdx fun g c =>
    { c with cut := (vget cuts g).map fun x =>
        if mine g then { x with state := v.handState x.hand, armed := v.handArmed x.hand, dealOpen := v.inDeal g, deal := v.dealNo g }
        else x } }

/-- A function applied in the view of tile `t`'s segment. -/
def inSeg (m : Mach) (t : Nat) (f : Mach → Mach) : Mach :=
  match m.islandOf t with
  | some d => m.inView d f
  | none => f m

end Sys2Proof.Machine.Mach
end

