-- ==== Sys2Proof/Machine/Queues.lean ====
section
/-!
DEFINITION. Queues and the shared pool (R298–R327): cells and their tags, credits, opening and closing a trick, delivery, the
register consumer, queue reset and the reaper, spill and replay, the kitties; and on top of them the event tricks of every
producer and the fault log with its trick (R517–R520).
-/

namespace Sys2Proof.Machine

/-! ### Cells and tags (R301) -/

/-- Exclusive or of the low `k` bits of a number. -/
def parity : Nat → Nat → Bool
  | 0, _ => false
  | k + 1, n => xor (n % 2 = 1) (parity k (n / 2))

/-- End of a linked list in a tag's NEXT (R301). -/
def endOfList : Nat := 0xFFFFFFFF

/-- A tag with its TPAR bit giving bits [63:0] even parity (log entry 7). -/
def sealTag (t : Nat) : BitVec 64 := BitVec.ofNat 64 (putBits t 0 0 (parity 63 (t / 2)).toNat)

/-- The parity bits of data words 7 … 0, even parity over each word and its bit (log entry 7). -/
def wordParities (ws : List Word) : Nat :=
  ws.reverse.foldl (fun a w => 2 * a + (parity 32 w.toNat).toNat) 0

namespace Cell
def next (c : Cell) : Nat := bits c.tag.toNat 63 32
def par (c : Cell) : Nat := bits c.tag.toNat 31 24
def pois (c : Cell) : Nat := bits c.tag.toNat 23 16
def hdr (c : Cell) : Bool := bit c.tag.toNat 15
def isl (c : Cell) : Bool := bit c.tag.toNat 14
def dcells (c : Cell) : Nat := bits c.tag.toNat 13 8

/-- The tag's parity passes (log entries 7, 43). -/
def tagOk (c : Cell) : Bool := !parity 64 c.tag.toNat

def withNext (c : Cell) (n : Nat) : Cell := { c with tag := sealTag (putBits c.tag.toNat 63 32 n) }

/-- Bit n: word n is delivered poisoned, by its parity or by its POIS bit (R316). -/
def poison (c : Cell) : Nat := (wordParities c.words ^^^ c.par) ||| c.pois
end Cell

/-- The words of up to 32 bytes, padded with zero bytes to eight words. -/
def bytesToWords (bs : List Byte) : List Word :=
  (List.range 8).map fun i => BitVec.ofNat 32 (ofLe ((bs.drop (4 * i)).take 4))

/-- The bytes of a cell's words. -/
def wordsToBytes (ws : List Word) : List Byte := ws.flatMap fun w => leBytes 4 w.toNat

/-- A cell with fresh tag: `next` is 0 in a chain (R301). -/
def mkCell (idx next : Nat) (hdr isl filled : Bool) (dcells : Nat) (ws : List Word) : Cell :=
  { idx, words := ws, filled,
    tag := sealTag (next * 2 ^ 32 + wordParities ws * 2 ^ 24 + hdr.toNat * 2 ^ 15 + isl.toNat * 2 ^ 14 + dcells * 2 ^ 8) }

/-- Number of data cells of a payload. -/
def dataCells (payload : List Byte) : Nat := (payload.length + 31) / 32

/-- Count of the set bits among the low `k` bits. -/
def popcount : Nat → Nat → Nat
  | 0, _ => 0
  | k + 1, n => n % 2 + popcount k (n / 2)

namespace Mach

def queue (m : Mach) (t q : Nat) : Queue := vget (m.tile t).queues q
def modQueue (m : Mach) (t q : Nat) (f : Queue → Queue) : Mach :=
  m.modTile t fun ts => { ts with queues := vmod ts.queues q f }
def kit (m : Mach) (t : Nat) : KittySt := (m.tile t).kitty
def modKit (m : Mach) (t : Nat) (f : KittySt → KittySt) : Mach := m.modTile t fun ts => { ts with kitty := f ts.kitty }

/-! ### Queue configuration and credits (R299, R306) -/

/-- MODE is POOL_SRAM (R309). -/
def isPool (m : Mach) (t q : Nat) : Bool := m.rd (P.que t) (F.QUE_Q_CFG_MODE.nth q) = 1

/-- Cells of a queue's chain (R298). -/
def chainCap (q : Nat) : Nat := if q < 8 then 64 else 16

/-- The queue whose PROD names a producer (R299); none while DMAQ is off. -/
def queueOfProd (m : Mach) (t prod : Nat) : Option Nat :=
  (List.range 32).find? fun q => 8 ≤ q && m.live t D.dmaq && m.rd (P.que t) (F.QUE_Q_CFG_PROD.nth q) = prod

/-- Cells reserved and not yet written. -/
def Queue.reserved (q : Queue) : Nat := match q.opened with | some o => o.reserved | none => 0

/-- `QUE.Qq_FREE` (R306, R327). -/
def queFree (m : Mach) (t q : Nat) : Nat :=
  let s := m.queue t q
  let used := s.cells.length + Queue.reserved s
  if !m.enabled (P.que t) then 0
  else if !m.isPool t q then chainCap q - used
  else if !(m.kit t).sramReady || !m.enabled (P.kitty t) || (m.kit t).testing then 0
  else m.rd (P.que t) (F.QUE_Q_CFG_LIMIT.nth q) - used - s.reapSramCount - s.leaked

/-! ### Pools (R311) -/

/-- The two copies of a pool's free-list head and fresh counter agree (R317). -/
def Pool.ok (p : Pool) : Bool := p.free.head? == p.freeHead1 && p.fresh0 == p.fresh1

/-- A cell taken from the free list, or else from the fresh counter while it is below `size`. -/
def Pool.alloc (size : Nat) (p : Pool) : Option (Nat × Pool) :=
  match p.free with
  | i :: r => some (i, { p with free := r, freeHead1 := r.head? })
  | [] => if p.fresh0 < size then some (p.fresh0, { p with fresh0 := p.fresh0 + 1, fresh1 := p.fresh0 + 1 }) else none

/-- A freed cell pushed onto the free list. -/
def Pool.release (i : Nat) (p : Pool) : Pool := { p with free := i :: p.free, freeHead1 := some i }

/-- SRAM cells of the kitty (R308). -/
def sramCells : Nat := 32768

/-- Cells of the DRAM kitty in force. -/
def dramCells (m : Mach) (t : Nat) : Nat := m.rd (P.kitty t) F.KITTY_DRAM_CELLS_CELLS

/-- Free cells of a pool of `size`, fresh ones included. -/
def Pool.count (size : Nat) (p : Pool) : Nat := p.free.length + (size - p.fresh0)

/-- `KITTY.SRAM_FREE` and `KITTY.DRAM_FREE` (R326). -/
def sramFree (m : Mach) (t : Nat) : Nat := Pool.count sramCells (m.kit t).sram
def dramFree (m : Mach) (t : Nat) : Nat :=
  if (m.kit t).dramReady then Pool.count (m.dramCells t) (m.kit t).dram else 0

/-! ### DRAM as the kitty finds it (R312, R317, R481) -/

/-- Error of the 8-byte word at `f`: 0 none, 1 a single-bit, more a double-bit error; words outside the protected region are not checked (log entry 70). -/
def dramErr (m : Mach) (t f : Nat) : Nat :=
  if m.dramProt t * 7 / 8 ≤ f then 0 else Store.get 0 m.dramMark (m.dramKey t f / 8)

/-- A word of a range has a double-bit error. -/
def dramBad (m : Mach) (t f len : Nat) : Bool :=
  !m.dramMark.isEmpty && (List.range ((f + len + 7) / 8 - f / 8)).any fun i => decide (2 ≤ m.dramErr t ((f / 8 + i) * 8))

/-- Fabric address of the DRAM kitty. -/
def dramBase (m : Mach) (t : Nat) : Nat :=
  m.rd (P.kitty t) F.KITTY_DRAM_BASE_LO_ADDR * 4096 + m.rd (P.kitty t) F.KITTY_DRAM_BASE_HI_ADDR * 2 ^ 32

/-- Fabric addresses of data and tag of cell `i` of the DRAM kitty (R312). -/
def dataAddr (m : Mach) (t i : Nat) : Nat := m.dramBase t + 32 * i
def tagAddr (m : Mach) (t i : Nat) : Nat := m.dramBase t + 32 * m.dramCells t + 8 * i

/-- Cell `i` of the DRAM kitty as memory holds it (log entry 76). -/
def dramCell (m : Mach) (t i : Nat) : Cell :=
  { idx := i, filled := true,
    words := bytesToWords (m.dramRead t (m.dataAddr t i) 32),
    tag := BitVec.ofNat 64 (ofLe (m.dramRead t (m.tagAddr t i) 8)) }

/-- A tag of the DRAM kitty reads without error: its word (R481) and its parity (R317). -/
def dramTagOk (m : Mach) (t i : Nat) : Bool := decide (m.dramErr t (m.tagAddr t i) < 2) && (m.dramCell t i).tagOk

/-- The cell whose tag error ends a walk of at most `k` cells (R317, R319, R481). -/
def walkStop (m : Mach) (t : Nat) : Nat → Nat → Option Nat
  | 0, _ => none
  | k + 1, i =>
    if m.dramCells t ≤ i then none
    else if !m.dramTagOk t i then some i
    else if (m.dramCell t i).next = endOfList then none else walkStop m t k (m.dramCell t i).next

/-- The cells of a spill list walked from an index through NEXT, at most `k` of them; the walk ends at the end mark, at a tag
error or at an index outside the pool (R317, R319, R481). -/
def walkDram (m : Mach) (t : Nat) : Nat → Nat → List Cell
  | 0, _ => []
  | k + 1, i =>
    if m.dramCells t ≤ i then []
    else
      let c := m.dramCell t i
      if m.dramTagOk t i then c :: (if c.next = endOfList then [] else walkDram m t k c.next) else []

/-- Cells of a queue's spill list (`Qq_SPILL_CELLS`). -/
def spillCells (m : Mach) (t q : Nat) : Nat := (m.queue t q).spill.length

/-- The complete trick at the head of a queue, if its header is filled: header and data cells. -/
def headTrick (m : Mach) (t q : Nat) : Option (List Cell) :=
  match (m.queue t q).cells with
  | [] => none
  | c :: r => if c.hdr && c.filled && decide (c.dcells ≤ r.length) then some (c :: r.take c.dcells) else none

/-- The spill writer stands in front of queue `q` and has a complete trick to store (R313, R314). -/
def wantsSpill (m : Mach) (t q : Nat) : Bool :=
  m.flag (P.que t) (F.QUE_Q_CFG_SPILL_OK.nth q) && m.rd (P.que t) (F.QUE_Q_CFG_CONS.nth q) = 0 &&
  ((m.kit t).spilling || !(m.queue t q).spill.isEmpty) && (m.headTrick t q).isSome

/-- NEAR_FULL and DRAM_FULL brought up to date; each rise raises its event (R315). `waiting`: the spill writer has just found no free cell. -/
def updateFull (m : Mach) (t : Nat) (waiting : Bool) : Mach :=
  let near := (m.kit t).dramReady && decide (m.dramFree t < m.rd (P.kitty t) F.KITTY_DRAM_LOW_CELLS)
  let full := (m.kit t).dramReady && m.dramFree t = 0 && (waiting || (m.kit t).dramFull) && (List.range 32).any fun q => m.wantsSpill t q
  let m := if near && !(m.kit t).nearFull then m.raise (P.kitty t) 0 else m
  let m := if full && !(m.kit t).dramFull then m.raise (P.kitty t) 1 else m
  m.modKit t fun k => { k with nearFull := near, dramFull := full }

/-! ### What a use of a queue compares (R317) -/

/-- What is wrong with a queue at a use of it: pointer copies that differ (2), or a tag that fails or a link that does not lead to
the next cell (3) (R317) (log entry 103). -/
def queueFault (m : Mach) (t q : Nat) : Option Nat :=
  let s := m.queue t q
  let pool := m.isPool t q
  let linked : List Cell → Bool := fun cs =>
    (cs.zip cs.tail).all (fun p => p.1.next = p.2.idx) && (cs.getLast?.map fun c => decide (c.next = endOfList)).getD true
  if (pool && !s.cells.isEmpty && (s.head0 ≠ s.head1 || s.tail0 ≠ s.tail1)) ||
      (!s.spill.isEmpty && (s.shead0 ≠ s.shead1 || s.stail0 ≠ s.stail1)) then some 2
  else if s.cells.any (fun c => !c.tagOk) || (pool && !linked s.cells) then some 3
  else if (m.walkDram t s.spill.length s.shead0).length < s.spill.length then some 3
  else none

/-- A pool the queue uses has copies that differ: `some true` the DRAM kitty, `some false` the SRAM kitty (R317). `dram`: this use takes
cells of the DRAM kitty (log entry 103). -/
def poolFault (m : Mach) (t q : Nat) (dram : Bool) : Option Bool :=
  if m.isPool t q && !Pool.ok (m.kit t).sram then some false
  else if (dram || !(m.queue t q).spill.isEmpty) && !Pool.ok (m.kit t).dram then some true
  else none

/-- Nothing of what R317 compares at a use of the queue is wrong (log entry 103). -/
def sound (m : Mach) (t q : Nat) : Bool := (m.poolFault t q false).isNone && (m.queueFault t q).isNone

/-! ### Opening, writing and closing a trick (R302, R306) -/

/-- One cell appended at a queue's tail; in pool mode it is linked from the old tail and both pointer copies follow (R317). -/
def pushCell (m : Mach) (t q : Nat) (hdr filled : Bool) (dc : Nat) (ws : List Word) : Mach :=
  if m.isPool t q then
    match Pool.alloc sramCells (m.kit t).sram with
    | none => m
    | some (i, p) =>
      let c := mkCell i endOfList hdr false filled dc ws
      (m.modKit t fun k => { k with sram := p }).modQueue t q fun s =>
        let linked := s.cells.dropLast ++ (s.cells.getLast?.toList.map fun l => l.withNext i)
        { s with cells := linked ++ [c], tail0 := i, tail1 := i,
                 head0 := if s.cells.isEmpty then i else s.head0, head1 := if s.cells.isEmpty then i else s.head1 }
  else m.modQueue t q fun s => { s with cells := s.cells ++ [mkCell 0 0 hdr false filled dc ws] }

/-- The most cells a trick of a producer takes: a line or accumulator trick of stage 9 a header and 63 data cells (R298), any other, whose
size its chapter fixes, its own (log entry 48). -/
def mostCells (tr : Trick) (line : Bool) : Nat := if line then 64 else 1 + dataCells tr.payload

/-- A producer opens a trick: `r` cells are reserved and the unfilled header slot placed (R302). Nothing happens without FREE for them
or with a trick already open (log entry 35). -/
def openRaw (m : Mach) (t q r prod : Nat) (tr : Trick) : Mach :=
  if (m.queue t q).opened.isSome || decide (m.queFree t q < r) then m
  else (m.pushCell t q true false 0 (bytesToWords [])).modQueue t q fun s =>
    { s with opened := some { reserved := r - 1, trick := tr, rest := tr.payload, prod } }

/-- The producer of the open trick writes its data cells in order, each against the reservation (R302) (log entry 35). -/
def writeData (m : Mach) (t q : Nat) : Nat → Mach
  | 0 => m
  | k + 1 =>
    match (m.queue t q).opened with
    | none => m
    | some o =>
      if o.rest.isEmpty then m
      else writeData ((m.pushCell t q false true 0 (bytesToWords (o.rest.take 32))).modQueue t q fun s =>
        { s with opened := some { o with reserved := o.reserved - 1, rest := o.rest.drop 32 } }) t q k

/-- The header slot of the open trick is the last unfilled cell; it takes the header and DCELLS (R302). -/
def fillHeader (ws : List Word) (dc : Nat) : List Cell → List Cell
  | [] => []
  | c :: r => if c.hdr && !c.filled then mkCell c.idx c.next true c.isl true dc ws :: r else c :: fillHeader ws dc r

/-- A producer writes what its open trick still lacks, then its header; the unused reservation returns to FREE (R302) (log entry 35). -/
def closeRaw (m : Mach) (t q : Nat) : Mach :=
  match (m.queue t q).opened with
  | none => m
  | some o => (m.writeData t q (dataCells o.rest)).modQueue t q fun s =>
      { s with cells := fillHeader (bytesToWords o.trick.hdr) (dataCells o.trick.payload) s.cells, opened := none }

/-! ### Event tricks -/

/-- The header of an event trick: VER, KIND, a byte, a code, a sequence number, TIME and LENGTH (R284, R302) (log entry 44). -/
def eventHdr (kind unit code seq time len : Nat) : List Byte :=
  leBytes 1 1 ++ leBytes 1 kind ++ leBytes 1 unit ++ leBytes 1 code ++ leBytes 4 seq ++ leBytes 8 0 ++ leBytes 8 time ++
  leBytes 4 0 ++ leBytes 2 0 ++ leBytes 2 len

/-- A producer's event as a trick: written to the queue that selects it, held in order while the queue has no FREE (at most
`cap` of them), and else dropped, counted in `lost` and, where the page has an event for it, raised. Nothing is written or held
while no queue selects the producer (R299, R351 and its kin). On a queue that a use of it would reset (R317) it is held (log entries 35, 103). -/
def emitRaw (m : Mach) (t prod cap pk : Nat) (lost : Field) (ev : Option Nat) (tr : Trick) : Mach :=
  match m.queueOfProd t prod with
  | none => m
  | some q =>
    let waiting := Store.get [] (m.tile t).held prod
    let r := mostCells tr false
    if waiting.isEmpty && m.sound t q && !(m.queue t q).opened.isSome && decide (r ≤ m.queFree t q) then
      (m.openRaw t q r prod tr).closeRaw t q
    else if waiting.length < cap then
      m.modTile t fun ts => { ts with held := Store.set [] ts.held prod (waiting ++ [tr]) }
    else match ev with
      | some b => (m.inc pk lost).raise pk b
      | none => m.inc pk lost

/-! ### Fault log (R517–R520) -/

/-- The 32 bytes of a fault record (R517). -/
def recBytes (r : FaultRec) : List Byte :=
  leBytes 8 r.time ++ leBytes 2 r.seq ++ leBytes 1 r.code ++ leBytes 1 (r.tile + 16 * r.isl.toNat + 32 * r.aon.toNat) ++
  leBytes 2 r.unit ++ leBytes 1 r.subA ++ leBytes 1 r.subB ++ leBytes 16 r.detail

/-- A record entered in the package log with the next sequence number; the oldest of 1,024 is overwritten (R519). -/
def logPackage (m : Mach) (r : FaultRec) : Mach :=
  let seq := m.rd P.faultlog F.FAULTLOG_HEAD_SEQ
  let m := { m with pkgLog := ((m.pkgLog ++ [{ r with seq }]).drop (m.pkgLog.length - 1023)) }
  let full := m.rd P.faultlog F.FAULTLOG_HELD_COUNT = 1024
  let m := (m.incW P.faultlog F.FAULTLOG_HEAD_SEQ).raise P.faultlog 0
  if full then (m.inc P.faultlog F.FAULTLOG_OVERWRITTEN_COUNT).raise P.faultlog 1
  else m.wr P.faultlog F.FAULTLOG_HELD_COUNT (m.rd P.faultlog F.FAULTLOG_HELD_COUNT + 1)

/-- A record entered in the log of the segment of tile `t` (R519): the island log of its island declarer while the tile is cut
off, else the package log. -/
def logSegment (m : Mach) (t : Nat) (r : FaultRec) : Mach :=
  match m.islandOf t with
  | some d => ((m.swapView d).logPackage r).swapView d
  | none => m.logPackage r

/-- A fault record of tile `t`: the log of its segment, the tile's AON copy of 16 records with DECL.AON_SEQ, and one trick to the
queue of producer 0x0A, with drops counted in DECL.LOG_LOST (R518–R520) (log entry 77). -/
def recordRaw (m : Mach) (t code unit subA subB detail : Nat) : Mach :=
  let k := m.rd (P.decl t) F.DECL_AON_SEQ_K
  let r : FaultRec := { time := m.now t, seq := k, code, tile := t, isl := (m.islandOf t).isSome || m.viewOf.isSome, aon := false, unit, subA, subB, detail }
  let m := m.logSegment t r
  let m := m.modTile t fun ts => { ts with aonLog := (ts.aonLog ++ [r]).drop (ts.aonLog.length - 15) }
  let m := m.incW (P.decl t) F.DECL_AON_SEQ_K
  m.emitRaw t 0x0A 4 (P.decl t) F.DECL_LOG_LOST_COUNT none { hdr := eventHdr 0xA t code k r.time 32, payload := recBytes r }

/-- Bytes of a DETAIL field: value `v` of `k` bytes at byte offset `o`. -/
def detail (o k v : Nat) : Nat := (v % 2 ^ (8 * k)) * 2 ^ (8 * o)

/-! ### DRAM reads and writes of the kitty (R481) -/

/-- The 8-byte words of a protected range checked: single-bit errors corrected and counted, double-bit errors counted, recorded and
reported; the flag says that a word was poisoned (log entries 43, 70). -/
def dramCheck (m : Mach) (t f len : Nat) : Mach × Bool :=
  let pk := P.dram t
  if m.dramMark.isEmpty then (m, false) else
  (List.range ((f + len + 7) / 8 - f / 8)).foldl (fun (s : Mach × Bool) i =>
    let a := (f / 8 + i) * 8
    match s.1.dramErr t a with
    | 0 => s
    | 1 => (((s.1.inc pk F.DRAM_ECC_SEC_COUNT).raise pk 5), s.2)
    | _ =>
      let m' := ((s.1.inc pk F.DRAM_ECC_DED_COUNT).raise pk 6).wr2 pk F.DRAM_ECC_LAST_LO_ADDR F.DRAM_ECC_LAST_HI_ADDR a
      (m'.recordRaw t 0x0D t 0 0 (detail 0 8 a), true)) (m, false)

/-- The tag of a cell stored in the DRAM kitty (log entry 76). -/
def storeDramTag (m : Mach) (t : Nat) (c : Cell) : Mach := m.dramWrite t (m.tagAddr t c.idx) (leBytes 8 c.tag.toNat)

/-- A cell stored in the DRAM kitty (log entry 76). -/
def storeDramCell (m : Mach) (t : Nat) (c : Cell) : Mach :=
  (m.dramWrite t (m.dataAddr t c.idx) (wordsToBytes c.words)).storeDramTag t c

/-- Effects of the read of a tag of the DRAM kitty (R481). -/
def checkTag (m : Mach) (t i : Nat) : Mach := (m.dramCheck t (m.tagAddr t i) 8).1

/-- Effects of the read of the tag that ended a walk (log entry 70). -/
def checkStop (m : Mach) (t k i : Nat) : Mach :=
  match m.walkStop t k i with
  | some j => m.checkTag t j
  | none => m

/-! ### Queue reset and the reaper (R305, R317–R319) -/

/-- Closed tricks among a queue's cells. -/
def tricksOf (cs : List Cell) : Nat := (cs.filter fun c => c.hdr && c.filled).length

/-- The open trick of a queue abandoned: header slot and cells written go, and the loss is counted and raised (R305) (log entry 104). -/
def abandon (m : Mach) (t q : Nat) : Mach :=
  match (m.queue t q).opened with
  | none => m
  | some _ =>
    let keep := (m.queue t q).cells.takeWhile fun c => !(c.hdr && !c.filled)
    let gone := (m.queue t q).cells.drop keep.length
    let m := if m.isPool t q then m.modKit t fun k => { k with sram := gone.foldl (fun p c => Pool.release c.idx p) k.sram } else m
    let last := (keep.getLast?.map Cell.idx).getD 0
    let m := m.modQueue t q fun s =>
      { s with opened := none, tail0 := last, tail1 := last,
               cells := if m.isPool t q then keep.dropLast ++ (keep.getLast?.toList.map fun c => c.withNext endOfList) else keep }
    (m.inc (P.que t) (F.QUE_Q_ERRS_ABANDONED.nth q)).raise (P.que t) 2

/-- Cell `i` of the SRAM kitty, from the old list or wherever a queue of the tile holds it. -/
def sramCell (m : Mach) (t : Nat) (old : List Cell) (i : Nat) : Option Cell :=
  (old ++ (List.range 32).flatMap fun q => if m.isPool t q then (m.queue t q).cells else []).find? fun c => c.idx = i

/-- Cells of an old list in SRAM that the reaper reaches along NEXT, at most `k`: up to the end mark, a tag error or an index outside
the pool (R319) (log entry 104). -/
def reached (m : Mach) (t : Nat) (old : List Cell) : Nat → Nat → List Nat
  | 0, _ => []
  | k + 1, i =>
    if sramCells ≤ i then []
    else match m.sramCell t old i with
      | none => []
      | some c => if !c.tagOk then [] else i :: (if c.next = endOfList then [] else reached m t old k c.next)

/-- A queue emptied: its lists go to the reaper, its counters clear, its configuration and downstream credits stay (R318) (log entry 104). -/
def emptyQueue (m : Mach) (t q : Nat) : Mach :=
  let m := m.abandon t q
  let pool := m.isPool t q
  let m := m.modQueue t q fun s =>
    { dcred := s.dcred, leaked := s.leaked,
      reapSram := s.reapSram ++ (if pool then m.reached t s.cells s.cells.length ((s.cells.head?.map Cell.idx).getD sramCells) else []),
      reapSramCount := s.reapSramCount + (if pool then s.cells.length else 0),
      reapDram := s.reapDram ++ (if s.spill.isEmpty then [] else [(s.shead0, s.spill.length)]), reapDramCount := s.reapDramCount + s.spill.length }
  let m := m.setWord (P.que t) (0x100 + 0x20 * q + 0x1C) 0
  if (m.kit t).shownQueue = q then m.modKit t fun k => { k with shown := none } else m

/-- The two copies of a queue's pointers that differ, as indices that name their pool (R310, R317, R318). -/
def differing (pool : Bool) (s : Queue) : Nat × Nat :=
  if pool && !s.cells.isEmpty && s.head0 ≠ s.head1 then (s.head0, s.head1)
  else if pool && !s.cells.isEmpty && s.tail0 ≠ s.tail1 then (s.tail0, s.tail1)
  else if !s.spill.isEmpty && s.shead0 ≠ s.shead1 then (2 ^ 31 + s.shead0, 2 ^ 31 + s.shead1)
  else if !s.spill.isEmpty && s.stail0 ≠ s.stail1 then (2 ^ 31 + s.stail0, 2 ^ 31 + s.stail1)
  else (0, 0)

/-- Event and fault record of the reset of queue `q`, which held `s`: cause 1 HOST, 2 PTR_MISMATCH, 3 TAG_ERR, 4 FREE_LIST (R318, R518). -/
def noteReset (m : Mach) (t q cause : Nat) (s : Queue) : Mach :=
  let p := differing (m.isPool t q) s
  let d := detail 0 4 p.1 + detail 4 4 p.2 + detail 8 2 (min s.cells.length 0xFFFF) +
    detail 10 2 (min (tricksOf s.cells) 0xFFFF) + detail 12 2 (min s.spill.length 0xFFFF) + detail 14 2 (min s.spillTricks 0xFFFF)
  (m.raise (P.que t) 1).recordRaw t 0x08 (32 * t + q) cause 0 d

/-- A queue reset (R318). -/
def queueReset (m : Mach) (t q cause : Nat) : Mach :=
  if m.fallingAsleep t then m else ((m.emptyQueue t q).updateFull t false).noteReset t q cause (m.queue t q)

/-- The SRAM kitty reinitialised: no cell of it is held, awaits reaping or is leaked any more (R311, R319). -/
def reinitSram (m : Mach) (t : Nat) : Mach :=
  (List.range 32).foldl (fun m q => m.modQueue t q fun s => { s with reapSram := [], reapSramCount := 0, leaked := 0 })
    (m.modKit t fun k => { k with sram := {} })

/-- The DRAM kitty reinitialised (R311). -/
def reinitDram (m : Mach) (t : Nat) : Mach :=
  (List.range 32).foldl (fun m q => m.modQueue t q fun s => { s with reapDram := [], reapDramCount := 0 })
    (m.modKit t fun k => { k with dram := {} })

/-- A fault that R317 names is counted and raised. -/
def ptrErr (m : Mach) (t : Nat) : Mach := (m.inc (P.kitty t) F.KITTY_PTR_ERR_COUNT).raise (P.kitty t) 2

/-- A pool's own copies differ: every queue that holds cells in it is reset, then the pool reinitialised (R317). -/
def poolReset (m : Mach) (t : Nat) (dram : Bool) : Mach :=
  let holds := fun q => if dram then !(m.queue t q).spill.isEmpty else m.isPool t q && !(m.queue t q).cells.isEmpty
  let m := ((List.range 32).filter holds).foldl (fun m q => m.queueReset t q 4) (m.ptrErr t)
  (if dram then m.reinitDram t else m.reinitSram t).updateFull t false

/-- A use of a queue: a fault counts in KITTY.PTR_ERR, raises PTR_ERR and resets the queue. A mismatch of a pool's own copies
resets every queue that holds cells in that pool and reinitialises the pool (R317). `none`: the use goes on (log entry 103). -/
def checkQueue (m : Mach) (t q : Nat) (dram : Bool) : Option Mach :=
  match m.poolFault t q dram with
  | some d => some (m.poolReset t d)
  | none =>
    match m.queueFault t q with
    | some c => some (((m.checkStop t (m.queue t q).spill.length (m.queue t q).shead0).ptrErr t).queueReset t q c)
    | none => none

/-- A use of a queue that goes on, after a reset where one was due (R317, R324). -/
def useQueue (m : Mach) (t q : Nat) : Mach := (m.checkQueue t q false).getD m

/-- Some queue of the tile waits for the reaper (`KITTY.STAT.REAP_BUSY`). -/
def reaping (m : Mach) (t q : Nat) : Bool :=
  decide (0 < (m.queue t q).reapSramCount) || decide (0 < (m.queue t q).reapDramCount)

/-- The reaper's walk of old spill lists, each from its head for at most its recorded length: the effects of the tag reads, and the
cells reached (R319, R481) (log entries 70, 104). -/
def reapWalk (t : Nat) : List (Nat × Nat) → Mach → Mach × List Nat
  | [], m => (m, [])
  | x :: r, m =>
    let cs := (m.walkDram t x.2 x.1).map Cell.idx
    let w := reapWalk t r ((cs.foldl (fun m i => m.checkTag t i) m).checkStop t x.2 x.1)
    (w.1, cs ++ w.2)

/-- The reaper finishes with a queue: the cells it reached return to their pools, the others leak (R319) (log entry 104). -/
def reapDone (m : Mach) (t q : Nat) : Mach :=
  let m := if (m.queue t q).reapSramCount ≠ 0 && !Pool.ok (m.kit t).sram then m.poolReset t false else m
  let m := if (m.queue t q).reapDramCount ≠ 0 && !Pool.ok (m.kit t).dram then m.poolReset t true else m
  if !m.reaping t q then m else
  let s := m.queue t q
  let sr := s.reapSram.takeWhile (fun i => decide (i < sramCells))
  let w := reapWalk t s.reapDram m
  let dr := w.2
  let m := w.1
  let ls := s.reapSramCount - sr.length
  let ld := s.reapDramCount - dr.length
  let m := m.modKit t fun k => { k with sram := sr.foldl (fun p i => Pool.release i p) k.sram,
                                        dram := dr.foldl (fun p i => Pool.release i p) k.dram }
  let m := m.modQueue t q fun s =>
    { s with reapSram := [], reapSramCount := 0, reapDram := [], reapDramCount := 0, leaked := s.leaked + ls }
  let m := (m.incBy (P.kitty t) F.KITTY_SRAM_LEAKED_CELLS ls).incBy (P.kitty t) F.KITTY_DRAM_LEAKED_CELLS ld
  let m := if 0 < ls + ld then m.raise (P.kitty t) 6 else m
  (m.raise (P.kitty t) 3).updateFull t false

/-! ### Producers (R302, R305, R306, R317) -/

/-- A producer opens a trick at a use of the queue (R302, R306, R317). -/
def openTrick (m : Mach) (t q r prod : Nat) (tr : Trick) : Mach := (m.useQueue t q).openRaw t q r prod tr

/-- A producer closes its open trick (R302); a reset that is due comes first and abandons it (R305, R317) (log entry 35). -/
def closeTrick (m : Mach) (t q : Nat) : Mach := (m.useQueue t q).closeRaw t q

/-- A whole trick written at once, `r` cells reserved for it (log entry 35). -/
def putTrick (m : Mach) (t q r prod : Nat) (tr : Trick) : Mach := (m.openTrick t q r prod tr).closeTrick t q

/-- A producer's event at a use of its queue (R299, R317). -/
def emitEvent (m : Mach) (t prod cap pk : Nat) (lost : Field) (ev : Option Nat) (tr : Trick) : Mach :=
  match m.queueOfProd t prod with
  | none => m
  | some q => (m.useQueue t q).emitRaw t prod cap pk lost ev tr

/-- A fault record (R518–R520); its trick is a use of its queue (R317) (log entry 77). -/
def record (m : Mach) (t code unit subA subB detail : Nat) : Mach :=
  (match m.queueOfProd t 0x0A with | some q => m.useQueue t q | none => m).recordRaw t code unit subA subB detail

/-- The oldest held trick of the queue's producer opens once FREE allows it (R302, R306) (log entries 35, 106). -/
def openHeld (m : Mach) (t q : Nat) : Mach :=
  let m := m.useQueue t q
  let prod := m.rd (P.que t) (F.QUE_Q_CFG_PROD.nth q)
  match Store.get [] (m.tile t).held prod with
  | [] => m
  | tr :: r =>
    let n := mostCells tr false
    if (m.queue t q).opened.isSome || decide (m.queFree t q < n) then m
    else (m.openRaw t q n prod tr).modTile t fun ts => { ts with held := Store.set [] ts.held prod r }

/-- Producers that cannot close their tricks: their open tricks are abandoned and the events they hold are lost (R84, R305). -/
def stopProducers (m : Mach) (t : Nat) (prods : List Nat) : Mach :=
  let m := (List.range 32).foldl (fun m q =>
    match (m.queue t q).opened with
    | some o => if prods.contains o.prod then (m.useQueue t q).abandon t q else m
    | none => m) m
  m.modTile t fun ts => { ts with held := prods.foldl (fun h p => h.erase p) ts.held }

/-! ### Consumers (R303, R304, R313, R314) -/

/-- The first `k` cells leave a queue; pool cells return to the free list. -/
def dropCells (m : Mach) (t q k : Nat) : Mach :=
  let gone := (m.queue t q).cells.take k
  let rest := (m.queue t q).cells.drop k
  let m := if m.isPool t q then m.modKit t fun ks => { ks with sram := gone.foldl (fun p c => Pool.release c.idx p) ks.sram } else m
  let begins := match rest with | [] => true | c :: _ => c.hdr
  m.modQueue t q fun s =>
    { s with cells := rest, head0 := (rest.head?.map Cell.idx).getD 0, head1 := (rest.head?.map Cell.idx).getD 0, counted := false,
             raised := s.raised && !begins }

/-- Poisoned words of cells. -/
def poisonIn (cs : List Cell) : Nat := (cs.map fun c => popcount 8 c.poison).sum

/-- Poisoned words of a trick that a consumer reads whole counted in `Qq_ERRS.POISON`, and POISON raised (R316). -/
def countPoison (m : Mach) (t q : Nat) (cs : List Cell) : Mach :=
  if poisonIn cs = 0 then m else (m.incBy (P.que t) (F.QUE_Q_ERRS_POISON.nth q) (poisonIn cs)).raise (P.que t) 0

/-- The same for cells of the head trick that are read one after another: the trick raises POISON once (R316). -/
def countPart (m : Mach) (t q : Nat) (cs : List Cell) : Mach :=
  if poisonIn cs = 0 then m
  else
    let m := if (m.queue t q).raised then m.incBy (P.que t) (F.QUE_Q_ERRS_POISON.nth q) (poisonIn cs) else m.countPoison t q cs
    m.modQueue t q fun s => { s with raised := true }

/-- Cells of a trick appended to the queue's spill list one by one, with or without the ISL mark, as far as the DRAM kitty has free cells.
A word that is poisoned is stored with its POIS bit (R313, R315, R316) (log entry 105). -/
def appendSpill (m : Mach) (t q : Nat) (isl : Bool) : List Cell → Mach
  | [] => m
  | c :: r =>
    match Pool.alloc (m.dramCells t) (m.kit t).dram with
    | none => m
    | some (i, p) =>
      let tag := putBits (putBits (putBits c.tag.toNat 23 16 c.poison) 14 14 ((c.hdr && isl) || c.isl).toNat) 63 32 endOfList
      let s := m.queue t q
      let m := m.modKit t fun k => { k with dram := p }
      let m := match s.spill.getLast? with
        | some l => m.storeDramTag t ((m.dramCell t l).withNext i)
        | none => m
      let m := m.storeDramCell t { idx := i, words := c.words, tag := sealTag tag, filled := true }
      appendSpill (m.modQueue t q fun s =>
        { s with spill := s.spill ++ [i], stail0 := i, stail1 := i,
                 shead0 := if s.spill.isEmpty then i else s.shead0, shead1 := if s.spill.isEmpty then i else s.shead1 })
        t q isl r

/-- The spill writer takes the head trick of queue `q`: its cells leave the queue once the last is stored; without a free cell the writer
waits, what it has stored standing in the list (R313, R314, R315). `isl`: the tile spills now; tricks that join a list in replay carry no
mark (log entry 105). -/
def spillHead (m : Mach) (t q : Nat) (isl : Bool) : Mach :=
  match m.checkQueue t q true with
  | some m' => m'
  | none =>
    match m.headTrick t q with
    | none => m
    | some cs =>
      let left := cs.drop (m.queue t q).spillPart
      let was := (m.queue t q).spill.length
      let m := m.appendSpill t q isl left
      let k := (m.queue t q).spill.length - was
      let m := m.countPart t q (left.take k)
      if k < left.length then (m.modQueue t q fun s => { s with spillPart := s.spillPart + k }).updateFull t true
      else ((m.modQueue t q fun s => { s with spillTricks := s.spillTricks + 1, spillPart := 0 }).dropCells t q cs.length).updateFull t false

/-- The writer no longer stands in front of queue `q`: what it stored of an unfinished trick leaves the spill list again (log entry 105). -/
def undoPart (m : Mach) (t q : Nat) : Mach :=
  let s := m.queue t q
  if s.spillPart = 0 then m
  else
    let keep := s.spill.take (s.spill.length - s.spillPart)
    let gone := s.spill.drop keep.length
    let m := m.modKit t fun k => { k with dram := gone.foldl (fun p i => Pool.release i p) k.dram }
    let m := match keep.getLast? with | some l => m.storeDramTag t ((m.dramCell t l).withNext endOfList) | none => m
    let last := keep.getLast?.getD 0
    (m.modQueue t q fun s => { s with spill := keep, spillPart := 0, stail0 := last, stail1 := last }).updateFull t false

/-- A cell as the replay reader delivers it: words of a double-bit error have their POIS bit set (R316, R481). -/
def replayCell (m : Mach) (t : Nat) (c : Cell) : Cell :=
  let p := (List.range 4).foldl (fun a i => if m.dramErr t (m.dataAddr t c.idx + 8 * i) < 2 then a else a ||| (3 * 4 ^ i)) 0
  if p = 0 then c else { c with tag := sealTag (putBits c.tag.toNat 23 16 (c.pois ||| p)) }

/-- Effects of the replay reader's reads of data and tags (R481) (log entry 70). -/
def replayReads (m : Mach) (t : Nat) (cs : List Cell) : Mach :=
  cs.foldl (fun m c => ((m.dramCheck t (m.dataAddr t c.idx) 32).1).checkTag t c.idx) m

/-- The cells of the first trick of a spill list. -/
def spillTrick (m : Mach) (t q : Nat) : Option (List Cell) :=
  let cs := m.walkDram t (m.queue t q).spill.length (m.queue t q).shead0
  match cs with
  | [] => none
  | c :: r => if c.hdr && decide (c.dcells ≤ r.length) then some ((c :: r.take c.dcells).map (m.replayCell t)) else none

/-- The ISLAND bit set in the header words of a trick marked ISL, with that word's parity made anew (R314); a word read with wrong parity is
delivered poisoned all the same (R316). -/
def markIsland (cs : List Cell) : List Cell :=
  match cs with
  | c :: r =>
    if c.isl then
      let ws := c.words.set 3 ((c.words.getD 3 0) ||| BitVec.ofNat 32 (2 ^ 26))
      let tag := putBits c.tag.toNat 27 27 (parity 32 (ws.getD 3 0).toNat).toNat
      { c with words := ws, tag := sealTag (putBits tag 19 19 (bit c.poison 3).toNat) } :: r
    else c :: r
  | [] => []

/-- The first `k` cells of a spill list freed. -/
def dropSpill (m : Mach) (t q k : Nat) : Mach :=
  let gone := ((m.walkDram t k (m.queue t q).shead0)).map Cell.idx
  let next := ((m.walkDram t (m.queue t q).spill.length (m.queue t q).shead0).drop k).map Cell.idx
  let m := m.modKit t fun ks => { ks with dram := gone.foldl (fun p i => Pool.release i p) ks.dram }
  let m := m.modQueue t q fun s =>
    { s with spill := next, spillTricks := s.spillTricks - 1,
             shead0 := next.head?.getD 0, shead1 := next.head?.getD 0, replay := s.replay && !next.isEmpty }
  m.updateFull t false

/-! ### The register consumer (R320, R321) -/

/-- The head cell of a queue copied into RD, or nothing to show. `consume`: a register consumer's read counts poison. -/
def showHead (m : Mach) (t q : Nat) (consume : Bool) : Mach :=
  match (m.queue t q).cells with
  | [] => m.modKit t fun k => { k with shown := none, shownQueue := q }
  | c :: _ =>
    if c.hdr && !c.filled then m.modKit t fun k => { k with shown := none, shownQueue := q }
    else
      let m := if consume && !(m.queue t q).counted then (m.countPart t q [c]).modQueue t q fun s => { s with counted := true } else m
      m.modKit t fun k => { k with shown := some c, shownQueue := q }

/-- Cells of the trick behind the queue's head cell: all data cells for a header, else those up to the next header. -/
def remainOf (cs : List Cell) : Nat :=
  match cs with
  | [] => 0
  | c :: r => if c.hdr then c.dcells else (r.takeWhile fun d => !d.hdr).length

/-- The shown cell is still the queue's head. -/
def shownIsHead (m : Mach) (t q : Nat) : Bool :=
  (m.kit t).shownQueue = q && (m.kit t).shown.isSome && (m.kit t).shown == (m.queue t q).cells.head?

/-- A consumer's discard: the cells left of the trick at the head leave the queue, and DISCARDS counts (R320). -/
def discardTrick (m : Mach) (t q : Nat) : Mach :=
  ((m.inc (P.que t) (F.QUE_Q_ERRS_DISCARDS.nth q)).dropCells t q (1 + remainOf (m.queue t q).cells)).modQueue t q
    fun s => { s with consIn := false }

/-- A command of QUE.CMD ignored, counted and raised as CMD_ERR (R320). -/
def queCmdErr (m : Mach) (t : Nat) : Mach := m.refuse (P.que t) 3

/-- RESET of QUE.CMD: a reset that R317 forces at the same time takes its place, with its cause (R318, R324). -/
def resetQueue (m : Mach) (t q : Nat) : Mach :=
  match m.queueFault t q with
  | some c => (m.ptrErr t).queueReset t q c
  | none => m.queueReset t q 1

/-- `QUE.CMD` (R320). -/
def queCmd (m : Mach) (t q op : Nat) : Mach :=
  let reg := m.rd (P.que t) (F.QUE_Q_CFG_CONS.nth q) = 1
  match op with
  | 1 => (m.useQueue t q).showHead t q reg
  | 2 => if !reg || !m.shownIsHead t q then m.queCmdErr t
         else match m.checkQueue t q false with
           | some m' => m'
           | none =>
             let inside := remainOf (m.queue t q).cells
             ((m.dropCells t q 1).modQueue t q fun s => { s with consIn := decide (0 < inside) }).showHead t q true
  | 3 => if !reg || !m.shownIsHead t q then m.queCmdErr t
         else match m.checkQueue t q false with
           | some m' => m'
           | none => (m.discardTrick t q).showHead t q true
  | 4 => m.resetQueue t q
  | _ => m.queCmdErr t

/-- QUE registers that are computed when read: RD_STAT, RD_CELLn (R321) and the per-queue status (R325). -/
def queRead (m : Mach) (t off : Nat) : Option Word :=
  let k := m.kit t
  if off = 0x044 then
    match k.shown with
    | none => some 0
    | some c =>
      let rem := remainOf (c :: (m.queue t k.shownQueue).cells.tail)
      some (BitVec.ofNat 32 (2 ^ 31 + c.hdr.toNat * 2 ^ 30 + (decide (rem = 0)).toNat * 2 ^ 29 + k.shownQueue * 2 ^ 24 +
        rem * 2 ^ 16 + c.poison * 2 ^ 8))
  else if 0x048 ≤ off ∧ off ≤ 0x064 then
    some ((k.shown.map fun c => c.words.getD ((off - 0x048) / 4) 0).getD 0)
  else if 0x100 ≤ off ∧ off < 0x500 then
    let q := (off - 0x100) / 0x20
    let s := m.queue t q
    match (off - 0x100) % 0x20 with
    | 0x04 =>
      let wait := match s.cells with | c :: _ => c.hdr && !c.filled | [] => false
      some (BitVec.ofNat 32 ((m.reaping t q).toNat * 64 + (s.replay && !s.spill.isEmpty).toNat * 32 +
        (k.spilling && !s.spill.isEmpty).toNat * 16 + s.consIn.toNat * 8 + wait.toNat * 4 + s.opened.isSome.toNat * 2 +
        (s.cells.isEmpty && s.spill.isEmpty).toNat))
    | 0x08 => some (BitVec.ofNat 32 (min (tricksOf s.cells) 0xFFFF * 65536 + min s.cells.length 0xFFFF))
    | 0x0C => some (BitVec.ofNat 32 (min (m.queFree t q) 0xFFFF))
    | 0x10 => some (BitVec.ofNat 32 s.spill.length)
    | 0x14 => some (BitVec.ofNat 32 s.spillTricks)
    | 0x18 => some (BitVec.ofNat 32 (min s.dcred 0xFFFF))
    | _ => none
  else none

/-- KITTY registers that are computed when read (R326). -/
def kittyRead (m : Mach) (t off : Nat) : Option Word :=
  let k := m.kit t
  match off with
  | 0x040 => some (BitVec.ofNat 32 (m.sramFree t))
  | 0x054 => some (BitVec.ofNat 32 (m.dramFree t))
  | 0x060 => some (BitVec.ofNat 32 (k.testing.toNat * 8))
  | 0x064 => some ((m.word (P.kitty t) 0x064 &&& 0xC0) ||| BitVec.ofNat 32 (k.testing.toNat * 32 +
      ((List.range 32).any fun q => m.reaping t q).toNat * 16 + k.dramFull.toNat * 8 + k.nearFull.toNat * 4 +
      k.dramReady.toNat * 2 + k.sramReady.toNat))
  | _ => none

/-! ### Register writes of QUE and KITTY (R325–R327) -/

/-- Sum of LIMIT over the queues in POOL_SRAM, with queue `q` taking `mode` and `limit`. -/
def limitSum (m : Mach) (t q mode limit : Nat) : Nat :=
  ((List.range 32).map fun i =>
    if i = q then (if mode = 1 then limit else 0)
    else if m.isPool t i then m.rd (P.que t) (F.QUE_Q_CFG_LIMIT.nth i) else 0).sum

/-- A write of `Qq_CFG` (R299, R300, R308, R309): refused whole on any bad value. Nothing is held of a producer that no queue selects any
more (R299). -/
def writeQueCfg (m : Mach) (t q : Nat) (v : Word) : Mach :=
  let pk := P.que t
  let n := v.toNat
  let limit := bits n 31 16
  let prod := if q < 8 then 0 else bits n 12 8
  let mode := bits n 1 0
  let s := m.queue t q
  let busy := !s.cells.isEmpty || s.opened.isSome || !s.spill.isEmpty || m.reaping t q
  let taken := prod ≠ 0 && (List.range 32).any fun i => i ≠ q && 8 ≤ i && m.rd pk (F.QUE_Q_CFG_PROD.nth i) = prod
  if decide (0x0B ≤ prod) || taken || decide (2 ≤ bits n 3 2) || decide (2 ≤ mode) ||
      decide (limit < (if q < 8 then 64 else 16)) || decide (32768 < limit) ||
      (mode ≠ m.rd pk (F.QUE_Q_CFG_MODE.nth q) && busy) || decide (32768 < m.limitSum t q mode limit) then
    m.refuse pk 4
  else
    let was := if q < 8 then 0 else m.rd pk (F.QUE_Q_CFG_PROD.nth q)
    let m := if prod = was then m else m.modTile t fun ts => { ts with held := ts.held.erase was }
    let m := if bits n 3 2 = 0 && bit n 4 then m else m.undoPart t q
    (m.setWord pk (0x100 + 0x20 * q) (BitVec.ofNat 32 (limit * 65536 + prod * 256 + bits n 4 0))).updateFull t false

/-- A write to a register of page QUE that has a behaviour of its own. -/
def writeQue (m : Mach) (t off : Nat) (v : Word) : Option Mach :=
  if off = 0x040 then some (m.queCmd t (bits v.toNat 4 0) (bits v.toNat 15 8))
  else if 0x100 ≤ off ∧ off < 0x500 ∧ (off - 0x100) % 0x20 = 0 then some (m.writeQueCfg t ((off - 0x100) / 0x20) v)
  else none

/-- Some queue holds a cell of the SRAM pool or waits for the reaper. -/
def poolBusy (m : Mach) (t : Nat) (withOpen : Bool) : Bool :=
  (List.range 32).any fun q =>
    m.isPool t q && (!(m.queue t q).cells.isEmpty || m.reaping t q || (withOpen && (m.queue t q).opened.isSome))

/-- Some queue holds spill cells or is being reaped (R312). -/
def spillBusy (m : Mach) (t : Nat) : Bool :=
  (List.range 32).any fun q => !(m.queue t q).spill.isEmpty || m.reaping t q

/-- The meld buffer region of a tile as base and size in bytes (R274) (log entry 50). -/
def meldBuf (m : Mach) (t : Nat) : Nat × Nat :=
  (m.rd (P.meld t) F.MELD_BUF_BASE_LO_ADDR * 4096 + m.rd (P.meld t) F.MELD_BUF_BASE_HI_ADDR * 2 ^ 32,
   m.rd (P.meld t) F.MELD_BUF_CFG_KIB * 1024)

/-- The kitty region would overlap the meld buffer (R312, R464). -/
def kittyOverlapsMeld (m : Mach) (t : Nat) : Bool :=
  let b := m.meldBuf t
  let kb := m.dramBase t
  let ks := 40 * m.dramCells t
  decide (0 < b.2) && decide (kb < b.1 + b.2) && decide (b.1 < kb + ks)

/-- DRAM_INIT is allowed (R312). -/
def dramInitOk (m : Mach) (t : Nat) : Bool :=
  m.domOn t D.dram && m.flag (P.dram t) F.DRAM_STAT_TRAINED && decide (0 < m.dramCells t) &&
  decide (m.dramBase t + 40 * m.dramCells t ≤ m.dramCap t) && !m.kittyOverlapsMeld t && !m.spillBusy t

/-- `KITTY.CMD` (R311, R312, R327); each bit is an action of its own, lowest first (log entry 89). -/
def kittyCmd (m : Mach) (t n : Nat) : Mach :=
  let pk := P.kitty t
  let m := if !bit n 0 then m else if m.poolBusy t false then m.refuse pk 5 else m.reinitSram t
  let m := if !bit n 1 then m else if !m.dramInitOk t then m.refuse pk 5
    else ((m.reinitDram t).modKit t fun k => { k with dramReady := true }).updateFull t false
  let m := if !bit n 2 then m else if m.spillBusy t then m.refuse pk 5
    else (m.modKit t fun k => { k with dramReady := false }).updateFull t false
  if !bit n 3 then m else if m.poolBusy t true || (m.kit t).testing then m.refuse pk 5
    else (m.modKit t fun k => { k with testing := true }).wr pk F.KITTY_STAT_ST_PASS 0 |>.wr pk F.KITTY_STAT_ST_FAIL 0

/-- A write to a register of page KITTY that has a behaviour of its own. -/
def writeKitty (m : Mach) (t off : Nat) (v : Word) : Option Mach :=
  let pk := P.kitty t
  let n := v.toNat
  match off with
  | 0x048 => if (m.kit t).dramReady then some (m.refuse pk 5) else none
  | 0x04C => if (m.kit t).dramReady then some (m.refuse pk 5) else none
  | 0x050 =>
    let c := bits n 28 0
    if (m.kit t).dramReady || (c ≠ 0 && (decide (c < 65536) || decide (375809638 < c))) then some (m.refuse pk 5) else none
  | 0x058 => some ((m.genericWrite pk off v).updateFull t false)
  | 0x060 => some (m.kittyCmd t n)
  | _ => none

/-- The self-test ends (R327): `fail` names the first failing cell. -/
def selftestDone (m : Mach) (t : Nat) (fail : Option Nat) : Mach :=
  let pk := P.kitty t
  if !(m.kit t).testing then m else
  match fail with
  | none =>
    ((((m.reinitSram t).modKit t fun k => { k with testing := false, sramReady := true }).wr pk F.KITTY_STAT_ST_PASS 1).setWord
      pk 0x06C 0).raise pk 4
  | some c =>
    let m := ((m.reinitSram t).modKit t fun k => { k with testing := false, sramReady := false }).wr pk F.KITTY_STAT_ST_FAIL 1
    let m := m.setWord pk 0x06C (BitVec.ofNat 32 (2 ^ 31 + c % 2 ^ 17))
    (m.raise pk 4).record t 0x09 t 0 0 (detail 0 4 c)

/-! ### Soft resets of QUE and KITTY (R323) -/

/-- Every queue emptied, without a fault record. -/
def softResetQue (m : Mach) (t : Nat) : Mach :=
  let m := (List.range 32).foldl (fun m q =>
    let keep := (m.undoPart t q).queue t q
    ((m.undoPart t q).emptyQueue t q).modQueue t q fun s =>
      { s with spill := keep.spill, spillTricks := keep.spillTricks, shead0 := keep.shead0, shead1 := keep.shead1,
               stail0 := keep.stail0, stail1 := keep.stail1, replay := keep.replay,
               reapDram := keep.reapDram, reapDramCount := keep.reapDramCount }) m
  (m.modKit t fun k => { k with shown := none }).softResetPage (P.que t)

/-- One SPILL_LOST record for every queue whose spill list held cells in `was` (R323, R518). -/
def recordSpillLost (m was : Mach) (t : Nat) : Mach :=
  (List.range 32).foldl (fun m q =>
    let s := was.queue t q
    if s.spill.isEmpty then m
    else m.recordRaw t 0x03 (32 * t + q) 0 0 (detail 0 4 s.spillTricks + detail 4 4 s.spill.length)) m

/-- Queues with cells in either pool reset, each with its record, both pools reinitialised, DRAM_READY cleared; a failed self-test keeps
SRAM_READY 0 (R323, R327). -/
def softResetKitty (m : Mach) (t : Nat) : Mach :=
  let was := m
  let qs := (List.range 32).filter fun q => (m.isPool t q && !(m.queue t q).cells.isEmpty) || !(m.queue t q).spill.isEmpty
  let m := ((qs.foldl (fun m q => m.emptyQueue t q) m).reinitSram t).reinitDram t
  let m := (m.modKit t fun k =>
    { spilling := k.spilling, shown := k.shown, shownQueue := k.shownQueue, sramReady := k.sramReady }).softResetPage (P.kitty t)
  let m := qs.foldl (fun m q => m.noteReset t q 1 (was.queue t q)) m
  m.recordSpillLost was t

end Mach

end Sys2Proof.Machine
end

