-- ==== Sys2Proof/Machine/Sensor.lean ====
section
/-!
DEFINITION. Sensor ports and sensor SPI (R148–R168, R178–R181) and the dealer's registers (R177): what writes to pages SPORT, DEAL
and SSPI do, the readout of a port, the timing outputs, digital line events, deskew, and the ARM conditions of R176.
-/

namespace Sys2Proof.Machine.Mach

/-! ### Ports and their settings -/

/-- `SPORT.CFG.KIND` of a cluster: 0 none, 1 CCD, 2 CIS, 3 digital (R152). -/
def kind (m : Mach) (g : Nat) : Nat := m.rd (P.sport g) F.SPORT_CFG_KIND

/-- Number of phases P (R149). -/
def phases (m : Mach) (g : Nat) : Nat := m.rd (P.deal g) F.DEAL_PHASES_P

/-- Line width W (R202). -/
def width (m : Mach) (g : Nat) : Nat := m.rd (P.vc g) F.VC_WIDTH_W

/-- Video input `i` is served by a converter pair; pairing applies only to KIND CIS (R185). -/
def paired (m : Mach) (g i : Nat) : Bool := m.kind g = 2 && bit (m.rd (P.vc g) F.VC_CFG_PAIR) (i / 2)

/-- The port has a capture in progress (R150); a pixel-less port never has (R147). -/
def portBusy (m : Mach) (g : Nat) : Bool := (m.clu g).reading.isSome

/-- Exposure centroid of phase `p` of a trigger at `n` without a strobe, in units of 125 ps (R151). -/
def exposureCentroid (m : Mach) (g n p : Nat) : Nat :=
  let pk := P.deal g
  16 * n + 512 + 16 * (m.rd pk F.DEAL_EXP_START_TICKS + p * m.rd pk F.DEAL_PH_PITCH_TICKS) + 8 * m.rd pk F.DEAL_EXP_LEN_TICKS

/-! ### Missing captures (R161, R174, R218) -/

/-- A capture of the deal that delivers no line: its trigger joins the missing ones that the next marker names, after those its own
marker named (log entry 37). -/
def loseCapture (m : Mach) (g : Nat) (c : Capture) : Mach :=
  if c.counted then m.modClu g fun s => { s with pendMissing := c.missing ++ [c.n] ++ s.pendMissing } else m

/-- The capture in readout completes at stage 1 or is lost now (R145). -/
def captureOver (m : Mach) (g : Nat) : Mach :=
  let n := m.now (g / 2)
  m.modClu g fun s => { s with capEnd := match s.reading with | some c => if c.counted then n else s.capEnd | none => s.capEnd }

/-- The readout ends: the port is no longer busy (log entry 37). -/
def endReading (m : Mach) (g : Nat) : Mach :=
  (m.captureOver g).modClu g fun s => { s with reading := none, started := 0, failed := false }

/-- The captured line in progress fails and is dropped whole (R161); the port stays busy until its readout window closes (R150) (log entry 37). -/
def failLine (m : Mach) (g : Nat) : Mach :=
  match (m.clu g).reading with
  | none => m
  | some c =>
    if (m.clu g).failed then m
    else
      let m := (((m.inc (P.sport g) F.SPORT_FRAME_ERR_COUNT).raise (P.sport g) 0).captureOver g).loseCapture g c
      m.modClu g fun s => { s with failed := true, reading := some { c with counted := false, missing := [] } }

/-! ### Timing outputs and master clock (R162–R166) -/

/-- Signal `s` is the odd one of a pair in LVDS mode: its configuration and table have no effect (R165). -/
def pairedAway (m : Mach) (g s : Nat) : Bool := s % 2 = 1 && bit (m.rd (P.sport g) F.SPORT_TOPAIR_LVDS) (s / 2)

/-- Valid entries of the active bank of the port's enabled signals, signal by signal and entry by entry (R162, R165). -/
def edgeTable (m : Mach) (g : Nat) : List Edge :=
  let pk := P.sport g
  let bank := m.act pk F.SPORT_TO_BANK_BANK
  (List.range 16).flatMap fun s =>
    if m.flag pk (F.SPORT_TOCFG_EN.nth s) && !m.pairedAway g s then
      (List.range 64).filterMap fun k =>
        let e := m.el pk bank (64 * s + k)
        if bit e 20 then some { sig := s, time := bits e 18 0, level := bit e 19 } else none
    else []

/-- Level of a signal after the edges up to `d` ticks from the line origin: the latest edge sets it, of equal times the higher
entry (R163). -/
def levelAfter (base : Bool) (d : Nat) (sig : Nat) (es : List Edge) : Bool :=
  let r := es.foldl (fun (acc : Nat × Bool) e =>
    if e.sig = sig ∧ e.time ≤ d ∧ acc.1 ≤ e.time + 1 then (e.time + 1, e.level) else acc) (0, base)
  r.2

/-- Levels of the 16 signals `d` ticks after a line origin, before gating, from the levels and the edges of that line. -/
def levelsAt (base d : Nat) (edges : List Edge) : Nat :=
  (List.range 16).foldl (fun a i => a + (levelAfter (bit base i) d i edges).toNat * 2 ^ i) 0

/-- The pixel clock of a gated signal `d` ticks after the line origin (R164). -/
def pixelClock (m : Mach) (g sig d : Nat) : Bool :=
  let pk := P.sport g
  let per := max 1 (m.rd pk F.SPORT_PIXCLK_PIXPER)
  let ph := m.rd pk (F.SPORT_TOCFG_PH.nth sig) % per
  let hi := m.rd pk (F.SPORT_TOCFG_HI.nth sig)
  let start := fun p => m.rd pk F.SPORT_READOUT_RD_START + p * m.rd (P.deal g) F.DEAL_PH_PITCH_TICKS
  let from_ := (((List.range (m.phases g)).filter fun p => start p ≤ d).map start).foldl max 0
  let within := ((d : Int) - (if d < start 0 then start 0 else from_ : Nat)) % per
  if per ≤ hi then true else decide ((ph : Int) ≤ within ∧ within < ph + hi)

/-- Level of timing output `s` at time base `n` from its table and gate; until L0 of the latest trigger the line before runs on (R163,
R164). -/
def toLevel (m : Mach) (g s n : Nat) : Bool :=
  let pk := P.sport g
  let c := m.clu g
  let line := if c.origin + 32 ≤ n then (c.origin, c.toBase, c.edges) else (c.prevOrigin, c.prevBase, c.prevEdges)
  let d := n - line.1 - 32
  m.flag pk (F.SPORT_TOCFG_EN.nth s) &&
    ((if line.1 + 32 ≤ n then bit (levelsAt line.2.1 d line.2.2) s else bit line.2.1 s) &&
      (!m.flag pk (F.SPORT_TOCFG_GATED.nth s) || m.pixelClock g s d))

/-- The port's timing outputs and master clock run: hand armed, REFCLK there (R74), SPORT on; else they hold their post-reset levels (R165). -/
def portDrives (m : Mach) (g : Nat) : Bool := m.armed g && !m.refLost && m.live (g / 2) (D.sport (g % 2))

/-- Level of timing output `sig` at time base `n` as its ball carries it (R163–R165); the odd signal of an LVDS pair is the
complement of the even one (R45). -/
def toPin (m : Mach) (g sig n : Nat) : Bool :=
  if !m.portDrives g then false else if m.pairedAway g sig then !m.toLevel g (sig - 1) n else m.toLevel g sig n

/-- Level of the master clock at time base `n` (R166). -/
def mclkPin (m : Mach) (g n : Nat) : Bool :=
  let pk := P.sport g
  let div := max 1 (m.rd pk F.SPORT_MCLK_DIV)
  m.portDrives g && m.flag pk F.SPORT_MCLK_EN && decide (n % div < (div + 1) / 2)

/-- Level of SPc_MCLK_N: held low in CMOS mode, the complement of SPc_MCLK_P in LVDS mode (R45). -/
def mclkNPin (m : Mach) (g n : Nat) : Bool := m.portDrives g && m.flag (P.sport g) F.SPORT_MCLK_LVDS && !m.mclkPin g n

/-- The line origin of an issued trigger at `n`: entries of the line before that are not yet applied are abandoned and counted, the
levels reached become the new base, and the table in force starts, while the line before runs on until L0 (R163) (log entry 36). -/
def startEdges (m : Mach) (g n : Nat) : Mach :=
  let s := m.clu g
  let pk := P.sport g
  let d := n - s.origin
  let cut := (s.edges.filter fun e => decide (d ≤ e.time)).length
  let base := if d = 0 then s.toBase else levelsAt s.toBase (d - 1) s.edges
  let m := if cut = 0 then m else (m.incBy pk F.SPORT_EDGE_CUT_COUNT cut).raise pk 5
  let table := m.edgeTable g
  m.modClu g fun s =>
    { s with toBase := base, edges := table, origin := n, prevBase := s.toBase, prevEdges := s.edges, prevOrigin := s.origin }

/-- The grid point that arms the hand: every enabled signal takes its INIT level (R165). Before the first line origin, where no L0 exists,
the pixel clock of a GATED signal runs from the arming instant as from a trigger (log entry 121). -/
def armOutputs (m : Mach) (g : Nat) : Mach :=
  let pk := P.sport g
  let init := (List.range 16).foldl (fun a i =>
    a + (m.flag pk (F.SPORT_TOCFG_EN.nth i) && m.flag pk (F.SPORT_TOCFG_INIT.nth i)).toNat * 2 ^ i) 0
  let n := m.now (g / 2)
  m.modClu g fun s => { s with toBase := init, edges := [], origin := n, prevBase := init, prevEdges := [], prevOrigin := n }

/-! ### Register writes: SPORT (R154, R157, R167, R168) -/

/-- The registers of page SPORT that are refused while the cluster's hand is armed (R168). -/
def sportGuarded (off : Nat) : Bool :=
  [0x040, 0x044, 0x048, 0x04C, 0x050, 0x080, 0x084, 0x088, 0x08C, 0x090, 0x100, 0x104].contains off ||
  (decide (0x0C0 ≤ off) && decide (off < 0x100))

/-- Bank Sc of the cluster stands at 3.3 V (R69, R167). -/
def bank33 (m : Mach) (g : Nat) : Bool := bit (m.rd (P.pwr (g / 2)) F.PWR_RAIL_STAT_BANK_33) (g % 2)

/-- What a deskew result rests on has changed (R157). -/
def dropDeskew (m : Mach) (g : Nat) : Mach := m.wr (P.sport g) F.SPORT_DESKEW_STAT_DESKEWED 0

/-- A write to a register of page SPORT that has a behaviour of its own; `none`: its access codes say all (log entry 127). -/
def writeSport (m : Mach) (g off : Nat) (v : Word) : Option Mach :=
  let pk := P.sport g
  let refuse := some (m.refuse pk 8)
  if sportGuarded off && m.armed g then refuse
  else match off with
  | 0x040 =>
    let m' := m.genericWrite pk off v
    if m.rd pk F.SPORT_CFG_KIND = m'.rd pk F.SPORT_CFG_KIND && m.rd pk F.SPORT_CFG_LANE_EN = m'.rd pk F.SPORT_CFG_LANE_EN &&
        m.rd pk F.SPORT_CFG_RX_SLVS = m'.rd pk F.SPORT_CFG_RX_SLVS then none
    else some (m'.dropDeskew g)
  | 0x044 => if fieldOf v F.SPORT_PIXCLK_PIXPER < 2 then refuse else none
  | 0x04C => if 16384 < fieldOf v F.SPORT_READOUT_RD_COUNT then refuse else none
  | 0x080 =>
    if 4 < fieldOf v F.SPORT_DIG_CFG_WORD then refuse
    else if fieldOf v F.SPORT_DIG_CFG_WORD = m.rd pk F.SPORT_DIG_CFG_WORD then none
    else some ((m.genericWrite pk off v).dropDeskew g)
  | 0x094 =>
    if bit v.toNat 0 then
      if m.running g then refuse
      else some ((m.genericWrite pk off v).wr pk F.SPORT_DESKEW_GO 1)
    else none
  | 0x100 =>
    let new := fieldOf v F.SPORT_TOPAIR_LVDS
    let old := m.rd pk F.SPORT_TOPAIR_LVDS
    let rises := new &&& (255 - old)
    if m.bank33 g && rises ≠ 0 then some ((m.wr pk F.SPORT_TOPAIR_LVDS (new &&& old)).refuse pk 4) else none
  | 0x104 =>
    if fieldOf v F.SPORT_MCLK_DIV < 4 then refuse
    else if m.bank33 g && fieldOf v F.SPORT_MCLK_LVDS = 1 && m.rd pk F.SPORT_MCLK_LVDS = 0 then
      some (((m.genericWrite pk off v).wr pk F.SPORT_MCLK_LVDS 0).refuse pk 4)
    else none
  | _ =>
    if 0x054 ≤ off ∧ off < 0x06C ∧ 520 < bits v.toNat 25 16 then
      let f := F.SPORT_AFE_PGA.nth ((off - 0x054) / 4)
      some (((m.genericWrite pk off v).wr pk f (m.rd pk f)).errCount pk)
    else none

/-- The bank is found at 3.3 V after a rail change: every LVDS bit of the port clears as a refused write would (R167). -/
def clearLvds (m : Mach) (g : Nat) : Mach :=
  let pk := P.sport g
  if m.rd pk F.SPORT_TOPAIR_LVDS = 0 && m.rd pk F.SPORT_MCLK_LVDS = 0 then m
  else ((m.wr pk F.SPORT_TOPAIR_LVDS 0).wr pk F.SPORT_MCLK_LVDS 0).refuse pk 4

/-- SPORT registers that are computed when read: DESKEW_STAT.LANE_LOCK (R156) and BUSY (R150) (log entry 53). -/
def sportRead (m : Mach) (g off : Nat) : Option Word :=
  match off with
  | 0x098 => some (BitVec.ofNat 32 (putBit (m.word (P.sport g) off).toNat 0 (m.kind g = 3 && (m.clu g).dlckIn)))
  | 0x10C => some (BitVec.ofNat 32 (m.portBusy g).toNat)
  | _ => none

/-! ### Register writes: DEAL (R177) -/

/-- A write to a register of page DEAL that has a behaviour of its own. -/
def writeDeal (m : Mach) (g off : Nat) (v : Word) : Option Mach :=
  let pk := P.deal g
  let n := bits v.toNat 19 0
  let refuse := some (m.refuse pk 3)
  if 0x040 ≤ off ∧ off ≤ 0x064 ∧ m.armed g then refuse
  else match off with
  | 0x044 => if n < 1000 ∨ 500000 < n then refuse else none
  | 0x048 =>
    if m.rd pk F.DEAL_PERIOD_TICKS ≤ n then refuse
    else some ((m.genericWrite pk off v).wr pk F.DEAL_PHASE_ACT_TICKS n)
  | 0x04C => if fieldOf v F.DEAL_PHASES_P = 0 ∨ 6 < fieldOf v F.DEAL_PHASES_P then refuse else none
  | 0x060 => if n < 1000 ∨ 500000 < n then refuse else none
  | 0x064 => if m.rd pk F.DEAL_PERIOD_TICKS ≤ n then refuse else none
  | _ => none

/-- The dealer of a member issues triggers: armed hand, page enabled, tile not idle (R97, R146, R177). -/
def dealing (m : Mach) (g : Nat) : Bool := m.armed g && m.enabled (P.deal g) && !m.idleMember g

/-- `DEAL.STAT` is computed when read; SWITCH_PEND while a switch waits for its switch point (R172, R177). -/
def dealRead (m : Mach) (g off : Nat) : Option Word :=
  if off = 0x06C then
    let waits := (match (m.clu g).phaseSwitch with | some (_, s) => decide (m.now (g / 2) < s) | none => false) || (m.clu g).phaseNext.isSome
    some (BitVec.ofNat 32 (waits.toNat * 4 + (m.portBusy g).toNat * 2 + (m.dealing g).toNat))
  else none

/-! ### Digital lanes (R156–R161) -/

/-- RD_TIMEOUT of a digital port; 0 acts as 500,000 (R160). -/
def windowTicks (m : Mach) (g : Nat) : Nat :=
  let n := m.rd (P.sport g) F.SPORT_RD_TIMEOUT_TICKS
  if n = 0 then 500000 else n

/-- DLCK leaves its lock range (R156, R157) (log entries 53, 117). -/
def lockLost (m : Mach) (g : Nat) : Mach :=
  let had := (m.clu g).dlckIn
  let m := m.modClu g fun s => { s with dlckIn := false }
  if !had || m.kind g ≠ 3 || !m.live (g / 2) (D.sport (g % 2)) then m
  else (((m.dropDeskew g).raise (P.sport g) 1).failLine g)

/-- DLCK enters its lock range (R156) (log entry 53). -/
def lockGained (m : Mach) (g : Nat) : Mach := m.modClu g fun s => { s with dlckIn := true }

/-! ### Sensor SPI (R178–R181) -/

/-- The first register of cluster `g`'s controller. -/
def spiBase (g : Nat) : Nat := 0x040 + 0x40 * (g % 2)

/-- A frame starts only at its blanking instant (R180). -/
def spiGated (m : Mach) (g : Nat) : Bool := m.flag (P.sspi (g / 2)) (F.SSPI_CFG_BLANK_ONLY.nth (g % 2)) && m.armed g

/-- The `b` low bits of a number in reverse order. -/
def revBits (b w : Nat) : Nat := (List.range b).foldl (fun a i => 2 * a + (bit w i).toNat) 0

/-- Bits of a frame (R178, R181). -/
def spiBits (m : Mach) (g : Nat) : Nat := m.rd (P.sspi (g / 2)) (F.SSPI_CFG_BITS.nth (g % 2)) + 1

/-- Half a clock period in ticks: the clock is 250 MHz ÷ (2 × (DIV + 1)), a DIV below 4 acting as 4 (R178, R181). -/
def spiHalf (m : Mach) (g : Nat) : Nat := 2 * (max 4 (m.rd (P.sspi (g / 2)) (F.SSPI_CFG_DIV.nth (g % 2))) + 1)

def spiLsb (m : Mach) (g : Nat) : Bool := m.flag (P.sspi (g / 2)) (F.SSPI_CFG_LSB_FIRST.nth (g % 2))
def spiMode (m : Mach) (g : Nat) : Nat := m.rd (P.sspi (g / 2)) (F.SSPI_CFG_MODE.nth (g % 2))

/-- The bits of a frame in the order in which they are sent (R178). -/
def frameBits (m : Mach) (g f : Nat) : List Bool :=
  let b := m.spiBits g
  (List.range b).map fun i => bit f (if m.spiLsb g then i else b - 1 - i)

/-- The oldest queued frame leaves the TX FIFO for the shifter: CS_N falls at instant `at_`, or is held low from the frame before (R178). -/
def spiStart (m : Mach) (g at_ : Nat) (held : Bool) : Mach :=
  match (m.clu g).spi.shift, (m.clu g).spi.tx with
  | none, f :: r =>
    (m.modClu g fun s => { s with spi := { s.spi with shift := some f, tx := r, start := at_, blankAt := none } }).emitOut
      (.spi g at_ (m.spiMode g) (m.spiHalf g) (m.frameBits g f) held)
  | _, _ => m

/-- A queued frame starts now, or at a blanking instant of the line that has not passed, unless it waits for the next line's (R180). -/
def spiKick (m : Mach) (g : Nat) : Mach :=
  let n := m.now (g / 2)
  if !m.spiGated g then m.spiStart g n false
  else match (m.clu g).spi.blankAt with
    | some b => if n ≤ b then m.spiStart g b false else m
    | none => m

/-- A line begins with a trigger at `n`: a waiting frame starts at L0 + BLANK_OFS, and so does one queued before then; a frame still in
progress lets the line pass (R180). -/
def spiLine (m : Mach) (g n : Nat) : Mach :=
  if !m.spiGated g then m
  else
    let b := n + 32 + m.rd (P.sspi (g / 2)) (F.SSPI_BLANK_OFS_TICKS.nth (g % 2))
    let busy := (m.clu g).spi.shift.isSome
    (m.modClu g fun s => { s with spi := { s.spi with blankAt := if busy then none else some b } }).spiStart g b false

/-- Frames in the TX FIFO: those queued and one whose CS_N has not fallen yet. -/
def spiTxLvl (m : Mach) (g : Nat) : Nat :=
  let s := (m.clu g).spi
  s.tx.length + (s.shift.isSome && decide (m.now (g / 2) < s.start)).toNat

/-- A write to a register of page SSPI that has a behaviour of its own (log entry 128). -/
def writeSspi (m : Mach) (t off : Nat) (v : Word) : Option Mach :=
  let c := (off - 0x040) / 0x40
  let g := 2 * t + c
  let pk := P.sspi t
  let s := (m.clu g).spi
  if off < 0x040 ∨ 2 ≤ c then none
  else match (off - 0x040) % 0x40 with
  | 0x00 => if s.shift.isSome || !s.tx.isEmpty then some (m.refuse pk 16) else none
  | 0x08 =>
    if 16 ≤ m.spiTxLvl g then some (m.raise pk (2 + 8 * c))
    else
      let f := v.toNat % 2 ^ (m.rd pk (F.SSPI_CFG_BITS.nth c) + 1)
      some ((m.modClu g fun s => { s with spi := { s.spi with tx := s.spi.tx ++ [f] } }).spiKick g)
  | 0x10 =>
    let m := if bit v.toNat 0 then m.modClu g fun s => { s with spi := { s.spi with rx := s.spi.rx.tail } } else m
    some (if !bit v.toNat 1 then m
      else if s.shift.isSome then m.modClu g fun s => { s with spi := { s.spi with flush := true } }
      else m.modClu g fun s => { s with spi := {} })
  | _ => none

/-- SSPI registers that are computed when read: RX and STAT (R179, R181). -/
def sspiRead (m : Mach) (t off : Nat) : Option Word :=
  let c := (off - 0x040) / 0x40
  let s := (m.clu (2 * t + c)).spi
  if off < 0x040 ∨ 2 ≤ c then none
  else match (off - 0x040) % 0x40 with
  | 0x0C => some (BitVec.ofNat 32 (s.rx.headD 0))
  | 0x14 => some (BitVec.ofNat 32 (s.rx.length * 65536 + m.spiTxLvl (2 * t + c) * 256 + (s.shift.isSome || !s.tx.isEmpty).toNat))
  | _ => none

/-- A frame ends with the bits read on MISO, the first of them in the highest place (R178–R181) (log entry 128). -/
def spiDone (m : Mach) (g miso : Nat) : Mach :=
  let pk := P.sspi (g / 2)
  let c := g % 2
  let s := (m.clu g).spi
  if s.shift.isNone then m else
  let w := if m.spiLsb g then revBits (m.spiBits g) miso else miso % 2 ^ m.spiBits g
  let m := if 16 ≤ s.rx.length then m.raise pk (1 + 8 * c) else m
  let m := m.modClu g fun s =>
    if s.spi.flush then { s with spi := {} }
    else { s with spi := { s.spi with shift := none, rx := if 16 ≤ s.spi.rx.length then s.spi.rx else s.spi.rx ++ [w] } }
  if (m.clu g).spi.tx.isEmpty then m.raise pk (8 * c)
  else if m.flag pk (F.SSPI_CFG_CS_HOLD.nth c) then m.spiStart g (m.now (g / 2)) true
  else m.spiKick g

/-! ### Idle states (R84, R165) -/

/-- Soft reset of SPORT: the readout and the deskew end; the timing outputs go idle. -/
def softResetSport (m : Mach) (g : Nat) : Mach :=
  let m := match (m.clu g).reading with
    | some c => (m.endReading g).loseCapture g c
    | none => m
  (m.modClu g fun s =>
    { s with edges := [], toBase := 0, prevEdges := [], prevBase := 0, laneSkew := [], clampRef := [] }).softResetPage (P.sport g)

/-- Soft reset of DEAL: a pending phase switch goes and the phase in force is PHASE again. -/
def softResetDeal (m : Mach) (g : Nat) : Mach :=
  let m := (m.modClu g fun s => { s with phaseSwitch := none, phaseNext := none, lastEdge := none, lastTrig := none }).softResetPage (P.deal g)
  m.wr (P.deal g) F.DEAL_PHASE_ACT_TICKS (m.rd (P.deal g) F.DEAL_PHASE_TICKS)

/-- Soft reset of SSPI: both controllers idle and empty. -/
def softResetSspi (m : Mach) (t : Nat) : Mach :=
  ((m.modClu (2 * t) fun s => { s with spi := {} }).modClu (2 * t + 1) fun s => { s with spi := {} }).softResetPage (P.sspi t)

/-! ### ARM conditions of R176 -/

/-- PIXPER lies within R154 for an analog port's kind and pairing. -/
def pixperOk (m : Mach) (g : Nat) : Bool :=
  let per := m.rd (P.sport g) F.SPORT_PIXCLK_PIXPER
  let en := m.rd (P.sport g) F.SPORT_CFG_VIN_EN
  match m.kind g with
  | 1 => decide (8 ≤ per)
  | 2 => decide (4 ≤ per) || (decide (2 ≤ per) && (List.range 6).all fun i => !bit en i || m.paired g i)
  | _ => true

/-- Longest busy time of the port after a trigger, in units of 250 ps (R150, R153, R160). -/
def busyTime (m : Mach) (g : Nat) : Nat :=
  let pk := P.sport g
  let last := m.rd pk F.SPORT_READOUT_RD_START + (m.phases g - 1) * m.rd (P.deal g) F.DEAL_PH_PITCH_TICKS
  let cnt := m.rd pk F.SPORT_READOUT_RD_COUNT
  match m.kind g with
  | 0 => 0
  | 3 => 256 + 8 * m.windowTicks g
  | _ =>
    if cnt = 0 then 256 + 8 * last + 8
    else 256 + 8 * (last + (cnt - 1) * m.rd pk F.SPORT_PIXCLK_PIXPER) + m.rd pk F.SPORT_SAMPLE_SHD + 8

end Sys2Proof.Machine.Mach
end

