-- ==== Sys2Proof/Machine/Capture.lean ====
section
/-!
DEFINITION. What a port makes of the sensor's signals: sample instants and the AFE chain of an analog input (R152, R153), and the words and
line codes of digital lanes (R157–R161).
-/

namespace Sys2Proof.Machine.Mach

/-! ### The analog front end (R152, R153) -/

/-- Nominal PGA gain 10^(code / 400) in 2^-60 (R152), as a product over the bits of the code (log entry 120). -/
def pgaGain (code : Nat) : Nat :=
  (([1159577393089001151, 1166271706434695346, 1179776496313969701, 1207257021135626152, 1264153291666002342, 1386116520894407888, 1666478595306970703, 2408794438753503044, 5032684900910421492, 21968466379234298332] : List Nat).zipIdx).foldl (fun a x => if bit code x.2 then a * x.1 / 2 ^ 60 else a) (2 ^ 60)

/-- Sample instant of pixel `i` of phase `p` in 250 ps from L0: the video level, or with `reset` the CCD's reset level (R153). -/
def sampleAt (m : Mach) (g p i : Nat) (reset : Bool) : Nat :=
  let pk := P.sport g
  8 * (m.rd pk F.SPORT_READOUT_RD_START + p * m.rd (P.deal g) F.DEAL_PH_PITCH_TICKS + i * m.rd pk F.SPORT_PIXCLK_PIXPER) +
    m.rd pk (if reset then F.SPORT_SAMPLE_SHP else F.SPORT_SAMPLE_SHD)

/-- Level of an input at an instant: that of its latest step, the steps being in order of time (log entry 120). -/
def levelOf (wave : List (Int × Int)) (t : Nat) : Int :=
  match (wave.filter fun e => decide (e.1 ≤ (t : Int))).getLast? with
  | some e => e.2
  | none => 0

/-- The input takes part in clamping (R152). -/
def clamps (m : Mach) (g i : Nat) : Bool :=
  m.rd (P.sport g) F.SPORT_CLAMP_CLP_LEN ≠ 0 && m.actFlag (P.sport g) (F.SPORT_AFE_CLAMP_EN.nth i)

/-- End of the clamp window in 250 ps from L0. -/
def clampEnd (m : Mach) (g : Nat) : Nat :=
  8 * (m.rd (P.sport g) F.SPORT_CLAMP_CLP_START + m.rd (P.sport g) F.SPORT_CLAMP_CLP_LEN)

/-- Result of the conversion of pixel `i` of phase `p` on input `n` (R152): the sampled difference from the clamped black level, amplified,
on the pedestal of 4,096 and the offset of the DAC, with what the converting slice adds of its own (log entries 39, 120). -/
def afeResult (m : Mach) (g n p i : Nat) (x : InputData) : Nat :=
  let pk := P.sport g
  let at_ := m.sampleAt g p i false
  let v := levelOf x.wave at_
  let d := if m.kind g = 1 then levelOf x.wave (m.sampleAt g p i true) - v else v
  let black := if m.clamps g n && decide (m.clampEnd g ≤ at_) then x.black else (m.clu g).clampRef.getD n 0
  let gain : Int := pgaGain (m.act pk (F.SPORT_AFE_PGA.nth n))
  let ofs : Int := toS 10 (m.act pk (F.SPORT_AFE_OFFSET.nth n))
  let num := 10 * gain * (d - black) + (40960 + 128 * ofs) * 2 ^ 60
  satN 65535 ((2 * num + 10 * 2 ^ 60) / (20 * 2 ^ 60) + (x.err.getD p []).getD i 0)

/-- The line's clamp window has passed: the levels it clamped are held (R152) (log entry 120). -/
def holdClamp (m : Mach) (g : Nat) (xs : List InputData) : Mach :=
  m.modClu g fun s =>
    { s with clampRef := (List.range 6).map fun n => if m.clamps g n then (xs.getD n default).black else s.clampRef.getD n 0 }

/-! ### Words and line codes of digital lanes (R156–R161) -/

/-- Bits of a lane word (R158, R168). -/
def wordBits (m : Mach) (g : Nat) : Nat := 8 + 2 * m.rd (P.sport g) F.SPORT_DIG_CFG_WORD

/-- A word of `b` bits from its bits as received, the first of them in the highest place (R158). -/
def laneWord (m : Mach) (g w : Nat) : Nat :=
  let b := m.wordBits g
  if m.flag (P.sport g) F.SPORT_DIG_CFG_LSB_FIRST then revBits b (w % 2 ^ b) else w % 2 ^ b

/-- A received entry equals a code in the bits of `mask`, both compared on the low bits of a word (R158, R159). -/
def codeIs (m : Mach) (g mask code : Nat) (w : Option Nat) : Bool :=
  match w with
  | none => false
  | some x => ((x ^^^ code) &&& mask) % 2 ^ m.wordBits g = 0

/-- Lines of a lane as it frames them: positions of line starts and ends, the words of each ended line, and whether a line started before
the one before had ended (R159, R161). -/
structure LaneLines where
  starts : List Nat := []
  ends : List Nat := []
  lines : List (List Nat) := []
  early : Bool := false
  cur : Option (List Nat) := none
deriving DecidableEq, Repr, Inhabited

def LaneLines.start (f : LaneLines) (i : Nat) : LaneLines :=
  { f with starts := f.starts ++ [i], early := f.early || f.cur.isSome, cur := some [] }
def LaneLines.stop (f : LaneLines) (i : Nat) : LaneLines :=
  match f.cur with
  | some ws => { f with ends := f.ends ++ [i], lines := f.lines ++ [ws], cur := none }
  | none => f
def LaneLines.word (f : LaneLines) (w : Option Nat) : LaneLines :=
  { f with cur := f.cur.map fun ws => match w with | some x => ws ++ [x] | none => ws }

/-- Framing by sync codes (R159): `sync` tells the three sync words, `sol` and `eol` the codes; `i` is the position reached. -/
def frameCodes (sync : Option Nat → Option Nat → Option Nat → Bool) (sol eol : Option Nat → Bool) :
    Nat → LaneLines → List (Option Nat) → LaneLines
  | i, f, a :: b :: c :: d :: r =>
    if sync a b c && sol d then frameCodes sync sol eol (i + 4) (f.start i) r
    else if sync a b c && eol d then frameCodes sync sol eol (i + 4) (f.stop i) r
    else frameCodes sync sol eol (i + 1) (f.word a) (b :: c :: d :: r)
  | _, f, r => r.foldl LaneLines.word f

/-- Framing by a line-valid lane (R159): the data lane's words with the level at each word boundary. -/
def frameValid : Nat → LaneLines → List (Bool × Option Nat) → LaneLines
  | _, f, [] => f
  | i, f, (v, w) :: r =>
    let f := if v && f.cur.isNone then f.start i else if !v then f.stop i else f
    frameValid (i + 1) (if v then f.word w else f) r

/-- A lane's words moved to the common word boundary that deskew found (R157): `k` words late. -/
def alignLane (k : Int) (ws : List (Option Nat)) : List (Option Nat) :=
  if 0 ≤ k then ws.drop k.toNat else List.replicate (-k).toNat none ++ ws

/-- Entries of lane `i` on the common word boundary. -/
def laneEntries (m : Mach) (g i : Nat) (raw : List Nat) : List (Option Nat) :=
  alignLane ((m.clu g).laneSkew.getD i 0) (raw.map fun w => some (m.laneWord g w))

/-- Enabled lanes that carry data (R159). -/
def dataLanes (m : Mach) (g : Nat) : List Nat :=
  let pk := P.sport g
  (List.range 8).filter fun i => bit (m.rd pk F.SPORT_CFG_LANE_EN) i &&
    !(m.flag pk F.SPORT_DIG_CFG_FRAMING && i = m.rd pk F.SPORT_DIG_CFG_LV_LANE)

/-- Lines of a lane framed by its own codes. -/
def codeLines (m : Mach) (g : Nat) (ws : List (Option Nat)) : LaneLines :=
  let pk := P.sport g
  let full := 65535
  let is := m.codeIs g full
  let mask := m.rd pk F.SPORT_EOL_CODE_MASK
  frameCodes (fun a b c => is (m.rd pk F.SPORT_SYNC01_SYNC0) a && is (m.rd pk F.SPORT_SYNC01_SYNC1) b && is (m.rd pk F.SPORT_SYNC2_SYNC2) c)
    (m.codeIs g mask (m.rd pk F.SPORT_SYNC2_SOL)) (m.codeIs g mask (m.rd pk F.SPORT_EOL_EOL)) 0 {} ws

/-- Lines of data lane `i` in what the lanes received (R159). A line-valid entry is high when it is not 0. -/
def laneLines (m : Mach) (g : Nat) (lanes : List (List Nat)) (i : Nat) : LaneLines :=
  let pk := P.sport g
  let ws := m.laneEntries g i (lanes.getD i [])
  if !m.flag pk F.SPORT_DIG_CFG_FRAMING then m.codeLines g ws
  else
    let lv := m.rd pk F.SPORT_DIG_CFG_LV_LANE
    let vs := m.laneEntries g lv (lanes.getD lv [])
    frameValid 0 {} ((vs.map fun v => match v with | some x => decide (x ≠ 0) | none => false).zipIdx.map fun x => (x.1, ws.getD x.2 none))

/-- The end of phase P − 1 has been received on every data lane (R160). -/
def windowOver (m : Mach) (g : Nat) (fs : List LaneLines) : Bool :=
  !fs.isEmpty && fs.all fun f => decide (m.phases g ≤ f.ends.length)

/-- Positions lie at most 3 words apart. -/
def near (xs : List Nat) : Bool := xs.all fun a => xs.all fun b => decide (a ≤ b + 3)

/-- No phase of the line meets a condition of R161: word counts agree with WPL, no line starts early, code words lie close together. -/
def lanesGood (m : Mach) (g : Nat) (fs : List LaneLines) : Bool :=
  fs.all (fun f => !f.early) && (List.range (m.phases g)).all fun p =>
    fs.all (fun f => (f.lines.getD p []).length = m.rd (P.sport g) F.SPORT_DIG_CFG_WPL) &&
    near (fs.map fun f => f.starts.getD p 0) && near (fs.map fun f => f.ends.getD p 0)

/-- Values of a captured line by phase, source (0–5 video inputs, 8–15 lanes) and readout position: conversion results, or data words (log entry 39). -/
def lineValues (m : Mach) (g : Nat) (data : LineData) : List (List (List Nat)) :=
  (List.range (m.phases g)).map fun p =>
    if m.kind g = 3 then
      let lanes := m.dataLanes g
      List.replicate 8 [] ++ (List.range 8).map fun i => if lanes.contains i then ((m.laneLines g data.lanes i).lines.getD p []) else []
    else
      (List.range 6).map fun n =>
        if bit (m.rd (P.sport g) F.SPORT_CFG_VIN_EN) n then
          (List.range (m.rd (P.sport g) F.SPORT_READOUT_RD_COUNT)).map fun i => m.afeResult g n p i (data.inputs.getD n default)
        else []

/-! ### Digital line events (R156, R160, R161) -/

/-- The lane whose codes frame the port's lines: the line-valid lane, or the lowest enabled one. -/
def framingLines (m : Mach) (g : Nat) (words : List Nat) : LaneLines :=
  let pk := P.sport g
  if m.flag pk F.SPORT_DIG_CFG_FRAMING then frameValid 0 {} (words.map fun x => (decide (x ≠ 0), none))
  else m.codeLines g (words.map fun w => some (m.laneWord g w))

/-- The last of the framing lane's words complete a line start (R159). -/
def startsNow (m : Mach) (g : Nat) (words : List Nat) : Bool :=
  let len := if m.flag (P.sport g) F.SPORT_DIG_CFG_FRAMING then 1 else 4
  match (m.framingLines g words).starts.getLast? with
  | some i => i + len = words.length
  | none => false

/-- A readout window is open at instant `n`: from L0 of the capture in readout on, until the last phase has ended (R160). -/
def windowOpen (m : Mach) (g n : Nat) (f : LaneLines) : Bool :=
  match (m.clu g).reading with
  | some c => decide (c.n + 32 ≤ n) && decide (f.ends.length < m.phases g)
  | none => false

/-- The framing lane receives the last of `words`, which arrived since the window opened, at instant `n`. A line start begins the next
phase of an open window, failing the line when the one before has not ended, or counts as UNSOLICITED (R159–R161) (log entry 37). -/
def digitalLineStart (m : Mach) (g n : Nat) (words : List Nat) : Mach :=
  let m := m.advance (g / 2) n
  if !m.live (g / 2) (D.sport (g % 2)) || m.kind g ≠ 3 || !m.startsNow g words then m
  else
    let f := m.framingLines g words
    if !m.windowOpen g n f then (m.inc (P.sport g) F.SPORT_UNSOLICITED_COUNT).raise (P.sport g) 6
    else
      let m := m.modClu g fun s => { s with started := min f.starts.length (m.phases g) }
      if f.early then m.failLine g else m

/-- The readout window closes by time-out, RD_TIMEOUT ticks after L0 (R160, R161) (log entry 37). -/
def readoutTimeout (m : Mach) (g : Nat) : Mach :=
  match (m.clu g).reading with
  | none => m
  | some c =>
    if m.kind g ≠ 3 then m
    else ((m.advance (g / 2) (c.n + 32 + m.windowTicks g)).failLine g).endReading g

/-! ### Deskew (R157) -/

/-- Runs of set bits among the 64 taps, as first tap and length. -/
def runsOf (taps : Nat) : List (Nat × Nat) :=
  ((List.range 64).filter fun i => bit taps i && (i = 0 || !bit taps (i - 1))).map fun i =>
    (i, ((List.range (64 - i)).takeWhile fun k => bit taps (i + k)).length)

/-- The windows of greatest width. -/
def widest (taps : Nat) : List (Nat × Nat) :=
  let rs := runsOf taps
  let w := (rs.map Prod.snd).foldl max 0
  rs.filter fun r => r.2 = w

/-- A word of `b` bits rotated left by `k`. -/
def rotWord (b k w : Nat) : Nat := (w * 2 ^ k + w / 2 ^ (b - k)) % 2 ^ b

/-- Bits to slip until TRAIN falls on a word boundary; none when no slip finds it (R157, R158). -/
def slipOf (m : Mach) (g : Nat) (word : Option Nat) : Option Nat :=
  let b := m.wordBits g
  match word with
  | none => none
  | some w => (List.range b).find? fun k => m.laneWord g (rotWord b k (w % 2 ^ b)) = m.rd (P.sport g) F.SPORT_DESKEW_TRAIN % 2 ^ b

/-- One lane deskewed from the taps at which TRAIN arrived without error and a word received there: LANE_TAP is written. Which of several
widest windows is taken, which of two middle taps, and what stands in TAP or SLIP where none was found are free (log entry 3). -/
def deskewLane (m : Mach) (g i taps : Nat) (word : Option Nat) : Mach × Bool :=
  let pk := P.sport g
  let ws := widest taps
  let f := m.freeNat
  let h := f.2.freeBool
  let r := ws.getD (f.1 % max 1 ws.length) (f.1 % 64, 0)
  let tap := if r.2 = 0 then r.1 else r.1 + (r.2 - 1) / 2 + (if r.2 % 2 = 0 then h.1.toNat else 0)
  let s := h.2.freeNat
  let slip := m.slipOf g word
  let m := ((s.2.wr pk (F.SPORT_LANE_TAP_TAP.nth i) tap).wr pk (F.SPORT_LANE_TAP_SLIP.nth i) (slip.getD s.1)).wr pk
    (F.SPORT_LANE_TAP_EYE.nth i) r.2
  (m, decide (4 ≤ r.2) && slip.isSome)

/-- Deskew ends with each lane's findings: the taps without errors, a word received at the tap chosen, and by how many words the lane is
late (R157) (log entries 11, 27). -/
def deskewDone (m : Mach) (g : Nat) (lanes : List LaneFind) : Mach :=
  let pk := P.sport g
  if !m.flag pk F.SPORT_DESKEW_GO then m else
  let en := m.rd pk F.SPORT_CFG_LANE_EN
  let r := (List.range 8).foldl (fun (a : Mach × Nat) i =>
    if bit en i then
      let x := lanes.getD i default
      let d := a.1.deskewLane g i x.taps.toNat x.word
      (d.1, a.2 + d.2.toNat * 2 ^ i)
    else a) (m, 0)
  let m := r.1.modClu g fun s => { s with laneSkew := (List.range 8).map fun i => clampI (-3) 3 (lanes.getD i default).late }
  let m := ((m.wr pk F.SPORT_DESKEW_GO 0).wr pk F.SPORT_DESKEW_STAT_LANE_OK r.2).wrb pk F.SPORT_DESKEW_STAT_DESKEWED (r.2 = en)
  m.raise pk (if r.2 = en then 2 else 3)

end Sys2Proof.Machine.Mach
end

