-- ==== Sys2Proof/Machine/Vc.lean ====
section
/-!
DEFINITION. Interleaved video converters (R182–R207) and stages 1 and 2 of the pixel path: slice maps and factors, power-up and
background calibration, retirement, the segment map, the optical-black clamp (R155), and the ARM conditions of R204.
-/

namespace Sys2Proof.Machine.Mach

/-! ### Factors and maps -/

/-- A factor element in the layout of R206. -/
def factorWord (ofs : Int) (gain : Nat) (skew : Int) (res : Nat) : Nat :=
  ofS 16 (clampI (-32768) 32767 ofs) + min gain 65535 * 2 ^ 16 + ofS 8 (clampI (-128) 127 skew) * 2 ^ 32 + min res 255 * 2 ^ 40

def fOfs (w : Nat) : Int := toS 16 w
def fGain (w : Nat) : Nat := bits w 31 16
def fSkew (w : Nat) : Int := toS 8 (w / 2 ^ 32)
def fRes (w : Nat) : Nat := bits w 47 40

def conv (m : Mach) (g v : Nat) : Conv := vget (m.clu g).convs v
def modConv (m : Mach) (g v : Nat) (f : Conv → Conv) : Mach := m.modClu g fun s => { s with convs := vmod s.convs v f }

/-- Factors in force of slice `s` of converter `v` (array 1) and its baseline (array 2). -/
def factors (m : Mach) (g v s : Nat) : Nat := m.el (P.vc g) 1 (5 * v + s)
def baseline (m : Mach) (g v s : Nat) : Nat := m.el (P.vc g) 2 (5 * v + s)

/-- Slice holding position `k` of converter `v`, and the dummy; 15 for none (R184). -/
def posSlice (m : Mach) (g v k : Nat) : Nat := bits (m.rd (P.vc g) ⟨0x080 + 0x10 * v, 15, 0, 0⟩) (4 * k + 3) (4 * k)
def dummySlice (m : Mach) (g v : Nat) : Nat := m.rd (P.vc g) (F.VC_CONV_MAP_DUMMY.nth v)
def hasDummy (m : Mach) (g v : Nat) : Bool := m.dummySlice g v ≠ 15

/-- The map with position `k` given to slice `s`. -/
def setPos (m : Mach) (g v k s : Nat) : Mach := m.wr (P.vc g) ⟨0x080 + 0x10 * v, 4 * k + 3, 4 * k, 0⟩ s

/-- The AON copy of a converter's map, factors and baselines is written (R87, R184). -/
def saveAon (m : Mach) (g v : Nat) : Mach :=
  let map := (m.word (P.vc g) (0x080 + 0x10 * v)).toNat
  let fs := (List.range 5).map (m.factors g v)
  let bs := (List.range 5).map (m.baseline g v)
  m.modConv g v fun c => { c with aonMap := map, aonFactors := fs, aonBase := bs }

/-- The AON copies of every calibrated converter of the cluster, as at the end of each deal (R87). -/
def saveAllAon (m : Mach) (g : Nat) : Mach :=
  (List.range 6).foldl (fun m v => if (m.conv g v).aonOk then m.saveAon g v else m) m

/-- Map, factors and baselines loaded from a valid AON copy (R86, R188). -/
def restoreAon (m : Mach) (g v : Nat) : Mach :=
  let c := m.conv g v
  if !c.aonOk then m else
  let m := m.setWord (P.vc g) (0x080 + 0x10 * v) (BitVec.ofNat 32 c.aonMap)
  (List.range 5).foldl (fun m s =>
    (m.setEl (P.vc g) 1 (5 * v + s) (c.aonFactors.getD s 0)).setEl (P.vc g) 2 (5 * v + s) (c.aonBase.getD s 0)) m

/-- A slice enters or leaves service at the tile's time base (R196). -/
def enterService (m : Mach) (g v s : Nat) : Mach :=
  m.modConv g v fun c => { c with entered := c.entered.set s (m.now (g / 2)) }
def leaveService (m : Mach) (g v s n : Nat) : Mach := m.modConv g v fun c => { c with left := c.left.set s n }

/-- Factor words that positions 0–3 use now. -/
def posFactors (m : Mach) (g v : Nat) : List Nat :=
  (List.range 4).map fun k => let s := m.posSlice g v k; if s = 15 then 0 else m.factors g v s

/-- The factor words in use up to now are kept for the conversions of the line in progress before `at_` (R193). -/
def keepHist (m : Mach) (g v at_ : Nat) : Mach :=
  if m.portBusy g then
    let w := m.posFactors g v
    m.modConv g v fun c => { c with hist := c.hist ++ [(at_, w)] }
  else m

/-! ### Retirement (R190, R194, R196) -/

/-- Slice `s` of converter `v` retired: the map loses it and its spare, the AON copy is written, the record entered. -/
def retire (m : Mach) (g v s cause start stop : Nat) : Mach :=
  let pk := P.vc g
  let f := F.VC_CONV_MAP_RETIRED.nth v
  let m := ((m.wr pk f (m.rd pk f ||| 2 ^ s)).wr pk (F.VC_CONV_MAP_DUMMY.nth v) 15).wr pk (F.VC_CONV_MAP_NOSPARE.nth v) 1
  let m := m.modConv g v fun c => { c with pend := none, bridge := false }
  ((m.saveAon g v).raise pk 2).record (g / 2) 0x04 (6 * g + v) s cause (detail 0 8 start + detail 8 8 stop)

/-- Position of converter `v` that slice `s` holds, if any. -/
def positionOf (m : Mach) (g v s : Nat) : Option Nat := (List.range 4).find? fun k => m.posSlice g v k = s

/-! ### Power-up calibration (R188–R190) -/

/-- A measured slice within the limits of R190; a restore looks at offset and gain alone (log entry 42). -/
def sliceOk (full : Bool) (limRes : Nat) (x : SliceMeas) : Bool :=
  decide (-32768 ≤ x.ofs) && decide (x.ofs ≤ 32768) && decide (29492 ≤ x.gain) && decide (x.gain ≤ 36044) &&
  (!full || (decide (x.res ≤ limRes) && decide (-128 ≤ x.skew) && decide (x.skew ≤ 128)))

/-- Calibration of the cluster's converters starts; `host`: by CAL_CMD.FULL, else within PREP (R188, R189). The latest start sets the
form (log entry 119). -/
def vcCalStart (m : Mach) (g : Nat) (host : Bool) : Mach :=
  let pk := P.vc g
  let m := m.modClu g fun s => { s with calStart := m.now (g / 2), calHost := host }
  let m := if host then m.wr pk F.VC_CAL_CMD_FULL 1 else m
  m.wr pk F.VC_STAT_CAL_BUSY 1

/-- Full calibration of one converter ends with its five slices' measurements (R189, R190) (log entry 27). -/
def fullConv (m : Mach) (g v : Nat) (xs : List SliceMeas) : Mach :=
  let pk := P.vc g
  let x := fun s => xs.getD s default
  let lim := m.act pk F.VC_LIM_RES_LSB
  let start := (m.clu g).calStart
  let was := fun s => (m.positionOf g v s).isSome
  let pass := (List.range 5).filter fun s => sliceOk true lim (x s)
  let fail := (List.range 5).filter fun s => !sliceOk true lim (x s)
  let place := (pass ++ fail).take 4
  let old := m
  let m := (List.range 5).foldl (fun m s =>
    let w := factorWord (x s).ofs (x s).gain (x s).skew (x s).res
    (m.setEl pk 1 (5 * v + s) w).setEl pk 2 (5 * v + s) w) m
  let failed := decide (2 ≤ fail.length)
  let dummy := if fail.isEmpty then pass.getD 4 15 else 15
  let out := fail.filter fun s => !place.contains s
  let retired := out.foldl (fun a s => a ||| 2 ^ s) 0
  let map := failed.toNat * 2 ^ 31 + (dummy = 15 : Bool).toNat * 2 ^ 30 + retired * 2 ^ 24 + dummy * 2 ^ 16 +
    place.getD 3 15 * 2 ^ 12 + place.getD 2 15 * 2 ^ 8 + place.getD 1 15 * 2 ^ 4 + place.getD 0 15
  let m := m.setWord pk (0x080 + 0x10 * v) (BitVec.ofNat 32 map)
  let m := m.modConv g v fun c => { c with pend := none, bridge := false, diff := (0, 0), since := 0, aonOk := true }
  let m := place.foldl (fun m s => m.enterService g v s) m
  let m := m.saveAon g v
  let m := if failed then m.raise pk 3 else m
  let m := out.foldl (fun m s =>
    (m.raise pk 2).record (g / 2) 0x04 (6 * g + v) s 1
      (if was s || (old.conv g v).entered.getD s 0 ≠ 0 then detail 0 8 ((old.conv g v).entered.getD s 0) + detail 8 8 start else 0)) m
  (fail.filter fun s => place.contains s).foldl (fun m s => m.record (g / 2) 0x05 (6 * g + v) s 0 0) m

/-- A restored slice beyond the limits: retired when the converter has a dummy, which takes over its position; else the converter
is FAILED (R190, R197) (log entry 42). -/
def restoreFail (m : Mach) (g v s : Nat) : Mach :=
  let pk := P.vc g
  let c := m.conv g v
  if m.hasDummy g v then
    let d := m.dummySlice g v
    let start := c.entered.getD s 0
    let stop := if start = 0 then 0 else (m.clu g).calStart
    let m := match m.positionOf g v s with
      | some k => (m.setPos g v k d).enterService g v d
      | none => m
    m.retire g v s 1 start stop
  else ((m.wr pk (F.VC_CONV_MAP_FAILED.nth v) 1).raise pk 3).record (g / 2) 0x05 (6 * g + v) s 0 0

/-- Restore of one converter from its AON copy ends (R188, R190): the slices that hold positions are in service from here on (R196) (log entry 42). -/
def restoreConv (m : Mach) (g v : Nat) (xs : List SliceMeas) : Mach :=
  let pk := P.vc g
  let m := m.restoreAon g v
  let retired := m.rd pk (F.VC_CONV_MAP_RETIRED.nth v)
  let live := (List.range 5).filter fun s => !bit retired s
  let m := live.foldl (fun m s =>
    let x := xs.getD s default
    let w := m.factors g v s
    m.setEl pk 1 (5 * v + s) (factorWord x.ofs x.gain (fSkew w) (fRes w))) m
  let m := (live.filter fun s => !sliceOk false 0 (xs.getD s default)).foldl (fun m s => m.restoreFail g v s) m
  let m := m.modConv g v fun c => { c with pend := none, bridge := false, diff := (0, 0) }
  let m := ((List.range 4).filter fun k => m.posSlice g v k ≠ 15).foldl (fun m k => m.enterService g v (m.posSlice g v k)) m
  m.saveAon g v

/-- A full or restore calibration ends with the measurements of the cluster's converters (R188–R190, R205) (log entry 27). -/
def vcCalDone (m : Mach) (g : Nat) (meas : List (List SliceMeas)) : Mach :=
  let pk := P.vc g
  if !m.flag pk F.VC_STAT_CAL_BUSY then m else
  let host := (m.clu g).calHost
  let anyFull := (List.range 6).any fun v => host || !(m.conv g v).aonOk
  let m := (List.range 6).foldl (fun m v =>
    if host || !(m.conv g v).aonOk then m.fullConv g v (meas.getD v []) else m.restoreConv g v (meas.getD v [])) m
  let ok := (List.range 6).foldl (fun a v => a + (!m.flag pk (F.VC_CONV_MAP_FAILED.nth v)).toNat * 2 ^ v) 0
  let m := (((m.wr pk F.VC_STAT_CAL_OK ok).wr pk F.VC_STAT_CAL_BUSY 0).wr pk F.VC_CAL_CMD_FULL 0).wrb pk F.VC_STAT_CAL_FORM (!anyFull)
  let m := m.raise pk 0
  if ok = 63 then m else m.raise pk 1

/-- The converters whose failure counts for PREP_ERR bit 13: their input enabled, or the even input of their pair (R190). -/
def vcCounts (m : Mach) (g : Nat) : Nat :=
  let en := m.rd (P.sport g) F.SPORT_CFG_VIN_EN
  (List.range 6).foldl (fun a v => a + (bit en v || (m.paired g v && bit en (v / 2 * 2))).toNat * 2 ^ v) 0

/-- A converter of the set `counts` is FAILED (R190). -/
def vcPrepFailed (m : Mach) (g counts : Nat) : Bool :=
  (List.range 6).any fun v => m.flag (P.vc g) (F.VC_CONV_MAP_FAILED.nth v) && bit counts v

/-! ### Background calibration (R191–R195, R186) -/

/-- A shadow step runs on converter `v`. -/
def stepRuns (m : Mach) (g v : Nat) : Bool :=
  m.armed g && m.enabled (P.vc g) && m.actFlag (P.vc g) F.VC_BGCAL_EN && (m.kind g = 1 || m.kind g = 2) && m.hasDummy g v &&
    (m.conv g v).pend.isNone

/-- VC registers that are computed when read: CONVv_BG.ACTIVE and CONVv_DRIFT (R205) (log entry 40). -/
def vcRead (m : Mach) (g off : Nat) : Option Word :=
  let pk := P.vc g
  if 0x080 ≤ off ∧ off < 0x0E0 then
    let v := (off - 0x080) / 0x10
    match (off - 0x080) % 0x10 with
    | 4 => some (BitVec.ofNat 32 (putBit (m.word pk off).toNat 0 (m.stepRuns g v)))
    | 8 =>
      let held := ((List.range 4).map (m.posSlice g v)).filter (· ≠ 15)
      let og := held.foldl (fun (a : Nat × Nat) s =>
        (max a.1 (fOfs (m.factors g v s) - fOfs (m.baseline g v s)).natAbs,
         max a.2 ((fGain (m.factors g v s) : Int) - fGain (m.baseline g v s)).natAbs)) (0, 0)
      some (BitVec.ofNat 32 (min og.2 65535 * 65536 + og.1 / 16))
    | _ => none
  else none

/-- Next position in rotation. -/
def shadowPos (m : Mach) (g v : Nat) : Nat := m.rd (P.vc g) (F.VC_CONV_BG_SHADOW_POS.nth v)

/-- The converter of a pair that runs the bridge: the odd one, or the even one while the odd one has no dummy (R186). -/
def bridges (m : Mach) (g v : Nat) : Bool := m.paired g v && (v % 2 = 1 || !m.hasDummy g (v + 1))

/-- A bridge difference that waits is applied to every slice of odd converter `v` (R186). -/
def applyDiff (m : Mach) (g v : Nat) : Mach :=
  let d := (m.conv g v).diff
  if d = (0, 0) then m else
  let m := (List.range 5).foldl (fun m s =>
    let w := m.factors g v s
    m.setEl (P.vc g) 1 (5 * v + s)
      (factorWord (fOfs w + d.1) (satN 65535 (fGain w + d.2)) (fSkew w) (fRes w))) m
  m.modConv g v fun c => { c with diff := (0, 0) }

/-- The first phase of a line starts: the bridge differences that wait are applied (R186) (log entry 41). -/
def applyBridge (m : Mach) (g : Nat) : Mach := [1, 3, 5].foldl (fun m v => m.applyDiff g v) m

/-- A completed bridge step: the dummy resumes its own rotation, and the difference found is applied from the next phase start on, which is
that of the line in progress where it has one more phase, else the next line's (R186) (log entry 41). -/
def bridgeDone (m : Mach) (g v : Nat) (fit : StepFit) (withGain : Bool) : Mach :=
  let own := m.factors g v (m.dummySlice g v)
  let d : Int × Int := (fit.ofs - fOfs own, if withGain then (fit.gain : Int) - fGain own else 0)
  let d := if v % 2 = 1 then d else (-d.1, -d.2)
  let odd := v / 2 * 2 + 1
  let m := m.modConv g v fun c => { c with bridge := false, since := 0, bridgePos := (c.bridgePos + 1) % 4 }
  let m := m.modConv g odd fun c => { c with diff := (c.diff.1 + d.1, c.diff.2 + d.2) }
  let m := m.wr (P.vc g) (F.VC_CONV_BG_SHADOW_POS.nth v) (m.conv g v).resume
  let next := fit.at_ / 65536 + 1
  if m.portBusy g && decide (next < m.phases g) then (m.keepHist g odd (next * 65536)).applyDiff g odd else m

/-- A new factor word of the dummy lies beyond the drift limits or at the edge of a correction range (R193). -/
def drifted (m : Mach) (g v w : Nat) : Bool :=
  let pk := P.vc g
  let b := m.baseline g v (m.dummySlice g v)
  decide (16 * m.act pk F.VC_LIM_OFS_LSB < (fOfs w - fOfs b).natAbs) ||
  decide (m.act pk F.VC_LIM_GAIN_UNITS < ((fGain w : Int) - fGain b).natAbs) ||
  decide (m.act pk F.VC_LIM_SKEW_UNITS < (fSkew w - fSkew b).natAbs) ||
  fOfs w = -32768 || fOfs w = 32767 || fGain w = 0 || fGain w = 65535 || fSkew w = -128 || fSkew w = 127

/-- The dummy retired: it was last in service from its last entry until the handover that made it the dummy (R196). -/
def retireDummy (m : Mach) (g v cause : Nat) : Mach :=
  let d := m.dummySlice g v
  m.retire g v d cause ((m.conv g v).entered.getD d 0) ((m.conv g v).left.getD d 0)

/-- A self-check ends: outside the limits of R190 the dummy is retired, else the slice it shadowed, whose position the dummy takes at
once (R194) (log entry 27). -/
def selfCheck (m : Mach) (g v : Nat) (fit : StepFit) : Mach :=
  if !sliceOk true (m.act (P.vc g) F.VC_LIM_RES_LSB) { ofs := fit.selfOfs, gain := fit.selfGain, skew := 0, res := fit.selfRes } then
    m.retireDummy g v 3
  else
    let pk := P.vc g
    let k := m.shadowPos g v
    let d := m.dummySlice g v
    let s := m.posSlice g v k
    let w := m.factors g v d
    let m := m.keepHist g v fit.at_
    let m := m.setEl pk 1 (5 * v + d) (factorWord fit.selfOfs fit.selfGain (fSkew w) (fRes w))
    let m := (m.setPos g v k d).enterService g v d
    (m.leaveService g v s (m.now (g / 2))).retire g v s 4 ((m.conv g v).entered.getD s 0) (m.now (g / 2))

/-- A shadow step of converter `v` ends complete: gain and skew fitted or kept, then the outcome of R193 (R191–R194); a bridge step
counts and shows its skips like any other (log entries 27, 118). -/
def endStep (m : Mach) (g v : Nat) (fit : StepFit) (withGain withSkew : Bool) : Mach :=
  let pk := P.vc g
  let m := m.incW pk (F.VC_CONV_BG_STEPS.nth v)
  let m := (m.wrb pk (F.VC_CONV_BG_G_SKIP.nth v) (!withGain)).wrb pk (F.VC_CONV_BG_S_SKIP.nth v) (!withSkew)
  if (m.conv g v).bridge then m.bridgeDone g v fit withGain
  else
    let old := m.factors g v (m.dummySlice g v)
    let w := factorWord fit.ofs (if withGain then fit.gain else fGain old) (if withSkew then fit.skew else fSkew old) fit.res
    let m := m.modConv g v fun c => { c with since := c.since + 1 }
    if m.act pk F.VC_LIM_RES_LSB < fit.res then m.selfCheck g v fit
    else if m.drifted g v w then m.retireDummy g v 2
    else m.modConv g v fun c => { c with pend := some w }

/-- A shadow step has its 2^SHADOW_LOG2 pairs: gain is fitted from a standard deviation of 1,024 LSB on, skew from a slope of 64 LSB per ns
on (R191, R192) (log entries 27, 118). -/
def stepDone (m : Mach) (g v : Nat) (fit : StepEnd) : Mach :=
  if !m.stepRuns g v || decide (fit.pairs < 2 ^ m.act (P.vc g) F.VC_BGCAL_SHADOW_LOG2) then m
  else m.endStep g v fit.toStepFit (decide (1024 ≤ fit.sd)) (decide (64 ≤ fit.slope))

/-- The handover at the first conversion of the position in phase `p` (R193); every fifth completed step of a pair's bridging
converter is followed by a bridge step (R186). -/
def handover (m : Mach) (g v p : Nat) : Mach :=
  let pk := P.vc g
  match (m.conv g v).pend with
  | none => m
  | some w =>
    let k := m.shadowPos g v
    let d := m.dummySlice g v
    let s := m.posSlice g v k
    let m := m.keepHist g v (p * 65536)
    let m := ((m.setEl pk 1 (5 * v + d) w).setPos g v k d).wr pk (F.VC_CONV_MAP_DUMMY.nth v) s
    let m := ((m.enterService g v d).leaveService g v s (m.now (g / 2))).incW pk F.VC_HANDOVERS_COUNT
    let next := (k + 1) % 4
    let m := m.modConv g v fun c => { c with pend := none }
    let m := m.wr pk (F.VC_CONV_BG_SHADOW_POS.nth v) next
    let m := m.saveAon g v
    if m.bridges g v && decide (5 ≤ (m.conv g v).since) then
      (m.modConv g v fun c => { c with bridge := true, resume := next }).wr pk (F.VC_CONV_BG_SHADOW_POS.nth v) 8
    else m

/-- BGCAL_TMO elapses: with 256 pairs the step completes with offset only, else it is abandoned (R192) (log entry 27). -/
def stepTimeout (m : Mach) (g v pairs : Nat) (fit : StepFit) : Mach :=
  if !m.stepRuns g v then m
  else if 256 ≤ pairs then m.endStep g v fit false false
  else (m.inc (P.vc g) F.VC_BG_STALL_COUNT).raise (P.vc g) 4

/-- The step in progress and a waiting handover are abandoned (R195); a difference that a completed bridge step found still waits (R186). -/
def abandonSteps (m : Mach) (g : Nat) : Mach :=
  (List.range 6).foldl (fun m v =>
    let m := if (m.conv g v).bridge then m.wr (P.vc g) (F.VC_CONV_BG_SHADOW_POS.nth v) (m.conv g v).resume else m
    m.modConv g v fun c => { c with pend := none, bridge := false }) m

/-- After a commit: where BGCAL.EN has fallen, the step in progress is abandoned (R195). -/
def bgFollow (m : Mach) (g : Nat) (was : Bool) : Mach := if was && !m.actFlag (P.vc g) F.VC_BGCAL_EN then m.abandonSteps g else m

/-! ### Stages 1 and 2 (R155, R158, R187, R200, R201) -/

/-- The result of a conversion (R187). -/
def convOut (r ofs : Int) (gain : Int) : Nat :=
  satN 65535 (((r * 16 - ofs) * gain + 2 ^ 18) / 2 ^ 19)

/-- Factor word that a conversion at readout position `i` of phase `p` used. -/
def usedFactor (m : Mach) (g v p i k : Nat) : Nat :=
  match (m.conv g v).hist.find? fun e => p * 65536 + i < e.1 with
  | some e => e.2.getD k 0
  | none => (m.posFactors g v).getD k 0

/-- The u16 value of readout position `i` of source `src` in phase `p`, from the line's results and words (R158, R182, R185, R187) (log entry 39). -/
def sourceValue (m : Mach) (g : Nat) (vals : List (List (List Nat))) (p src i : Nat) : Nat :=
  let raw := ((vals.getD p []).getD src []).getD i 0
  if 8 ≤ src then raw * 2 ^ (16 - m.wordBits g)
  else
    let q := i % 8
    let v := if m.paired g src then src / 2 * 2 + q % 2 else src
    let k := if m.paired g src then q / 2 else i % 4
    let w := m.usedFactor g v p i k
    convOut (raw % 65536 : Nat) (fOfs w) (fGain w)

/-- A segment descriptor (R200). -/
structure Seg where
  ty : Nat
  rev : Bool
  src : Nat
  stride : Nat
  dest : Nat
  count : Nat
  first : Nat
deriving DecidableEq, Repr

/-- The valid descriptors of the segment map, in index order. -/
def segs (m : Mach) (g : Nat) : List Seg :=
  (List.range 16).filterMap fun i =>
    let e := m.el (P.vc g) 0 i
    let d : Seg :=
      { ty := bits e 62 61, rev := bit e 60, src := bits e 59 56, stride := bits e 52 49 + 1,
        dest := bits e 48 32, count := bits e 31 16, first := bits e 15 0 }
    if bit e 63 then some d else none

/-- Readout position of a segment that becomes sample index `s`, if one does (R201). -/
def segPosition (d : Seg) (s : Nat) : Option Nat :=
  if d.dest ≤ s ∧ (s - d.dest) % d.stride = 0 ∧ (s - d.dest) / d.stride < d.count then
    let j := (s - d.dest) / d.stride
    some (d.first + (if d.rev then d.count - 1 - j else j))
  else none

/-- Stage 1: sample `s` of phase `p`. -/
def stage1 (m : Mach) (g : Nat) (vals : List (List (List Nat))) (p s : Nat) : Nat :=
  match ((m.segs g).filter fun d => d.ty = 0).findSome? fun d => (segPosition d s).map fun i => (d.src, i) with
  | some (src, i) => m.sourceValue g vals p src i
  | none => 0

/-- The optical-black samples of phase `p`, in descriptor order, up to the first 4,096 (R155). Nothing is read while RD_COUNT of an
analog port is 0 (R150) (log entry 38). -/
def obSamples (m : Mach) (g : Nat) (vals : List (List (List Nat))) (p : Nat) : List Nat :=
  if m.kind g ≠ 3 && m.rd (P.sport g) F.SPORT_READOUT_RD_COUNT = 0 then []
  else (((m.segs g).filter fun d => d.ty = 1).flatMap fun d =>
    (List.range d.count).map fun j => m.sourceValue g vals p d.src (d.first + j)).take 4096

/-- The optical-black mean of a phase (R155) (log entry 38). -/
def obMean (ob : List Nat) : Nat := if ob.isEmpty then 0 else (ob.sum + ob.length / 2) / ob.length

/-- A clamped sample (R155). -/
def obClamp (mean s : Nat) : Nat := satN 65535 ((s : Int) - mean + 256)

/-- The OB_MEAN field of a phase (R168). -/
def obField (p : Nat) : Field :=
  ⟨0x070 + 4 * (p / 2), if p % 2 = 1 then 31 else 15, if p % 2 = 1 then 16 else 0, 0⟩

/-- Stages 1 and 2 of a captured line: its planes, with OB_MEAN and OB_EMPTY brought up to date (R155, R201). -/
def stages12 (m : Mach) (g : Nat) (data : LineData) : Mach × List (List Nat) :=
  let w := m.width g
  let vals := m.lineValues g data
  let on := m.actFlag (P.sport g) F.SPORT_OBC_EN
  let ps := List.range (m.phases g)
  let planes := ps.map fun p =>
    let xs := (List.range w).map (m.stage1 g vals p)
    if on then xs.map (obClamp (obMean (m.obSamples g vals p))) else xs
  let m' := if !on then m else ps.foldl (fun m p =>
    let ob := m.obSamples g vals p
    let m := m.wr (P.sport g) (obField p) (obMean ob)
    if ob.isEmpty then m.raise (P.sport g) 7 else m) m
  (m', planes)

/-- After an analog line its clamped levels are held for the next, which uses them up to the end of its own clamp window (R152). -/
def captureClamp (m : Mach) (g : Nat) (data : LineData) : Mach := if m.kind g = 3 then m else m.holdClamp g data.inputs

/-- A captured line completes at stage 1 (R150, R161, R17): a failed or converter-less line is a missing capture, one outside a
deal is discarded, and stage 3 takes the line unless it still holds one, or one that it released waits behind
a line in stages 7–9 (R267). A digital line goes on, or is over as a failed one, once its last phase has ended on every lane (R160, R161) (log entry 11). -/
def lineComplete (m : Mach) (g : Nat) (data : LineData) : Mach :=
  match (m.clu g).reading with
  | none => m
  | some c =>
    let lines := (m.dataLanes g).map (m.laneLines g data.lanes)
    if m.kind g = 3 && !m.windowOver g lines then m
    else if m.kind g = 3 && ((m.clu g).failed || !m.lanesGood g lines) then (m.failLine g).endReading g
    else
      let m := m.endReading g
      let ofs := c.cents.map fun x => x - 16 * c.n
      let works := m.enabled (P.vc g) && m.domOn (g / 2) (D.vc (g % 2))
      let lineOver := fun (m : Mach) => (List.range 6).foldl (fun m v => m.modConv g v fun c => { c with hist := [] }) (m.captureClamp g data)
      if !works then lineOver (m.loseCapture g c)
      else
        let m := m.modClu g fun s => { s with lastOfs := ofs }
        if !c.counted then lineOver m
        else
          let r := m.stages12 g data
          let m := lineOver r.1
          if (m.clu g).slot.isSome || (!(m.clu g).released.isEmpty && (m.clu g).inMeld.isSome) then
            ((m.inc (P.deal g) F.DEAL_OVERRUN_COUNT).raise (P.deal g) 0).loseCapture g c
          else m.modClu g fun s => { s with slot := some { cap := c, planes := r.2 } }

/-! ### Register writes and soft reset of VC (R195, R202, R205) -/

/-- A write to a register of page VC that has a behaviour of its own. -/
def writeVc (m : Mach) (g off : Nat) (v : Word) : Option Mach :=
  let pk := P.vc g
  let n := v.toNat
  let refuse := some (m.refuse pk 5)
  let range := fun (f : Field) lo hi => if fieldOf v f < lo ∨ hi < fieldOf v f then refuse else none
  match off with
  | 0x040 => if m.armed g then refuse else none
  | 0x044 => range F.VC_BGCAL_SHADOW_LOG2 8 16
  | 0x048 => range F.VC_BGCAL_TMO_MS 1 65535
  | 0x04C => range F.VC_LIM_OFS_LSB 16 2047
  | 0x050 => range F.VC_LIM_GAIN_UNITS 33 4095
  | 0x054 => range F.VC_LIM_SKEW_UNITS 4 127
  | 0x058 => range F.VC_LIM_RES_LSB 4 255
  | 0x05C =>
    if m.armed g then refuse
    else if bit n 0 && !m.flag pk F.VC_STAT_CAL_BUSY then some (m.vcCalStart g true) else some m
  | 0x064 => if m.armed g then refuse else range F.VC_WIDTH_W 1 98304
  | _ => none

/-- Soft reset of VC: the running step is abandoned; maps and factors stay (R86, R195). -/
def softResetVc (m : Mach) (g : Nat) : Mach :=
  let maps := (List.range 6).map fun v => m.word (P.vc g) (0x080 + 0x10 * v)
  let m := (m.abandonSteps g).softResetPage (P.vc g)
  (List.range 6).foldl (fun m v => m.setWord (P.vc g) (0x080 + 0x10 * v) (maps.getD v 0)) m

/-! ### ARM conditions (R204) -/

/-- Readout positions that a descriptor covers stay within the source (R204). -/
def segInside (m : Mach) (g : Nat) (d : Seg) : Bool :=
  let pk := P.sport g
  if m.kind g = 3 then
    decide (8 ≤ d.src) && bit (m.rd pk F.SPORT_CFG_LANE_EN) (d.src - 8) &&
    !(m.flag pk F.SPORT_DIG_CFG_FRAMING && d.src - 8 = m.rd pk F.SPORT_DIG_CFG_LV_LANE) &&
    decide (d.first + d.count ≤ m.rd pk F.SPORT_DIG_CFG_WPL)
  else
    decide (d.src ≤ 5) && bit (m.rd pk F.SPORT_CFG_VIN_EN) d.src &&
    decide (d.first + d.count ≤ m.rd pk F.SPORT_READOUT_RD_COUNT)

/-- No readout position of one source is covered by two descriptors. -/
def segsApart : List Seg → Bool
  | [] => true
  | d :: r => (r.all fun e => d.src ≠ e.src || d.count = 0 || e.count = 0 ||
      decide (d.first + d.count ≤ e.first) || decide (e.first + e.count ≤ d.first)) && segsApart r

/-- The VC conditions of R204 for a member cluster with pixels. -/
def vcArmOk (m : Mach) (g : Nat) : Bool :=
  let pk := P.vc g
  let en := m.rd (P.sport g) F.SPORT_CFG_VIN_EN
  let img := (m.segs g).filter fun d => d.ty = 0
  let w := m.width g
  let served := fun v => if m.paired g v then bit en (v / 2 * 2) else bit en v
  m.enabled pk &&
  (m.kind g = 3 || (List.range 6).all fun v => !served v || bit (m.rd pk F.VC_STAT_CAL_OK) v) &&
  ((List.range 3).all fun j => !bit (m.rd pk F.VC_CFG_PAIR) j || (m.kind g = 2 && !bit en (2 * j + 1))) &&
  ((m.segs g).all fun d => d.ty ≠ 3 && m.segInside g d) && segsApart (m.segs g) &&
  decide ((img.map Seg.count).sum = w) && ((List.range w).all fun s => img.any fun d => (segPosition d s).isSome) &&
  decide (w * m.phases g ≤ 98304)

end Sys2Proof.Machine.Mach
end

