-- ==== Sys2Proof/Machine/Shade.lean ====
section
/-!
DEFINITION. Shading and calibration (R235–R266): the shading table with its check bits, stages 5 and 6, the live reference, the
temperature deliveries, the deal sums, the table builder, and the pages SHD and CAL.
-/

namespace Sys2Proof.Machine.Mach

/-! ### The table and its check bits (R235–R238) -/

/-- Array numbers beside the window's own: bit errors of shading entries, and check-lane marks of accumulator words. -/
def eccArr : Nat := 13
def markArr : Nat := 14

/-- Entry `e` as stored. -/
def entry (m : Mach) (g e : Nat) : Nat := m.el (P.shd g) 0 e

/-- Error state of an entry: 0 none, 1 one bit, 2 two bits not yet reported, 3 two bits reported (R238) (log entry 43). -/
def ecc (m : Mach) (g e : Nat) : Nat := m.el (P.shd g) eccArr e

/-- The entry is usable: no double-bit error. -/
def usable (m : Mach) (g e : Nat) : Bool := decide (m.ecc g e < 2)

/-- What a read of entry `e` finds and does: a single-bit error is corrected and counted, a double-bit error reported once (log entry 43). -/
def readEntry (m : Mach) (g e : Nat) : Mach :=
  let pk := P.shd g
  match m.ecc g e with
  | 1 => ((m.setEl pk eccArr e 0).inc pk F.SHD_ECC_SEC_COUNT).raise pk 4
  | 2 =>
    let m := ((m.setEl pk eccArr e 3).inc pk F.SHD_ECC_DED_COUNT).raise pk 5
    (((m.wr pk F.SHD_ECC_LAST_VALID 1).wr pk F.SHD_ECC_LAST_E e)).record (g / 2) 0x06 g 0 0 (detail 0 4 e)
  | _ => m

/-- The entries `lo … hi - 1` read: only those with a bit error change anything. -/
def readEntries (m : Mach) (g lo hi : Nat) : Mach :=
  let base := elKey (P.shd g) eccArr 0
  let bad := (m.arr.filter fun e => decide (base + lo ≤ e.1) && decide (e.1 < base + hi)).map fun e => e.1 - base
  bad.foldl (fun m e => m.readEntry g e) m

/-- A whole entry written: the error and the mark clear. -/
def writeEntry (m : Mach) (g e v : Nat) : Mach := (m.setEl (P.shd g) 0 e (v % 2 ^ 74)).setEl (P.shd g) eccArr e 0

/-- The table is lost: every entry, mark and descriptor register reads zero (R86, R237) (log entry 111). -/
def loseTable (m : Mach) (g : Nat) : Mach :=
  let pk := P.shd g
  let m := (m.clearArr pk 0).clearArr pk eccArr
  (List.range 10).foldl (fun m i => m.setWord pk (0x100 + 4 * i) 0) m

def eDark (e : Nat) : Int := toS 16 e
def eGain (e : Nat) : Nat := bits e 31 16
def eLin (e k : Nat) : Int := toS 8 (e / 2 ^ (32 + 8 * k))
def eTco (e : Nat) : Int := toS 8 (e / 2 ^ 64)
def eDefect (e : Nat) : Nat := bits e 73 72

/-! ### Temperature (R242) -/

/-- A delivery of temperature `t` (s12.4 °C) to the cluster's shading, while its page is enabled (R242). -/
def deliverShd (m : Mach) (g t : Nat) : Mach :=
  if m.enabled (P.shd g) then m.setWord (P.shd g) 0x0B0 (BitVec.ofNat 32 (2 ^ 31 + t % 65536)) else m

/-- PAGE_CTRL.ENABLE of page SHD written: from enable until the first delivery T_NOW is not valid (R242). -/
def shdEnable (m : Mach) (g : Nat) (was en : Bool) : Mach := if en && !was then m.setWord (P.shd g) 0x0B0 0 else m

/-- `SHD.CFG.TEMP_SRC`. -/
def shdTempSrc (m : Mach) (g : Nat) : Nat := m.rd (P.shd g) F.SHD_CFG_TEMP_SRC

/-- 100 ms have passed after the last delivery. -/
def staleShd (m : Mach) (g : Nat) : Mach :=
  let pk := P.shd g
  if m.flag pk F.SHD_T_NOW_VALID && !m.flag pk F.SHD_T_NOW_STALE then (m.wr pk F.SHD_T_NOW_STALE 1).raise pk 6 else m

/-- `dt16`: T − TBL_TCAL in 1/16 K, clamped; 0 before any delivery (R239). -/
def dt16 (m : Mach) (g : Nat) : Int :=
  let pk := P.shd g
  if m.flag pk F.SHD_T_NOW_VALID then clampI (-2048) 2048 (m.rdS pk F.SHD_T_NOW_T - m.rdS pk F.SHD_TBL_TCAL_T) else 0

/-! ### Stage 5 (R239–R241) -/

/-- Linearity knots (R240). -/
def linKnot (j : Nat) : Int := [0, 131072, 393216, 655360, 917504, 1048576].getD j 0

/-- Value of the linearity term at a knot. -/
def linValue (e j : Nat) : Int := if 1 ≤ j ∧ j ≤ 4 then 64 * eLin e (j - 1) else 0

/-- The linearity term (R240). -/
def linTerm (e : Nat) (y : Int) : Int :=
  let yc := clampI 0 1048575 y
  let j := if yc < 131072 then 0 else if yc < 393216 then 1 else if yc < 655360 then 2 else if yc < 917504 then 3 else 4
  let len := linKnot (j + 1) - linKnot j
  linValue e j + ((linValue e (j + 1) - linValue e j) * (yc - linKnot j) + len / 2) / len

/-- Settings of stage 5 for a line (R241, R243). -/
structure ShadeSet where
  shade : Bool
  tco : Bool
  lin : Bool
  live : Nat
  dt : Int
deriving DecidableEq, Repr

/-- Stage 5 on one sample: the result and whether it saturated (R239, R241). -/
def shadeSample (c : ShadeSet) (e norm : Nat) : Nat × Bool :=
  if !c.shade then ((norm + 8) / 16, false)
  else
    let x : Int := (norm : Int) - eDark e * 16
    let g : Int := ((eGain e * c.live : Nat) + 256) / 512
    let tf : Int := if c.tco then 2 ^ 24 + (eTco e * c.dt * 687195 + 2 ^ 15) / 2 ^ 16 else 2 ^ 24
    let g2 : Int := (g * tf + 2 ^ 23) / 2 ^ 24
    let y : Int := (x * g2 + 2 ^ 19) / 2 ^ 20
    let z : Int := y + (if c.lin then linTerm e y else 0)
    let out := (z + 8) / 16
    (satN 65535 out, decide (out < 0) || decide (65535 < out))

/-- LIVE of plane `p` in force (R247, R248). -/
def liveOf (m : Mach) (g p : Nat) : Nat :=
  if (m.clu g).liveJ.getD p 0 = 0 then m.act (P.shd g) (F.SHD_LIVE_BASE_BASE.nth p) else m.rd (P.shd g) (F.SHD_LIVE_LIVE.nth p)

/-- Stage-5 settings of plane `p` for a line that enters now (R241, R243). -/
def shadeSet (m : Mach) (g p : Nat) : ShadeSet :=
  let pk := P.shd g
  { shade := m.actFlag pk F.SHD_CFG_SHADE_EN, tco := m.actFlag pk F.SHD_CFG_TCO_EN, lin := m.actFlag pk F.SHD_CFG_LIN_EN,
    live := if m.actFlag pk F.SHD_CFG_LIVE_EN then m.liveOf g p else m.act pk (F.SHD_LIVE_BASE_BASE.nth p), dt := m.dt16 g }

/-! ### Stage 6 (R249, R250) -/

/-- Nearest good sample to the left of `s` at a distance of 1–4, with its distance. -/
def goodLeft (good : Nat → Bool) (s : Nat) : Option (Nat × Nat) :=
  [1, 2, 3, 4].findSome? fun a => if a ≤ s ∧ good (s - a) then some (s - a, a) else none

/-- Nearest good sample to the right. -/
def goodRight (good : Nat → Bool) (w s : Nat) : Option (Nat × Nat) :=
  [1, 2, 3, 4].findSome? fun b => if s + b < w ∧ good (s + b) then some (s + b, b) else none

/-- CLIPPED and CHECK_FAIL pass from the sources to a replacement; OVERCAP and MISSING_CAPTURE stay the sample's own. -/
def replacedFlags (own src : Nat) : Nat := (own &&& 6) ||| (src &&& 9)

/-- Stage 6 on one plane: the samples, and how many stayed unresolved. `kind s`: 0 good, else DEFECT, 3 for an unusable entry. -/
def substitute (xs : List Px) (kind : Nat → Nat) (active : Nat → Bool) : List Px × Nat :=
  let w := xs.length
  let good := fun s => kind s = 0
  let pick := fun i => xs.getD i default
  let one := fun (s : Nat) =>
    let x := pick s
    if kind s = 0 || !active s then (x, false)
    else
      let l := if kind s = 2 then none else goodLeft good s
      let r := if kind s = 1 then none else goodRight good w s
      match l, r with
      | some (i, a), some (j, b) =>
        let vl := (pick i).v
        let vr := (pick j).v
        ({ v := (2 * (vl * b + vr * a) + (a + b)) / (2 * (a + b)),
           flags := replacedFlags x.flags ((pick i).flags ||| (pick j).flags) }, false)
      | some (i, _), none => ({ v := (pick i).v, flags := replacedFlags x.flags (pick i).flags }, false)
      | none, some (j, _) => ({ v := (pick j).v, flags := replacedFlags x.flags (pick j).flags }, false)
      | none, none => (x, true)
  let rs := (List.range w).map one
  (rs.map Prod.fst, (rs.filter fun r => r.2).length)

/-- Stages 5 and 6 on the planes of a line in u16.4 with their flags; `none` when the page is disabled and the line is dropped
(R239–R250, R261). -/
def stages56 (m : Mach) (g : Nat) (planes : List (List Px)) : Mach × Option (List (List Px)) :=
  let pk := P.shd g
  if !m.enabled pk then (((m.inc pk F.SHD_OFF_DROP_COUNT).raise pk 7), none)
  else
    let w := m.width g
    let sets := (List.range planes.length).map (m.shadeSet g)
    let m := m.readEntries g 0 (w * planes.length)
    let defEn := m.actFlag pk F.SHD_CFG_DEFECT_EN
    let done := (List.range planes.length).map fun p =>
      let xs := planes.getD p []
      let c := sets.getD p (m.shadeSet g p)
      let s5 := (List.range xs.length).map fun s =>
        let r := shadeSample c (m.entry g (p * w + s)) (xs.getD s default).v
        ({ v := r.1, flags := (xs.getD s default).flags ||| r.2.toNat : Px }, r.2)
      let kind := fun s => if m.usable g (p * w + s) then eDefect (m.entry g (p * w + s)) else 3
      let active := fun s => defEn || !m.usable g (p * w + s)
      let s6 := substitute (s5.map Prod.fst) kind active
      (s6.1, (s5.filter fun r => r.2).length, s6.2)
    let clips := (done.map fun d => d.2.1).sum
    let unres := (done.map fun d => d.2.2).sum
    let m := if clips = 0 then m else (m.incBy pk F.SHD_CLIP_COUNT clips).raise pk 0
    let m := if unres = 0 then m else (m.incBy pk F.SHD_DEF_UNRES_COUNT unres).raise pk 3
    (m, some (done.map fun d => d.1))

/-! ### The live reference (R244–R248) -/

/-- LIVE of every plane back at its baseline (R248). -/
def liveBaseline (m : Mach) (g : Nat) : Mach :=
  let m := m.modClu g fun s => { s with liveJ := [0, 0, 0, 0, 0, 0] }
  (List.range 6).foldl (fun m p => m.wr (P.shd g) (F.SHD_LIVE_CLAMPED.nth p) 0) m

/-- Largest `k ≤ b` with `2 ^ k ≤ j`. -/
def log2Below : Nat → Nat → Nat
  | 0, _ => 0
  | b + 1, j => if 2 ^ (b + 1) ≤ j then b + 1 else log2Below b j

/-- One step of the LIVE filter for the `j`-th valid update (R247). -/
def liveFilter (k j live r : Nat) : Nat :=
  let s := min k (log2Below 12 j)
  if s = 0 then r else satN 65535 ((live : Int) + ((r : Int) - live + 2 ^ (s - 1)) / 2 ^ s)

/-- The cluster's deal runs in CALIBRATE (R228). -/
def calibrating (m : Mach) (g : Nat) : Bool :=
  match (m.clu g).cut with
  | some c => decide (c.state = 2)
  | none => match m.handOf g with | some h => decide (m.handState h = 2) | none => false

/-- The live update of plane `p` from a captured line's samples (R245–R247). -/
def livePlane (m : Mach) (g p : Nat) (xs : List Nat) : Mach :=
  let pk := P.shd g
  let first := m.act pk F.SHD_REF_FIRST_S
  let cnt := m.act pk F.SHD_REF_COUNT_N
  let w := m.width g
  let m := m.readEntries g (p * w + first) (p * w + first + cnt)
  let good := ((List.range cnt).map (first + ·)).filter fun s =>
    decide (1 ≤ xs.getD s 0) && decide (xs.getD s 0 ≤ 65534) && m.usable g (p * w + s)
  let n := good.length
  let sum : Int := (good.map fun s => 16 * ((xs.getD s 0 : Int) - eDark (m.entry g (p * w + s)))).sum
  let meas : Int := if n = 0 then 0 else (2 * sum + n) / (2 * n)
  if 2 * n < cnt ∨ meas ≤ 0 then (m.inc pk F.SHD_REF_BAD_COUNT).raise pk 2
  else
    let q := meas.toNat
    let m := m.wr pk (F.SHD_REF_LIVE_M.nth p) q
    let cal := m.rd pk (F.SHD_TBL_REFCAL_REFCAL.nth p)
    if cal = 0 then m
    else
      let r0 := (2 * cal * 2 ^ 15 + q) / (2 * q)
      let r := clampN 24576 43581 r0
      let m := if r = r0 then m else (m.inc pk F.SHD_LIVE_CLAMP_COUNT).raise pk 1
      let j := (m.clu g).liveJ.getD p 0 + 1
      let new := liveFilter (m.act pk F.SHD_CFG_LIVE_K) j (m.liveOf g p) r
      let m := m.modClu g fun s => { s with liveJ := s.liveJ.set p j }
      (m.wr pk (F.SHD_LIVE_LIVE.nth p) new).wrb pk (F.SHD_LIVE_CLAMPED.nth p) (r ≠ r0)

/-- The live update from a captured line that reaches stage 3 (R21, R244, R245, R248, R261). -/
def liveUpdate (m : Mach) (g : Nat) (planes : List (List Nat)) : Mach :=
  let pk := P.shd g
  if !m.enabled pk || m.act pk F.SHD_REF_COUNT_N = 0 || !m.actFlag pk F.SHD_CFG_LIVE_EN ||
      (m.calibrating g && m.act (P.cal g) F.CAL_CFG_KIND = 1) then m
  else (List.range planes.length).foldl (fun m p => m.livePlane g p (planes.getD p [])) m

/-- SHD registers that are computed when read: LIVEp (R248, R262). -/
def shdRead (m : Mach) (g off : Nat) : Option Word :=
  if 0x070 ≤ off ∧ off < 0x088 ∧ off % 4 = 0 then
    some (BitVec.ofNat 32 (putBits (m.word (P.shd g) off).toNat 15 0 (m.liveOf g ((off - 0x070) / 4))))
  else none

/-! ### Deal sums (R254–R256) -/

/-- Entries of the deal: W × P. -/
def elements (m : Mach) (g : Nat) : Nat := m.width g * m.phases g

/-- A CALIBRATE deal starts: sums, their geometry and the temperature record begin anew (R254, R255). -/
def calStartDeal (m : Mach) (g : Nat) : Mach :=
  let pk := P.cal g
  let m := (m.clearArr pk 0).modClu g fun s => { s with calT := {} }
  let m := ((m.wr pk F.CAL_STAT_SUMS_VALID 0).wr pk F.CAL_SUMS_LINES_COUNT 0)
  (m.wr pk F.CAL_SUMS_GEOM_W (m.width g)).wr pk F.CAL_SUMS_GEOM_P (m.phases g)

/-- A raw footprint's words added to the deal sums (R254). -/
def addSums (m : Mach) (g : Nat) (words : List Nat) : Mach :=
  let pk := P.cal g
  if !m.enabled pk || !m.actFlag pk F.CAL_CFG_SUMS_EN then m else
  let m := m.inc pk F.CAL_SUMS_LINES_COUNT
  let r := (List.range words.length).foldl (fun (acc : Mach × Nat) e =>
    let w := words.getD e 0
    let old := acc.1.el pk 0 e
    let tw := bits old 23 0 + bits w 29 15
    if 2 ^ 24 ≤ tw then (acc.1, acc.2 + 1)
    else (acc.1.setEl pk 0 e ((bits old 63 24 + bits w 63 30) % 2 ^ 40 * 2 ^ 24 + tw), acc.2)) (m, 0)
  if r.2 = 0 then r.1 else (r.1.incBy pk F.CAL_SAT_COUNT r.2).raise pk 3

/-- T_NOW contributed by a captured line of a CALIBRATE deal (R255). -/
def addTemp (m : Mach) (g : Nat) : Mach :=
  if !m.flag (P.shd g) F.SHD_T_NOW_VALID then m
  else
    let t := m.rdS (P.shd g) F.SHD_T_NOW_T
    m.modClu g fun s =>
      let c := s.calT
      { s with calT := { n := c.n + 1, sum := c.sum + t, lo := if c.n = 0 then t else min c.lo t, hi := if c.n = 0 then t else max c.hi t } }

/-- The end of a CALIBRATE deal: sums frozen and valid, the temperature record latched (R254, R255). -/
def calEndDeal (m : Mach) (g : Nat) : Mach :=
  let pk := P.cal g
  let c := (m.clu g).calT
  let m := if m.rd pk F.CAL_SUMS_GEOM_W = 0 then m else m.wr pk F.CAL_STAT_SUMS_VALID 1
  if c.n = 0 then (m.wr pk F.CAL_T_MEAN_VALID 0).setWord pk 0x068 0
  else (m.setWord pk 0x064 (BitVec.ofNat 32 (2 ^ 31 + ofS 16 (rdiv c.sum c.n)))).setWord pk 0x068
    (BitVec.ofNat 32 (ofS 16 c.hi * 65536 + ofS 16 c.lo))

/-! ### The table builder (R257–R260) -/

/-- A deal of the cluster's hand is open (R251, R257). -/
def tableLocked (m : Mach) (g : Nat) : Bool := m.inDeal g

/-- A command of CAL.CMD (R257). -/
def calCmd (m : Mach) (g n : Nat) : Mach :=
  let pk := P.cal g
  let c := n % 8
  if c = 0 then m
  else if popcount 3 c ≠ 1 || !m.flag pk F.CAL_STAT_SUMS_VALID || m.tableLocked g || m.flag pk F.CAL_STAT_BUSY then m.refuse pk 1
  else
    let m := (m.setWord pk 0x054 (BitVec.ofNat 32 c)).wr pk F.CAL_STAT_BUSY 1
    let m := (m.wr pk F.CAL_STAT_ABORTED 0).wr pk F.CAL_BUILD_POS_E 0
    ((m.wr pk F.CAL_NOSAMP_COUNT 0).wr pk F.CAL_GAIN_CLAMP_COUNT 0).wr pk F.CAL_DEF_MARKED_COUNT 0

/-- Mean of an element's deal sums in u16.4 and its distance from 16 × DARK (R259). -/
def whiteDiff (m : Mach) (g e : Nat) : Int :=
  let s := m.el (P.cal g) 0 e
  let tw := bits s 23 0
  if tw = 0 then 0 else ((32 * bits s 63 24 + tw) / (2 * tw) : Nat) - 16 * eDark (m.entry g e)

/-- One element rewritten by a running build: 1 DARK, 2 GAIN, 4 DEFECT (R258–R260). -/
def buildOne (m : Mach) (g kind e : Nat) : Mach :=
  let pk := P.cal g
  let m := m.readEntry g e
  let s := m.el pk 0 e
  let tw := bits s 23 0
  let ts := bits s 63 24
  let old := m.entry g e
  if !m.usable g e || (kind ≠ 4 && tw = 0) then m.inc pk F.CAL_NOSAMP_COUNT
  else match kind with
  | 1 => m.writeEntry g e (putBits old 15 0 (min ((2 * ts + tw) / (2 * tw)) 32767))
  | 2 =>
    let d := m.whiteDiff g e
    let raw : Int := if d ≤ 0 then 0 else (2 * (m.rd pk F.CAL_TARGET_T * 2 ^ 18 : Nat) + d) / (2 * d)
    let gain : Int := if d ≤ 0 then 0 else clampI 1 65535 raw
    let m := if d ≤ 0 || gain ≠ raw then m.inc pk F.CAL_GAIN_CLAMP_COUNT else m
    m.writeEntry g e (putBits old 31 16 gain.toNat)
  | _ =>
    let lat := m.el (P.acc g) 3 e
    let mark := decide (eGain old < m.rd pk F.CAL_DEF_GAIN_GMIN) || decide (m.rd pk F.CAL_DEF_GAIN_GMAX < eGain old) ||
      decide ((m.rd pk F.CAL_DEF_LIM_DMAX : Int) < eDark old) ||
      (decide (0 < m.rd (P.acc g) F.ACC_LAT_TRK_COUNT) &&
        decide (m.rd pk F.CAL_DEF_LIM_SPREAD_MAX < bits lat 31 16 - bits lat 15 0))
    if mark then (m.inc pk F.CAL_DEF_MARKED_COUNT).writeEntry g e (putBits old 73 72 3)
    else if m.flag pk F.CAL_CFG_DEF_CLEAR then m.writeEntry g e (putBits old 73 72 0)
    else m

/-- Elements `0 … k - 1` rewritten by the running build. -/
def buildUpTo (m : Mach) (g k : Nat) : Mach :=
  let kind := (m.word (P.cal g) 0x054).toNat
  ((List.range k).foldl (fun m e => m.buildOne g kind e) m).wr (P.cal g) F.CAL_BUILD_POS_E k

/-- The stripe reference of plane `p` from the white differences (R259). -/
def buildRefcal (m : Mach) (g w p : Nat) : Mach :=
  let pk := P.shd g
  let es := ((List.range (m.act pk F.SHD_REF_COUNT_N)).map fun i => p * w + m.act pk F.SHD_REF_FIRST_S + i).filter fun e =>
    decide (0 < bits (m.el (P.cal g) 0 e) 23 0) && decide (0 < m.whiteDiff g e) && m.usable g e
  if es.isEmpty then m
  else
    let sum : Int := (es.map (m.whiteDiff g)).sum
    m.wr pk (F.SHD_TBL_REFCAL_REFCAL.nth p) (rdiv sum es.length).toNat

/-- The builder finishes (R257, R259). -/
def buildDone (m : Mach) (g : Nat) : Mach :=
  let pk := P.cal g
  if !m.flag pk F.CAL_STAT_BUSY then m else
  let w := m.rd pk F.CAL_SUMS_GEOM_W
  let p := m.rd pk F.CAL_SUMS_GEOM_P
  let gain := bit (m.word pk 0x054).toNat 1
  let m := m.buildUpTo g (w * p)
  let m := if !gain then m else
    let m := (List.range p).foldl (fun m p => m.buildRefcal g w p) m
    if m.flag pk F.CAL_T_MEAN_VALID then m.wr (P.shd g) F.SHD_TBL_TCAL_T (m.rd pk F.CAL_T_MEAN_T) else m
  let m := (m.wr (P.shd g) F.SHD_TBL_GEOM_W w).wr (P.shd g) F.SHD_TBL_GEOM_P p
  ((m.setWord pk 0x054 0).wr pk F.CAL_STAT_BUSY 0).raise pk 0

/-- A running build is aborted after a number of elements that the manual leaves open (R257, log entry 3). -/
def abortBuild (m : Mach) (g : Nat) : Mach :=
  let pk := P.cal g
  if !m.flag pk F.CAL_STAT_BUSY then m else
  let n := m.rd pk F.CAL_SUMS_GEOM_W * m.rd pk F.CAL_SUMS_GEOM_P
  let r := m.freeNat
  let m := r.2.buildUpTo g (r.1 % (max 1 n))
  (((m.setWord pk 0x054 0).wr pk F.CAL_STAT_BUSY 0).wr pk F.CAL_STAT_ABORTED 1).raise pk 2

/-! ### Register and window writes (R251, R262, R264) -/

/-- A write to a register of page SHD that has a behaviour of its own. -/
def writeShd (m : Mach) (g off : Nat) (v : Word) : Option Mach :=
  let pk := P.shd g
  let refuse := some (m.refuse pk 8)
  match off with
  | 0x040 =>
    let src := fieldOf v F.SHD_CFG_TEMP_SRC
    if 12 < fieldOf v F.SHD_CFG_LIVE_K ∨ src = 5 ∨ src = 6 then refuse
    else if m.armed g && src ≠ m.shdTempSrc g then refuse
    else none
  | 0x048 => if 4096 < fieldOf v F.SHD_REF_COUNT_N then refuse else none
  | 0x04C =>
    let m' := m.genericWrite pk off v
    if m.shdTempSrc g = 7 then some (m'.deliverShd g (bits v.toNat 15 0)) else none
  | _ =>
    if 0x050 ≤ off ∧ off < 0x068 then
      if bits v.toNat 15 0 < 24576 ∨ 43581 < bits v.toNat 15 0 then refuse else none
    else if 0x100 ≤ off ∧ off < 0x128 then
      if m.tableLocked g then some (m.errCount pk) else none
    else none

/-- A write to a register of page CAL that has a behaviour of its own. -/
def writeCal (m : Mach) (g off : Nat) (v : Word) : Option Mach :=
  let pk := P.cal g
  let refuse := some (m.refuse pk 4)
  match off with
  | 0x040 => if 2 < fieldOf v F.CAL_CFG_KIND then refuse else none
  | 0x044 => if bits v.toNat 15 0 = 0 ∨ 32768 < bits v.toNat 15 0 then refuse else none
  | 0x048 => if bits v.toNat 15 0 = 0 then refuse else none
  | 0x054 => some (m.calCmd g v.toNat)
  | _ => none

/-- An entry written by the host through the window or by DMA: ignored and counted while a deal is open or the builder runs. -/
def hostEntry (m : Mach) (g e v : Nat) : Mach :=
  if m.tableLocked g || m.flag (P.cal g) F.CAL_STAT_BUSY then m.errCount (P.shd g) else m.writeEntry g e v

/-- Soft reset of SHD: LIVE at its baseline, a running build aborted; table and descriptor stay (R237, R248, R257). -/
def softResetShd (m : Mach) (g : Nat) : Mach :=
  let m := m.abortBuild g
  ((m.softResetPage (P.shd g)).liveBaseline g)

/-- Soft reset of CAL: the sums go; a running build is aborted and that stays shown (R257, R261). -/
def softResetCal (m : Mach) (g : Nat) : Mach :=
  let pk := P.cal g
  let ran := m.flag pk F.CAL_STAT_BUSY
  let m := m.abortBuild g
  let pos := m.rd pk F.CAL_BUILD_POS_E
  let m := ((m.softResetPage pk).clearArr pk 0).modClu g fun s => { s with calT := {} }
  if ran then ((m.wr pk F.CAL_STAT_ABORTED 1).wr pk F.CAL_BUILD_POS_E pos).raise pk 2 else m

/-! ### ARM conditions (R266) -/

/-- The SHD and CAL conditions of R266 for a member cluster with pixels. -/
def shadeArmOk (m : Mach) (g : Nat) : Bool :=
  let pk := P.shd g
  let w := m.width g
  let n := m.act pk F.SHD_REF_COUNT_N
  m.enabled pk && m.enabled (P.cal g) &&
  (!(m.actFlag pk F.SHD_CFG_SHADE_EN || m.actFlag pk F.SHD_CFG_DEFECT_EN) ||
    (m.flag pk F.SHD_TBL_CTRL_VALID && m.rd pk F.SHD_TBL_GEOM_W = w && m.rd pk F.SHD_TBL_GEOM_P = m.phases g)) &&
  (n = 0 || decide (m.act pk F.SHD_REF_FIRST_S + n ≤ w)) &&
  (!(m.actFlag pk F.SHD_CFG_SHADE_EN && m.actFlag pk F.SHD_CFG_LIVE_EN && decide (0 < n)) ||
    (List.range (m.phases g)).all fun p => 0 < m.rd pk (F.SHD_TBL_REFCAL_REFCAL.nth p))

end Sys2Proof.Machine.Mach
end

