-- ==== Sys2Proof/Machine/Chk.lean ====
section
/-!
DEFINITION. The check lane (R289–R292, R296): what it counts, what a mismatch does, the record FIFO and page CHK.
-/

namespace Sys2Proof.Machine.Mach

/-- Sample index `s` is checked on output line `k` (R289). -/
def checkedHere (k s : Nat) : Bool := s % 2 = k % 2

/-- Samples of checked parity among `w` indices (log entry 49). -/
def checkedCount (k w : Nat) : Nat := (w + 1 - k % 2) / 2

/-- `n` samples counted in CHECKED while the page is enabled (R289) (log entry 49). -/
def countChecked (m : Mach) (t n : Nat) : Mach :=
  let pk := P.chk t
  if !m.enabled pk then m
  else m.wr2 pk F.CHK_CHECKED_LO_COUNT F.CHK_CHECKED_HI_COUNT (m.rd2 pk F.CHK_CHECKED_LO_COUNT F.CHK_CHECKED_HI_COUNT + n)

/-- A mismatch on sample `s` of plane `p` of line `k` (R290, R291). `point`: 1 at stages 4–9; `a`, `b`: contents of REC4 and REC5. -/
def checkFail (m : Mach) (g p s k : Nat) (point : Bool) (a b : Nat) : Mach :=
  let t := g / 2
  let pk := P.chk t
  let m := (m.inc pk F.CHK_FAILS_COUNT).raise pk 0
  let r := [2 ^ 31 + point.toNat * 2 ^ 28 + g % 2 * 2 ^ 24 + p * 2 ^ 20 + s, k % 2 ^ 32, k / 2 ^ 32 % 2 ^ 16, m.dealNo g, a, b]
  let m := if 16 ≤ (m.tile t).chkFifo.length then (m.inc pk F.CHK_REC_LOST_COUNT).raise pk 1
    else m.modTile t fun ts => { ts with chkFifo := ts.chkFifo ++ [r] }
  if m.flag pk F.CHK_CFG_LOG && !(m.clu g).chkLogged.contains k then
    (m.modClu g fun c => { c with chkLogged := c.chkLogged ++ [k] }).record t 0x07 g p 0 (detail 0 4 s + detail 4 8 k + detail 12 4 (m.dealNo g))
  else m

/-- The comparisons at a point that differ on plane `p` of line `k` of cluster `g`: none while the page is disabled, and only on samples
of the checked parity (R289) (log entry 43). -/
def upsetsAt (m : Mach) (g point k p : Nat) : List Upset :=
  if !m.enabled (P.chk (g / 2)) then []
  else (m.clu g).upsets.filter fun u =>
    u.point = point && u.k = k && u.p = p && checkedHere k u.s && decide (u.s < m.rd (P.vc g) F.VC_WIDTH_W) && u.x ≠ 0

/-- The comparisons at a point of line `k` have been made: on plane `p`, or with none on every plane. -/
def upsetsDone (m : Mach) (g point k : Nat) (p : Option Nat) : Mach :=
  m.modClu g fun c => { c with upsets := c.upsets.filter fun u => !(u.point = point && u.k = k && (p = none || p = some u.p)) }

/-- CHECK_FAIL added to the samples that the comparisons `us` find different; the list begins at sample
index `base`. -/
def markPx (us : List Upset) (base : Nat) (xs : List Px) : List Px :=
  (List.range xs.length).map fun i =>
    let x := xs.getD i default
    if us.any fun u => u.s = base + i then { x with flags := x.flags ||| 8 } else x

/-- Mismatches of 16-bit results, one record each: check value and lane value (R291, R296). -/
def failPx (m : Mach) (g p k : Nat) (us : List Upset) (lane : Nat → Nat) : Mach :=
  us.foldl (fun m u => m.checkFail g p u.s k true (((lane u.s ^^^ u.x) % 65536) * 65536 + lane u.s % 65536) 0) m

/-- Comparison of a line's planes at a point whose results are 16 bits wide, from sample index `base` on: the samples as they go on, and
what the mismatches do (R289, R290). -/
def comparePlanes (m : Mach) (g point k base : Nat) (planes : List (List Px)) : Mach × List (List Px) :=
  let us := fun p => (m.upsetsAt g point k p).filter fun u => decide (base ≤ u.s) && decide (u.s < base + (planes.getD p []).length)
  let m' := (List.range planes.length).foldl (fun m' p =>
    m'.failPx g p k (us p) fun s => ((planes.getD p []).getD (s - base) default).v) m
  (m'.upsetsDone g point k none, (List.range planes.length).map fun p => markPx (us p) base (planes.getD p []))

/-- CHK registers that are computed when read: REC_STAT and REC0–REC5 (R291, R296). -/
def chkRead (m : Mach) (t off : Nat) : Option Word :=
  if off = 0x060 then some (BitVec.ofNat 32 (m.tile t).chkFifo.length)
  else if 0x070 ≤ off ∧ off ≤ 0x084 then
    some (BitVec.ofNat 32 (((m.tile t).chkFifo.headD []).getD ((off - 0x070) / 4) 0))
  else none

/-- A write to a register of page CHK that has a behaviour of its own. -/
def writeChk (m : Mach) (t off : Nat) (v : Word) : Option Mach :=
  match off with
  | 0x044 => some (if bit v.toNat 0 then m.wr (P.chk t) F.CHK_INJECT_ONCE 1 else m)
  | 0x088 => some (if bit v.toNat 0 then m.modTile t fun ts => { ts with chkFifo := ts.chkFifo.tail } else m)
  | _ => none

/-- Soft reset of CHK: records and counters cleared (R293). -/
def softResetChk (m : Mach) (t : Nat) : Mach :=
  (m.modTile t fun ts => { ts with chkFifo := [] }).softResetPage (P.chk t)

end Sys2Proof.Machine.Mach
end

