-- ==== Sys2Proof/Machine/Acc.lean ====
section
/-!
DEFINITION. Footprint accumulation (R209–R234): positions and the position wait, spans and weights, the accumulator words, release,
short lines and synthesis, calibration footprints, the trackers, the deal's opening and closing in stage 3, and page ACC.
-/

namespace Sys2Proof.Machine.Mach

/-! ### The hand's position source (R132, R143, R209) -/

/-- Leader of a hand: its member with the lowest index (R135). -/
def leader (m : Mach) (h : Nat) : Nat := (m.members h).headD 0

/-- Position source of cluster `g`'s hand. -/
def posKind (m : Mach) (g : Nat) : Nat :=
  match m.handOf g with | some h => m.rd P.mode (F.MODE_HAND_CFG_POS_KIND.nth h) | none => 0

/-- A member without pixels (R147). -/
def pixelless (m : Mach) (g : Nat) : Bool := m.kind g = 0

/-- The reference stream's cluster of a hand, if it has one (R143). -/
def refCluster (m : Mach) (h : Nat) : Option Nat :=
  let c := if m.rd P.mode (F.MODE_HAND_CFG_POS_KIND.nth h) = 2 then m.leader h else m.rd P.mode (F.MODE_HAND_CFG_POS_CLUSTER.nth h)
  if !m.pixelless c then some c else (m.members h).find? fun g => !m.pixelless g

/-- The cluster's hand triggers on position: `DEAL.SRC` of its leader is LEGACY_POS (R173, R226). -/
def legacyHand (m : Mach) (g : Nat) : Bool :=
  match m.handOf g with | some h => m.rd (P.deal (m.leader h)) F.DEAL_SRC_SRC = 3 | none => false

def modAcc (m : Mach) (g : Nat) (f : AccSt → AccSt) : Mach := m.modClu g fun s => { s with acc := f s.acc }
def accSt (m : Mach) (g : Nat) : AccSt := (m.clu g).acc

/-! ### Effective position (R209–R212) -/

/-- Sign of the member's axis direction (R210). -/
def posSign (m : Mach) (g : Nat) : Int := if m.flag (P.acc g) F.ACC_CFG_DIR_NEG then -1 else 1

/-- ALONG in units of 2^-16. -/
def along (m : Mach) (g : Nat) : Int := m.rdS (P.acc g) F.ACC_ALONG_OFS_OFS

/-- Consecutive samples whose stamps bracket a time in units of 125 ps (R211). -/
def bracket (c : Nat) : List (Nat × Int) → Option ((Nat × Int) × (Nat × Int))
  | a :: b :: r => if 16 * a.1 ≤ c ∧ c < 16 * b.1 then some (a, b) else bracket c (b :: r)
  | _ => none

/-- Position of the hand through two samples at a time, in units of 2^-16, rounded half up (R211). -/
def onLine (a b : Nat × Int) (c : Nat) : Int :=
  let den : Int := 16 * (b.1 : Int) - 16 * a.1
  let num : Int := (b.2 - a.2) * ((c : Int) - 16 * a.1)
  a.2 + (if den ≤ 0 then 0 else (2 * num + den) / (2 * den))

/-- Position of the hand at a time in 125 ps, then signed for the member (R210); `true` when it was extrapolated (R209–R212). -/
def place (m : Mach) (g c : Nat) : Option (Int × Bool) :=
  let s := m.posSign g
  if m.posKind g = 2 then
    match m.handOf g with
    | none => none
    | some h =>
      let v : Int := (m.hand h).speed
      let dt : Int := (c : Int) - 16 * (m.hand h).startN
      some (s * ((2 * (v * 256 * dt) + 8000000000) / (2 * 8000000000)), false)
  else
    let xs := (m.accSt g).samples
    match bracket c xs with
    | some (a, b) => some (s * onLine a b c, false)
    | none =>
      match xs.reverse with
      | b :: a :: _ => some (s * onLine a b c, true)
      | [b] => some (s * b.2, true)
      | [] => none

/-- Every centroid of the waiting line has its bracketing pair (R212). -/
def placed (m : Mach) (g : Nat) (c : Capture) : Bool :=
  m.posKind g = 2 || c.legacy.isSome || c.cents.all fun x => (bracket x (m.accSt g).samples).isSome

/-- The line in the slot may go on: bracketed, or the wait has ended, or extrapolation goes on (R212). -/
def slotReady (m : Mach) (g : Nat) : Bool :=
  match (m.clu g).slot with
  | none => false
  | some l => m.placed g l.cap || (m.accSt g).est || (m.accSt g).waitOver

/-- POS_TMO passes without a sample later than some centroid (R212). -/
def positionTimeout (m : Mach) (g : Nat) : Mach :=
  if (m.clu g).slot.isSome && !m.slotReady g then m.modAcc g fun a => { a with waitOver := true } else m

/-- A position sample of the hand arrives at a member: the hand's latest one, when it is newer than the member's last and its tile
reaches the member's (R25, R212) (log entry 45). -/
def positionSample (m : Mach) (g : Nat) : Mach :=
  match m.handOf g with
  | none => m
  | some h =>
    match (m.hand h).sample with
    | none => m
    | some (n, p) =>
      let src := m.rd P.mode (F.MODE_HAND_CFG_POS_CLUSTER.nth h)
      let old := (m.accSt g).samples.getLast?
      let new := match old with | some (k, _) => decide (k < n) | none => true
      if m.armed g && new && m.reaches (src / 2) (g / 2) then
        m.modAcc g fun a => { a with samples := a.samples ++ [(n, p)] }
      else m

/-! ### Accumulator words (R220, R221) -/

def aSum (w : Nat) : Nat := bits w 63 30
def aWsum (w : Nat) : Nat := bits w 29 15
def aNcap (w : Nat) : Nat := bits w 14 8

/-- Word `e` of the lowest open footprint (`i = 0`) or of the next (`i = 1`). -/
def aword (m : Mach) (g i e : Nat) : Nat := m.el (P.acc g) i e

/-- An add of weight `w` and value `x` to a word (log entry 47). -/
def addTo (word w x : Nat) : Nat :=
  let clip := (x = 0 || x = 65535 : Bool).toNat * 2
  (if w = 0 then word else word + w * x * 2 ^ 30 + w * 2 ^ 15 + 2 ^ 8) ||| clip

/-- Every word of plane `p` of footprint slot `i` changed. -/
def mapWords (m : Mach) (g i p : Nat) (f : Nat → Nat → Nat) : Mach :=
  let w := m.width g
  (List.range w).foldl (fun m s => m.setEl (P.acc g) i (p * w + s) (f s (m.aword g i (p * w + s)))) m

/-- Weight sum and capture count of plane `p` in slot `i`, the same in all its words. -/
def planeWsum (m : Mach) (g i p : Nat) : Nat := aWsum (m.aword g i (p * m.width g))
def planeNcap (m : Mach) (g i p : Nat) : Nat := aNcap (m.aword g i (p * m.width g))

/-- Elements of array `b` of a page moved to array `a`, leaving `b` zero. -/
def moveArr (m : Mach) (pk a b : Nat) : Mach :=
  let lo := elKey pk b 0
  let mine := m.arr.filter fun e => decide (lo ≤ e.1) && decide (e.1 < lo + 2 ^ 24)
  let m := (m.clearArr pk a).clearArr pk b
  mine.foldl (fun m e => m.setEl pk a (e.1 - lo) e.2) m

/-! ### Release (R222–R225, R228) -/

/-- Footprint boundary `k` (R213). -/
def boundary (m : Mach) (g k : Nat) : Int := ((m.accSt g).o.getD 0) + k * m.rd (P.acc g) F.ACC_PITCH_PITCH

/-- Flags of a sample from its accumulator word and its check-lane mark (R220, R285, R290). -/
def wordFlags (m : Mach) (g i e : Nat) : Nat :=
  let w := m.aword g i e
  (bit w 1).toNat + 2 * (bit w 2).toNat + 4 * (bit w 3).toNat + 8 * min 1 (m.el (P.acc g) markArr (2 * e + i))

/-- Sample flags of the lowest open footprint by plane. -/
def lowFlags (m : Mach) (g : Nat) : List (List Nat) :=
  (List.range (m.phases g)).map fun p => (List.range (m.width g)).map fun s => m.wordFlags g 0 (p * m.width g + s)

/-- The lowest open footprint gives way to the next. -/
def nextFootprint (m : Mach) (g : Nat) : Mach :=
  let pk := P.acc g
  let marks := (List.range (m.elements g)).filter fun e => m.el pk markArr (2 * e + 1) ≠ 0
  let m := (m.moveArr pk 0 1).clearArr pk markArr
  let m := marks.foldl (fun m e => m.setEl pk markArr (2 * e) 1) m
  m.modAcc g fun a => { a with low := a.low + 1, est0 := a.est1, est1 := false }

/-- A line of the reference stream counts in its hand's LINES; the MAX_LINES-th one fixes the stamp of the line-count end: the trigger
time of the capture that releases it (R143). -/
def countRef (m : Mach) (h time : Nat) : Mach :=
  let f := F.MODE_HAND_LINES_LINES.nth h
  let m := m.inc P.mode f
  let s := m.hand h
  if s.maxLines = 0 || s.lineTime.isSome || decide (m.rd P.mode f < s.maxLines) then m
  else m.modHand h fun s => { s with lineTime := some time }

/-- A line counts as released by the capture triggered at `time` (R225). -/
def countLine (m : Mach) (g time : Nat) : Mach :=
  let m := m.modAcc g fun a => { a with dLines := a.dLines + 1 }
  match m.handOf g with
  | some h => if m.refCluster h = some g then m.inSeg (g / 2) fun m => m.countRef h time else m
  | none => m

/-- A line leaves stage 4 or synthesis: it passes stages 5 and 6 and waits for stage 7 (R222, R223, R267) (log entries 49, 51). -/
def sendLine (m : Mach) (g k time : Nat) (synth est : Bool) (planes : List (List Px)) : Mach :=
  let m := (m.countLine g time).countChecked (g / 2) (checkedCount k (m.width g) * m.phases g)
  let r := m.stages56 g planes
  match r.2 with
  | none => r.1
  | some ps =>
    let r := r.1.comparePlanes g 2 k 0 ps
    let ps := r.2
    let pk := P.meld (g / 2)
    let l : OutLine :=
      { k, deal := m.dealNo g, time, synth, posEst := est, planes := ps,
        degL := m.flag pk (F.MELD_SEG_STAT_DEG_L.nth (g % 2)), degR := m.flag pk (F.MELD_SEG_STAT_DEG_R.nth (g % 2)) }
    r.1.modClu g fun s => { s with released := s.released ++ [l] }

/-- Line-store value of element `e` (R222). -/
def stored (m : Mach) (g e : Nat) : Nat := m.el (P.acc g) 4 e

/-- A held line synthesised between the stored line and the new full line `j` of normalised values (R223), and compared by the check lane;
REC4 of a mismatch there, whose results are 20 bits wide, is a free value (R289, R296) (log entries 3, 116). -/
def synthesise (m : Mach) (g j cnt time : Nat) (norm : List (List Nat)) (h : HeldLine) : Mach :=
  let w := m.width g
  let d := j - h.k
  let planes := (List.range norm.length).map fun p => (List.range w).map fun s =>
    let a := m.stored g (p * w + s)
    let b := (norm.getD p []).getD s 0
    ({ v := (2 * (d * a + (cnt + 1 - d) * b) + (cnt + 1)) / (2 * (cnt + 1)), flags := (h.flags.getD p []).getD s 0 } : Px)
  let us := fun p => m.upsetsAt g 1 h.k p
  let checked := (List.range planes.length).map fun p => markPx (us p) 0 (planes.getD p [])
  let m := ((List.range planes.length).foldl (fun m p => (us p).foldl (fun m u =>
    let f := m.freeNat
    f.2.checkFail g p u.s h.k true (f.1 % 2 ^ 32) 0) m) m).upsetsDone g 1 h.k none
  let m := (m.inc (P.acc g) F.ACC_SYNTH_COUNT).raise (P.acc g) 2
  (m.modAcc g fun a => { a with dSynth := a.dSynth + 1 }).sendLine g h.k time true h.posEst checked

/-- Lines dropped behind lines still to be formed count as passed once those are formed (R275). -/
def passDropped (m : Mach) (g : Nat) : Mach :=
  m.modClu g fun s =>
    match s.dropped with
    | none => s
    | some k => if s.released.isEmpty && !s.stage7 then { s with passed := some (max k (s.passed.getD 0)), dropped := none } else s

/-- A short line with no full line before it, or none after it, is dropped (R224). -/
def dropLine (m : Mach) (g k : Nat) : Mach :=
  let m := (m.inc (P.acc g) F.ACC_DROPPED_COUNT).raise (P.acc g) 3
  ((m.modAcc g fun a => { a with dDrop := a.dDrop + 1 }).modClu g fun s =>
    { s with dropped := some (max k (s.dropped.getD 0)) }).passDropped g

/-- The lowest open footprint released in a CALIBRATE deal: raw words, if any capture added to it (R228, R254, R256). -/
def releaseRaw (m : Mach) (g time : Nat) : Mach :=
  let k := (m.accSt g).low
  let words := (List.range (m.elements g)).map fun e => m.aword g 0 e
  if !(words.any fun w => aNcap w ≠ 0) then m.nextFootprint g
  else
    let fl := (List.range (m.elements g)).map fun e => min 1 (m.el (P.acc g) markArr (2 * e)) * 8
    let m := ((m.countLine g time).addSums g words)
    let m := if m.actFlag (P.cal g) F.CAL_CFG_DELIVER then
        let l : OutLine :=
          { k, deal := m.dealNo g, time, records := true,
            planes := [(words.zip fl).map fun x => ({ v := x.1, flags := x.2 } : Px)] }
        (m.countChecked (g / 2) (checkedCount k (m.width g) * m.phases g)).modClu g fun s => { s with released := s.released ++ [l] }
      else m.countChecked (g / 2) (checkedCount k (m.width g) * m.phases g)
    m.nextFootprint g

/-- The lowest open footprint released and judged (R222–R224, R228). -/
def release (m : Mach) (g time : Nat) : Mach :=
  if m.calibrating g then m.releaseRaw g time
  else
    let a := m.accSt g
    let k := a.low
    let w := m.width g
    let ps := List.range (m.phases g)
    let wmin := m.act (P.acc g) F.ACC_LIMITS_WMIN
    let flags := m.lowFlags g
    if ps.all fun p => decide (wmin ≤ m.planeWsum g 0 p) then
      let norm := ps.map fun p => (List.range w).map fun s =>
        let x := m.aword g 0 (p * w + s)
        (32 * aSum x + aWsum x) / (2 * aWsum x)
      let planes := ps.map fun p => (List.range w).map fun s =>
        ({ v := (norm.getD p []).getD s 0, flags := (flags.getD p []).getD s 0 } : Px)
      let m := a.held.foldl (fun m h => m.synthesise g k a.held.length time norm h) m
      let m := ps.foldl (fun m p => (List.range w).foldl (fun m s =>
        m.setEl (P.acc g) 4 (p * w + s) ((norm.getD p []).getD s 0)) m) m
      let m := m.modAcc g fun a => { a with held := [], full := true }
      (m.sendLine g k time false a.est0 planes).nextFootprint g
    else if a.full then
      (m.modAcc g fun a => { a with held := a.held ++ [{ k, posEst := a.est0, flags }] }).nextFootprint g
    else (m.dropLine g k).nextFootprint g

/-! ### Adds (R214–R219) -/

/-- Footprint index of a position (R215). -/
def fpOf (m : Mach) (g : Nat) (x : Int) : Int := (x - (m.accSt g).o.getD 0) / m.rd (P.acc g) F.ACC_PITCH_PITCH

/-- Footprint `low` released because a plane needs the one after the next; the ground released is closed to every plane (R219). -/
def forceRelease (m : Mach) (g time : Nat) : Mach :=
  let m := (m.inc (P.acc g) F.ACC_FORCED_COUNT).raise (P.acc g) 5
  let m := m.release g time
  let b := m.boundary g (m.accSt g).low
  m.modAcc g fun a => { a with hwm := a.hwm.map (max b) }

/-- Forced releases until footprint `k` is one of the two open ones, at most `fuel` of them. -/
def makeOpen (m : Mach) (g time k : Nat) : Nat → Mach
  | 0 => m
  | fuel + 1 => if (m.accSt g).low + 2 ≤ k then makeOpen (m.forceRelease g time) g time k fuel else m

/-- The check lane's comparison of the words of plane `p` of footprint slot `i`, line `k`, just written: a word that differs is marked
(R289, R290). -/
def compareAdds (m : Mach) (g i k p : Nat) : Mach :=
  ((m.upsetsAt g 0 k p).foldl (fun m u =>
    (m.setEl (P.acc g) markArr (2 * (p * m.width g + u.s) + i) 1).checkFail g p u.s k false (u.x % 2 ^ 32) (u.x / 2 ^ 32 % 2 ^ 32))
    m).upsetsDone g 0 k (some p)

/-- One add of weight `w` of plane `p` to footprint `k` (R217, R219, R221); `true` when it added weight (log entry 47). -/
def addFoot (m : Mach) (g : Nat) (c : Capture) (est : Bool) (p : Nat) (xs : List Nat) (k : Int) (w : Nat) : Mach × Bool :=
  let pk := P.acc g
  if k < (m.accSt g).low then (m, false)
  else
    let k := k.toNat
    let m := m.makeOpen g c.n k (k - (m.accSt g).low)
    let i := k - (m.accSt g).low
    if c.depth ≤ m.planeNcap g i p then
      if w = 0 then (m, false)
      else
        let m := m.mapWords g i p fun _ x => x ||| 4
        (((m.inc pk F.ACC_OVERCAP_COUNT).raise pk 0).modAcc g fun a => { a with dOver := a.dOver + 1 }, false)
    else
      let m := (m.mapWords g i p fun s x => addTo x w (xs.getD s 0)).compareAdds g i k p
      let m := if est && decide (0 < w) then
          m.modAcc g fun a => if i = 0 then { a with est0 := true } else { a with est1 := true }
        else m
      (m, decide (0 < w))

/-- `rnd(n, d)`: 256 n / d rounded half up (R215). -/
def rnd (n d : Int) : Nat := if d ≤ 0 then 0 else ((2 * 256 * n + d) / (2 * d)).toNat

/-- Plane `p` of a capture with centroid position `c` added (R214, R215); `true` when it added weight. -/
def addPlane (m : Mach) (g : Nat) (cap : Capture) (est : Bool) (p : Nat) (xs : List Nat) (c : Int) : Mach × Bool :=
  let a := m.accSt g
  let pitch : Int := m.rd (P.acc g) F.ACC_PITCH_PITCH
  let cprev := a.cprev.getD p c
  let hwm := a.hwm.getD p 0
  let lo := max cprev (c - pitch)
  let len := c - lo
  let r : Mach × Bool :=
    if len = 0 then (if hwm ≤ c then m.addFoot g cap est p xs (m.fpOf g c) 256 else (m, false))
    else
      let s := max lo hwm
      if s < c then
        let kl := m.fpOf g s
        let kh := m.fpOf g (c - 1)
        let tot := rnd (c - s) len
        if kl = kh then m.addFoot g cap est p xs kl tot
        else
          let wl := rnd (a.o.getD 0 + kh * pitch - s) len
          let r1 := m.addFoot g cap est p xs kl wl
          let r2 := r1.1.addFoot g cap est p xs kh (tot - wl)
          (r2.1, r1.2 || r2.2)
      else (m, false)
  (r.1.modAcc g fun a => { a with hwm := a.hwm.set p (max (a.hwm.getD p 0) c) }, r.2)

/-- Releases of every footprint that all planes have passed, at most `fuel` (R219, R20). -/
def releasePassed (m : Mach) (g time : Nat) : Nat → Mach
  | 0 => m
  | fuel + 1 =>
    if (m.accSt g).hwm.all fun h => decide (m.boundary g ((m.accSt g).low + 1) ≤ h) then
      releasePassed (m.release g time) g time fuel
    else m

/-! ### Missing captures and the origin (R213, R218) -/

/-- The deal's origin is fixed from the trigger instant of its first accumulating capture, once a position can be formed (R213) (log
entry 46); in LEGACY_POS it lies on line 0's boundary instead (R226). -/
def fixOrigin (m : Mach) (g : Nat) : Mach :=
  let a := m.accSt g
  if m.legacyHand g then m else
  match a.o, a.accStart with
  | none, some ta =>
    match m.place g (16 * ta) with
    | some (o, _) => m.modAcc g fun a => { a with o := some o, hwm := List.replicate (m.phases g) o }
    | none => m
  | _, _ => m

/-- A missing capture triggered at `n`: its ground stays uncovered and flags the open footprints it overlaps (R214, R218); in LEGACY_POS
it only counts (R226). -/
def missOne (m : Mach) (g n : Nat) (ofs : List Nat) : Mach :=
  let pk := P.acc g
  let m := ((m.inc pk F.ACC_MISSING_COUNT).raise pk 1).modAcc g fun a => { a with dMiss := a.dMiss + 1 }
  let late := match (m.accSt g).accStart with | some s => decide (s ≤ n) | none => false
  let m := if late then m.fixOrigin g else m
  if m.legacyHand g then m else
  (List.range (m.phases g)).foldl (fun m p =>
    match m.place g (16 * n + ofs.getD p 0) with
    | none => m
    | some (q, _) =>
      let c := q + m.along g
      let h := (m.accSt g).hwm.getD p c
      let m := if late && (m.accSt g).o.isSome && decide (h < c) then
          [0, 1].foldl (fun m i =>
            let k := (m.accSt g).low + i
            if m.boundary g k < c ∧ h < m.boundary g (k + 1) then m.mapWords g i p fun _ x => x ||| 8 else m) m
        else m
      m.modAcc g fun a => { a with cprev := (if a.cprev.length ≤ p then a.cprev ++ [c] else a.cprev.set p c) }) m

/-- The missing captures of a marker, in trigger order (R218). In LEGACY_POS they only count (log entry 46). -/
def missAll (m : Mach) (g : Nat) (ns : List Nat) (ofs : List Nat) : Mach := ns.foldl (fun m n => m.missOne g n ofs) m

/-! ### A captured line in stage 3 -/

/-- Trackers of a CALIBRATE deal (R229). -/
def track (m : Mach) (g : Nat) (planes : List (List Nat)) : Mach :=
  let pk := P.acc g
  let w := m.width g
  let m := (List.range planes.length).foldl (fun m p => (List.range w).foldl (fun m s =>
    let e := p * w + s
    let x := (planes.getD p []).getD s 0
    let old := m.el pk 2 e
    m.setEl pk 2 e (max (bits old 31 16) x * 65536 + min (bits old 15 0) x)) m) m
  m.modAcc g fun a => { a with tracked := a.tracked + 1 }

/-- LEGACY_POS: the capture fills the footprint of its boundary, which is released at once (R226) (log entry 122). -/
def accumulateLegacy (m : Mach) (g : Nat) (l : Line) (bnd : Int) : Mach :=
  let k := (bnd - (m.clu g).legacyFirst.getD bnd).toNat
  let time := l.cap.n
  let m := m.modAcc g fun a =>
    if a.o.isSome then a
    else { a with o := some ((m.clu g).legacyOrg + (m.clu g).legacyFirst.getD bnd * m.rd (P.acc g) F.ACC_PITCH_PITCH), hwm := [] }
  let m := (List.range (k - (m.accSt g).low)).foldl (fun m _ => m.release g time) m
  let m := (List.range l.planes.length).foldl (fun m p =>
    (m.mapWords g 0 p fun s x => addTo x 256 ((l.planes.getD p []).getD s 0)).compareAdds g 0 (m.accSt g).low p) m
  (m.incW (P.acc g) F.ACC_CAPTURES_COUNT).release g time

/-- The line of the slot with every centroid placed (R213–R219, R226, R227). `errs`: check-lane comparisons that will differ from here on (log entry 43). -/
def accumulateLine (m : Mach) (g : Nat) (l : Line) (errs : List Upset) : Mach :=
  let pk := P.acc g
  let m := m.modClu g fun s => { s with upsets := s.upsets ++ errs }
  let c := l.cap
  let est := !m.placed g c
  let ofs := c.cents.map fun x => x - 16 * c.n
  let m := m.missAll g ((m.accSt g).orphans ++ c.missing) (if (m.clu g).lastOfs.isEmpty then ofs else (m.clu g).lastOfs)
  let m := m.modAcc g fun a => { a with orphans := [], est := est, waitOver := false }
  let m := if est then (m.inc pk F.ACC_POS_EST_COUNT).raise pk 4 else m
  let m := m.liveUpdate g l.planes
  let cs := c.cents.map fun x => ((m.place g x).map fun q => q.1 + m.along g).getD 0
  if c.leadIn then m.modAcc g fun a => { a with cprev := cs }
  else
    let m := if m.calibrating g then (m.track g l.planes).addTemp g else m
    match c.legacy with
    | some b => m.accumulateLegacy g l b
    | none =>
      let m := m.fixOrigin g
      let a := m.accSt g
      let pitch : Int := m.rd pk F.ACC_PITCH_PITCH
      let ps := List.range l.planes.length
      let long := ps.any fun p => decide (pitch < cs.getD p 0 - a.cprev.getD p (cs.getD p 0))
      let behind := ps.all fun p => decide (cs.getD p 0 < a.hwm.getD p 0)
      let r := ps.foldl (fun (acc : Mach × Bool) p =>
        let r := acc.1.addPlane g c est p (l.planes.getD p []) (cs.getD p 0)
        (r.1, acc.2 || r.2)) (m, false)
      let m := r.1
      let m := if long then (m.inc pk F.ACC_LONG_SPAN_COUNT).raise pk 6 else m
      let m := if behind then m.inc pk F.ACC_BEHIND_COUNT else m
      let m := if r.2 then m.incW pk F.ACC_CAPTURES_COUNT else m
      let top := (m.accSt g).hwm.foldl max ((m.accSt g).o.getD 0)
      let m := m.releasePassed g c.n (m.fpOf g top + 1 - (m.accSt g).low).toNat
      m.modAcc g fun a => { a with cprev := cs }

/-- Stage 3 takes the captured line in its slot (R212, R215–R222, R230) (log entries 43, 46). -/
def accumulate (m : Mach) (g : Nat) (errs : List Upset) : Mach :=
  match (m.clu g).slot with
  | none => m
  | some l =>
    if !m.slotReady g then m
    else
      let m := m.modClu g fun s => { s with slot := none }
      if !m.enabled (P.acc g) || (m.accSt g).dead then m.modAcc g fun a => { a with waitOver := false }
      else if l.cap.legacy.isNone && (m.place g (16 * l.cap.n)).isNone then
        m.modAcc g fun a => { a with orphans := a.orphans ++ l.cap.missing ++ [l.cap.n], waitOver := false }
      else m.accumulateLine g l errs

/-! ### Deal boundaries in stage 3 (R144, R145, R213, R224, R229) -/

/-- A deal starts: footprints, statistics and the live tracker bank begin anew. -/
def accStartDeal (m : Mach) (g : Nat) : Mach :=
  let pk := P.acc g
  let m := ((m.clearArr pk 0).clearArr pk 1).clearArr pk markArr
  let m := (List.range (m.elements g)).foldl (fun m e => m.setEl pk 2 e 0xFFFF) (m.clearArr pk 2)
  let m := m.modAcc g fun a => { samples := a.samples, est := a.est }
  m.modClu g fun s =>
    { s with pendMissing := [], trigs := 0, legacyFirst := none, chkLogged := [], upsets := [], passed := none, dropped := none,
             released := [] }

/-- Step 1 of R145: markers that no trigger brought, the two open footprints in order, then held lines dropped (R218, R224). -/
def accClose (m : Mach) (g endN : Nat) : Mach :=
  if (m.accSt g).dead || !m.enabled (P.acc g) then m
  else
    let s := m.clu g
    let m := m.missAll g ((m.accSt g).orphans ++ s.pendMissing) s.lastOfs
    let m := (m.modAcc g fun a => { a with orphans := [] }).modClu g fun s => { s with pendMissing := [] }
    let part := fun (m : Mach) (i : Nat) =>
      let any := (List.range (m.phases g)).any fun p => decide (0 < m.planeWsum g i p)
      let top := (m.accSt g).hwm.foldl max ((m.accSt g).o.getD 0)
      any || (s.legacyFirst.isNone && decide (m.boundary g ((m.accSt g).low + i) < top))
    let m := if (m.accSt g).o.isNone then m
      else if part m 1 then (m.release g endN).release g endN
      else if part m 0 then m.release g endN
      else m
    let m := (m.accSt g).held.foldl (fun m h => m.dropLine g h.k) m
    m.modAcc g fun a => { a with held := [] }

/-- Steps 3 and 4 of R145: words cleared, tracker banks swapped, statistics latched. -/
def accEndDeal (m : Mach) (g : Nat) (cal : Bool) : Mach :=
  let pk := P.acc g
  let a := m.accSt g
  let m := ((m.clearArr pk 0).clearArr pk 1).clearArr pk markArr
  let m := if cal then
      ((((m.moveArr pk 15 3).moveArr pk 3 2).moveArr pk 2 15).wr pk F.ACC_LAT_TRK_COUNT (min a.tracked (2 ^ 32 - 1))).modAcc g fun a => { a with tracked := 0 }
    else m
  let m := (m.wr pk F.ACC_LAT_LINES_COUNT (min a.dLines (2 ^ 32 - 1)))
  let m := (m.wr pk F.ACC_LAT_LOSS_DROPPED (min a.dDrop 65535)).wr pk F.ACC_LAT_LOSS_SYNTH (min a.dSynth 65535)
  (m.wr pk F.ACC_LAT_CAP_OVERCAP (min a.dOver 65535)).wr pk F.ACC_LAT_CAP_MISSING (min a.dMiss 65535)

/-! ### Page ACC (R231–R234) -/

/-- ACC registers that are computed when read: STAT, HELD_LINES, NEXT_LINE, ORIGIN, HWM (R231). -/
def accRead (m : Mach) (g off : Nat) : Option Word :=
  let a := m.accSt g
  let o := ofS 64 (a.o.getD 0)
  let h := ofS 64 (match a.hwm with | [] => a.o.getD 0 | x :: r => r.foldl min x)
  match off with
  | 0x060 => some (BitVec.ofNat 32 (a.est.toNat * 8 + (!a.held.isEmpty).toNat * 4 + (a.accStart.isSome && m.inDeal g).toNat * 2 +
      ((m.clu g).slot.isSome && !m.slotReady g).toNat))
  | 0x064 => some (BitVec.ofNat 32 (min a.held.length 65535))
  | 0x068 => some (BitVec.ofNat 32 a.low)
  | 0x06C => some (BitVec.ofNat 32 (a.low / 2 ^ 32 % 65536))
  | 0x070 => some (BitVec.ofNat 32 o)
  | 0x074 => some (BitVec.ofNat 32 (o / 2 ^ 32))
  | 0x078 => some (BitVec.ofNat 32 h)
  | 0x07C => some (BitVec.ofNat 32 (h / 2 ^ 32))
  | _ => none

/-- A write to a register of page ACC that has a behaviour of its own. -/
def writeAcc (m : Mach) (g off : Nat) (v : Word) : Option Mach :=
  let refuse := some (m.refuse (P.acc g) 7)
  let n := v.toNat
  if [0x040, 0x044, 0x048, 0x050].contains off && m.armed g then refuse
  else match off with
  | 0x044 => if n < 0x10000 then refuse else none
  | 0x048 => if 0 < toS 32 n then refuse else none
  | 0x04C =>
    let w := fieldOf v F.ACC_LIMITS_WMIN
    let d := fieldOf v F.ACC_LIMITS_DEPTH
    if w = 0 ∨ 4096 < w ∨ d = 0 ∨ 64 < d then refuse else none
  | 0x050 => if fieldOf v F.ACC_POS_TMO_US < 8 ∨ 1000 < fieldOf v F.ACC_POS_TMO_US then refuse else none
  | _ => none

/-- Soft reset of ACC: words and trackers cleared; within an open deal the member delivers no further line (R84, R230). -/
def softResetAcc (m : Mach) (g : Nat) : Mach :=
  let pk := P.acc g
  let open_ := m.inDeal g
  let m := [0, 1, 2, 3, 4, markArr].foldl (fun m a => m.clearArr pk a) m
  let m := m.modAcc g fun a => { samples := a.samples, dead := open_ }
  (m.modClu g fun s => { s with slot := none }).softResetPage pk

end Sys2Proof.Machine.Mach
end

