-- ==== Sys2Proof/Machine/Meld.lean ====
section
/-!
DEFINITION. Stages 7–9 (R267–R288, R293–R297): seams, overlap samples and blending, the tone LUT, formatting and tricks, the wait for
credit, end-of-deal tricks, and pages MELD and OUTF.
-/

namespace Sys2Proof.Machine.Mach

/-! ### Seams (R268–R270) -/

/-- A side of a segment. -/
inductive Side where
  | left | right
deriving DecidableEq, Repr

def Side.other : Side → Side
  | .left => .right
  | .right => .left

/-- Stage 7 is on for the cluster (R270). -/
def meldOn (m : Mach) (g : Nat) : Bool := m.flag (P.meld (g / 2)) (F.MELD_SEG_CFG_EN.nth (g % 2))

/-- A seam joins the cluster to a neighbour on that side. -/
def hasSeam (m : Mach) (g : Nat) (d : Side) : Bool :=
  m.meldOn g && m.flag (P.meld (g / 2))
    (match d with | .left => F.MELD_SEG_CFG_LEFT_VALID.nth (g % 2) | .right => F.MELD_SEG_CFG_RIGHT_VALID.nth (g % 2))

/-- The neighbour on that side. -/
def partner (m : Mach) (g : Nat) (d : Side) : Nat :=
  m.rd (P.meld (g / 2)) (match d with | .left => F.MELD_SEG_CFG_LEFT_G.nth (g % 2) | .right => F.MELD_SEG_CFG_RIGHT_G.nth (g % 2))

def cross (m : Mach) (g : Nat) : Nat := m.rd (P.meld (g / 2)) (F.MELD_SEG_CROSS_CROSS.nth (g % 2))

/-- Overlap length of the seam on that side. -/
def ovl (m : Mach) (g : Nat) (d : Side) : Nat :=
  m.rd (P.meld (g / 2)) (match d with | .left => F.MELD_SEG_OVL_OVL_L.nth (g % 2) | .right => F.MELD_SEG_OVL_OVL_R.nth (g % 2))

def degField (g : Nat) : Side → Field
  | .left => F.MELD_SEG_STAT_DEG_L.nth (g % 2)
  | .right => F.MELD_SEG_STAT_DEG_R.nth (g % 2)

def ownField (g : Nat) : Side → Field
  | .left => F.MELD_SEG_STAT_OWN_L.nth (g % 2)
  | .right => F.MELD_SEG_STAT_OWN_R.nth (g % 2)

def degraded (m : Mach) (g : Nat) (d : Side) : Bool := m.flag (P.meld (g / 2)) (degField g d)
def ownsSeam (m : Mach) (g : Nat) (d : Side) : Bool := m.hasSeam g d && m.flag (P.meld (g / 2)) (ownField g d)

def seam (m : Mach) (g : Nat) : Side → SeamSt
  | .left => (m.clu g).seamL
  | .right => (m.clu g).seamR

def modSeam (m : Mach) (g : Nat) (d : Side) (f : SeamSt → SeamSt) : Mach :=
  m.modClu g fun s => match d with
    | .left => { s with seamL := f s.seamL }
    | .right => { s with seamR := f s.seamR }

/-- Owner's sample index at the overlap start S (R271). -/
def seamStart (m : Mach) (owner : Nat) (d : Side) : Nat :=
  match d with
  | .left => 0
  | .right => m.width owner - m.ovl owner d

/-- `d` of R272: the owner's CROSS minus the sender's, in 1/16 pixel. -/
def crossDiff (m : Mach) (owner sender : Nat) : Int := (m.cross owner : Int) - m.cross sender

/-- The fragment of a line as sample indices `[lo, hi)` (R270). -/
def fragment (m : Mach) (g : Nat) (l : OutLine) : Nat × Nat :=
  let w := m.width g
  let lo := if !m.hasSeam g .left then 0
    else if l.degL then m.ovl g .left / 2
    else if m.ownsSeam g .left then 0 else m.ovl g .left
  let hi := if !m.hasSeam g .right then w
    else if l.degR then w - m.ovl g .right + m.ovl g .right / 2
    else if m.ownsSeam g .right then w else w - m.ovl g .right
  (lo, hi)

/-! ### Sending and arriving (R271, R274, R275) -/

/-- The member's drain has been made and it has no line left to form: its meld state is empty (R145 step 3, R278). -/
def meldOver (m : Mach) (g : Nat) : Bool :=
  let s := m.clu g
  s.drained && s.released.isEmpty && !s.stage7

/-- Samples left over in the member's seams are discarded once its meld state is empty (R278). -/
def emptySeams (m : Mach) (g : Nat) : Mach :=
  if m.meldOver g then m.modClu g fun s => { s with seamL := {}, seamR := {} } else m

/-- The check lane's comparison of the overlap samples sent to side `n` (R289). -/
def compareSent (m : Mach) (g k n base : Nat) (planes : List (List Px)) : Mach × List (List Px) :=
  let here := (m.clu g).upsets.filter fun u => u.point = 3 && u.n = n
  let rest := (m.clu g).upsets.filter fun u => !(u.point = 3 && u.k = k && u.n = n)
  let r := (m.modClu g fun s => { s with upsets := here }).comparePlanes g 3 k base planes
  (r.1.modClu g fun s => { s with upsets := rest }, r.2)

/-- The sender's samples for the seam on side `d` put on their way to the owner (R271); none over a degraded seam (R277), and to an owner
whose meld state is empty they are lost (R278). -/
def sendOverlap (m : Mach) (g : Nat) (l : OutLine) (d : Side) : Mach :=
  if !m.hasSeam g d || m.ownsSeam g d || m.degraded g d || (match d with | .left => l.degL | .right => l.degR) then m
  else
    let o := m.partner g d
    if m.meldOver o then m else
    let i0 := (m.crossDiff o g) / 16 + m.seamStart o d.other
    let w := m.width g
    let lo := (max 0 i0).toNat
    let hi := min w (i0 + m.ovl g d + 1).toNat
    let r := m.compareSent g l.k (match d with | .left => 0 | .right => 1) lo (l.planes.map fun p => (p.drop lo).take (hi - lo))
    let m := r.1
    let x : Overlap := { k := l.k, base := lo, planes := r.2, synth := l.synth }
    m.modSeam o d.other fun s => { s with flight := s.flight ++ [x] }

/-- Line `k` was formed or passed by the owner (R275). -/
def wasPassed (m : Mach) (g k : Nat) : Bool := match (m.clu g).passed with | some p => decide (k ≤ p) | none => false

/-- Lines in the seam's buffer that the owner may still use. -/
def inBuffer (m : Mach) (g : Nat) (d : Side) : List Overlap := (m.seam g d).buf.filter fun x => !m.wasPassed g x.k

/-! ### The meld buffer (R274, R464, R481) -/

/-- Bytes of a slot of a seam's ring (R274). -/
def slotBytes (m : Mach) (g : Nat) (d : Side) : Nat := 64 + 64 * ((4 * m.phases g * (m.ovl g d + 1) + 63) / 64)

/-- Slots of each ring of a tile (R274). -/
def ringLines (m : Mach) (t : Nat) : Nat := max 1 (m.rd (P.meld t) F.MELD_BUF_CFG_LINES)

/-- The rings of a tile in their order (R274). -/
def ringOrder (t : Nat) : List (Nat × Side) := [(2 * t, .left), (2 * t, .right), (2 * t + 1, .left), (2 * t + 1, .right)]

/-- Fabric address of the slot of line `k` of an owned seam (R274) (log entry 50). -/
def slotAddr (m : Mach) (g : Nat) (d : Side) (k : Nat) : Nat :=
  let t := g / 2
  let before := (ringOrder t).takeWhile fun x => x ≠ (g, d)
  (m.meldBuf t).1 + (((before.filter fun x => m.ownsSeam x.1 x.2).map fun x => m.slotBytes x.1 x.2).sum * m.ringLines t) +
    k % m.ringLines t * m.slotBytes g d

/-- The bytes a slot takes as a line is stored in it (log entry 50). -/
def slotFill (m : Mach) (g : Nat) (d : Side) : List Byte := (List.range (m.slotBytes g d)).map (Config.slotByte m.free)

/-- The sender's samples of a line stored in their slot (R274) (log entry 50). -/
def storeSlot (m : Mach) (g : Nat) (d : Side) (x : Overlap) : Mach :=
  let bs := m.slotFill g d
  let m := m.dramWrite (g / 2) (m.slotAddr g d x.k) bs
  ({ m with free := m.free + 1 }).modSeam g d fun s => { s with buf := s.buf ++ [{ x with raw := bs }] }

/-- A word of the slot of line `k` has a double-bit error (R481). -/
def slotBad (m : Mach) (g : Nat) (d : Side) (k : Nat) : Bool := m.dramBad (g / 2) (m.slotAddr g d k) (m.slotBytes g d)

/-- The samples as the owner reads them from their slot: those sent while the slot holds what was stored, else the ones its bytes
spell (R464) (log entries 50, 76). -/
def slotRead (m : Mach) (g : Nat) (d : Side) (x : Overlap) : Overlap :=
  let bs := m.dramRead (g / 2) (m.slotAddr g d x.k) (m.slotBytes g d)
  if bs = x.raw then x
  else { x with planes := (List.range x.planes.length).map fun p => (List.range (x.planes.getD p []).length).map fun i =>
          { v := Config.slotValue bs p i % 65536, flags := Config.slotFlags bs p i % 16 } }

/-! ### Blending (R272, R273) -/

/-- The sender's sample on the owner's grid at owner index `s` (R272). -/
def resample (x : Overlap) (p : Nat) (d : Int) (s : Nat) : Px :=
  let xs := x.planes.getD p []
  let i := d / 16 + s - x.base
  let f := (d % 16).toNat
  let top : Int := (xs.length : Int) - 1
  let at_ := fun (j : Int) => xs.getD (clampI 0 top j).toNat default
  let a := at_ i
  let b := at_ (i + 1)
  { v := (a.v * (16 - f) + b.v * f + 8) / 16, flags := a.flags ||| b.flags }

/-- Weight of the right member at position `j` of the overlap, 0–256 (R273). -/
def blendWeight (ovl bw j : Nat) : Nat :=
  if bw = 0 then (if j < ovl / 2 then 0 else 256)
  else
    let zs : Int := ((ovl - bw) / 2 : Nat)
    (clampI 0 256 ((256 * (2 * ((j : Int) - zs) + 1) + bw) / (2 * bw))).toNat

/-- A blended sample (R273). -/
def blend (wr : Nat) (l r : Px) : Px :=
  if wr = 0 then l else if wr = 256 then r
  else { v := ((256 - wr) * l.v + wr * r.v + 128) / 256, flags := l.flags ||| r.flags }

/-- Blend width of an owned seam in force (R273). -/
def blendWidth (m : Mach) (g : Nat) (d : Side) : Nat :=
  min (m.ovl g d) (m.act (P.meld (g / 2))
    (match d with | .left => F.MELD_SEG_BLEND_BW_L.nth (g % 2) | .right => F.MELD_SEG_BLEND_BW_R.nth (g % 2)))

/-- The overlap of an owned seam formed from the sender's samples (R272, R273). -/
def meldSeam (m : Mach) (g : Nat) (d : Side) (x : Overlap) (planes : List (List Px)) : List (List Px) :=
  let o := m.ovl g d
  let s0 := m.seamStart g d
  let cd := m.crossDiff g (m.partner g d)
  let bw := m.blendWidth g d
  (List.range planes.length).map fun p =>
    let own := planes.getD p []
    (List.range own.length).map fun s =>
      let y := own.getD s default
      if s0 ≤ s ∧ s < s0 + o then
        let v := resample x p cd s
        let wr := blendWeight o bw (s - s0)
        match d with
        | .left => blend wr v y
        | .right => blend wr y v
      else y

/-! ### Stage 8 (R279, R280) -/

/-- Element `e` of the tone LUT in use of cluster `g`, plane `p`. -/
def lut (m : Mach) (g p bank e : Nat) : Nat := m.el (P.outf (g / 2)) (8 * (g % 2) + p) (1025 * bank + e)

/-- One sample through the tone LUT (R280). -/
def toneMap (m : Mach) (g p bank x : Nat) : Nat :=
  (m.lut g p bank (x / 64) * (64 - x % 64) + m.lut g p bank (x / 64 + 1) * (x % 64) + 32) / 64

/-- Stage 8 on the planes of a line. -/
def stage8 (m : Mach) (g : Nat) (planes : List (List Px)) : List (List Px) :=
  let pk := P.outf (g / 2)
  let on := m.actFlag pk (if g % 2 = 0 then F.OUTF_TONE_LUT_EN0 else F.OUTF_TONE_LUT_EN1)
  let bank := m.act pk (if g % 2 = 0 then F.OUTF_TONE_BANK0 else F.OUTF_TONE_BANK1)
  if !on then planes
  else (List.range planes.length).map fun p => (planes.getD p []).map fun x => { x with v := m.toneMap g p bank x.v }

/-! ### Stage 9: formatting (R281–R285) -/

/-- A list cut into pieces of `n`. -/
def chunksOf {α : Type} (n : Nat) : Nat → List α → List (List α)
  | 0, _ => []
  | k + 1, l => if l.isEmpty then [] else l.take n :: chunksOf n k (l.drop n)

/-- Output bits of a FORMAT. -/
def fmtBits (f : Nat) : Nat := match f % 4 with | 0 => 8 | 1 => 10 | 2 => 12 | _ => 16

/-- A sample rounded to its output width (R282). -/
def fmtSample (b v : Nat) : Nat := if b = 16 then v else min ((v + 2 ^ (15 - b)) / 2 ^ (16 - b)) (2 ^ b - 1)

/-- The format packs its samples (R281). -/
def packed (f : Nat) : Bool := bit f 2 && (f % 4 = 1 || f % 4 = 2)

/-- Payload bytes of formatted values (R282). -/
def payload (f : Nat) (vs : List Nat) : List Byte :=
  let b := fmtBits f
  if b = 8 then vs.flatMap (leBytes 1)
  else if packed f then leBytes ((b * vs.length + 7) / 8) (vs.reverse.foldl (fun a v => a * 2 ^ b + v) 0)
  else vs.flatMap (leBytes 2)

/-- Units (samples or pixels) of a full trick (R283). -/
def unitsPerTrick (f planes : Nat) : Nat :=
  if bit f 3 then 2016 / (planes * (if fmtBits f = 8 then 1 else 2))
  else if fmtBits f = 8 then 2016
  else if packed f then (if fmtBits f = 10 then 1612 else 1344)
  else 1008

/-- FLAGS bits of a sample's flags (R285). -/
def flagBits (x : Nat) : Nat :=
  (bit x 0).toNat * 8 + (bit x 1).toNat * 16 + (bit x 2).toNat * 32 + (bit x 3).toNat * 128

/-- The 32-byte trick header (R284). -/
def trickHdr (kind fmt stream plane deal line flags time segofs count len : Nat) : List Byte :=
  leBytes 1 1 ++ leBytes 1 (kind + 16 * fmt) ++ leBytes 1 stream ++ leBytes 1 plane ++ leBytes 4 deal ++ leBytes 6 line ++
  leBytes 2 flags ++ leBytes 8 time ++ leBytes 4 segofs ++ leBytes 2 count ++ leBytes 2 len

/-- A run's piece before FIRST and LAST are known: plane code, SEGOFS, COUNT, payload, sample flags. -/
structure Piece where
  plane : Nat
  segofs : Nat
  count : Nat
  bytes : List Byte
  flags : Nat
deriving DecidableEq, Repr, Inhabited

/-- The pieces of a fragment in one stream: `pix` are its samples by plane, `sel` the selected planes, `x0` the stitched position of the
first (R283). -/
def pieces (fmt : Nat) (sel : List Nat) (pix : List (List Px)) (x0 : Nat) : List Piece :=
  let b := fmtBits fmt
  let u := unitsPerTrick fmt sel.length
  let cut := fun (plane : Nat) (units : List (List Px)) =>
    let cs := chunksOf u units.length units
    (List.range cs.length).map fun i =>
      let c := (cs.getD i []).flatten
      ({ plane, segofs := x0 + i * u, count := (cs.getD i []).length, bytes := payload fmt (c.map fun x => fmtSample b x.v),
         flags := c.foldl (fun a x => a ||| flagBits x.flags) 0 } : Piece)
  if bit fmt 3 then
    let n := (pix.getD (sel.headD 0) []).length
    cut 0xFF ((List.range n).map fun i => sel.map fun p => (pix.getD p []).getD i default)
  else sel.flatMap fun p => cut p ((pix.getD p []).map fun x => [x])

/-- Pieces turned into tricks of stream `n` (R284, R285). -/
def tricksOfPieces (t n kind fmt lineFlags : Nat) (l : OutLine) (ps : List Piece) : List OutTrick :=
  let frag := ps.foldl (fun a p => a ||| p.flags) lineFlags
  (List.range ps.length).map fun i =>
    let p := ps.getD i default
    let last := decide (i + 1 = ps.length)
    let flags := (i = 0 : Bool).toNat + 2 * last.toNat + (p.flags ||| lineFlags)
    { n, k := l.k, last, flags, frag, eod := false,
      trick := { hdr := trickHdr kind fmt (8 * t + n) p.plane l.deal l.k flags l.time p.segofs p.count p.bytes.length, payload := p.bytes } }

/-- Enabled streams of a cluster, ascending (R281). -/
def streamsOf (m : Mach) (g : Nat) : List Nat :=
  (List.range 8).filter fun n =>
    m.actFlag (P.outf (g / 2)) (F.OUTF_STR_CFG_EN.nth n) && m.act (P.outf (g / 2)) (F.OUTF_STR_CFG_SRC.nth n) = g % 2

def strFormat (m : Mach) (g n : Nat) : Nat := m.act (P.outf (g / 2)) (F.OUTF_STR_CFG_FORMAT.nth n)
def strPlanes (m : Mach) (g n : Nat) : List Nat :=
  (List.range 6).filter fun p => bit (m.act (P.outf (g / 2)) (F.OUTF_STR_CFG_PLANES.nth n)) p && decide (p < m.phases g)

/-- The injected mismatch of the check lane, when it is armed: the first checked formatted value of the line's first stream (R292). -/
def injectAt (m : Mach) (g k lo hi : Nat) : Option (Nat × Nat × Nat) :=
  if !m.enabled (P.chk (g / 2)) || !m.flag (P.chk (g / 2)) F.CHK_INJECT_ONCE then none
  else
    (m.streamsOf g).findSome? fun n =>
      match m.strPlanes g n with
      | [] => none
      | p :: _ =>
        let s := if checkedHere k lo then lo else lo + 1
        if s < hi then some (n, p, s) else none

/-- The formatted values of stream `n` that the check lane finds different in planes it carries, as plane and comparison (R289). -/
def formatUpsets (m : Mach) (g k n lo hi : Nat) : List (Nat × Upset) :=
  (m.strPlanes g n).flatMap fun p =>
    ((m.upsetsAt g 4 k p).filter fun u => u.n = n && decide (lo ≤ u.s) && decide (u.s < hi)).map fun u => (p, u)

/-- Stage 9 formats a fragment for every stream of its cluster (R281–R285, R289, R292). `lineFlags`: the FLAGS of the whole line. -/
def formatLine (m : Mach) (g : Nat) (l : OutLine) (planes : List (List Px)) (lo hi lineFlags : Nat) : Mach :=
  let t := g / 2
  let x0 := m.cross g / 16 + lo
  let pix := planes.map fun p => (p.drop lo).take (hi - lo)
  let inj := m.injectAt g l.k lo hi
  let tr := (m.streamsOf g).flatMap fun n =>
    let us := m.formatUpsets g l.k n lo hi
    let us := match inj with
      | some (n', p, s) => if n' = n then us ++ [(p, ({ point := 4, k := l.k, p, s, n, x := 1 } : Upset))] else us
      | none => us
    let pix := (List.range pix.length).map fun p => markPx ((us.filter fun u => u.1 = p).map Prod.snd) lo (pix.getD p [])
    tricksOfPieces t n 0 (m.strFormat g n) lineFlags l (pieces (m.strFormat g n) (m.strPlanes g n) pix x0)
  let value := fun n p s => fmtSample (fmtBits (m.strFormat g n)) ((planes.getD p []).getD s default).v
  let ups := (m.streamsOf g).map fun n => (n, m.formatUpsets g l.k n lo hi)
  let m := m.modClu g fun s => { s with outTricks := s.outTricks ++ tr }
  let m := match inj with
    | none => m
    | some (n, p, s) =>
      let v := value n p s
      (m.wr (P.chk t) F.CHK_INJECT_ONCE 0).checkFail g p s l.k true ((v ^^^ 1) * 65536 + v) 0
  (ups.foldl (fun m e => e.2.foldl (fun m u => m.failPx g u.1 l.k [u.2] fun s => value e.1 u.1 s) m) m).upsetsDone g 4 l.k none

/-- A raw footprint formatted as records of the cluster's lowest stream (R287). -/
def formatRecords (m : Mach) (g : Nat) (l : OutLine) : Mach :=
  match m.streamsOf g with
  | [] => m
  | n :: _ =>
    let us := (List.range (m.phases g)).flatMap fun p => (m.upsetsAt g 5 l.k p).map fun u => (p, u)
    let w := m.width g
    let ws := markPx (us.map fun u => { u.2 with s := u.1 * w + u.2.s }) 0 (l.planes.getD 0 [])
    let m := (us.foldl (fun m u => m.checkFail g u.1 u.2.s l.k false (u.2.x % 2 ^ 32) (u.2.x / 2 ^ 32 % 2 ^ 32)) m).upsetsDone g 5 l.k none
    let cs := chunksOf 252 ws.length ws
    let ps := (List.range cs.length).map fun i =>
      let c := cs.getD i []
      ({ plane := 0xFF, segofs := 252 * i, count := c.length, bytes := c.flatMap fun x => leBytes 8 x.v,
         flags := c.foldl (fun a x => a ||| (flagBits x.flags &&& 128)) 0 } : Piece)
    m.modClu g fun s => { s with outTricks := s.outTricks ++ tricksOfPieces (g / 2) n 2 0 0 l ps }

/-! ### Writing tricks (R286, R288) -/

/-- The counts of stream `n` of a tile begin anew when they belong to another deal than `deal` (R286, R295). -/
def strDeal (m : Mach) (t n deal : Nat) : Mach :=
  if (vget (m.tile t).strs n).deal = deal then m
  else (m.modTile t fun ts => { ts with strs := vmod ts.strs n fun _ => { deal } }).wr (P.outf t) (F.OUTF_STR_LINES_COUNT.nth n) 0

/-- A trick of stage 9 of a deal written to its queue, with the stream's counts (R286, R295). -/
def writeTrick (m : Mach) (t deal : Nat) (x : OutTrick) : Mach :=
  let pk := P.outf t
  let m := (m.putTrick t x.n (mostCells x.trick (!x.eod)) 0 x.trick).incW pk (F.OUTF_STR_TRICKS_COUNT.nth x.n)
  let m := m.strDeal t x.n deal
  if x.eod then m
  else
    let m := m.modTile t fun ts => { ts with strs := vmod ts.strs x.n fun s => { s with flagsOr := s.flagsOr ||| (x.flags &&& 0x7FC) } }
    if !x.last then m
    else
      let has := fun b => (bit x.frag b).toNat
      (m.modTile t fun ts => { ts with strs := vmod ts.strs x.n fun s =>
        { s with last := some (max x.k (s.last.getD 0)), chk := min 65535 (s.chk + has 7), deg := min 65535 (s.deg + has 8),
                 late := min 65535 (s.late + has 9) } }).incW pk (F.OUTF_STR_LINES_COUNT.nth x.n)

/-- Tricks waiting in stage 9 written while their queues have FREE, at most `fuel`; the first that does not begins a wait (R288) (log entries 35, 48). -/
def writeOut (m : Mach) (g : Nat) : Nat → Mach
  | 0 => m
  | fuel + 1 =>
    match (m.clu g).outTricks with
    | [] => m
    | x :: r =>
      let m := m.useQueue (g / 2) x.n
      if mostCells x.trick (!x.eod) ≤ m.queFree (g / 2) x.n && (m.queue (g / 2) x.n).opened.isNone then
        writeOut ((m.writeTrick (g / 2) (m.clu g).dealId x).modClu g fun s => { s with outTricks := r }) g fuel
      else if (m.clu g).creditWait || x.eod then m
      else ((m.inc (P.outf (g / 2)) (F.OUTF_STR_WAIT_COUNT.nth x.n)).raise (P.outf (g / 2)) 0).modClu g fun s => { s with creditWait := true }

/-- The end-of-deal trick of stream `n` of cluster `g` (R286). -/
def eodTrick (m : Mach) (g n cause endN : Nat) : OutTrick :=
  let t := g / 2
  let s := vget (m.tile t).strs n
  let line := match s.last with | some k => k + 1 | none => 0
  let body := leBytes 4 (m.rd (P.outf t) (F.OUTF_STR_LINES_COUNT.nth n)) ++ leBytes 2 (m.rd (P.acc g) F.ACC_LAT_LOSS_SYNTH) ++
    leBytes 2 (m.rd (P.acc g) F.ACC_LAT_LOSS_DROPPED) ++ leBytes 6 (match s.last with | some k => k | none => 2 ^ 48 - 1) ++
    leBytes 2 s.flagsOr ++ leBytes 2 s.chk ++ leBytes 2 s.deg ++ leBytes 2 s.late ++ leBytes 2 cause ++ leBytes 8 0
  { n, k := 0, last := true, flags := 3, frag := 0, eod := true,
    trick := { hdr := trickHdr 1 0 (8 * t + n) 0xFF (m.dealNo g) line 3 endN 0 0 32, payload := body } }

/-- End cause and end boundary of cluster `g`'s deal: its hand's, or those of R516. -/
def endOf (m : Mach) (g : Nat) : Nat × Nat :=
  match (m.clu g).recEnd with
  | some e => (e.2.2, e.1)
  | none => match m.handOf g with | some h => ((m.hand h).endCause, (m.hand h).endTime) | none => (0, 0)

/-- What a cluster has in stages 7–9 moves on as far as it can: tricks are written; once all are, the line has left stage 9; once no
line is left after the end of the deal, the end-of-deal tricks follow (R267, R286, R288) (log entry 48). -/
def pump (m : Mach) (g : Nat) : Mach :=
  let m := m.writeOut g ((m.clu g).outTricks.length + 1)
  let m := if (m.clu g).outTricks.isEmpty && !(m.clu g).stage7 then
      m.modClu g fun s => { s with inMeld := none, creditWait := false } else m
  let s := m.clu g
  if s.eodDue && s.released.isEmpty && s.inMeld.isNone && s.outTricks.isEmpty then
    let e := m.endOf g
    let m := (m.streamsOf g).foldl (fun m n => m.strDeal (g / 2) n (m.clu g).dealId) m
    let tr := (m.streamsOf g).map fun n => m.eodTrick g n e.1 e.2
    let m := m.modClu g fun s => { s with eodDue := false, outTricks := tr }
    m.writeOut g (tr.length + 1)
  else m

/-! ### Stage 7 (R267, R275–R277) -/

/-- Both output pages of the tile are enabled (R293). -/
def outputOn (m : Mach) (t : Nat) : Bool := m.enabled (P.meld t) && m.enabled (P.outf t)

/-- The wait for the samples of line `k` on an owned seam is over: 2 the samples are there, 1 the line is late, 0 it waits (R275). -/
def seamReady (m : Mach) (g k : Nat) (d : Side) (deg : Bool) (tmo : Bool) : Nat :=
  if !m.ownsSeam g d || deg then 2
  else
    let b := m.inBuffer g d
    if b.any fun x => x.k = k then (if m.slotBad g d k then 1 else 2)
    else if (b.any fun x => decide (k < x.k)) || (match (m.seam g d).ovf with | some f => decide (k ≤ f) | none => false) ||
        (m.seam g d).notice || m.degraded g d || tmo then 1
    else 0

/-- The owned overlap of a line on one side: melded, or kept from the owner's own samples; with SYNTH from the sender. -/
def formSide (m : Mach) (g : Nat) (l : OutLine) (d : Side) (deg : Bool) (ps : List (List Px)) : List (List Px) × Bool :=
  if !m.ownsSeam g d || deg then (ps, false)
  else match (m.inBuffer g d).find? fun x => x.k = l.k with
    | some x => if m.slotBad g d l.k then (ps, false) else (m.meldSeam g d (m.slotRead g d x) ps, x.synth)
    | none => (ps, false)

/-- Effects of the owner's read of the slot of line `k` (R481) (log entry 70). -/
def readSlot (m : Mach) (g k : Nat) (d : Side) (deg : Bool) : Mach :=
  if m.ownsSeam g d && !deg && ((m.inBuffer g d).any fun x => x.k = k) then
    (m.dramCheck (g / 2) (m.slotAddr g d k) (m.slotBytes g d)).1
  else m

/-- The line in stage 7 formed, mapped and formatted (R275–R277, R280–R285). -/
def formLine (m : Mach) (g : Nat) (l : OutLine) (late : Bool) : Mach :=
  let pk := P.meld (g / 2)
  let c := g % 2
  let r1 := m.formSide g l .left l.degL l.planes
  let r2 := m.formSide g l .right l.degR r1.1
  let deg := (m.hasSeam g .left && l.degL) || (m.hasSeam g .right && l.degR)
  let flags := (l.synth || r1.2 || r2.2 : Bool).toNat * 4 + l.posEst.toNat * 64 + deg.toNat * 256 + late.toNat * 512
  let fr := m.fragment g l
  let m := (m.readSlot g l.k .left l.degL).readSlot g l.k .right l.degR
  let m := if late then (m.inc pk (F.MELD_LATE_COUNT.nth c)).raise pk 0 else m
  let m := if !deg then m else
    let m := m.inc pk (F.MELD_DEG_LINES_COUNT.nth c)
    if (m.clu g).degShown then m else (m.raise pk 1).modClu g fun s => { s with degShown := true }
  let m := (m.modSeam g .left fun s => { s with buf := s.buf.filter fun x => decide (l.k < x.k) }).modSeam g .right
    fun s => { s with buf := s.buf.filter fun x => decide (l.k < x.k) }
  let m := (m.modClu g fun s => { s with passed := some (max l.k (s.passed.getD 0)), stage7 := false }).passDropped g
  ((m.formatLine g l (m.stage8 g r2.1) fr.1 fr.2 flags).emptySeams g).pump g

/-- Stage 7 goes on with the line it holds, if its overlaps allow (R275). `tmo`: MELD.TMO has passed. -/
def tryForm (m : Mach) (g : Nat) (tmo : Bool) : Mach :=
  match (m.clu g).inMeld with
  | none => m
  | some l =>
    if !(m.clu g).stage7 then m
    else
      let a := m.seamReady g l.k .left l.degL tmo
      let b := m.seamReady g l.k .right l.degR tmo
      if a = 0 || b = 0 then m else m.formLine g l (a = 1 || b = 1)

/-- Stage 7 takes the cluster's next released line (R267, R271, R275, R287, R293). -/
def takeLine (m : Mach) (g : Nat) : Mach :=
  let pk := P.meld (g / 2)
  match (m.clu g).released with
  | [] => m
  | l :: r =>
    if (m.clu g).inMeld.isSome || !(m.clu g).outTricks.isEmpty then m
    else
      let m := m.modClu g fun s => { s with released := r }
      if !m.outputOn (g / 2) then
        ((((m.inc pk F.MELD_OFF_DROP_COUNT).modClu g fun s => { s with passed := some (max l.k (s.passed.getD 0)) }).passDropped g).emptySeams
          g).pump g
      else if l.records then
        ((m.modClu g fun s => { s with inMeld := some l, stage7 := false }).formatRecords g l).pump g
      else
        let m := m.modClu g fun s => { s with inMeld := some l, stage7 := true }
        ((m.sendOverlap g l .left).sendOverlap g l .right).tryForm g false

/-- The oldest overlap samples on their way reach the owner's buffer, or are discarded as late or overflowed (R274, R275, R277) (log entry 50). -/
def overlapArrival (m : Mach) (g : Nat) (d : Side) : Mach :=
  let pk := P.meld (g / 2)
  let c := g % 2
  match (m.seam g d).flight with
  | [] => m
  | x :: r =>
    let m := m.modSeam g d fun s => { s with flight := r }
    let lines := m.ringLines (g / 2)
    if m.degraded g d || m.wasPassed g x.k then (m.inc pk (F.MELD_LATE_DISCARD_COUNT.nth c)).raise pk 3
    else if (m.inBuffer g d).any fun y => y.k % lines = x.k % lines then
      ((m.inc pk (F.MELD_OVF_COUNT.nth c)).raise pk 2).modSeam g d (fun s => { s with ovf := some x.k }) |>.tryForm g false
    else (m.storeSlot g d x).tryForm g false

/-- MELD.TMO passes while the owner waits (R275). -/
def meldTimeout (m : Mach) (g : Nat) : Mach := m.tryForm g true

/-- The sender's end-of-deal notice arrives, once the sender has passed on the last line of its deal (R278). -/
def eodNotice (m : Mach) (g : Nat) (d : Side) : Mach :=
  let p := m.clu (m.partner g d)
  if m.ownsSeam g d && p.drained && p.released.isEmpty && !p.stage7 && (m.seam g d).flight.isEmpty then
    (m.modSeam g d fun s => { s with notice := true }).tryForm g false
  else m

/-- A seam of the cluster becomes degraded (R277, R293) (log entry 51). -/
def degradeSeam (m : Mach) (g : Nat) (d : Side) : Mach :=
  if m.hasSeam g d && !m.degraded g d then (m.wr (P.meld (g / 2)) (degField g d) 1).tryForm g false else m

/-! ### Deals (R145, R274, R277, R286) -/

/-- The cluster's seams and streams at the start of deal `id`: rings empty, marks cleared, each seam whole where `whole` says that both
members are active and reachable and degraded where it does not (R277) (log entry 51); the counts of the cluster's streams, enabled or not,
begin anew (R295). -/
def meldStartDeal (m : Mach) (g id : Nat) (whole : Nat → Bool) : Mach :=
  let t := g / 2
  let m := m.modClu g fun s =>
    { s with seamL := {}, seamR := {}, degShown := false, eodDue := false, eodOk := false, drained := false, dealId := id }
  let m := [Side.left, Side.right].foldl (fun m d =>
    if m.hasSeam g d then m.wrb (P.meld t) (degField g d) (!whole (m.partner g d)) else m) m
  (List.range 8).foldl (fun m n => if m.act (P.outf t) (F.OUTF_STR_CFG_SRC.nth n) = g % 2 then m.strDeal t n id else m) m

/-- At an end boundary: the end-of-deal tricks of the member will be sent, its output pages being enabled (R293). -/
def latchOutput (m : Mach) (g : Nat) : Mach :=
  m.modClu g fun s => { s with eodOk := m.outputOn (g / 2) && m.domOn (g / 2) D.meld }

/-- Step 2 of R145 for a member: its end-of-deal tricks are due once its lines have left (R286, R293), and its seams are emptied (step 3). -/
def meldEndDeal (m : Mach) (g : Nat) : Mach :=
  ((m.modClu g fun s => { s with drained := true, eodDue := s.eodOk && m.domOn (g / 2) D.meld }).emptySeams g).pump g

/-- Every stream of the member has sent its end-of-deal trick (R145). -/
def streamsDone (m : Mach) (g : Nat) : Bool :=
  let s := m.clu g
  !s.eodDue && s.outTricks.isEmpty && s.released.isEmpty && s.inMeld.isNone

/-- Ownership of the cluster's seams fixed at ARM: the lower ALONG_OFS owns, of equal ones the right member (R269). A degraded seam stays
so until a deal start (R277) (log entry 51). -/
def armMeld (m : Mach) (g : Nat) : Mach :=
  [Side.left, Side.right].foldl (fun m d =>
    let o := m.partner g d
    let own := m.hasSeam g d && (decide (m.along g < m.along o) || (m.along g = m.along o && d = .left))
    let m := m.wrb (P.meld (g / 2)) (ownField g d) own
    if m.hasSeam g d then m else m.wr (P.meld (g / 2)) (degField g d) 0) m

/-- MELD or OUTF goes off: the lines of both clusters in stages 7–9 are dropped and counted, the buffers emptied (R293). -/
def outputOff (m : Mach) (t : Nat) : Mach :=
  [2 * t, 2 * t + 1].foldl (fun m g =>
    let n := if (m.clu g).inMeld.isSome then 1 else 0
    let m := match (m.clu g).inMeld with
      | some l => m.modClu g fun s => { s with passed := some (max l.k (s.passed.getD 0)) }
      | none => m
    (m.incBy (P.meld t) F.MELD_OFF_DROP_COUNT n).modClu g fun s =>
      { s with inMeld := none, stage7 := false, outTricks := [], creditWait := false, eodDue := false, eodOk := false, seamL := {},
               seamR := {} }) m

/-! ### Pages MELD and OUTF (R294, R295) -/

/-- A write to a register of page MELD that has a behaviour of its own. -/
def writeMeld (m : Mach) (t off : Nat) (v : Word) : Option Mach :=
  let refuse := some (m.refuse (P.meld t) 4)
  let n := v.toNat
  let blk := 0x040 ≤ off && off < 0x0C0
  let o := (off - 0x040) % 0x40
  if ((blk && decide (o ≤ 8)) || [0x100, 0x104, 0x108].contains off) && m.tileArmed t then refuse
  else if blk && o = 8 && (decide (4096 < bits n 28 16) || decide (4096 < bits n 12 0)) then refuse
  else if off = 0x108 ∧ bits n 11 0 < 2 then refuse
  else if off = 0x10C ∧ (bits n 6 0 = 0 ∨ 100 < bits n 6 0) then refuse
  else none

/-- A write to a register of page OUTF that has a behaviour of its own: PACK with ORDER at 10 or 12 bits is refused (R281). -/
def writeOutf (m : Mach) (t off : Nat) (v : Word) : Option Mach :=
  let f := bits v.toNat 3 0
  if 0x040 ≤ off ∧ off < 0x0C0 ∧ off % 16 = 0 ∧ packed f = true ∧ bit f 3 = true then some (m.refuse (P.outf t) 1) else none

/-- Soft resets of MELD and OUTF (R84, R293): seam ownership, fixed at ARM (R269), stays; lines dropped are counted after the clearing. -/
def softResetMeld (m : Mach) (t : Nat) : Mach :=
  let own := [2 * t, 2 * t + 1].map fun g => m.word (P.meld t) (0x050 + 0x40 * (g % 2))
  (((m.softResetPage (P.meld t)).setWord (P.meld t) 0x050 (own.getD 0 0)).setWord (P.meld t) 0x090 (own.getD 1 0)).outputOff t

def softResetOutf (m : Mach) (t : Nat) : Mach :=
  ((m.outputOff t).modTile t fun ts => { ts with strs := Vector.replicate 8 {} }).softResetPage (P.outf t)

/-! ### ARM conditions (R297) -/

/-- The seam conditions of R297 for one side of a cluster. -/
def seamArmOk (m : Mach) (h g : Nat) (d : Side) : Bool :=
  !m.hasSeam g d ||
  (let o := m.partner g d
   let l := match d with | .left => o | .right => g
   let r := match d with | .left => g | .right => o
   (m.members h).contains o && m.hasSeam o d.other && m.partner o d.other = g && m.phases o = m.phases g &&
   m.ovl g d = m.ovl o d.other && decide (1 ≤ m.ovl g d) && decide (m.ovl g d ≤ 4096) &&
   decide (m.cross l / 16 + m.width l = m.cross r / 16 + m.ovl g d))

/-- A cluster that would own the seam on that side (R269). -/
def wouldOwn (m : Mach) (g : Nat) (d : Side) : Bool :=
  m.hasSeam g d && (decide (m.along g < m.along (m.partner g d)) || (m.along g = m.along (m.partner g d) && d = .left))

/-- The buffer conditions of R297 for a tile that owns seams: those that the members of hand `h` would own, and those that a cluster of
another armed hand owns. -/
def bufferArmOk (m : Mach) (h t : Nat) : Bool :=
  let owned := [2 * t, 2 * t + 1].flatMap fun g => [Side.left, Side.right].filterMap fun d =>
    if (if (m.members h).contains g then m.wouldOwn g d else m.armed g && m.ownsSeam g d) then some (m.slotBytes g d) else none
  owned.isEmpty ||
  (let b := m.meldBuf t
   m.domOn t D.dram && decide (b.1 + b.2 ≤ m.dramCap t) &&
   decide (owned.sum * m.rd (P.meld t) F.MELD_BUF_CFG_LINES ≤ b.2) && !((m.kit t).dramReady && m.kittyOverlapsMeld t))

/-- The stream and seam conditions of R297 for a member cluster. -/
def meldArmOk (m : Mach) (h g : Nat) : Bool :=
  let t := g / 2
  if m.pixelless g then !m.meldOn g
  else
    m.enabled (P.meld t) && m.enabled (P.outf t) &&
    ((m.streamsOf g).any fun n =>
      let p := m.act (P.outf t) (F.OUTF_STR_CFG_PLANES.nth n)
      p ≠ 0 && decide (p < 2 ^ m.phases g)) &&
    m.seamArmOk h g .left && m.seamArmOk h g .right &&
    (!(m.hasSeam g .left || m.hasSeam g .right) || decide (m.ovl g .left + m.ovl g .right ≤ m.width g)) && m.bufferArmOk h t

end Sys2Proof.Machine.Mach
end

