-- ==== Sys2Proof/Machine/Axis.lean ====
section
/-!
DEFINITION. Transport axes (R328–R352): the planner's tick, step and direction, current references, encoder, stops, limits, homing,
UNCERTAIN, motion events, and page AXIS. Positions are in 2^-32 microsteps, velocities in 2^-16 microsteps/s, accelerations in
2^-16 microsteps/s²; where a quotient is not whole it is floored (log entry 20).
-/

namespace Sys2Proof.Machine.Mach

/-! ### Motion between planner ticks (R330) -/

def axA (m : Mach) (g : Nat) : AxisAon := (m.clu g).axisAon
def axS (m : Mach) (g : Nat) : AxisSt := (m.clu g).axis
def modAxA (m : Mach) (g : Nat) (f : AxisAon → AxisAon) : Mach := m.modClu g fun c => { c with axisAon := f c.axisAon }
def modAxS (m : Mach) (g : Nat) (f : AxisSt → AxisSt) : Mach := m.modClu g fun c => { c with axis := f c.axis }

/-- The MOT domain of the axis works, clocked from REFCLK (R72, R74). -/
def axLive (m : Mach) (g : Nat) : Bool := m.live (g / 2) D.mot && !m.refLost

/-- The axis moves: velocity or acceleration non-zero (R352). -/
def moving (m : Mach) (g : Nat) : Bool := decide ((m.axS g).v ≠ 0) || decide ((m.axS g).a ≠ 0)

/-- Homing is in progress (`CTRL.HOME_GO` reads 1). -/
def homePhase (m : Mach) (g : Nat) : Nat := m.rd (P.axis g) F.AXIS_STAT_HOME_PHASE

/-- Commanded position `d` ticks of 2 ns after a point at velocity `v` and acceleration `a` (log entry 20). -/
def glide (p v a : Int) (d : Nat) : Int := p + (v * d * 1000000000 + a * d * d) * 65536 / 500000000000000000

/-- Velocity after `d` ticks (log entry 20). -/
def glideV (v a : Int) (d : Nat) : Int := v + a * d / 500000000

/-- `AXIS.STAT` as it reads (R352). -/
def axisStat (m : Mach) (g : Nat) : Nat :=
  let pk := P.axis g
  let s := m.axS g
  let act := fun (i : Nat) (f : Field) => (bit s.lim i != m.flag pk f)
  let w := (m.word pk 0x0A0).toNat
  let w := putBit w 15 (s.paced.isSome && !s.pacedOff)
  let w := putBit w 11 (m.axA g).uncertain
  let w := putBit w 10 (m.axA g).homed
  let w := putBit w 9 s.drvFault
  let w := putBit w 5 (act 2 F.AXIS_CFG_HOME_POL)
  let w := putBit w 4 (act 1 F.AXIS_CFG_LIM_POS_POL)
  let w := putBit w 3 (act 0 F.AXIS_CFG_LIM_NEG_POL)
  let w := putBit w 2 (decide (s.v < 0) || decide (s.v = 0) && decide (s.a < 0))
  putBit w 0 (m.moving g)

/-- A motion event with its INT_RAW bit and its trick (R351) (log entry 44). -/
def motionEvent (m : Mach) (g b code time : Nat) : Mach :=
  let pk := P.axis g
  let s := m.axS g
  let m := m.raise pk b
  let payload := leBytes 8 (ofS 64 (m.axA g).pos) ++ leBytes 8 (ofS 64 (m.axA g).enc) ++ leBytes 8 (ofS 64 s.v) ++
    leBytes 4 (m.axisStat g) ++ leBytes 4 (m.word pk 0x0D8).toNat
  (m.modAxS g fun s => { s with seq := (s.seq + 1) % 2 ^ 32 }).emitEvent (g / 2) (1 + g % 2) 4 pk F.AXIS_EVT_LOST_COUNT (some 13)
    { hdr := eventHdr 4 g code s.seq time 32, payload }

/-- UNCERTAIN set, with its event and its record (R349): cause 1 tile reset, 2 soft reset, 3 REFCLK loss, 4 DRV_FAULT, 5 encoder. -/
def setUncertain (m : Mach) (g cause : Nat) : Mach :=
  let m := m.modAxA g fun a => { a with uncertain := true }
  (m.motionEvent g 10 0x08 (m.now (g / 2))).record (g / 2) 0x0A g cause 0
    (detail 0 8 (ofS 64 (m.axA g).pos) + detail 8 8 (ofS 64 (m.axA g).enc))

/-! ### When the axis may move (R342) -/

/-- The conditions of R342 for microstep events. -/
def mayMove (m : Mach) (g : Nat) : Bool :=
  m.enabled (P.axis g) && m.flag (P.axis g) F.AXIS_CTRL_DRV_EN && m.axLive g &&
  ((m.handOf g).isNone || m.armed g)

/-- Level of AXc_DRV_EN (R342, R62). -/
def drvEnPin (m : Mach) (g : Nat) : Bool :=
  m.flag (P.axis g) F.AXIS_CTRL_DRV_EN && m.live (g / 2) D.mot && ((m.handOf g).isNone || m.armed g)

/-! ### Microstep events, STEP and DIR (R330–R332) -/

/-- The first of the ticks up to `dmax` at which the commanded position has reached `x`, searched bit by bit from `lo` on. -/
def hitAt (p v a x : Int) (up : Bool) (dmax : Nat) : Nat → Nat → Nat
  | 0, lo => lo
  | k + 1, lo =>
    let y := glide p v a (lo + 2 ^ k - 1)
    let hit := if up then decide (x ≤ y) else decide (y ≤ x)
    hitAt p v a x up dmax k (if decide (lo + 2 ^ k ≤ dmax) && !hit then lo + 2 ^ k else lo)

/-- The event that moves the position by one has a STEP pulse: the position in driver steps changes (R330). -/
def pulses (m : Mach) (g : Nat) (neg : Bool) : Bool :=
  let k : Int := 2 ^ m.rd (P.axis g) F.AXIS_CFG_STEP_SHIFT
  let old := (m.axA g).pos
  decide (old / k ≠ (if neg then old - 1 else old + 1) / k)

/-- DIR takes the level of the next pulse, once the position has been still for DIR_HOLD since the last one (R332) (log entry 20). -/
def turn (m : Mach) (g : Nat) (neg : Bool) : Mach :=
  let s := m.axS g
  let want := neg != m.flag (P.axis g) F.AXIS_CFG_DIR_INV
  let still := match s.lastPulse with | some l => l + m.rd (P.axis g) F.AXIS_STEP_TIM_DIR_HOLD | none => 0
  if s.dir = want then m else m.modAxS g fun s => { s with dir := want, dirAt := some (max s.t0 still) }

/-- Earliest instant of a pulse: DIR_SU after the last change of DIR (R332). -/
def pulseFrom (m : Mach) (g : Nat) : Nat :=
  match (m.axS g).dirAt with | some c => c + m.rd (P.axis g) F.AXIS_STEP_TIM_DIR_SU | none => 0

/-- One microstep event at instant `at_` (R330): the position and the index move by one, a STEP pulse is issued when the position in driver
steps changes, and the current level returns to RUN (R333). -/
def microstep (m : Mach) (g : Nat) (neg : Bool) (at_ : Nat) : Mach :=
  let pk := P.axis g
  let pulse := m.pulses g neg
  let m := m.modAxA g fun a => { a with pos := if neg then a.pos - 1 else a.pos + 1, idx := (a.idx + (if neg then 1023 else 1)) % 1024 }
  let m := (m.modAxS g fun s => { s with lastEv := at_ }).wr pk F.AXIS_STAT_HOLD_CUR 0
  if !pulse then m
  else (m.modAxS g fun s => { s with lastPulse := some at_ }).emitOut (.step g at_ (m.rd pk F.AXIS_STEP_TIM_STEP_HI) (m.axS g).dir)

/-- The microstep events, at most `k`, of a segment that starts at `t0` with `p`, `v`, `a`, up to `d` ticks after its start: one at each
instant at which the commanded position has moved a whole microstep beyond the last event, a pulse held back for DIR with its event
(R330, R332). -/
def stepsTo (g : Nat) (p v a : Int) (t0 d : Nat) : Nat → Mach → Mach
  | 0, m => m
  | k + 1, m =>
    let pos := (m.axA g).pos
    let q := glide p v a d
    let up := decide ((pos + 1) * 2 ^ 32 ≤ q)
    if !up && decide ((pos - 1) * 2 ^ 32 < q) then m
    else
      let e := t0 + hitAt p v a ((if up then pos + 1 else pos - 1) * 2 ^ 32) up d 64 0
      let m := if m.pulses g (!up) then m.turn g (!up) else m
      let e := if m.pulses g (!up) then max e (m.pulseFrom g) else e
      if t0 + d < e then m else stepsTo g p v a t0 d k (m.microstep g (!up) e)

/-- The events of a segment up to `d` ticks after its start. -/
def steps (m : Mach) (g : Nat) (p v a : Int) (t0 d : Nat) : Mach :=
  stepsTo g p v a t0 d ((glide p v a d / 2 ^ 32 - (m.axA g).pos).natAbs + 2) m

/-- A position beyond ±2^47 goes on at the other end of its 48 bits (R328) (log entry 123). -/
def wrapPos (m : Mach) (g : Nat) : Mach :=
  let pos := (m.axA g).pos
  let w := toS 48 (ofS 48 pos)
  if w = pos then m
  else (m.modAxA g fun a => { a with pos := w, p := a.p - (pos - w) * 2 ^ 32 }).modAxS g fun s => { s with tgt := s.tgt - (pos - w) * 2 ^ 32 }

/-- Level of AXc_STEP at instant `n`: active for STEP_HI ticks from a pulse (R331); its post-reset level while the axis may not move (R332). -/
def stepPin (m : Mach) (g n : Nat) : Bool :=
  let active := match (m.axS g).lastPulse with
    | some l => decide (l ≤ n ∧ n < l + m.rd (P.axis g) F.AXIS_STEP_TIM_STEP_HI)
    | none => false
  m.mayMove g && (active != m.flag (P.axis g) F.AXIS_CFG_STEP_INV)

/-- Level of AXc_DIR at instant `n` (R332). -/
def dirPin (m : Mach) (g n : Nat) : Bool :=
  let s := m.axS g
  m.mayMove g && match s.dirAt with | some c => if c ≤ n then s.dir else !s.dir | none => s.dir

/-- The axis stands; its segment ends at `n`. -/
def stand (m : Mach) (g n : Nat) : Mach :=
  m.modAxS g fun s => { s with v := 0, a := 0, t0 := n, te := none, land := false }

/-- The end of an EDEC stop (R340). -/
def edecEnd (m : Mach) (g n : Nat) : Mach :=
  let pk := P.axis g
  let s := m.axS g
  let m := (m.stand g n).modAxS g fun s => { s with mode := .idle, tgt := (m.axA g).p, offAfter := false, passing := false }
  let m := (m.wr pk F.AXIS_LAST_CAUSE_STOP s.cause).wr pk F.AXIS_STAT_ESTOPPED 1
  let m := m.motionEvent g 2 0x03 n
  if s.offAfter then m.wr pk F.PAGE_CTRL_ENABLE 0 else m

/-- A position move whose axis stands at the target ends with the microstep event that reaches it (R336). -/
def arrive (m : Mach) (g : Nat) : Mach :=
  let pk := P.axis g
  let s := m.axS g
  if s.mode ≠ .pos || s.passing || s.v ≠ 0 || (m.axA g).p ≠ s.tgt || (m.axA g).pos ≠ s.tgt / 2 ^ 32 then m
  else
    let m := m.modAxS g fun s => { s with mode := .idle, raised := false }
    ((m.wr pk F.AXIS_STAT_DECEL_RAISED 0).wr pk F.AXIS_STAT_AT_TARGET 1).motionEvent g 0 0x01 (max s.t0 s.lastEv)

/-- Standstill at `n` of an axis that was braking to stop, under what its mode makes of it (R340, R345). -/
def standstill (m : Mach) (g n : Nat) : Mach :=
  let pk := P.axis g
  let m := m.stand g n
  match (m.axS g).mode with
  | .edec => m.edecEnd g n
  | .stop => (m.modAxS g fun s => { s with mode := .idle, tgt := (m.axA g).p }).motionEvent g 1 0x02 n
  | .release => m.modAxS g fun s => { s with mode := .idle }
  | .home =>
    match m.homePhase g with
    | 2 => m.wr pk F.AXIS_STAT_HOME_PHASE 3
    | 4 =>
      let m := (m.wr pk F.AXIS_STAT_HOME_PHASE 0).modAxS g fun s => { s with mode := .idle }
      (m.modAxA g fun a => { a with homed := true, uncertain := false }).motionEvent g 5 0x04 n
    | _ => m
  | _ => m

/-- The axis may not move: step output has stopped where it is (R342). -/
def axisHalt (m : Mach) (g n : Nat) : Mach :=
  if (m.axS g).mode = .edec then m.edecEnd g n
  else (m.stand g n).modAxS g fun s => { s with mode := if s.mode = .home then .home else .idle }

/-- The axis brought along its segment to `n`, to its standstill or to the target of its position move, whichever comes first (R330, R336). -/
def axisSegment (m : Mach) (g n : Nat) : Mach :=
  let s := m.axS g
  let stop := match s.te with | some e => decide (e ≤ n) | none => false
  let e := if stop then s.te.getD n else n
  let p := (m.axA g).p
  let q := glide p s.v s.a (e - s.t0)
  let landed := s.land && stop
  let hit := s.mode = .pos && !s.passing && m.moving g && (landed || decide (p < s.tgt ∧ s.tgt ≤ q) || decide (s.tgt < p ∧ q ≤ s.tgt))
  let d := if hit && !landed then hitAt p s.v s.a s.tgt (decide (p < s.tgt)) (e - s.t0) 64 0 else e - s.t0
  let m := (m.steps g p s.v s.a s.t0 d).modAxA g fun a => { a with p := if hit then s.tgt else q }
  if hit then m.stand g (s.t0 + d)
  else if stop then m.standstill g e
  else m.modAxS g fun s => { s with v := glideV s.v s.a d, t0 := n }

/-- The axis brought to instant `n` of its tile's time base, with every microstep event up to then (R330, R342). -/
def axisRun (m : Mach) (g n : Nat) : Mach :=
  if !m.mayMove g then (if m.moving g || (m.axS g).mode = .edec then m.axisHalt g n else m.modAxS g fun s => { s with t0 := n })
  else
    let m := m.axisSegment g n
    let s := m.axS g
    let m := if m.moving g then m else m.steps g (m.axA g).p 0 0 s.t0 (n - s.t0)
    (m.wrapPos g).arrive g

/-- The axes of clusters brought to now, before what R342 asks of them changes. -/
def runAxes (m : Mach) (gs : List Nat) : Mach := gs.foldl (fun m g => if m.axLive g then m.axisRun g (m.now (g / 2)) else m) m

/-! ### When a move is accepted (R339, R342, R344) -/

/-- A filtered input is active: 0 LIM_NEG, 1 LIM_POS, 2 HOME (R343). -/
def inputActive (m : Mach) (g i : Nat) : Bool := bit (m.axisStat g) (3 + i)

/-- The input is in chatter. -/
def chatter (m : Mach) (g i : Nat) : Bool := bit (m.word (P.axis g) 0x0A0).toNat (6 + i)

/-- A limit is tripped, or HOME counts as active (R343, R344). -/
def tripped (m : Mach) (g i : Nat) : Bool := m.inputActive g i || m.chatter g i

/-- Motion in the direction of `d` is blocked (R344). -/
def blocked (m : Mach) (g : Nat) (d : Int) : Bool :=
  (decide (0 < d) && m.tripped g 1) || (decide (d < 0) && m.tripped g 0) ||
  (decide (d ≠ 0) && m.tripped g 0 && m.tripped g 1)

/-- The settings of R339 allow a move. -/
def moveSettings (m : Mach) (g : Nat) : Bool :=
  let pk := P.axis g
  decide (m.rd pk F.AXIS_VMAX_V ≠ 0) && decide (m.rd pk F.AXIS_ACC_A ≠ 0) && decide (m.rd pk F.AXIS_DEC_A ≠ 0) &&
  decide (m.rd pk F.AXIS_EDEC_A ≠ 0) && (!m.flag pk F.AXIS_CFG_PROFILE || decide (m.rd pk F.AXIS_JERK_J ≠ 0))

/-- The driver's fault input is active and acts. -/
def driverFault (m : Mach) (g : Nat) : Bool := (m.axS g).drvFault && m.flag (P.axis g) F.AXIS_CFG_DRV_FAULT_EN

/-- The axis is paced (R353, R341). -/
def paced (m : Mach) (g : Nat) : Bool := (m.axS g).paced.isSome && !(m.axS g).pacedOff

/-- The conditions that GO and HOME_GO share (R342). -/
def goOk (m : Mach) (g : Nat) : Bool :=
  m.mayMove g && !m.paced g && m.homePhase g = 0 && decide ((m.axS g).mode ≠ .edec) && !m.driverFault g && m.moveSettings g

/-- A refused GO or HOME_GO (R342). -/
def moveRefused (m : Mach) (g : Nat) : Mach := (m.inc (P.axis g) F.AXIS_REFUSED_COUNT).raise (P.axis g) 11

/-- A 48-bit register pair as two's complement. -/
def rdS48 (m : Mach) (pk : Nat) (lo hi : Field) : Int := toS 48 (m.rd2 pk lo hi)

/-- `CTRL.GO` (R335, R341, R344). -/
def axisGo (m : Mach) (g : Nat) : Mach :=
  let pk := P.axis g
  let d := if m.flag pk F.AXIS_MODE_VEL then m.rdS48 pk F.AXIS_VTARGET_LO_VTARGET F.AXIS_VTARGET_HI_VTARGET
    else m.rdS48 pk F.AXIS_TARGET_LO_TARGET F.AXIS_TARGET_HI_TARGET - (m.axA g).pos
  if !m.goOk g || m.blocked g d then m.moveRefused g
  else (((m.wr pk F.AXIS_STAT_AT_TARGET 0).wr pk F.AXIS_STAT_ESTOPPED 0).wr pk F.AXIS_STAT_DECEL_RAISED 0).modAxS g
    fun s => { s with pendGo := true, pendStop := false, raised := false }

/-- `CTRL.HOME_GO` (R345–R347). -/
def homeGo (m : Mach) (g : Nat) : Mach :=
  let pk := P.axis g
  let neg := m.flag pk F.AXIS_HOME_CFG_SEEK_NEG
  let skip := m.inputActive g 2
  let dir : Int := if neg != skip then -1 else 1
  if !m.goOk g || m.blocked g dir || m.chatter g 2 || m.chatter g (if neg then 0 else 1) then m.moveRefused g
  else
    let m := (m.wr pk F.AXIS_STAT_ESTOPPED 0).wr pk F.AXIS_STAT_HOME_PHASE (if skip then 3 else 1)
    let m := m.modAxA g fun a => { a with homed := false }
    m.modAxS g fun s => { s with mode := .home, pendGo := false, pendStop := false, homeFrom := (m.axA g).pos, raised := false }

/-! ### Stops (R340, R341, R347) -/

/-- An EDEC stop with its cause: linear braking from now on, in place of whatever moved the axis. -/
def axisEdec (m : Mach) (g cause : Nat) : Mach :=
  let n := m.now (g / 2)
  let m := m.axisRun g n
  let e : Int := max 1 (m.rd (P.axis g) F.AXIS_EDEC_A)
  let v := (m.axS g).v
  let m := m.modAxS g fun s =>
    { s with mode := .edec, cause, pendGo := false, pendStop := false, raised := false, passing := false, land := false,
             pacedOff := s.pacedOff || s.paced.isSome, t0 := n, a := (if v < 0 then e else -e) * 65536,
             te := some (n + (v.natAbs * 500000000 + (e.toNat * 65536 - 1)) / (e.toNat * 65536)) }
  if v = 0 then m.edecEnd g n else m

/-- Homing ends in a fault (R347). -/
def homingFault (m : Mach) (g cause : Nat) : Mach :=
  let pk := P.axis g
  let m := (m.wr pk F.AXIS_LAST_CAUSE_HOMING cause).wr pk F.AXIS_STAT_HOME_PHASE 0
  ((m.modAxA g fun a => { a with homed := false }).motionEvent g 6 0x05 (m.now (g / 2))).axisEdec g 5

/-- `CTRL.ESTOP` (R340, R347). -/
def axisEstop (m : Mach) (g : Nat) : Mach :=
  if m.homePhase g ≠ 0 then m.homingFault g 5
  else if (m.axS g).mode = .edec then m
  else m.axisEdec g 1

/-- `CTRL.STOP` (R337, R340, R347): it takes effect at the next tick. -/
def axisStop (m : Mach) (g : Nat) : Mach :=
  if m.homePhase g ≠ 0 then m.homingFault g 5
  else if (m.axS g).mode = .edec then m
  else m.modAxS g fun s => { s with pendStop := true, pendGo := false }

/-- DRV_FAULT_N changes (R340, R347, R349). -/
def driverFaultEdge (m : Mach) (g : Nat) (active : Bool) : Mach :=
  let had := (m.axS g).drvFault
  let m := m.modAxS g fun s => { s with drvFault := active }
  if had || !active || !m.axLive g || !m.flag (P.axis g) F.AXIS_CFG_DRV_FAULT_EN then m
  else
    let m := m.axisRun g (m.now (g / 2))
    let m := (m.raise (P.axis g) 7).setUncertain g 4
    if m.homePhase g ≠ 0 then m.homingFault g 4
    else if (m.moving g || (m.axS g).pendGo || (m.axS g).mode ≠ .idle) && decide ((m.axS g).mode ≠ .edec) then m.axisEdec g 4
    else m

/-! ### Limit and home inputs (R343–R347) -/

/-- A limit has just tripped. -/
def limitTrips (m : Mach) (g i : Nat) : Mach :=
  let pk := P.axis g
  let v := (m.axS g).v
  let towards := (i = 1 && decide (0 < v)) || (i = 0 && decide (v < 0))
  let m := if towards then (m.inc pk F.AXIS_LIM_TRIPS_COUNT).raise pk 3 else m
  if (m.axS g).mode = .edec then m
  else if m.homePhase g ≠ 0 then m.homingFault g 1
  else if towards then m.axisEdec g (if i = 1 then 2 else 3)
  else m

/-- A filtered edge of HOME (R345). -/
def homeEdge (m : Mach) (g : Nat) (active : Bool) : Mach :=
  let pk := P.axis g
  match m.homePhase g with
  | 1 => if active then
      (m.wr2 pk F.AXIS_HOMECAP_LO_POS F.AXIS_HOMECAP_HI_POS (ofS 48 (m.axA g).pos)).wr pk F.AXIS_STAT_HOME_PHASE 2 else m
  | 3 => if active then m else
      let hp := m.rdS48 pk F.AXIS_HOME_POS_LO_POS F.AXIS_HOME_POS_HI_POS
      let zero := m.flag pk F.AXIS_HOME_CFG_ENC_ZERO
      (m.modAxA g fun a => { a with p := a.p + (hp - a.pos) * 2 ^ 32, pos := hp, enc := if zero then 0 else a.enc }).wr pk
        F.AXIS_STAT_HOME_PHASE 4
  | _ => m

/-- The filtered level of an input changes to `level`, which also says that its raw level has held for FILT_US (R343). -/
def inputLevel (m : Mach) (g i : Nat) (level : Bool) : Mach :=
  let was := m.tripped g i
  let act := m.inputActive g i
  let m := m.modAxS g fun s => { s with lim := putBit s.lim i level, noisy := putBit s.noisy i false }
  if !m.axLive g then m
  else
    let m := m.axisRun g (m.now (g / 2))
    if i = 2 then (if act = m.inputActive g 2 || m.chatter g 2 then m else m.homeEdge g (m.inputActive g 2))
    else if !was && m.tripped g i then m.limitTrips g i else m

/-- An input enters chatter (R343, R347). With FILT_US = 0 there is none. -/
def inputChatter (m : Mach) (g i : Nat) : Mach :=
  let pk := P.axis g
  if !m.axLive g || m.rd pk F.AXIS_LIM_FILT_FILT_US = 0 then m
  else
    let was := m.tripped g i
    let had := m.chatter g i
    let m := m.modAxS g fun s => { s with noisy := putBit s.noisy i true }
    if had then m
    else
      let m := m.axisRun g (m.now (g / 2))
      let m := m.setWord pk 0x0A0 (m.word pk 0x0A0 ||| BitVec.ofNat 32 (2 ^ (6 + i)))
      let m := m.motionEvent g 4 0x06 (m.now (g / 2))
      if i = 2 then (if m.homePhase g ≠ 0 then m.homingFault g 2 else m)
      else if was then m else m.limitTrips g i

/-- `CTRL.CHAT_CLR` (R343). -/
def chatClr (m : Mach) (g : Nat) : Mach :=
  let pk := P.axis g
  [0, 1, 2].foldl (fun m i =>
    if !m.chatter g i then m
    else if bit (m.axS g).noisy i then m.errCount pk
    else m.setWord pk 0x0A0 (m.word pk 0x0A0 &&& ~~~ BitVec.ofNat 32 (2 ^ (6 + i)))) m

/-- SEEK has travelled HOME_MAX microsteps without HOME becoming active (R347). -/
def homingNotFound (m : Mach) (g : Nat) : Mach :=
  let m := m.axisRun g (m.now (g / 2))
  let max := m.rd (P.axis g) F.AXIS_HOME_MAX_D
  if m.axLive g && m.homePhase g = 1 && max ≠ 0 && decide (max ≤ ((m.axA g).pos - (m.axS g).homeFrom).natAbs) then m.homingFault g 3
  else m

/-! ### Planning (R335–R338) -/

/-- Integer square root, `k` bits more than `r`. -/
def isqrt (n : Nat) : Nat → Nat → Nat
  | 0, r => r
  | k + 1, r => isqrt n k (if (r + 2 ^ k) * (r + 2 ^ k) ≤ n then r + 2 ^ k else r)

/-- The jerk-limited braking distance from speed `v` at zero acceleration, in 2^-32 microsteps (R335). -/
def stopFrom0 (v dec j : Int) : Int :=
  if dec * dec * 65536 ≤ v * j then v * v / (2 * dec) + v * dec * 65536 / (2 * j) else isqrt (v * v * v * 65536 / j).toNat 72 0

/-- The braking distance at DEC from speed `v ≥ 0` and acceleration `a` along it, in 2^-32 microsteps: jerk-limited with J = `j`, linear where
that is 0 (R335, R338) (log entry 20). -/
def stopDist (v a dec j : Int) : Int :=
  if j = 0 then (v * v + (2 * dec - 1)) / (2 * dec)
  else if 0 < a then stopFrom0 (v + a * a / (2 * j * 65536)) dec j + v * a / j + a * a * a / (3 * j * j * 65536)
  else if 2 * j * v * 65536 ≤ a * a then
    let t := (-a - isqrt (a * a - 2 * j * v * 65536).toNat 72 0) * 65536 / j
    v * t / 65536 + a * t * t / 2 ^ 49 + j * t * t * t / (6 * 2 ^ 64)
  else
    let top := max (dec * 65536) (-a)
    let b := min top (isqrt (j * v * 65536 + a * a / 2).toNat 72 0)
    let t := (b + a) * 65536 / j
    let v1 := v - (b * b - a * a) / (2 * j * 65536)
    v * t / 65536 + a * t * t / 2 ^ 49 - j * t * t * t / (6 * 2 ^ 64) +
      (if b < top then b * b * b / (6 * j * j * 65536) else v1 * v1 * 65536 / (2 * top) + top * top * top / (24 * j * j * 65536))

/-- The largest speed up to `2 ^ k - 1` more than `r` from which the axis can stop linearly at `dec` within `d` (R335) (log entry 20). -/
def maxSpeed (dec d : Nat) : Nat → Nat → Nat
  | 0, r => r
  | k + 1, r => maxSpeed dec d k (if (r + 2 ^ k) * (r + 2 ^ k) ≤ 2 * dec * d then r + 2 ^ k else r)

/-- The acceleration that the trapezoidal rule chooses for a tick (R335). A velocity of the opposite sign is braked to standstill first (log entry 20). -/
def trapezoid (v vd : Int) (acc dec : Nat) : Int :=
  let vd := if v * vd < 0 then 0 else vd
  let dv := vd - v
  let rate : Int := if v.natAbs < vd.natAbs then acc else dec
  if dv.natAbs * 250000 ≤ rate.toNat * 65536 then dv * 250000
  else if dv < 0 then -rate * 65536 else rate * 65536

/-- The segment of a tick towards velocity `vd`: linear, or with the change of acceleration limited by JERK (R335) (log entry 20). -/
def segment (m : Mach) (g n : Nat) (vd : Int) (linear : Bool) : Mach :=
  let pk := P.axis g
  let s := m.axS g
  let want := trapezoid s.v vd (max 1 (m.rd pk F.AXIS_ACC_A)) (max 1 (m.rd pk F.AXIS_DEC_A))
  let step : Int := m.rd pk F.AXIS_JERK_J * 256 * 65536 / 250000
  let a := if linear || !m.flag pk F.AXIS_CFG_PROFILE then want else clampI (s.a - step) (s.a + step) want
  let stops := (vd = 0 || s.v * vd < 0) && decide (s.v * a < 0) && decide (s.v.natAbs * 250000 ≤ a.natAbs)
  m.modAxS g fun s =>
    { s with a, t0 := n, land := false,
             te := if stops then some (n + (s.v.natAbs * 500000000 + (a.natAbs - 1)) / a.natAbs) else none }

/-- J of R335: 256 × JERK under the S-curve profile, else 0. -/
def jerk (m : Mach) (g : Nat) : Nat := if m.flag (P.axis g) F.AXIS_CFG_PROFILE then 256 * m.rd (P.axis g) F.AXIS_JERK_J else 0

/-- DEC as the planner takes it. -/
def decel (m : Mach) (g : Nat) : Nat := max 1 (m.rd (P.axis g) F.AXIS_DEC_A)

/-- From its present state the axis, moving towards `x`, can stop there at DEC (R335, R338). -/
def stopsAt (m : Mach) (g : Nat) (x : Int) : Bool :=
  let s := m.axS g
  let d := x - (m.axA g).p
  let sg : Int := if d < 0 then -1 else 1
  decide (0 < sg * s.v) && decide (stopDist (sg * s.v) (sg * s.a) (m.decel g) (m.jerk g) ≤ d.natAbs)

/-- A DEC write applies to an axis on its way to a position target: where the new braking distance is too long, the raised ramp (R338). -/
def judgeDec (m : Mach) (g n : Nat) : Mach :=
  let s := m.axS g
  let judged := s.decNew && decide (0 < s.v * (s.tgt - (m.axA g).p))
  let raise := judged && !m.stopsAt g s.tgt
  let m := m.modAxS g fun s => { s with decNew := false, raised := if judged then raise else s.raised && s.v ≠ 0 }
  if raise then (m.wr (P.axis g) F.AXIS_STAT_DECEL_RAISED 1).motionEvent g 8 0x07 n else m

/-- Linear braking towards the target at max(DEC, v² / (2d)), to the target where that is v² / (2d) (R336, R338) (log entry 20). -/
def landLinear (m : Mach) (g n : Nat) : Mach :=
  let s := m.axS g
  let vn := s.v.natAbs
  let dn := (s.tgt - (m.axA g).p).natAbs
  let least := vn * vn * 65536 / (2 * dn)
  let land := decide (m.decel g * 65536 ≤ least)
  let a := max (m.decel g * 65536) least
  m.modAxS g fun s =>
    { s with a := (if s.v < 0 then 1 else -1) * (a : Int), t0 := n, land,
             te := some (n + (if land then (2 * dn * 500000000 + (vn * 65536 - 1)) / (vn * 65536) else (vn * 500000000 + (a - 1)) / a)) }

/-- The largest `r` below `2 ^ k` more than given and at most `top` for which `ok` holds, `ok` holding below it. -/
def largest (ok : Nat → Bool) (top : Nat) : Nat → Nat → Nat
  | 0, r => r
  | k + 1, r => largest ok top k (if decide (r + 2 ^ k ≤ top) && ok (r + 2 ^ k) then r + 2 ^ k else r)

/-- The S-curve tick of an axis that stands or moves towards its target: the largest acceleration within the change that JERK allows, at most
the one towards VMAX, from which it can still stop at the target; the last microsteps are closed at a speed that one change of JERK gives
(R335, R336) (log entry 20). -/
def planCurve (m : Mach) (g n : Nat) : Mach :=
  let pk := P.axis g
  let s := m.axS g
  let d := s.tgt - (m.axA g).p
  let sg : Int := if d < 0 then -1 else 1
  let v := sg * s.v
  let dec := m.decel g
  let step : Int := m.jerk g * 65536 / 250000
  let hi := clampI (sg * s.a - step) (sg * s.a + step) (trapezoid v (m.rd pk F.AXIS_VMAX_V * 65536) (max 1 (m.rd pk F.AXIS_ACC_A)) dec)
  let low := clampI (sg * s.a - step) (sg * s.a + step) (-(dec : Int) * 65536)
  let lo := min hi (if v = 0 then max 0 low else low)
  let ok := fun (a : Int) =>
    let v1 := sg * glideV s.v (sg * a) 2000
    let d1 := sg * (s.tgt - glide (m.axA g).p s.v (sg * a) 2000)
    decide (v1 ≤ 0) || decide (stopDist v1 a dec (m.jerk g) ≤ d1)
  let close := 2 * ((d.natAbs + 65535) / 65536 * 250000 - v) * 250000
  let a := if decide (lo ≤ close ∧ close ≤ hi ∧ v * 250000 + close ≤ step) then close
    else if ok hi then hi else lo + largest (fun r => ok (lo + r)) (hi - lo).toNat 64 0
  m.modAxS g fun s =>
    { s with a := sg * a, t0 := n, land := false,
             te := if 0 < v ∧ a < 0 ∧ v * 250000 ≤ -a then some (n + ((v * 500000000 + (-a - 1)) / -a).toNat) else none }

/-- The tick of a position move (R335–R338, R344). Motion that a tripped limit blocks does not begin (log entry 123). -/
def planPosition (m : Mach) (g n : Nat) : Mach :=
  let d := (m.axS g).tgt - (m.axA g).p
  let m := if (m.axS g).v = 0 then m.modAxS g fun s => { s with passing := false } else m
  let s := m.axS g
  if d = 0 && s.v = 0 then m.arrive g
  else if s.passing || decide (s.v * d < 0) || m.blocked g d then (m.modAxS g fun s => { s with decNew := false }).segment g n 0 false
  else
    let m := m.judgeDec g n
    let s := m.axS g
    if s.raised || (m.jerk g = 0 && decide (2 * m.decel g * d.natAbs ≤ s.v.natAbs * s.v.natAbs)) then m.landLinear g n
    else if m.jerk g = 0 then
      let top := min (m.rd (P.axis g) F.AXIS_VMAX_V * 65536) (maxSpeed (m.decel g) d.natAbs 39 0)
      m.segment g n (if d < 0 then -(top : Int) else top) false
    else m.planCurve g n

/-- The tick of an axis that runs at a velocity (R335, R344, R345, R358) (log entry 123). -/
def planVelocity (m : Mach) (g n : Nat) : Mach :=
  let pk := P.axis g
  let s := m.axS g
  let vmax : Int := m.rd pk F.AXIS_VMAX_V * 65536
  let away : Bool := m.flag pk F.AXIS_HOME_CFG_SEEK_NEG
  let vd := match s.mode with
    | .vel => let v := clampI (-vmax) vmax s.vt
              if m.blocked g v then 0 else v
    | .paced => let v := clampI (-vmax) vmax (s.paced.getD 0)
                if m.blocked g v then 0 else v
    | .home => match m.homePhase g with
      | 1 => (if away then -1 else 1) * (m.rd pk F.AXIS_HOME_V_V * 65536 : Int)
      | 3 => (if away then 1 else -1) * (m.rd pk F.AXIS_CREEP_V * 65536 : Int)
      | _ => 0
    | _ => 0
  let ends := s.mode = .stop || s.mode = .release || (s.mode = .home && m.homePhase g % 2 = 0)
  if vd = 0 && s.v = 0 && ends then m.standstill g n else m.segment g n vd false

/-- The planner's tick of an axis at instant `n` (R329, R335): what the host wrote takes effect, and the next segment is chosen. -/
def axisTick (m : Mach) (g n : Nat) : Mach :=
  if !m.axLive g then m
  else
    let pk := P.axis g
    let m := m.axisRun g n
    let s := m.axS g
    if s.mode = .edec then m
    else if !m.mayMove g then
      (m.stand g n).modAxS g fun s => { s with pendGo := false, pendStop := false, decNew := false,
                                               mode := if s.mode = .home then .home else .idle }
    else
      let m := if s.pendStop then
          m.modAxS g fun s => { s with mode := .stop, pendStop := false, raised := false, passing := false,
                                       pacedOff := s.pacedOff || s.paced.isSome }
        else if s.pendGo then
          let tgt := m.rdS48 pk F.AXIS_TARGET_LO_TARGET F.AXIS_TARGET_HI_TARGET * 2 ^ 32
          let near := m.stopsAt g tgt
          m.modAxS g fun s =>
            { s with mode := if m.flag pk F.AXIS_MODE_VEL then .vel else .pos, pendGo := false, raised := false, decNew := false, tgt,
                     passing := decide (s.v ≠ 0) && !near,
                     vt := m.rdS48 pk F.AXIS_VTARGET_LO_VTARGET F.AXIS_VTARGET_HI_VTARGET }
        else if m.paced g then m.modAxS g fun s => { s with mode := .paced }
        else m
      match (m.axS g).mode with
      | .idle => m.modAxS g fun s => { s with decNew := false, t0 := n }
      | .pos => m.planPosition g n
      | _ => (m.modAxS g fun s => { s with decNew := false }).planVelocity g n

/-- A microstep event placed at instant `n` of the tile's time base, if the commanded position has crossed an integer by then. -/
def microstepEvent (m : Mach) (g n : Nat) : Mach :=
  let m := m.advance (g / 2) n
  if m.axLive g then m.axisRun g (m.now (g / 2)) else m

/-! ### Encoder and current level (R333, R334) -/

/-- A count moved by one in quadrature order. -/
def encStep (m : Mach) (g : Nat) (up : Bool) : Mach :=
  let inv := m.flag (P.axis g) F.AXIS_CFG_ENC_INV
  m.modAxA g fun a => { a with enc := toS 48 (ofS 48 (a.enc + (if up != inv then 1 else -1))) }

/-- The encoder counts: ENC_EN = 1 and MOT on (R334). -/
def encCounts (m : Mach) (g : Nat) : Bool := m.axLive g && m.flag (P.axis g) F.AXIS_CFG_ENC_EN

/-- A qualified change of A or B. -/
def encoderStep (m : Mach) (g : Nat) (up : Bool) : Mach := if m.encCounts g then m.encStep g up else m

/-- A sample in which both A and B qualify a change. -/
def encoderError (m : Mach) (g : Nat) : Mach :=
  if m.encCounts g then ((m.inc (P.axis g) F.AXIS_ENC_ERR_COUNT).raise (P.axis g) 9).setUncertain g 5 else m

/-- A qualified rising edge of Z. -/
def encoderIndex (m : Mach) (g : Nat) : Mach :=
  if m.encCounts g then m.wr2 (P.axis g) F.AXIS_ZLATCH_LO_ENC F.AXIS_ZLATCH_HI_ENC (ofS 48 (m.axA g).enc) else m

/-- HOLD_DLY has passed without a microstep event, whether the axis moves or stands (R333). -/
def holdTimeout (m : Mach) (g : Nat) : Mach :=
  if !m.axLive g then m
  else
    let due := fun (m : Mach) => (m.axS g).lastEv + m.rd (P.axis g) F.AXIS_IREF_LVL_HOLD_DLY * 500000
    let m := m.advance (g / 2) (due m)
    let m := m.axisRun g (m.now (g / 2))
    if due m ≤ m.now (g / 2) then m.wr (P.axis g) F.AXIS_STAT_HOLD_CUR 1 else m

/-- 2^40 cos(2π k / 1,024), rounded, by the power series in units of 2^-64. -/
def cosTurn (k : Nat) : Int :=
  let x : Int := 115904311329233965478 * (k % 1024) / 1024
  let r := (List.range 40).foldl (fun (s : Int × Int) (i : Nat) =>
    (s.1 + s.2, -(s.2 * x / 2 ^ 64 * x / 2 ^ 64) / ((2 * i + 1) * (2 * i + 2) : Nat))) (0, 2 ^ 64)
  (r.1 + 2 ^ 23) / 2 ^ 24

/-- Active ticks of a period of AXc_IREF_A (`b = false`) or AXc_IREF_B (R333). -/
def irefActive (m : Mach) (g : Nat) (b : Bool) : Nat :=
  let pk := P.axis g
  let per : Int := m.rd pk F.AXIS_IREF_PER_PER
  let lv : Int := m.rd pk (if m.flag pk F.AXIS_STAT_HOLD_CUR then F.AXIS_IREF_LVL_HOLD else F.AXIS_IREF_LVL_RUN)
  if !m.live (g / 2) D.mot then 0
  else match m.rd pk F.AXIS_CFG_IREF_MODE with
  | 1 => (rdiv (per * lv) 255).toNat
  | 2 => (rdiv (per * (255 * 2 ^ 40 + lv * cosTurn ((m.axA g).idx + (if b then 768 else 0)))) (510 * 2 ^ 40)).toNat
  | _ => 0

/-! ### Registers (R352) -/

/-- The pulse period at VMAX holds STEP_HI and STEP_LO (R331). -/
def stepOk (shift vmax hi lo : Nat) : Bool := vmax = 0 || decide ((hi + lo) * vmax ≤ 2 ^ shift * 500000000)

/-- `CTRL.FORGET` (R350). -/
def forget (m : Mach) (g : Nat) : Mach :=
  if m.moving g || m.flag (P.axis g) F.AXIS_CTRL_DRV_EN then m.refuse (P.axis g) 12
  else (m.modClu g fun c => { c with axisAon := {} }).modAxS g fun s => { s with tgt := 0 }

/-- `CTRL.SNAP` (R352). -/
def axisSnap (m : Mach) (g : Nat) : Mach :=
  let pk := P.axis g
  let n := m.now (g / 2)
  let m := m.axisRun g n
  let m := m.wr2 pk F.AXIS_SNAP_T_LO_N F.AXIS_SNAP_T_HI_N n
  let m := m.wr2 pk F.AXIS_SNAP_POS_LO_POS F.AXIS_SNAP_POS_HI_POS (ofS 48 (m.axA g).pos)
  let m := m.wr2 pk F.AXIS_SNAP_VEL_LO_VEL F.AXIS_SNAP_VEL_HI_VEL (ofS 48 (m.axS g).v)
  m.wr2 pk F.AXIS_SNAP_ENC_LO_ENC F.AXIS_SNAP_ENC_HI_ENC (ofS 48 (m.axA g).enc)

/-- A write of `AXIS.CTRL`: DRV_EN is taken, then each action bit is judged on the state in force (R342, R363) (log entry 89). -/
def writeAxisCtrl (m : Mach) (g : Nat) (v : Word) : Mach :=
  let pk := P.axis g
  let n := v.toNat
  if m.flag pk F.AXIS_CTRL_DRV_EN && !bit n 0 && m.moving g then m.refuse pk 12
  else
    let m := m.wr pk F.AXIS_CTRL_DRV_EN n
    let m := if bit n 7 then m.axisSnap g else m
    let m := if bit n 6 then m.chatClr g else m
    let m := if bit n 5 then m.forget g else m
    let m := if bit n 4 then m.homeGo g else m
    let m := if bit n 3 then m.axisEstop g else m
    let m := if bit n 2 then m.axisStop g else m
    if bit n 1 then m.axisGo g else m

/-- `PAGE_CTRL.ENABLE` of an AXIS page written 0 while the axis moves (R340): an EDEC stop, at whose end the page disables (log entry 93). -/
def axisDisable (m : Mach) (g : Nat) : Mach :=
  let m := m.wr (P.axis g) F.AXIS_STAT_HOME_PHASE 0
  let m := if (m.axS g).mode = .edec then m else m.axisEdec g 6
  if m.moving g then m.modAxS g fun s => { s with offAfter := true } else m.wr (P.axis g) F.PAGE_CTRL_ENABLE 0

/-- A write to a register of page AXIS that has a behaviour of its own. -/
def writeAxis (m : Mach) (g off : Nat) (v : Word) : Option Mach :=
  let pk := P.axis g
  let refuse := some (m.refuse pk 12)
  let step := fun (m' : Mach) => stepOk (m'.rd pk F.AXIS_CFG_STEP_SHIFT) (m'.rd pk F.AXIS_VMAX_V)
    (m'.rd pk F.AXIS_STEP_TIM_STEP_HI) (m'.rd pk F.AXIS_STEP_TIM_STEP_LO)
  let new := m.genericWrite pk off v
  match off with
  | 0x040 =>
    if m.moving g || fieldOf v F.AXIS_CFG_IREF_MODE = 3 || decide (8 < fieldOf v F.AXIS_CFG_STEP_SHIFT) || !step new then refuse
    else none
  | 0x044 => some (m.writeAxisCtrl g v)
  | 0x054 | 0x058 =>
    if 262144000000 < (new.rdS48 pk F.AXIS_VTARGET_LO_VTARGET F.AXIS_VTARGET_HI_VTARGET).natAbs then refuse else none
  | 0x05C => if 4000000 < fieldOf v F.AXIS_VMAX_V || !step new then refuse else none
  | 0x064 => if m.rd pk F.AXIS_EDEC_A < v.toNat then refuse
    else some (new.modAxS g fun s => { s with decNew := true })
  | 0x068 => if v.toNat < m.rd pk F.AXIS_DEC_A then refuse else none
  | 0x070 => if 4000000 < fieldOf v F.AXIS_HOME_V_V then refuse else none
  | 0x074 => if 4000000 < fieldOf v F.AXIS_CREEP_V then refuse else none
  | 0x088 =>
    if fieldOf v F.AXIS_STEP_TIM_DIR_HOLD = 0 || fieldOf v F.AXIS_STEP_TIM_DIR_SU = 0 || fieldOf v F.AXIS_STEP_TIM_STEP_LO = 0 ||
        fieldOf v F.AXIS_STEP_TIM_STEP_HI = 0 || !step new then refuse
    else none
  | 0x090 => if fieldOf v F.AXIS_LIM_FILT_CHAT_THR = 0 then refuse else none
  | 0x094 => if fieldOf v F.AXIS_IREF_PER_PER < 50 then refuse else none
  | _ => none

/-- AXIS registers that are computed when read: CTRL.HOME_GO, STAT and INDEX (R352). -/
def axisRead (m : Mach) (g off : Nat) : Option Word :=
  match off with
  | 0x044 => some (BitVec.ofNat 32 (putBit (m.word (P.axis g) off).toNat 4 (m.homePhase g ≠ 0)))
  | 0x0A0 => some (BitVec.ofNat 32 (m.axisStat g))
  | 0x0A4 => some (BitVec.ofNat 32 (m.axA g).idx)
  | _ => none

/-- Motion ends without braking: step output stops, the position stays (R89, R340). -/
def axisCut (m : Mach) (g : Nat) : Mach :=
  m.modAxS g fun s => { lim := s.lim, noisy := s.noisy, drvFault := s.drvFault, tgt := (m.axA g).p, t0 := m.now (g / 2),
                           lastEv := s.lastEv }

/-- Soft reset of AXIS (R340, R349). -/
def softResetAxis (m : Mach) (g : Nat) : Mach :=
  let m := m.axisRun g (m.now (g / 2))
  let was := m.moving g
  let m := (m.axisCut g).softResetPage (P.axis g)
  if was then m.setUncertain g 2 else m

/-- The time base of the axis is stepped: its segment and its last pulses keep their place in time. -/
def axisRebase (m : Mach) (g n : Nat) : Mach := m.modAxS g fun s =>
  { s with t0 := n, te := s.te.map fun e => n + (e - s.t0), dirAt := s.dirAt.map fun c => n + c - s.t0,
           lastPulse := s.lastPulse.map fun l => n + l - s.t0, lastEv := n + s.lastEv - s.t0 }

end Sys2Proof.Machine.Mach
end

