-- ==== Sys2Proof/Machine/Pace.lean ====
section
/-!
DEFINITION. The pace loop (R353–R364), the planner's tick of the whole part (R329): position samples, factors, hold transitions
(R138), paced targets and axis planning; and page PACE.
-/

namespace Sys2Proof.Machine.Mach

def paceHand (m : Mach) (t h : Nat) : PaceHand := vget (m.tile t).pace h
def modPace (m : Mach) (t h : Nat) (f : PaceHand → PaceHand) : Mach :=
  m.modTile t fun ts => { ts with pace := vmod ts.pace h f }

/-- A hand is formed (R134). -/
def formed (m : Mach) (h : Nat) : Bool := m.flag P.mode (F.MODE_HAND_CFG_VALID.nth h)

/-- Member tiles of a hand. -/
def memberTiles (m : Mach) (h : Nat) : List Nat :=
  (List.range 8).filter fun t => (m.members h).any fun g => g / 2 = t

/-- The pace loop of a tile runs: MOT on, page enabled (R97, R361). -/
def paceLive (m : Mach) (t : Nat) : Bool := m.live t D.mot && m.enabled (P.pace t)

/-! ### Position samples (R25, R329) -/

/-- The position sample of an armed hand at instant `n`, in 2^-16 position units (log entry 45). -/
def takeSample (m : Mach) (h : Nat) : Mach :=
  let g := m.rd P.mode (F.MODE_HAND_CFG_POS_CLUSTER.nth h)
  let kind := m.rd P.mode (F.MODE_HAND_CFG_POS_KIND.nth h)
  let n := m.now (g / 2)
  if !m.handArmed h || !m.awake (g / 2) || !m.inThisView (g / 2) || decide (2 ≤ kind) then m
  else
    let m := m.axisRun g n
    let q : Int := if kind = 0 then (m.axA g).enc * 65536 else rshr (m.axA g).p 16
    m.modHand h fun s => { s with sample := some (n, q) }

/-! ### Credit level and factors (R354, R355) -/

/-- Queue `q` of tile `t` counts for hand `h` (R354). -/
def counted (m : Mach) (t h q : Nat) : Bool :=
  let pk := P.outf t
  m.actFlag pk (F.OUTF_STR_CFG_EN.nth q) && (m.members h).contains (2 * t + m.act pk (F.OUTF_STR_CFG_SRC.nth q)) &&
  !((m.kit t).spilling && m.flag (P.que t) (F.QUE_Q_CFG_SPILL_OK.nth q))

/-- Credit level C of a hand on a tile; `none` when no queue is counted. -/
def creditLevel (m : Mach) (t h : Nat) : Option Nat :=
  ((List.range 8).filter (m.counted t h)).foldl (fun c q =>
    let x := (if m.flag (P.hostp t) F.HOSTP_STAT_LINK then (m.queue t q).dcred else 0) + m.queFree t q / 64
    match c with | none => some x | some y => some (min x y)) none

/-- The credit factor fc. -/
def creditFactor (m : Mach) (t : Nat) : Option Nat → Nat
  | none => 32768
  | some c =>
    let lo := m.rd (P.pace t) F.PACE_CREDIT_C_LOW
    min 32768 (32768 * (c - lo) / (m.rd (P.pace t) F.PACE_CREDIT_C_HIGH - lo))

/-- The spill factor fs. -/
def spillFactor (m : Mach) (t : Nat) : Nat :=
  let stop := m.act (P.pace t) F.PACE_SPILL_STOP_CELLS
  let low := m.rd (P.kitty t) F.KITTY_DRAM_LOW_CELLS
  let free := m.dramFree t
  if !(m.kit t).spilling then 32768
  else if stop < low then min 32768 (32768 * (free - stop) / (low - stop))
  else if stop < free then 32768 else 0

/-! ### Pace events (R362) -/

/-- F as `FACTORc` shows it for the hand on the tile. -/
def shownF (m : Mach) (t h : Nat) : Nat :=
  match (m.members h).find? fun g => g / 2 = t with
  | some g => m.rd (P.pace t) (F.PACE_FACTOR_F_HAND.nth (g % 2))
  | none => 0

/-- A pace event of a hand with its INT_RAW bit and its trick. -/
def paceEvent (m : Mach) (t h code : Nat) : Mach :=
  let pk := P.pace t
  let c := match (m.members h).find? fun g => g / 2 = t with | some g => g % 2 | none => 0
  let fs := m.rd pk (F.PACE_LEVEL_FS.nth c)
  let cl := m.rd pk (F.PACE_LEVEL_C.nth c)
  let fc := m.creditFactor t (m.creditLevel t h)
  let payload := leBytes 2 (m.shownF t h) ++ leBytes 2 fc ++ leBytes 2 fs ++ leBytes 2 cl ++ leBytes 4 (m.dramFree t) ++ leBytes 4 0
  (m.raise pk (code - 1)).emitEvent t 0x03 4 pk F.PACE_EVT_LOST_COUNT (some 4)
    { hdr := eventHdr 5 h code 0 (m.now t) 16, payload }

/-! ### The tick (R354–R358) -/

/-- A field of a PACE register written for every cluster of tile `t` that is a member of hand `h`. -/
def showPace (m : Mach) (t h : Nat) (f : Field) (v : Nat) : Mach :=
  [0, 1].foldl (fun m c => if (m.members h).contains (2 * t + c) then m.wr (P.pace t) (f.nth c) v else m) m

/-- Tile `t` forms its factor for hand `h` and sends it. With no queue counted the level C is not stated: a free value (log entry 3). -/
def paceForm (m : Mach) (t h : Nat) : Mach :=
  let lvl := m.creditLevel t h
  let fc := m.creditFactor t lvl
  let fs := m.spillFactor t
  let f := min fc fs
  let r := match lvl with | some c => (min c 0xFFFF, m) | none => ((m.freeNat).1 % 65536, (m.freeNat).2)
  let m := (((r.2.showPace t h F.PACE_FACTOR_F_TILE f).showPace t h F.PACE_LEVEL_FS fs).showPace t h F.PACE_LEVEL_C r.1)
  let was := (m.paceHand t h).fs
  let m := m.modPace t h fun s => { s with mine := (f :: s.mine).take 3, fs }
  if fs < 32768 && was = 32768 then m.paceEvent t h 3 else m

/-- The value of member tile `u` that tile `t` uses at this tick: what `u` computed two ticks ago, if it can be reached; else its
previous value, until it is left out (R356) (log entry 99). -/
def paceValue (m : Mach) (t h u : Nat) : Option Nat :=
  let new := if m.reaches t u && m.paceLive u then (m.paceHand u h).mine[2]? else none
  match new with
  | some f => some f
  | none =>
    if bit (m.rd (P.pace t) F.PACE_LEFT_OUT_TILES) u then none
    else ((m.paceHand t h).prev.find? fun e => e.1 = u).map Prod.snd

/-- Tile `t` collects the factors of the hand's member tiles: values used, ticks missing, tiles that return (R356) (log entry 99). -/
def paceCollect (m : Mach) (t h : Nat) : Mach :=
  let fs := (m.memberTiles h).filterMap (m.paceValue t h)
  let m := (m.memberTiles h).foldl (fun m u =>
    let new := if m.reaches t u && m.paceLive u then (m.paceHand u h).mine[2]? else none
    let left := m.rd (P.pace t) F.PACE_LEFT_OUT_TILES
    match new with
    | some f => (m.modPace t h fun s => { s with prev := s.prev.put u f, miss := s.miss.erase u }).wr (P.pace t)
        F.PACE_LEFT_OUT_TILES (putBit left u false)
    | none => m.modPace t h fun s => { s with miss := s.miss.put u (min 3 (Store.get 0 s.miss u + 1)) }) m
  m.showPace t h F.PACE_FACTOR_F_HAND (fs.foldl min 32768)

/-- A member tile's values have been missing for three consecutive ticks (R356) (log entry 99). -/
def levelLost (m : Mach) (t u : Nat) : Mach :=
  let pk := P.pace t
  match (List.range 16).find? fun h => m.formed h && (m.memberTiles h).contains t && (m.memberTiles h).contains u &&
      decide (3 ≤ Store.get 0 (m.paceHand t h).miss u) with
  | none => m
  | some h =>
    if !m.paceLive t || bit (m.rd pk F.PACE_LEFT_OUT_TILES) u then m
    else (m.wr pk F.PACE_LEFT_OUT_TILES (putBit (m.rd pk F.PACE_LEFT_OUT_TILES) u true)).paceEvent t h 4

/-- HOLD_PACE after tile `t` has acted on F, from its value `was` before the tick (R357). -/
def paceActs (m : Mach) (t h : Nat) (was : Bool) : Bool :=
  let f := m.shownF t h
  if f = 0 then true else if m.act (P.pace t) F.PACE_RESUME_F ≤ f then false else was

/-- The hand's member tiles act on F: changes of HOLD_PACE, counted and reported by each tile (R357). -/
def paceHold (m : Mach) (h : Nat) : Mach :=
  if m.handState h < 3 then m
  else
    let was := m.flag P.mode (F.MODE_HAND_STAT_HOLD_PACE.nth h)
    (m.memberTiles h).foldl (fun m t =>
      if !m.paceLive t || !m.inThisView t then m
      else
        let new := m.paceActs t h was
        if new = was then m
        else ((m.inc (P.pace t) F.PACE_HOLDS_COUNT).wrb P.mode (F.MODE_HAND_STAT_HOLD_PACE.nth h) new).paceEvent t h
          (if new then 1 else 2)) m

/-- SCAN and HOLD follow the two hold causes at a tick (R138); leaving HOLD ends a paced axis's release (R341). -/
def holdStep (m : Mach) (h : Nat) : Mach :=
  let st := F.MODE_HAND_STAT_STATE.nth h
  let hold := m.flag P.mode (F.MODE_HAND_STAT_HOLD_PACE.nth h) || m.flag P.mode (F.MODE_HAND_STAT_HOLD_HOST.nth h)
  if m.handState h = 3 && hold then (m.wr P.mode st 4).raise P.mode 1
  else if m.handState h = 4 && !hold then
    (m.followers h).foldl (fun m g =>
      if (m.axS g).paced.isSome then
        (m.modAxS g fun s => { s with pacedOff := false }).wr (P.axis g) F.AXIS_STAT_ESTOPPED 0
      else m) ((m.wr P.mode st 3).raise P.mode 1)
  else m

/-- The pace loop drives cluster `g`'s axis (R353). -/
def paceDrives (m : Mach) (g : Nat) : Bool :=
  m.paceLive (g / 2) && m.flag (P.pace (g / 2)) (if g % 2 = 0 then F.PACE_CFG_AX0_EN else F.PACE_CFG_AX1_EN) &&
  m.armed g && !m.idleMember g &&
  (match (m.clu g).cut with
   | some c => decide (3 ≤ c.state)
   | none => match m.handOf g with | some h => decide (3 ≤ m.handState h) | none => false)

/-- Scan velocity of cluster `g` in force (R364). -/
def vscan (m : Mach) (g : Nat) : Int :=
  let pk := P.pace (g / 2)
  toS 48 (if g % 2 = 0 then m.act2 pk F.PACE_VSCAN0_LO_V F.PACE_VSCAN0_HI_V else m.act2 pk F.PACE_VSCAN1_LO_V F.PACE_VSCAN1_HI_V)

/-- The paced velocity target (R358). -/
def pacedTarget (m : Mach) (g : Nat) : Int :=
  let pk := P.pace (g / 2)
  match m.handOf g with
  | none => 0
  | some h =>
    if m.flag P.mode (F.MODE_HAND_STAT_HOLD_PACE.nth h) || m.flag P.mode (F.MODE_HAND_STAT_HOLD_HOST.nth h) then 0
    else
      let k := max (((m.vscan g).natAbs * m.rd pk (F.PACE_FACTOR_F_HAND.nth (g % 2)) + 16384) / 32768) (m.act pk F.PACE_VMIN_V * 65536)
      if m.vscan g < 0 then -(k : Int) else k

/-- The axis is no longer driven by the pace loop: it ramps to a stop at DEC (R138, R340). -/
def paceRelease (m : Mach) (g : Nat) : Mach :=
  if (m.axS g).paced.isSome then
    m.modAxS g fun s => { s with paced := none, pacedOff := false, mode := if s.mode = .paced then .release else s.mode }
  else m

/-- Every axis takes its paced target, or is released. -/
def paceAxis (m : Mach) (g : Nat) : Mach :=
  if m.paceDrives g then m.modAxS g fun s => { s with paced := some (m.pacedTarget g) } else m.paceRelease g

/-- The tick of the formed hands and paced axes of one segment (R354): samples, factors, holds, targets. -/
def segmentTick (m : Mach) : Mach :=
  let hands := (List.range 16).filter m.formed
  let tiles := fun (m : Mach) h => (m.memberTiles h).filter fun t => m.paceLive t && m.inThisView t
  let m := hands.foldl takeSample m
  let m := hands.foldl (fun m h => (tiles m h).foldl (fun m t => m.paceForm t h) m) m
  let m := hands.foldl (fun m h => (tiles m h).foldl (fun m t => m.paceCollect t h) m) m
  let m := hands.foldl paceHold m
  let m := hands.foldl holdStep m
  (List.range 16).foldl (fun m g => if m.inThisView (g / 2) then m.paceAxis g else m) m

/-- The planner's tick of the part at its next multiple of 2,000 (R329): every segment's hands, then every axis plans (log entry 6). -/
def plannerTick (m : Mach) : Mach :=
  match (List.range 8).find? m.awake with
  | none => m
  | some t0 =>
    let m := m.advance t0 ((m.now t0 / 2000 + 1) * 2000)
    let m := m.islandDeclarers.foldl (fun m d => m.inView d segmentTick) m.segmentTick
    (List.range 16).foldl (fun m g => m.axisTick g (m.now (g / 2))) m

/-- A hand's pace state starts anew when it is formed (R356). -/
def paceForms (m : Mach) (h : Nat) : Mach := (List.range 8).foldl (fun m t => m.modPace t h fun _ => {}) m

/-- TO_READY: HOLD_PACE is cleared, which each pace loop of the hand counts and reports (R357, R138), and every axis is released. -/
def paceReady (m : Mach) (h : Nat) : Mach :=
  let was := m.flag P.mode (F.MODE_HAND_STAT_HOLD_PACE.nth h)
  let m := m.wr P.mode (F.MODE_HAND_STAT_HOLD_PACE.nth h) 0
  let m := if !was then m else (m.memberTiles h).foldl (fun m t =>
    if m.paceLive t then (m.inc (P.pace t) F.PACE_HOLDS_COUNT).paceEvent t h 2 else m) m
  (m.followers h).foldl paceRelease m

/-! ### Page PACE (R364) -/

/-- A hand with a paced axis on the tile is armed. -/
def pacedArmed (m : Mach) (t : Nat) : Bool :=
  (m.flag (P.pace t) F.PACE_CFG_AX0_EN && m.armed (2 * t)) || (m.flag (P.pace t) F.PACE_CFG_AX1_EN && m.armed (2 * t + 1))

/-- A write to a register of page PACE that has a behaviour of its own. -/
def writePace (m : Mach) (t off : Nat) (v : Word) : Option Mach :=
  let refuse := some (m.refuse (P.pace t) 5)
  match off with
  | 0x040 => if m.pacedArmed t then refuse else none
  | 0x044 | 0x048 =>
    if 262144000000 < (toS 48 ((m.genericWrite (P.pace t) off v).rd2 (P.pace t) F.PACE_VSCAN0_LO_V F.PACE_VSCAN0_HI_V)).natAbs then refuse
    else none
  | 0x04C | 0x050 =>
    if 262144000000 < (toS 48 ((m.genericWrite (P.pace t) off v).rd2 (P.pace t) F.PACE_VSCAN1_LO_V F.PACE_VSCAN1_HI_V)).natAbs then refuse
    else none
  | 0x054 => if m.pacedArmed t || decide (fieldOf v F.PACE_CREDIT_C_HIGH ≤ fieldOf v F.PACE_CREDIT_C_LOW) then refuse else none
  | 0x058 => if fieldOf v F.PACE_RESUME_F = 0 || decide (32768 < fieldOf v F.PACE_RESUME_F) then refuse else none
  | 0x05C => if 4000000 < fieldOf v F.PACE_VMIN_V then refuse else none
  | _ => none

/-- Soft reset of PACE: factors start anew and its axes are released. -/
def softResetPace (m : Mach) (t : Nat) : Mach :=
  let m := (m.modTile t fun ts => { ts with pace := Vector.replicate 16 {} }).softResetPage (P.pace t)
  (m.paceRelease (2 * t)).paceRelease (2 * t + 1)

/-- ARM conditions of R361 for member `g` of hand `h`. -/
def paceArmOk (m : Mach) (h g : Nat) : Bool :=
  let t := g / 2
  let en := fun c => m.flag (P.pace t) (if c = 0 then F.PACE_CFG_AX0_EN else F.PACE_CFG_AX1_EN)
  !en (g % 2) ||
    (decide (m.rd P.mode (F.MODE_HAND_CFG_POS_KIND.nth h) ≤ 1) && m.domOn t D.mot && m.enabled (P.axis g) && m.moveSettings g &&
     decide ((m.vscan g).natAbs ≤ m.rd (P.axis g) F.AXIS_VMAX_V * 65536) &&
     decide (m.act (P.pace t) F.PACE_VMIN_V ≤ m.rd (P.axis g) F.AXIS_VMAX_V) && m.enabled (P.pace t))

end Sys2Proof.Machine.Mach
end

