-- ==== Sys2Proof/Machine/Lamp.lean ====
section
/-!
DEFINITION. Illumination (R365–R392): lamp stages with boost, headroom, strobes, binning, derating, shutdown and direct drive; the lamp
chain; the pattern engines and indicator outputs; pages LAMP, LCHAIN and PATT.
-/

namespace Sys2Proof.Machine

/-- CRC-8 of R115 carried over one byte. -/
def crc8Byte (crc b : Nat) : Nat :=
  (List.range 8).foldl (fun c _ => if bit c 7 then ((2 * c) % 256) ^^^ 0x2F else (2 * c) % 256) (crc ^^^ b)

/-- CRC-8 of R115 over bytes. -/
def crc8 (bs : List Byte) : Nat := bs.foldl (fun c b => crc8Byte c b.toNat) 0xFF

namespace Mach

/-! ### Stage, boost and headroom (R365–R368) -/

def lampS (m : Mach) (g : Nat) : LampSt := (m.clu g).lamp
def modLamp (m : Mach) (g : Nat) (f : LampSt → LampSt) : Mach := m.modClu g fun c => { c with lamp := f c.lamp }

/-- The stage's domain is on, its page enabled, and REFCLK present (R74). -/
def lampOn (m : Mach) (g : Nat) : Bool := m.live (g / 2) D.lamp && m.enabled (P.lamp g) && !m.refLost

/-- String `n` is enabled (R365). -/
def strEn (m : Mach) (g n : Nat) : Bool := bit (m.rd (P.lamp g) F.LAMP_CFG_STR_EN) n

/-- `LAMP.STAT` as it reads: a strobe in progress and stale sources are taken from the stage (R383). -/
def lampStat (m : Mach) (g : Nat) : Nat :=
  let n := m.now (g / 2)
  let w := (m.word (P.lamp g) 0x0D0).toNat
  let w := putBit w 6 ((m.lampS g).strobes.any fun s => decide (s.start ≤ n) && decide (n < s.stop))
  putBit w 4 ((m.lampS g).dieStale || (m.lampS g).barStale)

/-- A lamp event as a trick (R380). `cause`: SHUT_CAUSE or BIN_ERR.CAUSE (log entry 44). -/
def lampEvent (m : Mach) (g code cause : Nat) : Mach :=
  let pk := P.lamp g
  let payload := leBytes 2 (m.rd pk F.LAMP_DER_NOW_T) ++ leBytes 2 (m.rd pk F.LAMP_DER_NOW_D) ++ leBytes 2 (m.rd pk F.LAMP_STAT_VSET) ++
    leBytes 2 (m.rd pk F.LAMP_HR_MIN_MV) ++ leBytes 4 (m.lampStat g) ++ leBytes 1 cause ++ leBytes 3 0
  let seq := (m.lampS g).seq
  (m.modLamp g fun s => { s with seq := (s.seq + 1) % 2 ^ 32 }).emitEvent (g / 2) (4 + g % 2) 4 pk F.LAMP_EVT_LOST_COUNT (some 8)
    { hdr := eventHdr 6 g code seq (m.now (g / 2)) 16, payload }

/-- The boost starts or stops as its conditions say (R366) (log entry 96). -/
def boostUpdate (m : Mach) (g : Nat) : Mach :=
  let pk := P.lamp g
  let run := m.lampOn g && m.flag pk F.LAMP_CTRL_BST_EN && !m.flag pk F.LAMP_STAT_SHUT
  if run = m.flag pk F.LAMP_STAT_BST_RUN then m
  else if run then (m.wr pk F.LAMP_STAT_BST_RUN 1).wr pk F.LAMP_STAT_VSET (m.rd pk F.LAMP_BST_V_VMIN)
  else ((m.wr pk F.LAMP_STAT_BST_RUN 0).wr pk F.LAMP_STAT_VSET 0).wr pk F.LAMP_STAT_BST_OK 0

/-- The output enters or leaves the band about VSET (R366) (log entry 96). -/
def boostOk (m : Mach) (g : Nat) (ok : Bool) : Mach :=
  if m.live (g / 2) D.lamp && m.flag (P.lamp g) F.LAMP_STAT_BST_RUN then m.wrb (P.lamp g) F.LAMP_STAT_BST_OK ok else m

/-- The headroom tracker acts on the readings (mV by string) of the line before (R368) (log entry 94). -/
def headroom (m : Mach) (g : Nat) (mv : List Nat) : Mach :=
  let pk := P.lamp g
  let xs := (m.lampS g).measured.filterMap fun n => mv[n]?
  match xs with
  | [] => m
  | x :: r =>
    let h := r.foldl min x
    let m := m.wr pk F.LAMP_HR_MIN_MV h
    let target := m.rd pk F.LAMP_HR_TARGET
    let vset := m.rd pk F.LAMP_STAT_VSET
    let vmax := m.rd pk F.LAMP_BST_V_VMAX
    let low := decide (h < target) && decide (vset = vmax)
    let m := if !m.flag pk F.LAMP_STAT_BST_RUN then m
      else if h < target then
        (m.wr pk F.LAMP_STAT_VSET (min vmax (vset + (target - h + 9) / 10))).modLamp g fun s => { s with above := 0 }
      else if target + m.rd pk F.LAMP_HR_BAND < h then
        if (m.lampS g).above = 15 then
          (m.wr pk F.LAMP_STAT_VSET (max (m.rd pk F.LAMP_BST_V_VMIN) (vset - 2))).modLamp g fun s => { s with above := 0 }
        else m.modLamp g fun s => { s with above := s.above + 1 }
      else m.modLamp g fun s => { s with above := 0 }
    if !low then m.wr pk F.LAMP_STAT_HR_LOW 0
    else
      let first := !m.flag pk F.LAMP_STAT_HR_LOW
      let m := (m.wr pk F.LAMP_STAT_HR_LOW 1).inc pk F.LAMP_HR_LOW_CNT_COUNT
      if first then (m.raise pk 2).lampEvent g 3 0 else m

/-! ### Currents and on-times (R369–R371) -/

/-- `LAMP.CURn` in force. -/
def curOf (m : Mach) (g n : Nat) : Nat :=
  let w := (m.word (P.lamp g) (0x848 + 4 * (n / 2))).toNat
  if n % 2 = 1 then bits w 27 16 else bits w 11 0

/-- `LAMP.ONp` of string `n` in force. -/
def onOf (m : Mach) (g p n : Nat) : Nat :=
  let w := (m.word (P.lamp g) (0x860 + 0xC * p + 4 * (n / 2))).toNat
  if n % 2 = 1 then bits w 31 16 else bits w 15 0

/-- Binning weight W_{n,p} (R375). -/
def binW (m : Mach) (g n p : Nat) : Nat :=
  let w := (m.word (P.lamp g) (0x0E0 + 8 * n + 4 * (p / 4))).toNat
  bits w (8 * (p % 4) + 7) (8 * (p % 4))

/-- Binning scale SCALE_n. -/
def binScale (m : Mach) (g n : Nat) : Nat := m.rd (P.lamp g) (F.LAMP_BIN_WH_SCALE.nth n)

/-- The calibration deal that the stage follows runs (R253, R373). -/
def calDeal (m : Mach) (g : Nat) : Bool := m.inDeal g && m.calibrating g

/-- S of R370. -/
def onScale (m : Mach) (g : Nat) : Nat :=
  if m.calDeal g && m.act (P.cal g) F.CAL_CFG_KIND = 2 then m.act (P.cal g) F.CAL_LAMP_SCALE_SCALE else 32768

/-- Effective on-time of string `n` in phase `p`, in ticks (R370). -/
def onTime (m : Mach) (g p n : Nat) : Nat :=
  min 65535 ((m.onOf g p n * m.binW g n p * m.onScale g + 2097152) / 4194304)

/-- Phase `p` is strobed (R371). -/
def strobed (m : Mach) (g p : Nat) : Bool :=
  m.lampOn g && (List.range 6).any fun n => m.strEn g n && decide (0 < m.onOf g p n)

/-- Phase centre in ticks from the line origin (R370). -/
def phaseCentre (m : Mach) (g p : Nat) : Nat := m.act (P.lamp g) F.LAMP_STB_CENTRE + p * m.rd (P.deal g) F.DEAL_PH_PITCH_TICKS

/-- Exposure centroid of phase `p` of a trigger at `n`, in units of 125 ps (R151, R371). -/
def centroid (m : Mach) (g n p : Nat) : Nat :=
  if m.strobed g p then 16 * n + 512 + 16 * m.phaseCentre g p else m.exposureCentroid g n p

/-- Every string's effective code formed and shown, with clamps counted (R369). -/
def formCodes (m : Mach) (g : Nat) : Mach :=
  let pk := P.lamp g
  (List.range 6).foldl (fun m n =>
    let x := (m.curOf g n * m.binScale g n * m.rd pk F.LAMP_DER_NOW_D + 536870912) / 1073741824
    let m := m.wr pk (F.LAMP_EFF_CODE.nth n) (min 4000 x)
    if 4000 < x then (m.inc pk F.LAMP_CUR_CLAMP_COUNT).raise pk 7 else m) m

/-- Strobes abandoned or cut are counted (R372). -/
def countCut (m : Mach) (g k : Nat) : Mach :=
  if k = 0 then m else (m.incBy (P.lamp g) F.LAMP_STB_CUT_COUNT k).raise (P.lamp g) 6

/-- The sinks hold the current of every strobe whose centre lies at or before `n2` halves of a tick (R394). -/
def holdCurrents (m : Mach) (g n2 : Nat) : Mach :=
  let ks := ((m.lampS g).strobes.filter fun x => decide (x.start + x.stop ≤ n2)).map Strobe.string
  m.modLamp g fun s => { s with heldCur := ks.foldl (fun a k => putBit a k true) s.heldCur }

/-- Every strobe not yet complete at `n` is cut or abandoned (R372, R379, R138). -/
def cutStrobes (m : Mach) (g : Nat) : Mach :=
  let n := m.now (g / 2)
  let k := ((m.lampS g).strobes.filter fun s => decide (n < s.stop)).length
  ((m.holdCurrents g (2 * n)).modLamp g fun s => { s with strobes := [] }).countCut g k

/-- The strobes of a line with origin `l0` (R370, R372, R373). -/
def lineStrobes (m : Mach) (g l0 : Nat) : List Strobe :=
  (List.range (m.phases g)).flatMap fun p => (List.range 6).filterMap fun n =>
    let t := m.onTime g p n
    let c := l0 + m.phaseCentre g p
    if m.strEn g n && decide (0 < t) then
      some { string := n, phase := p, start := c - t / 2, stop := c + (t + 1) / 2, code := m.rd (P.lamp g) (F.LAMP_EFF_CODE.nth n) }
    else none

/-- Of the strings to be measured, those whose strobe had started before the new line origin `l0`; an abandoned strobe measures nothing
(R368, R372). -/
def keepMeasured (m : Mach) (g l0 : Nat) : Mach :=
  let started := (m.lampS g).strobes.filter fun x => decide (250 ≤ x.stop - x.start) && decide (x.start < l0)
  m.modLamp g fun s => { s with measured := s.measured.filter fun k => started.any fun x => x.string = k }

/-- The stage at the line origin of an issued trigger at `n`: headroom on the readings of the line before, codes, strobes (R368–R373,
R379) (log entry 94). -/
def lampLine (m : Mach) (g n : Nat) (mv : List Nat) : Mach :=
  if !m.lampOn g then m
  else
    let pk := P.lamp g
    let l0 := n + 32
    let m := ((m.keepMeasured g l0).headroom g mv).formCodes g
    let late := (m.lampS g).strobes.filter fun s => decide (l0 ≤ s.start)
    let going := (m.lampS g).strobes.filter fun s => decide (s.start < l0) && decide (l0 < s.stop)
    let m := m.countCut g late.length
    let off := m.flag pk F.LAMP_STAT_SHUT || ((m.lampS g).heldOff && !m.flag pk F.LAMP_STAT_BST_OK) ||
      (m.calDeal g && m.act (P.cal g) F.CAL_CFG_KIND = 1)
    let new := if off then [] else m.lineStrobes g l0
    let m := (m.holdCurrents g (2 * l0)).modLamp g fun s =>
      { s with strobes := going ++ new, heldOff := s.heldOff && !m.flag pk F.LAMP_STAT_BST_OK,
               measured := (List.range 6).filter fun k => new.any fun x => x.string = k && decide (250 ≤ x.stop - x.start) }
    new.foldl (fun m s => m.emitOut (.strobe g s.string s.phase s.start s.stop s.code)) m

/-- The sink of string `n` holds a measured current (R394). -/
def heldCurrent (m : Mach) (g n : Nat) : Bool :=
  m.live (g / 2) D.lamp && (bit (m.lampS g).heldCur n ||
    (m.lampS g).strobes.any fun x => x.string = n && decide (x.start + x.stop ≤ 2 * m.now (g / 2)))

/-! ### Temperature, derating, shutdown (R377–R379) -/

/-- Lamp-bar temperature and die temperature in 1/16 °C. -/
def barT (m : Mach) (g : Nat) : Int := m.rdS (P.lamp g) F.LAMP_DER_NOW_T
def dieT (m : Mach) (g : Nat) : Int := m.rdS (P.lamp g) F.LAMP_DIE_T_T

/-- The derating factor (R378). -/
def derating (m : Mach) (g : Nat) : Nat :=
  let pk := P.lamp g
  let knee := m.rdS pk F.LAMP_DERATE_KNEE
  if m.rd pk F.LAMP_CFG_TSRC = 0 || !m.flag pk F.LAMP_STAT_T_VALID || decide (m.barT g ≤ knee) then 32768
  else 32768 - (32768 * m.rd pk F.LAMP_DERATE_SLOPE * (m.barT g - knee).toNat + 80000) / 160000

/-- D brought up to date, with the event of a change into or out of derating. -/
def derateUpdate (m : Mach) (g : Nat) : Mach :=
  let pk := P.lamp g
  let d := m.derating g
  let was := m.flag pk F.LAMP_STAT_DERATING
  let m := m.wr pk F.LAMP_DER_NOW_D d
  if was = decide (d < 32768) then m
  else ((m.wrb pk F.LAMP_STAT_DERATING (!was)).raise pk 4).lampEvent g (if was then 6 else 5) 0

/-- The shutdown cause that holds, in the order of R379; 0 for none. -/
def shutCause (m : Mach) (g : Nat) : Nat :=
  let pk := P.lamp g
  let s := m.lampS g
  if s.dieValid && decide (2000 ≤ m.dieT g) then 2
  else if m.rd pk F.LAMP_CFG_TSRC ≠ 0 && m.flag pk F.LAMP_STAT_T_VALID && decide (m.rdS pk F.LAMP_SHUT_BAR_SHUT ≤ m.barT g) then 1
  else if m.flag pk F.LAMP_CFG_STALE_OFF && (s.dieStale || (m.rd pk F.LAMP_CFG_TSRC ≠ 0 && s.barStale)) then 3
  else 0

/-- The stage shuts down if a condition holds (R379). -/
def lampJudge (m : Mach) (g : Nat) : Mach :=
  let pk := P.lamp g
  let c := m.shutCause g
  if !m.lampOn g || c = 0 || m.flag pk F.LAMP_STAT_SHUT then m
  else
    let m := (m.wr pk F.LAMP_STAT_SHUT 1).wr pk F.LAMP_STAT_SHUT_CAUSE c
    let m := ((m.cutStrobes g).wr pk F.LAMP_CTRL_DIRECT 0).modLamp g fun s => { s with heldOff := true, measured := [] }
    let m := ((m.boostUpdate g).inc pk F.LAMP_SHUTS_COUNT).raise pk 0
    (m.lampEvent g 1 c).record (g / 2) 0x0B g c 0 (detail 0 2 (m.rd pk F.LAMP_DER_NOW_T) + detail 2 2 (m.rd pk F.LAMP_DIE_T_T))

/-- The conditions under which SHUT_CLR is refused (R379). -/
def shutHolds (m : Mach) (g : Nat) : Bool :=
  let pk := P.lamp g
  let hyst : Int := 16 * m.rd pk F.LAMP_SHUT_HYST
  let s := m.lampS g
  (m.rd pk F.LAMP_CFG_TSRC ≠ 0 && m.flag pk F.LAMP_STAT_T_VALID && decide (m.rdS pk F.LAMP_SHUT_BAR_SHUT - hyst ≤ m.barT g)) ||
  (s.dieValid && decide (2000 - hyst ≤ m.dieT g)) || (m.flag pk F.LAMP_CFG_STALE_OFF && (s.dieStale || s.barStale))

/-- A lamp-bar temperature is delivered. -/
def deliverBar (m : Mach) (g t : Nat) : Mach :=
  let pk := P.lamp g
  if !m.live (g / 2) D.lamp then m
  else (((m.wr pk F.LAMP_DER_NOW_T t).wr pk F.LAMP_STAT_T_VALID 1).modLamp g fun s => { s with barStale := false }).derateUpdate g
    |>.lampJudge g

/-- A die temperature is delivered to a stage. -/
def deliverDie (m : Mach) (g t : Nat) : Mach :=
  if !m.live (g / 2) D.lamp then m
  else ((m.wr (P.lamp g) F.LAMP_DIE_T_T t).modLamp g fun s => { s with dieValid := true, dieStale := false }).lampJudge g

/-- 100 ms have passed since the last delivery of a source: the die (`die`) or the selected lamp-bar source (R377). -/
def staleLamp (m : Mach) (g : Nat) (die : Bool) : Mach :=
  let pk := P.lamp g
  let s := m.lampS g
  let ok := if die then s.dieValid && !s.dieStale
    else m.rd pk F.LAMP_CFG_TSRC ≠ 0 && m.flag pk F.LAMP_STAT_T_VALID && !s.barStale
  if !m.live (g / 2) D.lamp || !ok then m
  else
    let m := m.modLamp g fun s => if die then { s with dieStale := true } else { s with barStale := true }
    ((m.raise pk 5).lampEvent g 7 0).lampJudge g

/-! ### Direct drive (R374) -/

/-- The strings that conduct in direct drive. -/
def directStrings (m : Mach) (g : Nat) : List Nat :=
  if m.lampOn g && m.flag (P.lamp g) F.LAMP_CTRL_DIRECT then
    (List.range 6).filter fun n => m.strEn g n && decide (0 < m.onOf g 0 n) else []

/-- The stage at a planner tick in direct drive: headroom and codes, a tick taking the place of a line (log entries 94, 132). -/
def lampTick (m : Mach) (g : Nat) (mv : List Nat) : Mach :=
  if m.lampOn g && m.flag (P.lamp g) F.LAMP_CTRL_DIRECT then
    let ks := m.directStrings g
    ((m.headroom g mv).formCodes g).modLamp g fun s =>
      { s with measured := ks, heldCur := ks.foldl (fun a k => putBit a k true) s.heldCur }
  else m

/-- The cluster becomes a member of a hand: direct drive ends (R374). -/
def lampMember (m : Mach) (g : Nat) : Mach :=
  if m.flag (P.lamp g) F.LAMP_CTRL_DIRECT then (m.wr (P.lamp g) F.LAMP_CTRL_DIRECT 0).modLamp g fun s => { s with measured := [] } else m

/-- DISARM: sinks stop, the boost keeps running (R138, R382). -/
def lampDisarm (m : Mach) (g : Nat) : Mach := (m.cutStrobes g).modLamp g fun s => { s with measured := [] }

/-! ### Binning (R375, R376) -/

/-- A string's binning written to its registers. -/
def setBin (m : Mach) (g n scale : Nat) (w : List Nat) : Mach :=
  let b := fun i => w.getD i 0
  (m.setWord (P.lamp g) (0x0E0 + 8 * n) (BitVec.ofNat 32 (b 0 + 2 ^ 8 * b 1 + 2 ^ 16 * b 2 + 2 ^ 24 * b 3))).setWord (P.lamp g)
    (0x0E4 + 8 * n) (BitVec.ofNat 32 (b 4 + 2 ^ 8 * b 5 + 2 ^ 16 * scale))

/-- Unity binning of a string. -/
def unityBin (m : Mach) (g n : Nat) : Mach := m.setBin g n 32768 (List.replicate 6 128)

/-- A stage at PREP: unity binning at once without an EEPROM, else its read begins (R375) (log entry 100). -/
def binStart (m : Mach) (g : Nat) : Mach :=
  let pk := P.lamp g
  if !m.lampOn g then m
  else if m.flag pk F.LAMP_CFG_EE_EN then
    (m.wr pk F.LAMP_STAT_BIN_VALID 0).modLamp g fun s => { s with reading := true }
  else ((List.range 6).foldl (fun m n => m.unityBin g n) m).wr pk F.LAMP_STAT_BIN_VALID 1

/-- What is wrong with a binning record, in the order of R376; 0 when it is accepted. -/
def binFault (rec_ : Option (List Byte)) : Nat :=
  match rec_ with
  | none => 1
  | some b =>
    let at_ := fun i => (b.getD i 0).toNat
    let nstr := at_ 3
    let scale := fun n => at_ (8 + 8 * n) + 256 * at_ (9 + 8 * n)
    if b.length ≠ 64 then 1
    else if at_ 0 ≠ 0x4C || at_ 1 ≠ 0x42 then 2
    else if at_ 2 ≠ 1 then 3
    else if nstr = 0 || decide (6 < nstr) then 4
    else if crc8 (b.take 63) ≠ at_ 63 then 5
    else if (List.range nstr).all fun n => decide (16384 ≤ scale n) && decide (scale n ≤ 49151) then 0 else 6

/-- The EEPROM binning read of a stage ends with a record, or failed (R375, R376) (log entries 100, 131). -/
def binDone (m : Mach) (g : Nat) (rec_ : Option (List Byte)) : Mach :=
  let pk := P.lamp g
  if !m.live (g / 2) D.lamp || !(m.lampS g).reading then m
  else
    let m := m.modLamp g fun s => { s with reading := false }
    let c := binFault rec_
    if c ≠ 0 then ((m.wr pk F.LAMP_BIN_ERR_CAUSE c).raise pk 3).lampEvent g 4 c
    else
      let b := rec_.getD []
      let at_ := fun i => (b.getD i 0).toNat
      let m := (List.range 6).foldl (fun m n =>
        if n < at_ 3 then m.setBin g n (at_ (8 + 8 * n) + 256 * at_ (9 + 8 * n)) ((List.range 6).map fun i => at_ (10 + 8 * n + i))
        else m.unityBin g n) m
      (m.wr pk F.LAMP_STAT_BIN_VALID 1).wr pk F.LAMP_BIN_ERR_CAUSE 0

/-! ### Page LAMP (R383) -/

/-- Registers of page LAMP that are refused while the cluster's hand is armed. -/
def lampGuarded (off : Nat) : Bool := [0x040, 0x044, 0x0C0, 0x0C4, 0x0C8].contains off

/-- The boost limits of R367 hold. -/
def boostLimits (m : Mach) (g : Nat) : Bool :=
  let pk := P.lamp g
  decide (m.rd pk F.LAMP_BST_V_VMAX * 2560 ≤ 1200 * m.rd pk F.LAMP_BST_CFG_RATIO) &&
  decide (m.rd pk F.LAMP_BST_V_VMIN ≤ m.rd pk F.LAMP_BST_V_VMAX) && decide (m.rd pk F.LAMP_BST_V_VMAX ≤ 4800)

/-- A write of `LAMP.CTRL` (R366, R374, R379) (log entries 127, 131). -/
def writeLampCtrl (m : Mach) (g : Nat) (v : Word) : Mach :=
  let pk := P.lamp g
  let n := v.toNat
  let direct := bit n 2
  let clear := bit n 3
  let badDirect := direct && ((m.handOf g).isSome || !m.flag pk F.LAMP_STAT_BIN_VALID || !m.flag pk F.LAMP_STAT_BST_OK ||
    !m.enabled pk || m.flag pk F.LAMP_STAT_SHUT)
  if badDirect || (clear && m.shutHolds g) then m.refuse pk 9
  else
    let wasShut := m.flag pk F.LAMP_STAT_SHUT
    let m := m.wrb pk F.LAMP_CTRL_BST_EN (bit n 1)
    let m := if clear && wasShut then
        (((m.wr pk F.LAMP_STAT_SHUT 0).wr pk F.LAMP_STAT_SHUT_CAUSE 0).raise pk 1).lampEvent g 2 0 else m
    let started := direct && !m.flag pk F.LAMP_CTRL_DIRECT
    let m := (m.wrb pk F.LAMP_CTRL_DIRECT direct).boostUpdate g
    let m := if direct then m else if (m.handOf g).isNone then m.modLamp g fun s => { s with measured := [] } else m
    if started then (m.formCodes g).modLamp g fun s => { s with measured := m.directStrings g } else m

/-- A write to a register of page LAMP that has a behaviour of its own (log entry 131). -/
def writeLamp (m : Mach) (g off : Nat) (v : Word) : Option Mach :=
  let pk := P.lamp g
  let refuse := some (m.refuse pk 9)
  let new := m.genericWrite pk off v
  if lampGuarded off && m.armed g then refuse
  else match off with
  | 0x040 =>
    let s := fieldOf v F.LAMP_CFG_TSRC
    if s = 5 || s = 6 then refuse
    else
      let m' := if s = m.rd pk F.LAMP_CFG_TSRC then new
        else (new.wr pk F.LAMP_STAT_T_VALID 0).modLamp g fun x => { x with barStale := false }
      some ((m'.derateUpdate g).lampJudge g)
  | 0x048 => if 4000 < fieldOf v F.LAMP_CUR01_CUR1 || 4000 < fieldOf v F.LAMP_CUR01_CUR0 then refuse else none
  | 0x04C => if 4000 < fieldOf v F.LAMP_CUR23_CUR3 || 4000 < fieldOf v F.LAMP_CUR23_CUR2 then refuse else none
  | 0x050 => if 4000 < fieldOf v F.LAMP_CUR45_CUR5 || 4000 < fieldOf v F.LAMP_CUR45_CUR4 then refuse else none
  | 0x0B0 => if 10000 < fieldOf v F.LAMP_DERATE_SLOPE then refuse else some (new.derateUpdate g)
  | 0x0B4 =>
    if fieldOf v F.LAMP_SHUT_HYST = 0 || decide (50 < fieldOf v F.LAMP_SHUT_HYST) then refuse else some (new.lampJudge g)
  | 0x0B8 => if m.rd pk F.LAMP_CFG_TSRC = 7 then some (new.deliverBar g (bits v.toNat 15 0)) else none
  | 0x0C0 =>
    if 3 < fieldOf v F.LAMP_BST_CFG_FSW_SEL || fieldOf v F.LAMP_BST_CFG_ILIM < 20 || 200 < fieldOf v F.LAMP_BST_CFG_ILIM ||
        !new.boostLimits g then refuse else none
  | 0x0C4 => if !new.boostLimits g then refuse else none
  | 0x0C8 => if fieldOf v F.LAMP_HR_TARGET < 100 || 2000 < fieldOf v F.LAMP_HR_TARGET then refuse else none
  | 0x0CC => some (m.writeLampCtrl g v)
  | _ => none

/-- `LAMP.STAT` is computed when read. -/
def lampRead (m : Mach) (g off : Nat) : Option Word := if off = 0x0D0 then some (BitVec.ofNat 32 (m.lampStat g)) else none

/-- `PAGE_CTRL.ENABLE` of a lamp stage has changed (R366, R371, R379) (log entry 131). -/
def lampEnable (m : Mach) (g : Nat) : Mach :=
  if m.enabled (P.lamp g) then (m.boostUpdate g).lampJudge g
  else ((m.cutStrobes g).wr (P.lamp g) F.LAMP_CTRL_DIRECT 0).boostUpdate g

/-- Soft reset of LAMP: sinks and boost stop, binning is lost (R372, R382). -/
def softResetLamp (m : Mach) (g : Nat) : Mach :=
  let m := (m.modLamp g fun s => { heldCur := s.heldCur }).softResetPage (P.lamp g)
  m.wr (P.lamp g) F.LAMP_CTRL_DIRECT 0

/-- ARM conditions of R381. -/
def lampArmOk (m : Mach) (g : Nat) : Bool :=
  let pk := P.lamp g
  !m.enabled pk ||
  (m.flag pk F.LAMP_STAT_BIN_VALID && m.flag pk F.LAMP_STAT_BST_OK && !m.flag pk F.LAMP_STAT_SHUT && (m.lampS g).dieValid &&
   (m.rd pk F.LAMP_CFG_TSRC = 0 || m.flag pk F.LAMP_STAT_T_VALID) &&
   (List.range (m.phases g)).all fun p =>
     !m.strobed g p || (
       let tmax := ((List.range 6).filter (m.strEn g)).foldl (fun a n => max a (m.onTime g p n)) 0
       decide (tmax / 2 ≤ m.phaseCentre g p) &&
       (m.phases g ≤ 1 || decide (tmax ≤ m.rd (P.deal g) F.DEAL_PH_PITCH_TICKS))))

/-! ### The lamp chain (R384–R387) -/

/-- The 59 bit periods of a frame, bit `i` of the number the `i`-th period (R385); the two periods of START count as ones. -/
def chainFrame (target cmd data : Nat) : Nat :=
  let crc := crc8 ([BitVec.ofNat 8 target, BitVec.ofNat 8 cmd] ++ leBytes 4 data)
  let rev := (List.range 8).foldl (fun a i => 2 * a + (bit crc i).toNat) 0
  3 + target * 2 ^ 2 + cmd * 2 ^ 17 + data * 2 ^ 19 + rev * 2 ^ 51

/-- Number of frames of a sweep. -/
def sweepLen (m : Mach) (t : Nat) (s : Sweep) : Nat := m.rd (P.lchain t) F.LCHAIN_CFG_NODES + (if s.noLatch then 0 else 1)

/-- The frame the sweep has come to: a WRITE, or the LATCH that ends it (R386). -/
def sweepFrame (m : Mach) (t : Nat) (s : Sweep) : Nat :=
  if s.frame < m.rd (P.lchain t) F.LCHAIN_CFG_NODES then chainFrame s.frame 0 (m.el (P.lchain t) s.bank s.frame)
  else chainFrame 127 1 0

/-- The frame the sweep has come to starts. -/
def sendFrame (m : Mach) (t : Nat) (s : Sweep) : Mach :=
  (m.modTile t fun ts => { ts with sweep := some { s with start := m.now t } }).emitOut (.lchain t (m.sweepFrame t s))

/-- A frame and its gap end (R385, R386). -/
def chainFrameDone (m : Mach) (t : Nat) : Mach :=
  match (m.tile t).sweep with
  | none => m
  | some s =>
    if !m.live t D.lamp then m
    else
      let pk := P.lchain t
      let m := m.incW pk F.LCHAIN_FRAMES_COUNT
      if s.frame + 1 < m.sweepLen t s then m.sendFrame t { s with frame := s.frame + 1 }
      else (m.modTile t fun ts => { ts with sweep := none }).raise pk 0

/-- LCHAIN registers that are computed when read: CMD.GO and STAT (R387). -/
def lchainRead (m : Mach) (t off : Nat) : Option Word :=
  let pk := P.lchain t
  match off, (m.tile t).sweep with
  | 0x044, s => some (BitVec.ofNat 32 (putBit (m.word pk off).toNat 0 s.isSome))
  | 0x048, none => some 0
  | 0x048, some s =>
    let sending := decide (m.now t - s.start < 29500)
    let latch := decide (m.rd pk F.LCHAIN_CFG_NODES ≤ s.frame)
    some (BitVec.ofNat 32 ((sending && latch).toNat * 4 + (!sending).toNat * 2 + sending.toNat))
  | _, _ => none

/-- A write to a register of page LCHAIN that has a behaviour of its own (log entry 127). -/
def writeLchain (m : Mach) (t off : Nat) (v : Word) : Option Mach :=
  let pk := P.lchain t
  let n := fieldOf v F.LCHAIN_CFG_NODES
  let busy := (m.tile t).sweep.isSome
  match off with
  | 0x040 =>
    if busy then some (m.errCount pk)
    else if n = 0 || decide (64 < n) || decide (fieldOf v F.LCHAIN_CFG_GAP_BITS < 2) then some (m.refuse pk 1) else none
  | 0x044 =>
    if !bit v.toNat 0 then none
    else if busy then some (m.refuse pk 1)
    else some ((m.genericWrite pk off v).sendFrame t { bank := (bit v.toNat 1).toNat, noLatch := bit v.toNat 2, frame := 0, start := 0 })
  | _ => none

/-- A write to element of bank `a` is ignored and counted while that bank is being sent (R386). -/
def chainLocked (m : Mach) (t a : Nat) : Bool := match (m.tile t).sweep with | some s => s.bank = a | none => false

/-- Soft reset of LCHAIN. -/
def softResetLchain (m : Mach) (t : Nat) : Mach := (m.modTile t fun ts => { ts with sweep := none }).softResetPage (P.lchain t)

/-! ### Pattern engines (R388–R392) -/

def stepTime (e : Nat) : Nat := max 1 (bits e 29 16)
def stepRamp (e : Nat) : Nat := bits e 9 8
def stepLevel (e : Nat) : Nat := bits e 7 0

/-- A step element may be written (R388). -/
def stepOkElem (e : Nat) : Bool := decide (0 < bits e 29 16) && decide (bits e 29 16 ≤ 16000) && decide (stepRamp e ≠ 3)

/-- The largest `n` up to `r + 2 ^ j - 1` with `(2 n - 1) ^ T ≤ 2 ^ T (a ^ (T - k)) (b ^ k)`: the exponential ramp rounded half up (log entry 95). -/
def expLevel (a b t k : Nat) : Nat → Nat → Nat
  | 0, r => r
  | j + 1, r =>
    expLevel a b t k j (if (2 * (r + 2 ^ j) - 1) ^ t ≤ 2 ^ t * a ^ (t - k) * b ^ k then r + 2 ^ j else r)

/-- Level at the `k`-th tick of a step reached from level `ls` (R389) (log entry 95). -/
def rampLevel (e ls k : Nat) : Nat :=
  let lt := stepLevel e
  let t := stepTime e
  match stepRamp e with
  | 1 => ((ls : Int) + (((lt : Int) - ls) * (2 * k) + t) / (2 * t)).toNat
  | 2 => expLevel (ls + 1) (lt + 1) t (min k t) 9 0 - 1
  | _ => lt

def eng (m : Mach) (t e : Nat) : PattEng := vget (m.tile t).patt e
def modEng (m : Mach) (t e : Nat) (f : PattEng → PattEng) : Mach := m.modTile t fun ts => { ts with patt := vmod ts.patt e f }

/-- The engine enters step `j` and stands at its first tick, ramping from level `ls`. -/
def enterStep (m : Mach) (t e j ls : Nat) : Mach :=
  let pk := P.patt t
  let x := m.el pk e j
  let m := m.modEng t e fun s => { s with k := 1, elem := x, from_ := ls, start := false, stop := false }
  ((m.wr pk (F.PATT_ENG_STAT_RUNNING.nth e) 1).wr pk (F.PATT_ENG_STAT_STEP.nth e) j).wr pk (F.PATT_ENG_STAT_LEVEL.nth e)
    (rampLevel x ls 1)

/-- A running engine that has reached the last tick of its last step has completed a run; after REPEAT of them it stops (R390). -/
def endOfRun (m : Mach) (t e : Nat) : Mach :=
  let pk := P.patt t
  let s := m.eng t e
  let j := m.rd pk (F.PATT_ENG_STAT_STEP.nth e)
  if !m.flag pk (F.PATT_ENG_STAT_RUNNING.nth e) || s.k < stepTime s.elem || j < m.rd pk (F.PATT_ENG_CFG_LEN_M1.nth e) then m
  else
    let m := m.inc pk (F.PATT_ENG_STAT_RUNS.nth e)
    let rep := m.rd pk (F.PATT_ENG_CFG_REPEAT.nth e)
    if rep ≠ 0 && decide (rep ≤ m.rd pk (F.PATT_ENG_STAT_RUNS.nth e)) then (m.wr pk (F.PATT_ENG_STAT_RUNNING.nth e) 0).raise pk 0 else m

/-- One engine at an engine tick (R389, R390) (log entry 130). -/
def engineTick (m : Mach) (t e : Nat) : Mach :=
  let pk := P.patt t
  let s := m.eng t e
  let running := m.flag pk (F.PATT_ENG_STAT_RUNNING.nth e)
  let level := m.rd pk (F.PATT_ENG_STAT_LEVEL.nth e)
  if s.start then ((m.wr pk (F.PATT_ENG_STAT_RUNS.nth e) 0).enterStep t e 0 level).endOfRun t e
  else if s.stop then (m.wr pk (F.PATT_ENG_STAT_RUNNING.nth e) 0).modEng t e fun s => { s with stop := false }
  else if !running then m
  else if stepTime s.elem ≤ s.k then
    let j := m.rd pk (F.PATT_ENG_STAT_STEP.nth e)
    (m.enterStep t e (if m.rd pk (F.PATT_ENG_CFG_LEN_M1.nth e) ≤ j then 0 else j + 1) (stepLevel s.elem)).endOfRun t e
  else
    ((m.modEng t e fun s => { s with k := s.k + 1 }).wr pk (F.PATT_ENG_STAT_LEVEL.nth e) (rampLevel s.elem s.from_ (s.k + 1))).endOfRun
      t e

/-- The engine tick of the part at its next multiple of 500,000 (R388) (log entry 6). -/
def patternTick (m : Mach) : Mach :=
  match (List.range 8).find? m.awake with
  | none => m
  | some t0 =>
    let m := m.advance t0 ((m.now t0 / 500000 + 1) * 500000)
    (List.range 8).foldl (fun m t =>
      if m.live t D.lamp then (List.range 4).foldl (fun m e => m.engineTick t e) m else m) m

/-- Level of a step at tick `k` for an output with an offset; a ramp whose TIME is past has no level that R391 states (log entry 3). -/
def offsetLevel (e ls k : Nat) : Nat :=
  if stepRamp e ≠ 0 && decide (stepTime e < k) then Config.levelPast e ls k % 256 else rampLevel e ls k

/-- Level that indicator output `n` carries before INV: 0 low, 255 high, else the duty of its carrier
(R391). A stopped engine keeps its step and tick, and so each output its level (log entry 130). -/
def indLevel (m : Mach) (t n : Nat) : Nat :=
  let pk := P.patt t
  if !m.live t D.lamp then 0
  else match m.rd pk (F.PATT_IND_SRC.nth n) with
  | 1 => 255
  | 2 =>
    let e := m.rd pk (F.PATT_IND_ENG.nth n)
    let ofs := m.rd pk (F.PATT_IND_OFS.nth n)
    let len := m.rd pk (F.PATT_ENG_CFG_LEN_M1.nth e) + 1
    let j := (m.rd pk (F.PATT_ENG_STAT_STEP.nth e) + ofs) % len
    if ofs % len = 0 || (m.eng t e).k = 0 then m.rd pk (F.PATT_ENG_STAT_LEVEL.nth e)
    else offsetLevel (m.el pk e j) (stepLevel (m.el pk e ((j + len - 1) % len))) (m.eng t e).k
  | _ => 0

/-- A write to a register of page PATT that has a behaviour of its own (log entry 130). -/
def writePatt (m : Mach) (t off : Nat) (v : Word) : Option Mach :=
  let n := v.toNat
  if off = 0x080 then
    some ((List.range 4).foldl (fun m e =>
      if bit n (8 + e) then m.modEng t e fun s => { s with start := false, stop := true }
      else if bit n e then m.modEng t e fun s => { s with start := true, stop := false } else m) m)
  else if 0x0A0 ≤ off ∧ off < 0x0C0 ∧ bits n 2 1 = 3 then some (m.refuse (P.patt t) 1)
  else none

/-- Soft reset of PATT: every engine stopped at level 0. -/
def softResetPatt (m : Mach) (t : Nat) : Mach :=
  (m.modTile t fun ts => { ts with patt := Vector.replicate 4 {} }).softResetPage (P.patt t)

end Mach

end Sys2Proof.Machine
end

