-- ==== Sys2Proof/Machine/Mon.lean ====
section
/-!
DEFINITION. The monitor converter and the sensor front end (R393–R425): correction, slots, self-calibration, trumps, sequencer,
accumulators and snapshots, filtered averages with their consumers, the front-end cycle with open-wire diagnosis, measurement outputs;
pages MON, FE and MEAS.
-/

namespace Sys2Proof.Machine.Mach

def monS (m : Mach) (t : Nat) : MonSt := (m.tile t).mon
def modMon (m : Mach) (t : Nat) (f : MonSt → MonSt) : Mach := m.modTile t fun ts => { ts with mon := f ts.mon }
def feS (m : Mach) (t : Nat) : FeSt := (m.tile t).fe
def modFe (m : Mach) (t : Nat) (f : FeSt → FeSt) : Mach := m.modTile t fun ts => { ts with fe := f ts.fe }
def feCh (m : Mach) (t n : Nat) : FeCh := vget (m.feS t).chs n
def modFeCh (m : Mach) (t n : Nat) (f : FeCh → FeCh) : Mach := m.modFe t fun s => { s with chs := vmod s.chs n f }

/-- The MON domain is on and the page enabled. -/
def monOn (m : Mach) (t : Nat) : Bool := m.live t D.mon && m.enabled (P.mon t)

/-- The factors are valid (R398). -/
def calValid (m : Mach) (t : Nat) : Bool := m.flag (P.mon t) F.MON_STAT_CAL_VALID

/-! ### Channels and correction (R393–R396) -/

/-- A channel of the sequencer or of a trump. -/
def seqChannel (ch : Nat) : Bool := (decide (8 ≤ ch) && decide (ch ≤ 31)) || (decide (48 ≤ ch) && decide (ch ≤ 56))

/-- A channel with a record. -/
def anyChannel (ch : Nat) : Bool := decide (ch ≤ 31) || (decide (48 ≤ ch) && decide (ch ≤ 56))

/-- Linearity factor k in 1/4 LSB. -/
def monLin (m : Mach) (t k : Nat) : Int :=
  toS 8 ((m.word (P.mon t) (if k < 4 then 0x088 else 0x08C)).toNat / 2 ^ (8 * (k % 4)))

/-- `lin(r)` (R396). -/
def linOf (m : Mach) (t r : Nat) : Int :=
  if r ≤ 4096 then m.monLin t 0
  else if 61440 ≤ r then m.monLin t 7
  else
    let k := (r - 4096) / 8192
    m.monLin t k + (m.monLin t (k + 1) - m.monLin t k) * ((r - 4096 - 8192 * k : Nat) : Int) / 8192

/-- The corrected code of a raw result (R396). -/
def corrected (m : Mach) (t r : Nat) : Nat :=
  let x : Int := 16 * r + 4 * m.linOf t r - m.rdS (P.mon t) F.MON_CAL_OFS_OFS
  (clampI 0 65535 (rshr (x * m.rd (P.mon t) F.MON_CAL_GAIN_GAIN) 19)).toNat

/-- The value a conversion of channel `ch` delivers: the corrected code, and 0 for a lamp sink that holds no current (R393, R394). -/
def codeOf (m : Mach) (t ch r : Nat) : Nat :=
  if 8 ≤ ch ∧ ch < 20 ∧ !m.heldCurrent (2 * t + (ch - 8) / 6) ((ch - 8) % 6) then 0 else m.corrected t r

/-! ### Accumulators (R404) -/

/-- A value added to a record. -/
def recAdd (r : MonRec) (x : Int) (trump : Bool) : MonRec :=
  if r.sum + x < -(2 ^ 47) ∨ 2 ^ 47 ≤ r.sum + x ∨ 2 ^ 32 ≤ r.count + 1 then { r with flags := r.flags ||| 1 }
  else { sum := r.sum + x, count := r.count + 1, min := if r.count = 0 then x else min r.min x,
         max := if r.count = 0 then x else max r.max x, flags := if trump then r.flags ||| 16 else r.flags }

/-- The 128 bits of a record. -/
def recWord (r : MonRec) : Nat :=
  ofS 48 r.sum + r.count * 2 ^ 48 + ofS 16 r.min * 2 ^ 80 + ofS 16 r.max * 2 ^ 96 + r.flags * 2 ^ 112

def modRec (m : Mach) (t ch : Nat) (f : MonRec → MonRec) : Mach := m.modMon t fun s => { s with recs := vmod s.recs ch f }

/-! ### Measurement outputs (R420, R421) -/

/-- The source of output `o` delivers nothing: its channel is OPEN or in EXC_FAULT. -/
def sourceBad (m : Mach) (t ch : Nat) : Bool :=
  decide (ch < 8) && (m.flag (P.fe t) (F.FE_CH_STAT_OPEN.nth ch) || m.flag (P.fe t) (F.FE_CH_STAT_EXC_FAULT.nth ch))

/-- High time and period of a PWM output in CLK_MON cycles; for a FREQ output, half-period twice (R420). -/
def measWave (m : Mach) (t o : Nat) : Nat × Nat :=
  let pk := P.meas t
  let u := m.rd pk (F.MEAS_OUT_STAT_U.nth o)
  let car := m.rd pk (F.MEAS_OUT_CAR_HZ.nth o)
  let flo := m.rd pk (F.MEAS_OUT_FLO_HZ.nth o)
  let f := flo + ((m.rd pk (F.MEAS_OUT_FHI_HZ.nth o) - flo) * u + 32767) / 65535
  if m.flag pk (F.MEAS_OUT_CFG_MODE.nth o) then ((2 * 31250000 + f) / (2 * f), 2 * ((2 * 31250000 + f) / (2 * f)))
  else ((u * ((62500000 + car / 2) / car) + 32768) / 65536, (62500000 + car / 2) / car)

/-- Period of an output's wave in ticks of the time base. -/
def measPeriod (m : Mach) (t o : Nat) : Nat := 8 * (m.measWave t o).2

def modMeas (m : Mach) (t o : Nat) (f : MeasOut → MeasOut) : Mach := m.modTile t fun ts => { ts with meas := vmod ts.meas o f }

/-- A value that has waited for the start of a period is applied once that instant has passed (R420) (log entry 132). -/
def measSettle (m : Mach) (t o : Nat) : Mach :=
  let pk := P.meas t
  match (vget (m.tile t).meas o).next with
  | none => m
  | some (u, d) =>
    if m.now t < d ∧ d ≤ m.now t + m.measPeriod t o then m
    else ((m.wr pk (F.MEAS_OUT_STAT_U.nth o) u).incW pk (F.MEAS_OUT_UPDATES_COUNT.nth o)).modMeas t o fun _ => { epoch := d }

/-- An enabled output goes failsafe (R421); a value that waits is dropped. -/
def failsafe (m : Mach) (t o : Nat) : Mach :=
  let pk := P.meas t
  if !m.live t D.aux || !m.enabled pk || !m.flag pk (F.MEAS_OUT_CFG_EN.nth o) || m.flag pk (F.MEAS_OUT_STAT_FAILSAFE.nth o) then m
  else (((m.measSettle t o).modMeas t o fun s => { s with next := none }).wr pk (F.MEAS_OUT_STAT_FAILSAFE.nth o) 1).raise pk o

/-- Every output fed by channel `ch` goes failsafe. -/
def failsafeCh (m : Mach) (t ch : Nat) : Mach :=
  [0, 1].foldl (fun m o => if m.rd (P.meas t) (F.MEAS_OUT_CFG_CH.nth o) = ch then m.failsafe t o else m) m

/-- A delivery to output `o` with source value `v` in 1/16 units: the new value waits for the next start of a period, or ends failsafe
(R420, R421) (log entry 132). -/
def deliverMeas (m : Mach) (t o : Nat) (v : Int) : Mach :=
  let pk := P.meas t
  let m := m.measSettle t o
  let lo := m.rdS pk (F.MEAS_OUT_LO_V.nth o)
  let hi := m.rdS pk (F.MEAS_OUT_HI_V.nth o)
  let u := (clampI 0 65535 ((v - lo) * 65536 / (hi - lo))).toNat
  if m.flag pk (F.MEAS_OUT_STAT_FAILSAFE.nth o) then
    (((m.wr pk (F.MEAS_OUT_STAT_FAILSAFE.nth o) 0).wr pk (F.MEAS_OUT_STAT_U.nth o) u).incW pk (F.MEAS_OUT_UPDATES_COUNT.nth o)).modMeas
      t o fun _ => { epoch := m.now t }
  else
    let per := m.measPeriod t o
    m.modMeas t o fun s => { s with next := some (u, s.epoch + per * ((m.now t - s.epoch) / per + 1)) }

/-! ### Limit checks (R409) -/

/-- State of limit check `k`. -/
def limState (m : Mach) (t k : Nat) : Nat := bits (m.word (P.mon t) 0x0E0).toNat (2 * k + 1) (2 * k)

/-- Limit check `k` on a delivery of average `a` of its channel. -/
def limitCheck (m : Mach) (t k ch : Nat) (a : Int) : Mach :=
  let pk := P.mon t
  if !m.flag pk (F.MON_LIM_CFG_EN.nth k) || m.rd pk (F.MON_LIM_CFG_CH.nth k) ≠ ch then m
  else
    let v := a / 65536
    let lo := m.rdS pk (F.MON_LIM_THR_LO.nth k)
    let hi := m.rdS pk (F.MON_LIM_THR_HI.nth k)
    let hy : Int := m.rd pk (F.MON_LIM_CFG_HYST.nth k)
    let st := m.limState t k
    let new := if st = 0 then (if hi < v then 1 else if v < lo then 2 else 0)
      else if lo + hy ≤ v ∧ v ≤ hi - hy then 0 else st
    if new = st then m
    else
      let m := m.setWord pk 0x0E0 (BitVec.ofNat 32 (putBits (m.word pk 0x0E0).toNat (2 * k + 1) (2 * k) new))
      let payload := leBytes 1 ch ++ leBytes 1 new ++ leBytes 2 (ofS 16 v) ++ leBytes 4 (ofS 32 a) ++ leBytes 8 0
      let seq := (m.monS t).limSeq
      ((m.modMon t fun s => { s with limSeq := (s.limSeq + 1) % 2 ^ 32 }).raise pk 6).emitEvent t 0x06 4 pk F.MON_SNAP_LOST_COUNT
        (some 5) { hdr := eventHdr 7 t (0x10 + k) seq (m.now t) 16, payload }

/-! ### Filtered averages and consumers (R408, R394, R419) -/

/-- The filtered average of a channel. -/
def average (m : Mach) (t ch : Nat) : Int :=
  if ch < 8 then m.rdS (P.fe t) (F.FE_CH_AVG_A.nth ch) else m.rd (P.mon t) (F.MON_AVG_A.nth ch)

/-- Temperature of an internal channel in 1/16 °C (R394). -/
def internalT (a : Int) : Int := ((rshr a 16) * 7000 + 32768) / 65536 - 4370

/-- Temperature of a front-end channel in 1/16 °C (R419). -/
def feT (m : Mach) (t n : Nat) (a : Int) : Int :=
  let w := (m.feCh t n).temp
  let k := fun i => toS 16 (m.el (P.fe t) n i)
  let p := (a + 2048) / 4096 - 16 * toS 16 w
  let s := bits w 20 16 + 4
  if p ≤ 0 then k 0
  else if 16 * 2 ^ s ≤ p then k 16
  else
    let j := (p / 2 ^ s).toNat
    let q := p - j * 2 ^ s
    k j + ((k (j + 1) - k j) * q + 2 ^ (s - 1)) / 2 ^ s

/-- The temperature that an update of a channel delivers, if it delivers one. -/
def temperatureOf (m : Mach) (t ch : Nat) (a : Int) : Option Int :=
  if ch = 55 ∨ ch = 56 then some (internalT a)
  else if ch < 8 ∧ bit (m.feCh t ch).temp 31 then some (m.feT t ch a)
  else none

/-- A temperature delivered to the shading and lamp stages that select the channel (R242, R377). -/
def deliverT (m : Mach) (t ch : Nat) (x : Int) : Mach :=
  let v := ofS 16 x
  [2 * t, 2 * t + 1].foldl (fun m g =>
    let own := decide (ch < 8) && ch / 4 = g % 2
    let src := m.shdTempSrc g
    let m := if m.live t (D.pipe (g % 2)) && ((ch = 56 && src = 0) || (own && src = ch % 4 + 1)) then m.deliverShd g v else m
    let m := if ch = 55 then m.deliverDie g v else m
    if own && m.rd (P.lamp g) F.LAMP_CFG_TSRC = ch % 4 + 1 then m.deliverBar g v else m) m

/-- A value enters a channel's filter, and the update is delivered to every consumer (R408). -/
def filterValue (m : Mach) (t ch : Nat) (x : Int) : Mach :=
  let fk := if ch < 8 then bits (m.feCh t ch).cfg 3 0 else m.rd (P.mon t) (F.MON_FK_FK.nth ch)
  let old := m.average t ch
  let first := !bit (m.monS t).filled ch
  let a := if first || fk = 0 then x * 65536 else old + (x * 65536 - old + 2 ^ (fk - 1)) / 2 ^ fk
  let m := m.modMon t fun s => { s with filled := putBit s.filled ch true }
  let m := if ch < 8 then m.wr (P.fe t) (F.FE_CH_AVG_A.nth ch) (ofS 32 a) else m.wr (P.mon t) (F.MON_AVG_A.nth ch) (ofS 32 a)
  let m := (List.range 8).foldl (fun m k => m.limitCheck t k ch a) m
  let temp := m.temperatureOf t ch a
  let m := match temp with
    | some x =>
      let m := if ch < 8 then m.wr (P.fe t) (F.FE_CH_STAT_T_VALID.nth ch) 1 else m
      m.deliverT t ch x
    | none => m
  [0, 1].foldl (fun m o =>
    let pk := P.meas t
    if !m.live t D.aux || !m.enabled pk || !m.flag pk (F.MEAS_OUT_CFG_EN.nth o) || m.rd pk (F.MEAS_OUT_CFG_CH.nth o) ≠ ch ||
        m.sourceBad t ch then m
    else if m.flag pk (F.MEAS_OUT_CFG_USE_T.nth o) then
      (match temp with | some x => m.deliverMeas t o x | none => m)
    else m.deliverMeas t o (rshr a 12)) m

/-- A result of a channel enters accumulator, tracker and filter (R404, R408). -/
def monResult (m : Mach) (t ch : Nat) (x : Int) (trump : Bool) : Mach := (m.modRec t ch fun r => recAdd r x trump).filterValue t ch x

/-! ### Front-end results and diagnosis (R413–R418) -/

/-- A front-end event as a trick (R418) (log entries 44, 132). -/
def feEvent (m : Mach) (t n code cause : Nat) : Mach :=
  let pk := P.fe t
  let payload := leBytes 8 (m.rd2 pk (F.FE_CH_LASTPASS_LO_N.nth n) (F.FE_CH_LASTPASS_HI_N.nth n)) ++
    leBytes 2 (m.rd pk (F.FE_CH_STAT_LAST.nth n)) ++ leBytes 2 cause ++ leBytes 4 (m.rd pk F.FE_CYCLES_COUNT)
  let seq := (m.feS t).seq
  (m.modFe t fun s => { s with seq := (s.seq + 1) % 2 ^ 32 }).emitEvent t 0x07 4 pk F.FE_EVT_LOST_COUNT none
    { hdr := eventHdr 8 (8 * t + n) code seq (m.now t) 16, payload }

/-- A blanked result: shown in LAST, flagged, and counted unless the cycle is a diagnostic (R413). -/
def blankResult (m : Mach) (t n : Nat) (count : Bool) : Mach :=
  let pk := P.fe t
  let m := m.modRec t n fun r => { r with flags := r.flags ||| (if m.flag pk (F.FE_CH_STAT_OPEN.nth n) then 6 else 2) }
  if count then m.inc pk (F.FE_CH_CNT_BLANKED.nth n) else m

/-- The diagnostic of a channel judged with result `r` (R416). -/
def judgeDiag (m : Mach) (t n : Nat) (r : Int) : Mach :=
  let pk := P.fe t
  let c := m.feCh t n
  let dev := match c.last with | some x => decide ((m.rd pk F.FE_OW_THR_THR : Int) < (r - x).natAbs) | none => false
  let cause := match c.railHit with | some true => 1 | some false => 2 | none => if dev then 3 else 0
  let now := m.now t
  if cause = 0 then
    let m := m.wr2 pk (F.FE_CH_LASTPASS_LO_N.nth n) (F.FE_CH_LASTPASS_HI_N.nth n) now
    if m.flag pk (F.FE_CH_STAT_OPEN.nth n) then
      let m := (m.wr pk (F.FE_CH_STAT_OPEN.nth n) 0).modMon t fun s => { s with filled := putBit s.filled n false }
      (m.raise pk 1).feEvent t n 2 0
    else m
  else if m.flag pk (F.FE_CH_STAT_OPEN.nth n) then m
  else
    let pass := m.rd2 pk (F.FE_CH_LASTPASS_LO_N.nth n) (F.FE_CH_LASTPASS_HI_N.nth n)
    let m := ((m.wr pk (F.FE_CH_STAT_OPEN.nth n) 1).raise pk 0).modRec t n fun r => { r with flags := r.flags ||| 4 }
    ((m.feEvent t n 1 cause).record t 0x0C (8 * t + n) cause 0 (detail 0 8 now + detail 8 8 pass)).failsafeCh t n

/-- The negative visit of a channel ends: its result is formed (R413, R416). The one sum whose result
does not fit 16 bits leaves a free value (log entry 3). -/
def feResult (m : Mach) (t n : Nat) : Mach :=
  let pk := P.fe t
  let c := m.feCh t n
  let k : Int := bits c.cfg 11 6 + 1
  let x := (c.pos - c.neg + k) / (2 * k)
  let (r, m) := if 32767 < x then let (y, m) := m.freeNat; (toS 16 y, m) else (x, m)
  let m := m.wr pk (F.FE_CH_STAT_LAST.nth n) (ofS 16 r)
  if c.diag then
    if c.ovr || c.calMiss then m.blankResult t n false
    else (m.judgeDiag t n r).blankResult t n false
  else
    let bad := c.changed || c.calMiss || c.ovr || c.railHit.isSome || m.flag pk (F.FE_CH_STAT_OPEN.nth n) ||
      m.flag pk (F.FE_CH_STAT_EXC_FAULT.nth n)
    let m := m.modFeCh t n fun c => { c with changed := false }
    if bad then m.blankResult t n true
    else (m.modFeCh t n fun c => { c with last := some r }).monResult t n r false

/-- A front-end conversion with raw result `raw` enters its channel; every hit of the rail counts (R413, R415) (log entry 132). -/
def feConverted (m : Mach) (t n raw : Nat) (last : Bool) : Mach :=
  let pk := P.fe t
  let rail := bits (m.feS t).cfg2 15 0
  let low := decide (raw < rail)
  let hit := low || decide (65535 - rail < raw)
  let d : Int := (m.corrected t raw : Int) - 32768
  let neg := (m.feS t).negHalf
  let first := hit && (m.feCh t n).railHit.isNone
  let m := m.modFeCh t n fun c =>
    { c with pos := if neg then c.pos else c.pos + d, neg := if neg then c.neg + d else c.neg,
             railHit := if first then some (!low) else c.railHit }
  let m := if !hit then m
    else
      let run := m.flag pk (F.FE_CH_STAT_RAIL.nth n)
      let m := (m.inc pk (F.FE_CH_CNT_RAIL.nth n)).wr pk (F.FE_CH_STAT_RAIL.nth n) 1
      let m := m.modRec t n fun r => { r with flags := r.flags ||| 8 }
      if run then m else (m.raise pk 2).feEvent t n 3 0
  if last && neg then m.feResult t n else m

/-- A front-end conversion that self-calibration kept from being made (R400, R413) (log entry 98). -/
def feMissed (m : Mach) (t n : Nat) (last : Bool) : Mach :=
  let m := m.modFeCh t n fun c => { c with calMiss := true }
  if last && (m.feS t).negHalf then m.feResult t n else m

/-- A half has ended before its visits: what is due is abandoned (R413) (log entry 98). -/
def feOverrun (m : Mach) (t : Nat) : Mach :=
  let pk := P.fe t
  let s := m.feS t
  match s.due with
  | [] => m
  | (_, n, _) :: _ =>
    let m := (m.inc pk F.FE_OVERRUN_COUNT).raise pk 4
    let chs := (s.due.map fun d => d.2.1).eraseDups
    let m := m.modFe t fun s => { s with due := [] }
    let m := chs.foldl (fun m c =>
      let m := m.modFeCh t c fun x => { x with ovr := true }
      if s.negHalf then m.blankResult t c (!(m.feCh t c).diag) else m) m
    m.feEvent t n 5 0

/-! ### The front-end cycle (R410–R414, R416) -/

/-- The front end may run (R410). -/
def feMayRun (m : Mach) (t : Nat) : Bool := m.live t D.mon && m.enabled (P.fe t) && m.monOn t && m.calValid t

/-- The conversions of the visits of a half that starts at `n` (R410, R412). -/
def feVisits (m : Mach) (t n : Nat) : List (Nat × Nat × Bool) :=
  let s := m.feS t
  let r := (List.range 8).foldl (fun (a : Nat × List (Nat × Nat × Bool)) c =>
    let x := vget s.chs c
    if !bit x.cfg 31 then a
    else
      let k := bits x.cfg 11 6 + 1
      let first := a.1 + 250 * (1 + bits x.tim 15 8 + bits x.tim 7 0)
      (first + 250 * k, a.2 ++ (List.range k).map fun j => (first + 250 * j, c, decide (j + 1 = k))))
    (n + 500 * bits s.cfg2 23 16, [])
  r.2

/-- A cycle begins: pending configuration applies, changes blank, diagnostics are chosen (R414, R416). -/
def feCycle (m : Mach) (t : Nat) (fresh : Bool) : Mach :=
  let pk := P.fe t
  let s := m.feS t
  let cfg := (m.word pk 0x040).toNat
  let cfg2 := (m.word pk 0x044).toNat
  let all := fresh || decide (bits cfg 19 0 ≠ bits s.cfg 19 0) || decide (bits cfg2 23 16 ≠ bits s.cfg2 23 16)
  let m := m.modFe t fun s => { s with cfg, cfg2 }
  let m := (List.range 8).foldl (fun m n =>
    let w : Nat → Nat := fun o => (m.word pk (0x080 + 0x20 * n + o)).toNat
    let c := m.feCh t n
    let change := all || decide (bits (w 0) 31 6 ≠ bits c.cfg 31 6) || w 4 != c.tim
    let count := if fresh then 0 else if c.diag then (if c.ovr || c.calMiss then c.count else 0) else c.count + 1
    let diag := bit (w 0) 31 && bit (w 0) 5 && decide (bits cfg2 31 24 ≤ count + 1)
    let m := m.modFeCh t n fun c =>
      { cfg := w 0, tim := w 4, temp := w 8, changed := change || c.changed, count, diag, last := if fresh then none else c.last }
    let m := m.wr pk (F.FE_CH_STAT_PEND.nth n) 0
    let m := if c.railHit.isNone || fresh then m.wr pk (F.FE_CH_STAT_RAIL.nth n) 0 else m
    m.wr pk (F.FE_CH_STAT_EXC_FAULT.nth n) 0) m
  m.wr pk F.FE_STAT_RUN 1

/-- Channels whose current source reaches its compliance limit (R411): `mask` bit n for channel n. -/
def excFaults (m : Mach) (t mask : Nat) : Mach :=
  let pk := P.fe t
  (List.range 8).foldl (fun m n =>
    let c := m.feCh t n
    if bit mask n && bit c.cfg 31 && bits c.cfg 29 28 = 2 && !m.flag pk (F.FE_CH_STAT_EXC_FAULT.nth n) then
      (((m.wr pk (F.FE_CH_STAT_EXC_FAULT.nth n) 1).raise pk 3).feEvent t n 4 0).failsafeCh t n
    else m) m

/-- The front end stops: excitation off, cycles end (R410). -/
def feStop (m : Mach) (t : Nat) : Mach :=
  (((m.modFe t fun s => { s with run := false, negHalf := false, due := [] }).wr (P.fe t) F.FE_STAT_RUN 0).wr (P.fe t) F.FE_STAT_NEG 0)

/-- A front-end half begins at its instant (R410): the first at a slot boundary, each other PERIOD/2 after the last. -/
def feHalfStart (m : Mach) (t mask : Nat) : Mach :=
  if !m.feMayRun t then (if (m.feS t).run then m.feStop t else m)
  else
    let pk := P.fe t
    let s := m.feS t
    if !s.run then
      let m := m.advance t ((m.now t + 249) / 250 * 250)
      let m := m.feCycle t true
      let m := m.modFe t fun s => { s with run := true, negHalf := false, start := m.now t }
      (m.modFe t fun s => { s with due := m.feVisits t (m.now t) }).excFaults t mask
    else
      let n := s.start + 250 * bits s.cfg 19 0
      let m := (m.feOverrun t).advance t n
      let m := if s.negHalf then (m.incW pk F.FE_CYCLES_COUNT).feCycle t false else m
      let m := (m.modFe t fun x => { x with negHalf := !s.negHalf, start := n }).wrb pk F.FE_STAT_NEG (!s.negHalf)
      (m.modFe t fun x => { x with due := m.feVisits t n }).excFaults t mask

/-- What the pins of channel `n` drive: nothing, or whether a current (in 0.5 µA) and else a voltage (in 0.625 mV), signed from EXCP to
EXCN (R410, R411). -/
def excDrive (m : Mach) (t n : Nat) : Option (Bool × Int) :=
  let c := (m.feCh t n).cfg
  if !(m.feS t).run || !bit c 31 || bits c 29 28 = 0 then none
  else some (decide (bits c 29 28 = 2), if (m.feS t).negHalf then -(bits c 27 16 : Int) else bits c 27 16)

/-- Diagnostic current of channel `n` in µA, into FEn_INP and out of FEn_INN (R416). -/
def diagDrive (m : Mach) (t n : Nat) : Int :=
  let i : Int := if bit (m.feCh t n).cfg 4 then 10 else 1
  if (m.feS t).run && (m.feCh t n).diag then (if (m.feS t).negHalf then -i else i) else 0

/-- Some excitation is on (R59). -/
def excitation (m : Mach) (t : Nat) : Bool := (List.range 8).any fun n => (m.excDrive t n).isSome

/-! ### Sequencer and slots (R395, R397, R400–R403) -/

/-- The slots of a pass as the registers give them. -/
def seqTable (m : Mach) (t : Nat) : List (Nat × Nat) :=
  (List.range (m.rd (P.mon t) F.MON_SEQ_CFG_LEN)).map fun k =>
    (m.rd (P.mon t) (F.MON_SLOT_CH.nth k), m.rd (P.mon t) (F.MON_SLOT_DIV.nth k))

/-- The sequencer runs; a LEN of 0 ends it with the pass in progress (R403). -/
def seqRuns (m : Mach) (t : Nat) : Bool :=
  m.monOn t && m.calValid t &&
  (decide (0 < m.rd (P.mon t) F.MON_SEQ_CFG_LEN) || decide ((m.monS t).slot < (m.monS t).slots.length))

/-- The sequencer's next conversion and where it then stands (pass, slot, slots), looking at up to `fuel` slots (R403). -/
def seqNext (table : List (Nat × Nat)) : Nat → Nat × Nat × List (Nat × Nat) → Option (Nat × Nat × Nat × List (Nat × Nat))
  | 0, _ => none
  | fuel + 1, (pass, slot, slots) =>
    match slots[slot]? with
    | some (ch, dv) =>
      if pass % (dv + 1) = 0 then some (ch, pass, slot + 1, slots) else seqNext table fuel (pass, slot + 1, slots)
    | none => seqNext table fuel (if slots.isEmpty then 0 else pass + 1, 0, table)

/-- The result of the conversion that ended at the slot boundary enters (R395, R401). -/
def monEnter (m : Mach) (t raw : Nat) : Mach :=
  let pk := P.mon t
  let c := (m.monS t).cur
  let m := m.modMon t fun s => { s with cur := none }
  match c with
  | none => m
  | some (.trump ch after) =>
    let m := (m.monResult t ch (m.codeOf t ch raw) true).raise pk 2
    if after then m.modMon t fun s => { s with snapReq := true } else m
  | some (.fe ch last) => if (m.feS t).run then m.feConverted t ch raw last else m
  | some (.seq ch) => m.monResult t ch (m.codeOf t ch raw) false

/-- A requested snapshot is taken at the slot boundary: the live records are copied and cleared (R405). -/
def takeSnapshot (m : Mach) (t : Nat) : Mach :=
  let s := m.monS t
  if !s.snapReq then m
  else if s.snap.isSome then m.modMon t fun s => { s with snapReq := false }
  else
    let ws := (List.range 64).map fun e => if anyChannel e then recWord (vget s.recs e) else 0
    let openBit := fun e => decide (e < 8) && m.flag (P.fe t) (F.FE_CH_STAT_OPEN.nth e)
    let m := m.modMon t fun s => { s with snapReq := false, snap := some (m.now t, ws), recs := Vector.replicate 64 {} }
    (List.range 8).foldl (fun m e => if openBit e then m.modRec t e fun r => { r with flags := 4 } else m) m

/-- Front-end conversions due in a slot that self-calibration takes are not made. -/
def dropDue (m : Mach) (t : Nat) : Nat → Mach
  | 0 => m
  | k + 1 =>
    match (m.feS t).due with
    | (n, c, last) :: r =>
      if n ≤ m.now t then dropDue ((m.modFe t fun s => { s with due := r }).feMissed t c last) t k else m
    | [] => m

/-- The next sequencer slot. -/
def seqServe (m : Mach) (t : Nat) : Mach :=
  let s := m.monS t
  if !m.seqRuns t then m.modMon t fun s => { s with pass := 0, slot := 0, slots := [] }
  else match seqNext (m.seqTable t) 1200 (s.pass, s.slot, s.slots) with
    | none => m.modMon t fun s => { s with pass := 0, slot := 0, slots := [] }
    | some (ch, pass, slot, slots) => m.modMon t fun s => { s with cur := some (.seq ch), pass, slot, slots }

/-- What the converter serves in the slot that starts now (R397). -/
def monServe (m : Mach) (t : Nat) : Mach :=
  let pk := P.mon t
  let s := m.monS t
  let now := m.now t
  let feDue := match (m.feS t).due with | (n, _, _) :: _ => (m.feS t).run && decide (n ≤ now) | [] => false
  if s.calRun then m.dropDue t 520
  else if s.calPend && s.trump.isNone then
    (m.modMon t fun s => { s with calPend := false, calRun := true }).dropDue t 520
  else if !m.calValid t then m
  else match s.trump with
  | some (ch, after) =>
    let m := if feDue then m.modFe t fun s => { s with due := s.due.map fun d => (d.1 + 250, d.2) } else m
    (m.modMon t fun s => { s with trump := none, cur := some (.trump ch after) }).wr2 pk F.MON_TRUMP_T_LO_N F.MON_TRUMP_T_HI_N now
  | none =>
    match (m.feS t).due with
    | (n, c, last) :: r =>
      if feDue then
        (m.modFe t fun s => { s with due := if now ≤ n + 249 then r else r.map fun d => (max d.1 (now + 250), d.2) }).modMon t
          fun s => { s with cur := some (.fe c last) }
      else m.seqServe t
    | [] => m.seqServe t
/-- A slot of the monitor converter begins (R395): the result of the slot before, raw code `raw`, enters; a requested snapshot is
taken; the slot is served (log entry 97). -/
def monSlot (m : Mach) (t raw : Nat) : Mach :=
  if !m.monOn t then m
  else (((m.advance t ((m.now t / 250 + 1) * 250)).monEnter t raw).takeSnapshot t).monServe t

/-! ### Self-calibration (R398–R400) -/

/-- Self-calibration is asked for; it is merged with one pending or running. -/
def monCalStart (m : Mach) (t : Nat) : Mach :=
  if (m.monS t).calRun then m else m.modMon t fun s => { s with calPend := true }

/-- Self-calibration ends with the factors it measured: offset (s12.4), gain (u1.15), linearity (1/4 LSB) (R398, R399) (log entry 27). -/
def monCalDone (m : Mach) (t : Nat) (ofs : Int) (gain : Nat) (lin : List Int) : Mach :=
  let pk := P.mon t
  if !m.live t D.mon || !(m.monS t).calRun then m
  else
    let m := m.modMon t fun s => { s with calRun := false }
    let ok := decide (-4096 ≤ ofs) && decide (ofs ≤ 4096) && decide (32113 ≤ gain) && decide (gain ≤ 33423) &&
      lin.all fun x => decide (-127 ≤ x) && decide (x ≤ 127)
    if !ok then ((m.wr pk F.MON_STAT_CAL_FAIL 1).raise pk 0).raise pk 1
    else
      let l := fun i => ofS 8 (lin.getD i 0)
      let a := l 0 + 2 ^ 8 * l 1 + 2 ^ 16 * l 2 + 2 ^ 24 * l 3
      let b := l 4 + 2 ^ 8 * l 5 + 2 ^ 16 * l 6 + 2 ^ 24 * l 7
      let m := ((m.wr pk F.MON_CAL_OFS_OFS (ofS 16 ofs)).wr pk F.MON_CAL_GAIN_GAIN gain).setWord pk 0x088 (BitVec.ofNat 32 a)
      let m := ((m.setWord pk 0x08C (BitVec.ofNat 32 b)).wr pk F.MON_STAT_CAL_VALID 1).wr pk F.MON_STAT_CAL_FAIL 0
      (m.modMon t fun s => { s with aon := some (ofS 16 ofs, gain, a, b) }).raise pk 0

/-- MON comes on with a valid AON copy: the factors are restored (R86, R398). -/
def monRestore (m : Mach) (t : Nat) : Mach :=
  match (m.monS t).aon with
  | none => m
  | some (o, g, a, b) =>
    let pk := P.mon t
    (((m.wr pk F.MON_CAL_OFS_OFS o).wr pk F.MON_CAL_GAIN_GAIN g).setWord pk 0x088 (BitVec.ofNat 32 a)).setWord pk 0x08C
      (BitVec.ofNat 32 b) |>.wr pk F.MON_STAT_CAL_VALID 1

/-! ### Trumps and snapshots (R401–R407) -/

/-- A write of `MON.TRUMP` (R401, R402); where several reasons hold, the first of the table counts (log entry 132). -/
def trump (m : Mach) (t : Nat) (v : Word) : Mach :=
  let pk := P.mon t
  let s := m.monS t
  let ch := fieldOf v F.MON_TRUMP_CH
  if !bit v.toNat 31 then m
  else if !seqChannel ch then ((m.inc pk F.MON_TRUMP_DROP_BUSY).raise pk 3).refuse pk 7
  else if s.trump.isSome then (m.inc pk F.MON_TRUMP_DROP_BUSY).raise pk 3
  else if s.calPend || s.calRun || !m.calValid t then (m.inc pk F.MON_TRUMP_DROP_CAL).raise pk 3
  else m.modMon t fun s => { s with trump := some (ch, bit v.toNat 8) }

/-- A snapshot is requested; while one is being taken the request is merged into it (R405). -/
def snapRequest (m : Mach) (t : Nat) : Mach :=
  if m.monOn t && (m.monS t).snap.isNone then m.modMon t fun s => { s with snapReq := true } else m

/-- The instant of the periodic snapshot. -/
def snapPeriod (m : Mach) (t : Nat) : Mach := if m.rd (P.mon t) F.MON_CFG_SNAP_MS = 0 then m else m.snapRequest t

/-- One part of a delivered snapshot (R407). -/
def snapTrick (t part seq n : Nat) (chs : List Nat) (ws : List Nat) : Trick :=
  { hdr := leBytes 1 1 ++ leBytes 1 7 ++ leBytes 1 t ++ leBytes 1 part ++ leBytes 4 seq ++ leBytes 6 0 ++ leBytes 2 (part + 1) ++
      leBytes 8 n ++ leBytes 4 (24 * part) ++ leBytes 2 chs.length ++ leBytes 2 (16 * chs.length)
    payload := chs.flatMap fun c => leBytes 16 (ws.getD c 0) }

/-- The snapshot copy completes (R405–R407). -/
def snapshotDone (m : Mach) (t : Nat) : Mach :=
  let pk := P.mon t
  match (m.monS t).snap with
  | none => m
  | some (n, ws) =>
    if !m.live t D.mon then m
    else
      let m := m.modMon t fun s => { s with snap := none }
      let m := (ws.zipIdx).foldl (fun m (w, e) => m.setEl pk 0 e w) m
      let m := ((m.incW pk F.MON_SNAP_SEQ_SEQ).wr2 pk F.MON_SNAP_T_LO_N F.MON_SNAP_T_HI_N n).wr pk F.MON_SNAP_STAT_READY 1
      let m := m.raise pk 4
      if !m.flag pk F.MON_CFG_DELIVER then m
      else match m.queueOfProd t 0x06 with
        | none => m
        | some q =>
          let seq := m.rd pk F.MON_SNAP_SEQ_SEQ
          let m := m.useQueue t q
          if (m.queue t q).opened.isSome || decide (m.queFree t q < 23) then (m.inc pk F.MON_SNAP_LOST_COUNT).raise pk 5
          else
            let m := m.putTrick t q 13 0x06 (snapTrick t 0 seq n (List.range 24) ws)
            m.putTrick t q 10 0x06 (snapTrick t 1 seq n ((List.range 8).map (24 + ·) ++ (List.range 9).map (48 + ·)) ws)

/-! ### Pages MON, FE and MEAS (R423–R425) -/

/-- A write to a register of page MON that has a behaviour of its own. -/
def writeMon (m : Mach) (t off : Nat) (v : Word) : Option Mach :=
  let pk := P.mon t
  let n := v.toNat
  let refuse := some (m.refuse pk 7)
  match off with
  | 0x044 => if 64 < bits n 6 0 then refuse else none
  | 0x048 =>
    let m := if bit n 0 then m.monCalStart t else m
    some (if bit n 1 then m.snapRequest t else m)
  | 0x04C => some (m.trump t v)
  | _ =>
    if 0x0A0 ≤ off ∧ off < 0x0E0 ∧ off % 8 = 0 ∧ !anyChannel (bits n 29 24) then refuse
    else if 0x100 ≤ off ∧ off < 0x200 ∧ !seqChannel (bits n 5 0) then refuse
    else none

/-- MON registers that are computed when read: CMD, STAT, SNAP_STAT and the averages of channels 0–7 (R423). -/
def monRead (m : Mach) (t off : Nat) : Option Word :=
  let s := m.monS t
  let w := (m.word (P.mon t) off).toNat
  let cal := s.calPend || s.calRun
  match off with
  | 0x048 => some (BitVec.ofNat 32 ((s.snapReq || s.snap.isSome).toNat * 2 + cal.toNat))
  | 0x050 => some (BitVec.ofNat 32 (putBit (putBit (putBit w 3 (m.seqRuns t)) 2 s.trump.isSome) 1 cal))
  | 0x060 => some (BitVec.ofNat 32 (putBit w 1 s.snap.isSome))
  | _ => if 0x400 ≤ off ∧ off < 0x420 then some (m.word (P.fe t) (F.FE_CH_AVG_A.nth ((off - 0x400) / 4)).off) else none

/-- Soft reset of MON: the factors, CAL_VALID and their AON copy stay (R398, R422). -/
def softResetMon (m : Mach) (t : Nat) : Mach :=
  let pk := P.mon t
  let valid := m.rd pk F.MON_STAT_CAL_VALID
  let ws := [0x080, 0x084, 0x088, 0x08C].map fun o => (o, m.word pk o)
  let m := ((m.modMon t fun s => { aon := s.aon }).clearArr pk 0).softResetPage pk
  (ws.foldl (fun m e => m.setWord pk e.1 e.2) m).wr pk F.MON_STAT_CAL_VALID valid

/-- The front-end visits fit their half with the settings of `m'` (R412). -/
def feFits (m' : Mach) (t : Nat) : Bool :=
  let pk := P.fe t
  let slots := (List.range 8).foldl (fun a n =>
    if m'.flag pk (F.FE_CH_CFG_EN.nth n) then
      a + 2 + m'.rd pk (F.FE_CH_TIM_DIS.nth n) + m'.rd pk (F.FE_CH_TIM_SET.nth n) + m'.rd pk (F.FE_CH_CFG_NCONV_M1.nth n)
    else a) 0
  decide (2 * m'.rd pk F.FE_CFG2_EXC_SET + slots + 16 ≤ m'.rd pk F.FE_CFG_PERIOD_US)

/-- A front-end write taken: PEND shows until the next cycle boundary (R414). -/
def fePend (m : Mach) (t : Nat) (chs : List Nat) : Mach :=
  if (m.feS t).run then chs.foldl (fun m n => m.wr (P.fe t) (F.FE_CH_STAT_PEND.nth n) 1) m else m

/-- A write to a register of page FE that has a behaviour of its own. -/
def writeFe (m : Mach) (t off : Nat) (v : Word) : Option Mach :=
  let pk := P.fe t
  let n := v.toNat
  let refuse := some (m.refuse pk 5)
  let new := m.genericWrite pk off v
  match off with
  | 0x040 => if bits n 19 0 < 250 || 1000000 < bits n 19 0 || !new.feFits t then refuse else some (new.fePend t (List.range 8))
  | 0x044 =>
    if bits n 31 24 < 2 || bits n 15 0 < 16 || 8192 < bits n 15 0 || !new.feFits t then refuse else some (new.fePend t (List.range 8))
  | _ =>
    if off < 0x080 ∨ 0x180 ≤ off then none
    else
      let c := (off - 0x080) / 0x20
      match (off - 0x080) % 0x20 with
      | 0x00 =>
        let exc := bits n 29 28
        let lvl := bits n 27 16
        if exc = 3 || (exc = 1 && decide (4000 < lvl)) || (exc = 2 && (decide (lvl < 20) || decide (4000 < lvl))) || !new.feFits t then
          refuse
        else some (new.fePend t [c])
      | 0x04 => if !new.feFits t then refuse else some (new.fePend t [c])
      | 0x08 => if 12 < bits n 20 16 then refuse else some (new.fePend t [c])
      | _ => none

/-- Soft reset of FE (R422): excitation off, OPEN, RAIL and counters cleared, filters of channels 0–7 restart. -/
def softResetFe (m : Mach) (t : Nat) : Mach :=
  ((m.modTile t fun ts => { ts with fe := {} }).modMon t fun s => { s with filled := s.filled / 256 * 256 }).softResetPage (P.fe t)

/-- A write to a register of page MEAS that has a behaviour of its own. -/
def writeMeas (m : Mach) (t off : Nat) (v : Word) : Option Mach :=
  let pk := P.meas t
  let n := v.toNat
  if off < 0x040 ∨ 0x080 ≤ off then none
  else
    let o := (off - 0x040) / 0x20
    let m := m.measSettle t o
    let refuse := some (m.refuse pk 2)
    let new := m.genericWrite pk off v
    match (off - 0x040) % 0x20 with
    | 0x00 =>
      if !anyChannel (bits n 5 0) then refuse
      else if !bit n 31 then some ((new.modMeas t o fun _ => {}).wr pk (F.MEAS_OUT_STAT_FAILSAFE.nth o) 0)
      else if m.flag pk (F.MEAS_OUT_CFG_EN.nth o) && m.rd pk (F.MEAS_OUT_CFG_CH.nth o) = bits n 5 0 &&
          m.flag pk (F.MEAS_OUT_CFG_USE_T.nth o) = bit n 29 then none
      else some (new.failsafe t o)
    | 0x04 => if bits n 16 0 < 1000 || 100000 < bits n 16 0 then refuse else none
    | 0x08 => if bits n 16 0 = 0 || decide (m.rd pk (F.MEAS_OUT_FHI_HZ.nth o) ≤ bits n 16 0) then refuse else none
    | 0x0C => if bits n 16 0 ≤ m.rd pk (F.MEAS_OUT_FLO_HZ.nth o) || 100000 < bits n 16 0 then refuse else none
    | 0x10 => if m.rdS pk (F.MEAS_OUT_HI_V.nth o) ≤ toS 32 n then refuse else none
    | 0x14 => if toS 32 n ≤ m.rdS pk (F.MEAS_OUT_LO_V.nth o) then refuse else none
    | _ => none

/-- A page's block is enabled or disabled: MEAS outputs start failsafe, the front end stops with its page (R410, R421). -/
def measEnable (m : Mach) (t : Nat) : Mach := (m.failsafe t 0).failsafe t 1
def feEnable (m : Mach) (t : Nat) : Mach := if m.feMayRun t || !(m.feS t).run then m else m.feStop t

/-- MON is disabled or enabled: its slot, trump and filters start anew (R403, R408). -/
def monEnable (m : Mach) (t : Nat) : Mach :=
  let m := m.feEnable t
  if m.enabled (P.mon t) then m.modMon t fun s => { s with filled := 0, pass := 0, slot := 0, slots := [] }
  else m.modMon t fun s => { s with cur := none }

/-- MEAS registers as read: a value that has come to its period's start is applied (R420, R425). -/
def measRead (m : Mach) (t off : Nat) : Option Word :=
  if 0x040 ≤ off ∧ off < 0x080 then some (((m.measSettle t 0).measSettle t 1).word (P.meas t) off) else none

/-- Soft reset of MEAS. -/
def softResetMeas (m : Mach) (t : Nat) : Mach :=
  (m.modTile t fun ts => { ts with meas := Vector.replicate 2 {} }).softResetPage (P.meas t)

end Sys2Proof.Machine.Mach
end

