-- ==== Sys2Proof/Machine/Dma.lean ====
section
/-!
DEFINITION. The DMA engine (R462–R474): fabric addresses, descriptors, bursts and transactions, barriers, loop and hop checks, halts,
completion records; page DMA. Also what a host port's state says of host memory (R473).
-/

namespace Sys2Proof.Machine

/-- A target of the fabric address space (R462). -/
inductive FabTarget where
  | dram | shd (c : Nat) | host
deriving DecidableEq, Repr

namespace Mach

/-! ### Host port state that DMA uses -/

def host (m : Mach) (t : Nat) : HostSt := (m.tile t).host
def modHost (m : Mach) (t : Nat) (f : HostSt → HostSt) : Mach := m.modTile t fun ts => { ts with host := f ts.host }

/-- MODE the link works with: 0 off, 1 PCIe, 2 Ethernet (R427). -/
def hostMode (m : Mach) (t : Nat) : Nat := bits (m.host t).cfg 1 0

/-- The port has power (R62): page HOSTP in HOSTPHY, the other three pages in HOSTL. -/
def hostPower (m : Mach) (t : Nat) : Bool := m.live t D.hostphy && m.live t D.hostl

/-- The link is up (R429). -/
def linkUp (m : Mach) (t : Nat) : Bool := m.hostPower t && m.flag (P.hostp t) F.HOSTP_STAT_LINK

/-- Host memory is served: PCIe mode, link up, Bus Master Enable, D0 (R473). -/
def hostMem (m : Mach) (t : Nat) : Bool :=
  m.linkUp t && m.hostMode t = 1 && m.flag (P.pcie t) F.PCIE_STAT_BUS_MASTER && m.rd (P.pcie t) F.PCIE_STAT_DSTATE = 0

/-- Max_Payload_Size in bytes. -/
def mps (m : Mach) (t : Nat) : Nat := 128 * 2 ^ m.rd (P.pcie t) F.PCIE_STAT_MPS

/-- Max_Read_Request_Size in bytes. -/
def mrrs (m : Mach) (t : Nat) : Nat := 128 * 2 ^ m.rd (P.pcie t) F.PCIE_STAT_MRRS

/-- Memory writes of `bytes` from PCIe address `a`: each at most Max_Payload_Size and inside one 4 KiB page (R438). -/
def hostWrites (t mps : Nat) : Nat → Mach → Nat → List Byte → Mach
  | 0, m, _, _ => m
  | k + 1, m, a, bs =>
    if bs.isEmpty then m
    else
      let n := min mps (4096 - a % 4096)
      hostWrites t mps k (m.emitOut (.hostMem t a (bs.take n) false)) (a + n) (bs.drop n)

/-! ### Channel state -/

def dmaCh (m : Mach) (t c : Nat) : DmaCh := vget (m.tile t).dma c
def modDma (m : Mach) (t c : Nat) (f : DmaCh → DmaCh) : Mach := m.modTile t fun ts => { ts with dma := vmod ts.dma c f }

/-- STATE of a channel: 0 IDLE, 1 RUN, 2 WAIT_VALID, 3 STOPPING, 4 STOPPED, 5 HALTED. -/
def dmaState (m : Mach) (t c : Nat) : Nat := m.rd (P.dma t) (F.DMA_CH_STAT_STATE.nth c)
def setDmaState (m : Mach) (t c s : Nat) : Mach := m.wr (P.dma t) (F.DMA_CH_STAT_STATE.nth c) s

/-- RUN, WAIT_VALID or STOPPING. -/
def dmaBusy (m : Mach) (t c : Nat) : Bool := decide (1 ≤ m.dmaState t c) && decide (m.dmaState t c ≤ 3)
def dmaDesc (m : Mach) (t c : Nat) : Nat := m.rd2 (P.dma t) (F.DMA_CH_DESC_LO_ADDR.nth c) (F.DMA_CH_DESC_HI_ADDR.nth c)

/-- Fields of a descriptor's CTRL word (R465). -/
def descLen (ctrl : Nat) : Nat := bits ctrl 31 8
def descClass (ctrl : Nat) : Nat := bits ctrl 7 5
def descLoopOk (ctrl : Nat) : Bool := bit ctrl 4
def descBarrier (ctrl : Nat) : Bool := bit ctrl 3
def descIrq (ctrl : Nat) : Bool := bit ctrl 2
def descLast (ctrl : Nat) : Bool := bit ctrl 1
def descValid (ctrl : Nat) : Bool := bit ctrl 0

/-- Transactions whose data still counts. -/
def liveOuts (c : DmaCh) : List DmaTr := c.outs.filter fun x => !x.dead

/-- Slots in use on the tile, and non-posted tags among them (R432, R467). -/
def slotsUsed (m : Mach) (t : Nat) : Nat := ((List.range 16).map fun c => (m.dmaCh t c).outs.length).sum
def tagsUsed (m : Mach) (t : Nat) : Nat := ((List.range 16).map fun c => ((m.dmaCh t c).outs.filter fun x => x.host).length).sum

/-! ### Fabric addresses (R462, R463) -/

/-- First address of SHD table `c`, its size in bytes, and the first address of host memory. -/
def shdBase (c : Nat) : Nat := 0x10000000000 + c * 0x200000
def shdSize : Nat := 0x180000
def hostBase : Nat := 2 ^ 63

/-- The one target that holds a whole range. -/
def fabTarget (m : Mach) (t a len : Nat) : Option FabTarget :=
  if a + len ≤ m.dramCap t then some .dram
  else if shdBase 0 ≤ a ∧ a + len ≤ shdBase 0 + shdSize then some (.shd 0)
  else if shdBase 1 ≤ a ∧ a + len ≤ shdBase 1 + shdSize then some (.shd 1)
  else if hostBase ≤ a ∧ a + len ≤ 2 ^ 64 then some .host
  else none

/-- Why an access to a range is refused: DECODE, DRAM_DOWN, HOST_DOWN (R463, R470, R473) (log entry 69). -/
def rangeCause (m : Mach) (t c a len : Nat) : Option Nat :=
  match m.fabTarget t a len with
  | none => some 3
  | some .dram => if m.flag (P.dram t) F.DRAM_STAT_TRAINED then none else if (m.dmaCh t c).dramLost then some 11 else some 3
  | _ => none

/-- A host address while host memory is not served. -/
def hostRefused (m : Mach) (t a : Nat) : Bool := decide (hostBase ≤ a) && !m.hostMem t

/-! ### Completion records and halts (R470, R474) -/

/-- Records that wait are written while the queue of producer 0x09 has FREE; none is kept when no queue selects it. -/
def flushRecs (t c : Nat) : Nat → Mach → Mach
  | 0, m => m
  | k + 1, m =>
    match (m.dmaCh t c).recs with
    | [] => m.wr (P.dma t) (F.DMA_CH_STAT_REC_WAIT.nth c) 0
    | tr :: r =>
      match m.queueOfProd t 0x09 with
      | none => flushRecs t c k (m.modDma t c fun s => { s with recs := r })
      | some q =>
        let m := m.useQueue t q
        if (m.queue t q).opened.isSome || decide (m.queFree t q < 2) then m.wr (P.dma t) (F.DMA_CH_STAT_REC_WAIT.nth c) 1
        else flushRecs t c k ((m.putTrick t q 2 0x09 tr).modDma t c fun s => { s with recs := r })

/-- A completion record: code 1 DONE, 2 HALTED, 3 STOPPED. -/
def dmaRecord (m : Mach) (t c code cause moved : Nat) : Mach :=
  let s := m.dmaCh t c
  let hdr := leBytes 1 1 ++ leBytes 1 9 ++ leBytes 1 (16 * t + c) ++ leBytes 1 code ++ leBytes 4 s.tag ++ leBytes 8 0 ++
    leBytes 8 (m.now t) ++ leBytes 4 0 ++ leBytes 2 0 ++ leBytes 2 32
  let pay := leBytes 8 (m.dmaDesc t c) ++ leBytes 4 moved ++ leBytes 1 cause ++ leBytes 3 0 ++
    leBytes 4 (m.rd (P.dma t) (F.DMA_CH_HOPS_COUNT.nth c)) ++ leBytes 12 0
  let m := m.modDma t c fun s => { s with recs := s.recs ++ [{ hdr, payload := pay }] }
  flushRecs t c ((m.dmaCh t c).recs.length + 1) m

/-- `CHc_OFS` brought up to date: the lowest offset outstanding or not yet stored, or all that has been issued (R471). -/
def updateOfs (m : Mach) (t c : Nat) : Mach :=
  let s := m.dmaCh t c
  let pend := (((liveOuts s).filter fun x => !x.bar && !x.fetch).map fun x => x.ofs) ++ s.part.map Prod.fst
  m.wr (P.dma t) (F.DMA_CH_OFS_OFS.nth c) (pend.foldl min s.issued)

/-- The channel halts (R470). -/
def dmaHalt (m : Mach) (t c cause : Nat) : Mach :=
  let pk := P.dma t
  let m := m.updateOfs t c
  let m := m.modDma t c fun s => { s with outs := s.outs.map fun x => { x with dead := true }, wait := none, part := [] }
  let m := (m.setDmaState t c (if cause = 13 then 4 else 5)).wr pk (F.DMA_CH_STAT_CAUSE.nth c) cause
  let m := if cause = 13 then m.raise pk 3 else (m.inc pk (F.DMA_CH_ERRS_COUNT.nth c)).raise pk 2
  m.dmaRecord t c (if cause = 13 then 3 else 2) cause (m.rd pk (F.DMA_CH_OFS_OFS.nth c))

/-! ### Fetching a descriptor (R466, R469, R470) -/

/-- A transaction finds its channel below MAX_OUT, a slot of the tile's 256 and, where it reads host memory, one of the 128 tags (R432,
R467, R473). -/
def roomFor (m : Mach) (t c : Nat) (host : Bool) : Bool :=
  decide ((m.dmaCh t c).outs.length < m.rd (P.dma t) (F.DMA_CH_CFG_MAX_OUT.nth c)) && decide (m.slotsUsed t < 256) &&
    (!host || decide (m.tagsUsed t < 128))

/-- A fetch or barrier read is issued, or waits for a slot or a tag (R467, R473). -/
def sendTr (m : Mach) (t c : Nat) (x : DmaTr) : Mach :=
  if m.roomFor t c x.host then m.modDma t c fun s => { s with outs := s.outs ++ [x], wait := none }
  else m.modDma t c fun s => { s with wait := some x }

/-- Transactions that waited are issued as slots and tags come free; host memory refused meanwhile halts the channel (R473). -/
def sendWaiting (m : Mach) (t : Nat) : Mach :=
  (List.range 16).foldl (fun m c =>
    match (m.dmaCh t c).wait with
    | none => m
    | some x =>
      if (m.dmaState t c ≠ 1 && m.dmaState t c ≠ 2) || !m.roomFor t c x.host then m
      else if x.host && !m.hostMem t then m.dmaHalt t c 10
      else m.sendTr t c x) m

/-- The fetch of the descriptor at `a` is issued; `fresh` counts it as a hop. -/
def issueFetch (m : Mach) (t c a : Nat) (fresh : Bool) : Mach :=
  let pk := P.dma t
  let m := m.wr2 pk (F.DMA_CH_DESC_LO_ADDR.nth c) (F.DMA_CH_DESC_HI_ADDR.nth c) a
  let m := m.modDma t c fun s => { s with ready := false, done := false, issued := 0, burstEnd := 0,
                                          tag := if fresh then 0 else s.tag }
  let m := m.wr pk (F.DMA_CH_OFS_OFS.nth c) 0
  let hops := m.rd pk (F.DMA_CH_HOPS_COUNT.nth c)
  let limit := m.rd pk F.DMA_HOP_LIMIT_HOPS
  if a % 32 ≠ 0 then m.dmaHalt t c 2
  else match m.fabTarget t a 32 with
  | some (.shd _) => m.dmaHalt t c 3
  | _ =>
    match m.rangeCause t c a 32 with
    | some e => m.dmaHalt t c e
    | none =>
      if fresh && limit ≠ 0 && decide (limit < hops + 1) then m.dmaHalt t c 6
      else if m.hostRefused t a then m.dmaHalt t c 10
      else
        let m := if fresh then m.wr pk (F.DMA_CH_HOPS_COUNT.nth c) (hops + 1) else m
        m.sendTr t c { fetch := true, host := decide (hostBase ≤ a), dram := decide (a < m.dramCap t) }

/-- What is wrong with a descriptor as a whole: ALIGN, DECODE or DRAM_DOWN, OVERLAP, LOOP. -/
def descCause (m : Mach) (t c : Nat) : Option Nat :=
  let s := m.dmaCh t c
  let len := descLen s.ctrl
  if !descLast s.ctrl && s.next % 32 ≠ 0 then some 2
  else
    match (if len = 0 then none else (m.rangeCause t c s.src len).or (m.rangeCause t c s.dst len)) with
    | some e => some e
    | none =>
      if 0 < len ∧ s.src < s.dst + len ∧ s.dst < s.src + len then some 4
      else if !descLast s.ctrl && !descLoopOk s.ctrl && s.recent.contains s.next then some 5
      else none

/-- Step 7: with every record written, the chain ends or goes on (R466). -/
def dmaNext (m : Mach) (t c : Nat) : Mach :=
  let s := m.dmaCh t c
  if !s.done || !s.recs.isEmpty || m.dmaState t c ≠ 1 then m
  else if descLast s.ctrl then ((m.setDmaState t c 0).modDma t c fun s => { s with done := false, ready := false }).raise (P.dma t) 1
  else m.issueFetch t c s.next true

/-- The descriptor completes: counts, write-back, event and record, and the next one (R466). -/
def dmaComplete (m : Mach) (t c : Nat) : Mach :=
  let pk := P.dma t
  let s := m.dmaCh t c
  let a := m.dmaDesc t c
  let wb := m.flag pk (F.DMA_CH_CFG_WB.nth c)
  if wb && m.hostRefused t a then m.dmaHalt t c 10
  else if wb && decide (a < hostBase) && !m.flag (P.dram t) F.DRAM_STAT_TRAINED then m.dmaHalt t c 11
  else
    let m := m.incW pk (F.DMA_CH_DONE_COUNT.nth c)
    let m := if !wb then m
      else if hostBase ≤ a then hostWrites t (m.mps t) 8 m (a - hostBase) (leBytes 4 (s.ctrl / 2 * 2))
      else m.dramWrite t a (leBytes 4 (s.ctrl / 2 * 2))
    let m := m.modDma t c fun s => { s with done := true }
    let m := if descIrq s.ctrl then (m.raise pk 0).dmaRecord t c 1 0 (descLen s.ctrl) else m
    m.dmaNext t c

/-- Every byte is written: the descriptor completes, for a barrier after the read of its last host address (R468). -/
def dmaWritten (m : Mach) (t c : Nat) : Mach :=
  let s := m.dmaCh t c
  if descBarrier s.ctrl && decide (hostBase ≤ s.dst) && decide (0 < descLen s.ctrl) then
    if m.hostRefused t s.dst then m.dmaHalt t c 10
    else m.sendTr t c { ofs := descLen s.ctrl, bar := true, host := true }
  else m.dmaComplete t c

/-- A channel that is stopping has nothing outstanding: it halts as STOPPED (R472). -/
def dmaSettle (m : Mach) (t c : Nat) : Mach :=
  if m.dmaState t c = 3 ∧ (liveOuts (m.dmaCh t c)).isEmpty then m.dmaHalt t c 13 else m

/-- A cause that a completion brings. -/
def cplCause : Cpl → Option Nat
  | .ok _ => none
  | .poison => some 9
  | .error => some 8
  | .timeout => some 7

def cplBytes : Cpl → List Byte
  | .ok b => b
  | _ => []

/-- `len` bytes as a read of a fabric range returns them: from host memory the completion's own, missing ones zero (log entry 70); from
a shading table each entry checked as it is read (R238), zeros while PIPEc is off (R237) (log entry 113). -/
def fabRead (m : Mach) (t a len : Nat) (cpl : Cpl) : Mach × Option Nat × List Byte :=
  match m.fabTarget t a len with
  | some .dram =>
    let r := m.dramCheck t a len
    (r.1, if r.2 then some 9 else none, m.dramRead t a len)
  | some (.shd c) =>
    let g := 2 * t + c
    let lo := (a - shdBase c) / 16
    let on := m.live t (D.pipe c)
    let m := if on then m.readEntries g lo ((a - shdBase c + len + 15) / 16) else m
    let byte := fun i =>
      let o := a - shdBase c + i
      BitVec.ofNat 8 (if on && decide (o % 16 < 12) then bits (m.entry g (o / 16)) (o % 16 * 8 + 7) (o % 16 * 8) else 0)
    (m, none, (List.range len).map byte)
  | _ => (m, cplCause cpl, (List.range len).map fun i => (cplBytes cpl).getD i 0)

/-- The fetch of a channel's descriptor returns (R466 steps 1–3). `cpl` is the completion of a host read. -/
def fetchEnds (m : Mach) (t c : Nat) (cpl : Cpl) : Mach :=
  let pk := P.dma t
  let s := m.dmaCh t c
  match s.outs.findIdx? (fun x => x.fetch) with
  | none => m
  | some i =>
    let x := s.outs.getD i {}
    let m := m.modDma t c fun s => { s with outs := s.outs.eraseIdx i }
    if x.dead then m
    else
      let a := m.dmaDesc t c
      let r := m.fabRead t a 32 cpl
      let m := r.1
      match r.2.1 with
      | some e => m.dmaHalt t c e
      | none =>
        let b := r.2.2
        let ctrl := ofLe (b.take 4)
        let m := m.modDma t c fun s =>
          { s with ctrl, src := ofLe ((b.drop 4).take 8), dst := ofLe ((b.drop 12).take 8),
                   next := ofLe ((b.drop 20).take 8), tag := ofLe ((b.drop 28).take 4) }
        if !descValid ctrl then
          if m.dmaState t c = 3 then m.dmaHalt t c 13
          else if m.flag pk (F.DMA_CH_CFG_WAIT_VALID.nth c) then m.setDmaState t c 2
          else m.dmaHalt t c 1
        else
          let m := m.modDma t c fun s => { s with recent := (a :: s.recent).take 8 }
          let m := if descLoopOk ctrl then m.wr pk (F.DMA_CH_HOPS_COUNT.nth c) 0 else m
          match m.descCause t c with
          | some e => m.dmaHalt t c e
          | none =>
            let m := m.modDma t c fun s => { s with ready := true }
            if m.dmaState t c = 3 then m.dmaHalt t c 13
            else
              let m := m.setDmaState t c 1
              if descLen ctrl = 0 then m.dmaWritten t c else m

/-- A descriptor fetch returns; a transaction that waited for its slot or tag is issued. -/
def descFetched (m : Mach) (t c : Nat) (cpl : Cpl) : Mach := (m.fetchEnds t c cpl).sendWaiting t

/-- POLL_US elapses in WAIT_VALID: the descriptor is fetched again (R466). -/
def descPoll (m : Mach) (t c : Nat) : Mach :=
  if m.dmaState t c ≠ 2 || (m.dmaCh t c).wait.isSome || (m.dmaCh t c).outs.any (fun x => x.fetch && !x.dead) then m
  else m.issueFetch t c (m.dmaDesc t c) false

/-! ### Bursts and transactions (R467, R468) -/

/-- End of the burst that begins at offset `o`: the next multiple of the burst size in destination addresses, or the end. -/
def burstStop (m : Mach) (t c o : Nat) : Nat :=
  let s := m.dmaCh t c
  let b := 2 ^ m.rd (P.dma t) (F.DMA_CLASS_BURST_LOG2.nth (descClass s.ctrl))
  min (descLen s.ctrl) (((s.dst + o) / b + 1) * b - s.dst)

/-- Reads of the burst issued while slots and tags last: a host read at most Max_Read_Request_Size and inside one 4 KiB page, a write
to an SHD table at whole 16-byte slots inside the burst (log entry 68). -/
def issueReads (t c : Nat) : Nat → Mach → Mach
  | 0, m => m
  | k + 1, m =>
    let s := m.dmaCh t c
    let o := s.issued
    let fromHost := decide (hostBase ≤ s.src)
    let room := s.burstEnd - o
    let cut := if fromHost then min (m.mrrs t) (4096 - (s.src + o) % 4096) else room
    let n := if room ≤ cut then room
      else match m.fabTarget t s.dst (descLen s.ctrl) with
        | some (.shd _) => if 16 ≤ cut then cut - (s.dst + o + cut) % 16 else cut
        | _ => cut
    if n = 0 || !m.roomFor t c fromHost then m
    else
      let cap := m.dramCap t
      issueReads t c k (m.modDma t c fun s =>
        { s with issued := o + n,
                 outs := s.outs ++ [{ ofs := o, len := n, host := fromHost, dram := decide (s.src < cap) || decide (s.dst < cap) }] })

/-- The channel issues its next burst, or what is left of the one it has begun (R467) (log entry 68). -/
def dmaBurst (m : Mach) (t c : Nat) : Mach :=
  let s := m.dmaCh t c
  if m.dmaState t c ≠ 1 || !s.ready || s.done || decide (descLen s.ctrl ≤ s.issued) then m
  else if m.hostRefused t s.src || m.hostRefused t s.dst then m.dmaHalt t c 10
  else
    let m := if s.burstEnd ≤ s.issued then m.modDma t c fun s => { s with burstEnd := m.burstStop t c s.issued } else m
    issueReads t c 64 m

/-- Bytes of one table slot, of which the descriptor writes all 16, from descriptor offset `d` on: the slot's bytes are held until all have
arrived, then the entry is written (R251). `first` is the descriptor offset of the slot. -/
def joinSlot (m : Mach) (t c g e first d : Nat) (bs : List Byte) : Mach :=
  let all := (m.dmaCh t c).part ++ (bs.zipIdx.map fun x => (d + x.2, x.1))
  let mine := all.filter fun x => first ≤ x.1 && x.1 < first + 16
  if mine.length < 16 then m.modDma t c fun s => { s with part := all }
  else
    let byte := fun i => ((mine.find? fun x => x.1 = first + i).map Prod.snd).getD 0
    (m.modDma t c fun s => { s with part := all.filter fun x => !(first ≤ x.1 && x.1 < first + 16) }).writeEntry g e
      (ofLe ((List.range 12).map byte))

/-- Bytes of a descriptor from offset `d` on written to an SHD table, where they begin at table byte `o` (R251): whole 16-byte slots; a slot
that the descriptor covers in part stays and is counted once. -/
def writeShdBytes (t c g : Nat) : Nat → Mach → Nat → Nat → List Byte → Mach
  | 0, m, _, _, _ => m
  | k + 1, m, d, o, bs =>
    if bs.isEmpty then m
    else
      let n := min bs.length (16 - o % 16)
      let first := d - o % 16
      let m :=
        if n = 16 then m.writeEntry g (o / 16) (ofLe (bs.take 12))
        else if o % 16 ≤ d ∧ first + 16 ≤ descLen (m.dmaCh t c).ctrl then m.joinSlot t c g (o / 16) first d (bs.take n)
        else if d = 0 ∨ o % 16 = 0 then m.errCount (P.shd g)
        else m
      writeShdBytes t c g k m (d + n) (o + n) (bs.drop n)

/-- A write of `bs` to SHD table `i`: ignored, counted and a cause of a halt while a deal of the hand is open (R251, R470); ignored and
counted while the builder runs (R257) and on a locked page (R98); ignored while PIPEc is off (R237) (log entry 113). -/
def storeShd (m : Mach) (t c i d o : Nat) (bs : List Byte) : Mach × Option Nat :=
  let g := 2 * t + i
  if !m.live t (D.pipe i) then (m, none)
  else if m.tableLocked g then (m.errCount (P.shd g), some 12)
  else if m.flag (P.cal g) F.CAL_STAT_BUSY || m.flag (P.shd g) F.PAGE_CTRL_LOCK then (m.errCount (P.shd g), none)
  else (writeShdBytes t c g (bs.length + 1) m d o bs, none)

/-- Data arriving for a transaction written to its destination, or the cause of the halt it meets (log entries 68, 76). -/
def dmaStore (m : Mach) (t c a : Nat) (bs : List Byte) : Mach × Option Nat :=
  match m.fabTarget t a bs.length with
  | some .dram => if m.flag (P.dram t) F.DRAM_STAT_TRAINED then (m.dramWrite t a bs, none) else (m, m.rangeCause t c a bs.length)
  | some (.shd i) => m.storeShd t c i (a - (m.dmaCh t c).dst) (a - shdBase i) bs
  | some .host => if m.hostMem t then (hostWrites t (m.mps t) (bs.length + 1) m (a - hostBase) bs, none) else (m, some 10)
  | none => (m, some 3)

/-- The `i`-th outstanding transaction of a channel ends, with its effect (R470, R471) (log entries 11, 68). -/
def dmaEnds (m : Mach) (t c i : Nat) (cpl : Cpl) : Mach :=
  let pk := P.dma t
  let s := m.dmaCh t c
  match s.outs[i]? with
  | none => m
  | some x =>
    let gone := fun (m : Mach) => m.modDma t c fun s => { s with outs := s.outs.eraseIdx i }
    if x.fetch then m
    else if x.dead then gone m
    else if x.bar then
      match cplCause cpl with
      | some e => (gone m).dmaHalt t c e
      | none => if m.dmaState t c = 3 then (gone m).dmaSettle t c else (gone m).dmaComplete t c
    else
      let r := m.fabRead t (s.src + x.ofs) x.len cpl
      match r.2.1 with
      | some e => gone (r.1.dmaHalt t c e)
      | none =>
        let w := r.1.dmaStore t c (s.dst + x.ofs) r.2.2
        match w.2 with
        | some e => gone (w.1.dmaHalt t c e)
        | none =>
          let m := gone w.1
          let n := m.rd2 pk (F.DMA_CH_BYTES_LO_COUNT.nth c) (F.DMA_CH_BYTES_HI_COUNT.nth c)
          let m := m.wr2 pk (F.DMA_CH_BYTES_LO_COUNT.nth c) (F.DMA_CH_BYTES_HI_COUNT.nth c) (n + x.len)
          let m := m.updateOfs t c
          let s := m.dmaCh t c
          if m.dmaState t c = 3 then m.dmaSettle t c
          else if (liveOuts s).isEmpty && s.issued = descLen s.ctrl then m.dmaWritten t c
          else m

/-- The `i`-th outstanding transaction of a channel completes; a transaction that waited for its slot or tag is issued (log entries 11, 68). -/
def dmaDone (m : Mach) (t c i : Nat) (cpl : Cpl) : Mach := (m.dmaEnds t c i cpl).sendWaiting t

/-- A transaction has had no response for TMO µs (R470). -/
def dmaTimeout (m : Mach) (t c : Nat) : Mach :=
  if m.dmaBusy t c && !(liveOuts (m.dmaCh t c)).isEmpty then m.dmaHalt t c 7 else m

/-! ### Commands (R466, R472) -/

/-- `CHc_CMD.GO`. -/
def dmaGo (m : Mach) (t c : Nat) : Mach :=
  let pk := P.dma t
  if m.dmaBusy t c then m.refuse pk 4
  else
    let m := (m.wr pk (F.DMA_CH_HOPS_COUNT.nth c) 0).wr2 pk (F.DMA_CH_BYTES_LO_COUNT.nth c) (F.DMA_CH_BYTES_HI_COUNT.nth c) 0
    let m := m.modDma t c fun s => { s with recent := [], dramLost := false }
    (m.setDmaState t c 1).issueFetch t c
      (m.rd pk (F.DMA_CH_START_LO_ADDR.nth c) * 32 + m.rd pk (F.DMA_CH_START_HI_ADDR.nth c) * 2 ^ 32) true

/-- `CHc_CMD.STOP`. -/
def dmaStop (m : Mach) (t c : Nat) : Mach :=
  match m.dmaState t c with
  | 1 => (m.setDmaState t c 3).dmaSettle t c
  | 2 => m.dmaHalt t c 13
  | _ => m

/-- `CHc_CMD.RESUME` (log entry 69). -/
def dmaResume (m : Mach) (t c : Nat) : Mach :=
  let pk := P.dma t
  let cause := m.rd pk (F.DMA_CH_STAT_CAUSE.nth c)
  if m.dmaState t c < 4 || decide (cause ≤ 6) then m.refuse pk 4
  else
    let o := m.rd pk (F.DMA_CH_OFS_OFS.nth c)
    let m := m.modDma t c fun s => { s with issued := o, burstEnd := 0, dramLost := false }
    let s := m.dmaCh t c
    let m := m.setDmaState t c 1
    if !s.ready then m.issueFetch t c (m.dmaDesc t c) false
    else if s.done then m.dmaNext t c
    else if descLen s.ctrl ≤ o then m.dmaWritten t c
    else m

/-- `CHc_CMD`; each bit is an action of its own, lowest first (log entry 89). -/
def dmaCmd (m : Mach) (t c n : Nat) : Mach :=
  let m := if bit n 0 then m.dmaGo t c else m
  let m := if bit n 1 then m.dmaStop t c else m
  if bit n 2 then m.dmaResume t c else m

/-- FREE of the record queue has grown: channels that wait for it write their records and go on (R474) (log entry 106). -/
def dmaFree (m : Mach) (t : Nat) : Mach :=
  (List.range 16).foldl (fun m c =>
    if (m.dmaCh t c).recs.isEmpty then m
    else (flushRecs t c ((m.dmaCh t c).recs.length + 1) m).dmaNext t c) m

/-! ### Loss of DRAM and of the host (R470, R473) -/

/-- TRAINED fell: a running channel that is on DRAM halts, any other at its next DRAM access (log entry 69). -/
def dmaDramDown (m : Mach) (t : Nat) : Mach :=
  (List.range 16).foldl (fun m c =>
    if !m.dmaBusy t c then m
    else
      let m := m.modDma t c fun s => { s with dramLost := true }
      let s := m.dmaCh t c
      let onDram := if s.ready && !s.done then s.src < m.dramCap t || s.dst < m.dramCap t else m.dmaDesc t c < m.dramCap t
      if onDram then m.dmaHalt t c 11 else m) m

/-- A host port reset: outstanding host reads are lost. -/
def dmaHostDown (m : Mach) (t : Nat) : Mach :=
  ((List.range 16).foldl (fun m c =>
    let lost := m.dmaBusy t c && (liveOuts (m.dmaCh t c)).any fun x => x.host
    let m := if lost then m.dmaHalt t c 10 else m
    m.modDma t c fun s => { s with outs := s.outs.filter fun x => !x.host }) m).sendWaiting t

/-! ### Page DMA (R491) -/

/-- DMA registers computed when read: slots in use. -/
def dmaRead (m : Mach) (t off : Nat) : Option Word :=
  if off = 0x048 then some (BitVec.ofNat 32 (m.slotsUsed t))
  else if 0x100 ≤ off ∧ off < 0x500 ∧ (off - 0x100) % 0x40 = 0x10 then
    some (BitVec.ofNat 32 (putBits (m.word (P.dma t) off).toNat 6 0 (m.dmaCh t ((off - 0x100) / 0x40)).outs.length))
  else none

/-- A write to a register of page DMA that has a behaviour of its own. -/
def writeDma (m : Mach) (t off : Nat) (v : Word) : Option Mach :=
  let pk := P.dma t
  let n := v.toNat
  if off = 0x044 then if bits n 19 0 < 16 ∨ 1000000 < bits n 19 0 then some (m.refuse pk 4) else none
  else if 0x060 ≤ off ∧ off < 0x080 then
    if bits n 24 16 = 0 ∨ 256 < bits n 24 16 ∨ bits n 3 0 < 6 ∨ 12 < bits n 3 0 then some (m.refuse pk 4) else none
  else if 0x100 ≤ off ∧ off < 0x500 then
    let c := (off - 0x100) / 0x40
    match (off - 0x100) % 0x40 with
    | 0x00 =>
      if m.dmaBusy t c || decide (bits n 31 24 = 0) || decide (64 < bits n 31 24) || decide (bits n 23 16 = 0) then some (m.refuse pk 4) else none
    | 0x04 => if m.dmaBusy t c then some (m.refuse pk 4) else none
    | 0x08 => if m.dmaBusy t c then some (m.refuse pk 4) else none
    | 0x0C => some (m.dmaCmd t c n)
    | _ => none
  else none

/-- A block soft reset of DMA: every channel IDLE, outstanding transactions complete with their data discarded (R490). -/
def softResetDma (m : Mach) (t : Nat) : Mach :=
  (m.modTile t fun ts => { ts with dma := ts.dma.map fun s => { outs := s.outs.map fun x => { x with dead := true } } }).softResetPage
    (P.dma t)

end Mach

end Sys2Proof.Machine
end

