-- ==== Sys2Proof/Machine/Host.lean ====
section
/-!
DEFINITION. Host ports (R426–R461): link, training and host port reset; the PCIe endpoint with its stream rings, doorbells, MSI-X
and configuration space; the Ethernet interface with PTP and the discipline of the time base; Thaig streams, credit and events. Thaig
control requests and BAR0 requests, which make register accesses, stand in Machine/HostCtl.lean.
-/

namespace Sys2Proof.Machine.Mach

/-- The physical link is up. -/
def phyUp (m : Mach) (t : Nat) : Bool := m.hostPower t && m.flag (P.hostp t) F.HOSTP_STAT_PHY_UP

/-- Traffic passes: the physical link is up and REFCLK clocks its SerDes, whose transmitters are idle without it (R73, R74) (log entry 24). -/
def wireUp (m : Mach) (t : Nat) : Bool := m.phyUp t && !m.refLost

/-! ### Port A on a host port (R110, R431) -/

/-- Port A is attached through tile `t`'s host port. -/
def attachedAt (m : Mach) (t : Nat) : Bool :=
  m.flag P.ports F.PORTS_STAT_A_PATH && m.rd P.ports F.PORTS_STAT_A_TILE = t

/-- The path port A has through tile `t`'s host port, in the tile's segment: 0 none, 1 PCIe, 2 Thaig. -/
def pathA (m : Mach) (t : Nat) : Nat := m.viewed t fun v => if v.attachedAt t then v.rd P.ports F.PORTS_STAT_A_PATH else 0

/-- Port A attaches to tile `t`'s host port. -/
def attach (m : Mach) (t : Nat) : Mach :=
  ((m.wr P.ports F.PORTS_STAT_A_PATH (m.hostMode t)).wr P.ports F.PORTS_STAT_A_TILE t).raise P.ports 2

/-- Port A detaches, if attached. -/
def detach (m : Mach) : Mach :=
  if !m.flag P.ports F.PORTS_STAT_A_PATH then m
  else ((m.wr P.ports F.PORTS_STAT_A_PATH 0).wr P.ports F.PORTS_STAT_A_TILE 0).raise P.ports 3

/-- Port A is attached through another host port: an access here is rejected. -/
def foreign (m : Mach) (t : Nat) : Bool := m.flag P.ports F.PORTS_STAT_A_PATH && m.rd P.ports F.PORTS_STAT_A_TILE ≠ t

/-- The rejection counted (R110). -/
def countForeign (m : Mach) : Mach := (m.inc P.ports F.PORTS_A_FOREIGN_COUNT).raise P.ports 4

/-- The port is control-capable (R431). -/
def ctrlCapable (m : Mach) (t : Nat) : Bool := m.flag (P.hostp t) F.HOSTP_CFG_CTRL_CAP

/-! ### Downstream credit (R439, R455) -/

/-- Downstream credit of queue `q`. -/
def portCredit (m : Mach) (t q : Nat) : Nat :=
  if !m.hostPower t then 0
  else match m.hostMode t with
  | 1 =>
    let pk := P.pcie t
    if m.flag pk (F.PCIE_Q_RING_CFG_EN.nth q) then
      2 ^ m.rd pk (F.PCIE_Q_RING_CFG_SLOTS_LOG2.nth q) -
        (m.rd pk (F.PCIE_Q_DELIVERED_COUNT.nth q) + 2 ^ 32 - m.rd pk (F.PCIE_Q_CONSUMED_COUNT.nth q)) % 2 ^ 32
    else 0
  | 2 =>
    let pk := P.thaig t
    satN 65535 (toS 32 (m.rd pk (F.THAIG_Q_LIMIT_LIMIT.nth q) + 2 ^ 32 - m.rd pk (F.THAIG_Q_SENT_COUNT.nth q)))
  | _ => 0

/-- The credit mirrored in `QUE.Qq_DCRED`. -/
def mirrorCredit (m : Mach) (t q : Nat) : Mach := m.modQueue t q fun s => { s with dcred := m.portCredit t q }

/-- The credits of all queues mirrored. -/
def mirrorCredits (m : Mach) (t : Nat) : Mach := (List.range 32).foldl (fun m q => m.mirrorCredit t q) m

/-! ### Link, training, host port reset (R427–R430) -/

/-- Reset value of `HOSTP.CFG` on the boot tile for a strapped HMODE, and on every other tile (R427, R458). -/
def hostCfgReset (boot : Bool) (hmode : Nat) : Nat :=
  let ctrl := (boot && decide (hmode ≠ 0)).toNat
  let rate := if !boot then 0 else match hmode with | 1 => 5 | 3 => 1 | _ => 0
  let mode := if !boot then 0 else match hmode with | 0 => 0 | 1 => 1 | _ => 2
  ctrl * 2 ^ 31 + (boot && decide (hmode = 3)).toNat * 2 ^ 20 + 2 * 2 ^ 16 + 2 * 2 ^ 12 + rate * 2 ^ 8 + mode

/-- Training starts, unless the mode is off, a domain is off, or HP_PERST_N holds a PCIe endpoint (R428, R430, R437). -/
def startTraining (m : Mach) (t : Nat) : Mach :=
  let go := m.hostPower t && m.hostMode t ≠ 0 && !(m.hostMode t = 1 && (m.host t).perstLow)
  ((m.modHost t fun h => { h with failShown := false, restart := h.restart && !go }).wrb (P.hostp t) F.HOSTP_STAT_TRAINING go)

/-- Status, INT_RAW and counters of a page cleared, its configuration and ENABLE kept (R86, column "Host port reset"). -/
def clearStatus (m : Mach) (pk : Nat) : Mach :=
  let en := m.flag pk F.PAGE_CTRL_ENABLE
  (m.softResetPage pk).wrb pk F.PAGE_CTRL_ENABLE en

/-- A host port reset (R430) (log entries 54, 55). -/
def hostResetNow (m : Mach) (t cause : Nat) : Mach :=
  if !m.live t D.hostphy then m else
  let m := m.inSeg t fun m => if m.attachedAt t then m.detach else m
  let m := [P.hostp t, P.pcie t, P.eth t, P.thaig t].foldl clearStatus m
  let m := m.clearArr (P.eth t) 0
  let m := (List.range 32).foldl (fun m q => m.wr (P.pcie t) (F.PCIE_Q_RING_CFG_EN.nth q) 0) m
  let m := m.modHost t fun h => { cfg := h.cfg, perstLow := h.perstLow, learned := h.learned, restart := h.restart }
  let m := (m.dmaHostDown t).mirrorCredits t
  ((m.wr (P.hostp t) F.HOSTP_STAT_DOWN_CAUSE cause).raise (P.hostp t) 1).startTraining t

/-- A host port reset, unless a DORMANT entry of the tile is in progress (R85) (log entries 54, 55). -/
def hostReset (m : Mach) (t cause : Nat) : Mach := if m.fallingAsleep t then m else m.hostResetNow t cause

/-- HOSTL goes off (R429 code 9): a link that is up goes down, and pages PCIE, ETH and THAIG are lost with the domain (R62). -/
def hostlOff (m : Mach) (t : Nat) : Mach :=
  let m := if m.linkUp t then m.hostResetNow t 9
           else m.modHost t fun h => { cfg := h.cfg, perstLow := h.perstLow, restart := h.restart }
  let m := m.modHost t fun h => { h with learned := 0 }
  m.wr (P.hostp t) F.HOSTP_STAT_TRAINING 0

/-- `HOSTP.CMD.RESTART`, which reads 1 until training starts (R427, R458) (log entry 54). -/
def hostRestart (m : Mach) (t : Nat) : Mach :=
  let c := (m.word (P.hostp t) 0x040).toNat
  let mode := bits c 1 0
  let rate := bits c 10 8
  let pmd := bits c 17 16
  let row := match mode with
    | 0 => true
    | 1 => decide (1 ≤ rate) && decide (rate ≤ 5)
    | 2 => decide (rate ≤ 4) && !(rate = 0 && pmd = 1)
    | _ => false
  if !row || (mode = 0 && m.attachedAt t) then m.refuse (P.hostp t) 5
  else if m.fallingAsleep t then m
  else (m.modHost t fun h => { h with cfg := c, restart := decide (mode ≠ 0) }).hostReset t 6

/-- Training completes (R428): generation and width that both partners support for PCIe, the configured rate for Ethernet (log entry 11). -/
def linkComes (m : Mach) (t gen width : Nat) : Mach :=
  let pk := P.hostp t
  if !m.hostPower t || !m.flag pk F.HOSTP_STAT_TRAINING || m.refLost then m else
  let c := (m.host t).cfg
  let rate := bits c 10 8
  let pcie := m.hostMode t = 1
  let r := if pcie then max 1 (min rate gen) else rate
  let w := if pcie then min (bits c 13 12) (min 2 width) else if rate = 4 then 2 else if rate = 3 then 1 else 0
  let m := ((m.wr pk F.HOSTP_STAT_TRAINING 0).wr pk F.HOSTP_STAT_RATE_NOW r).wr pk F.HOSTP_STAT_WIDTH_NOW w
  let m := (m.wr pk F.HOSTP_STAT_PHY_UP 1).wr pk F.HOSTP_STAT_LINK 1
  let m := if pcie then (m.wr (P.pcie t) F.PCIE_STAT_GEN r).wr (P.pcie t) F.PCIE_STAT_LANES (2 ^ w) else m
  m.raise pk 0

/-- A partner is present and the link has not come up within its bound (R428). -/
def trainFail (m : Mach) (t : Nat) : Mach :=
  if !m.hostPower t || !m.flag (P.hostp t) F.HOSTP_STAT_TRAINING || (m.host t).failShown then m
  else (m.modHost t fun h => { h with failShown := true }).raise (P.hostp t) 4

/-- HP_PERST_N falls (R437). -/
def perstFalls (m : Mach) (t : Nat) : Mach :=
  if (m.host t).perstLow then m
  else
    let m := m.modHost t fun h => { h with perstLow := true }
    if m.hostPower t && m.hostMode t = 1 then m.hostReset t 1 else m

/-- HP_PERST_N rises: training is anchored here (R428, R437). -/
def perstRises (m : Mach) (t : Nat) : Mach :=
  if !(m.host t).perstLow then m
  else
    let m := m.modHost t fun h => { h with perstLow := false }
    if m.hostPower t && m.hostMode t = 1 then m.startTraining t else m

/-- HP_CLKREQ_N is driven low (R437). -/
def clkreqLow (m : Mach) (t : Nat) : Bool := m.hostPower t && m.hostMode t = 1

/-- A PCIe link that is up takes a host port reset: cause 2, 3 or 4 (R429). A Function Level Reset raises FLR. -/
def pcieReset (m : Mach) (t cause : Nat) : Mach :=
  if !m.phyUp t || m.hostMode t ≠ 1 then m
  else
    let m := m.hostReset t cause
    if cause = 4 then m.raise (P.pcie t) 3 else m

/-- An Ethernet link that is up loses its PCS for DEBOUNCE ms (R429 code 5). -/
def pcsLoss (m : Mach) (t : Nat) : Mach := if !m.phyUp t || m.hostMode t ≠ 2 then m else m.hostReset t 5

/-- No datagram accepted for LIVE.MS ms: the link counts as down, without a reset (R429 code 8) (log entry 64). -/
def hostSilent (m : Mach) (t : Nat) : Mach :=
  let pk := P.hostp t
  if !m.linkUp t || m.hostMode t ≠ 2 || m.rd (P.thaig t) F.THAIG_LIVE_MS = 0 then m
  else (((m.wr pk F.HOSTP_STAT_LINK 0).wr pk F.HOSTP_STAT_SILENT 1).wr pk F.HOSTP_STAT_DOWN_CAUSE 8).raise pk 1 |>.raise pk 2

/-- An accepted datagram ends silence (R429) (log entry 64). -/
def endSilence (m : Mach) (t : Nat) : Mach :=
  let pk := P.hostp t
  if m.flag pk F.HOSTP_STAT_SILENT then ((m.wr pk F.HOSTP_STAT_SILENT 0).wr pk F.HOSTP_STAT_LINK 1).raise pk 3 else m

/-! ### MSI-X (R130, R440) -/

/-- The endpoint may send MSI-X messages: MSI-X enabled, bus master, D0, and traffic passes. -/
def msixOn (m : Mach) (t : Nat) : Bool :=
  m.hostMem t && !m.refLost && m.flag (P.pcie t) F.PCIE_STAT_MSIX_EN

/-- A message of a vector falls due: it is sent, or made pending while masked (log entry 101). -/
def dueVec (m : Mach) (t v : Nat) : Mach :=
  let e := vget (m.host t).vecs v
  if m.flag (P.pcie t) F.PCIE_STAT_MSIX_MASK || e.masked then
    m.modHost t fun h => { h with vecs := vmod h.vecs v fun e => { e with pending := true } }
  else m.emitOut (.msix t v e.addr e.data)

/-- Pending messages whose vector is no longer masked are sent (log entry 101). -/
def flushVecs (m : Mach) (t : Nat) : Mach :=
  if !m.msixOn t || m.flag (P.pcie t) F.PCIE_STAT_MSIX_MASK then m else
  (List.range 64).foldl (fun m v =>
    let e := vget (m.host t).vecs v
    if e.pending && !e.masked then
      (m.modHost t fun h => { h with vecs := vmod h.vecs v fun e => { e with pending := false } }).emitOut (.msix t v e.addr e.data)
    else m) m

/-- Vector 9 + q sends its message and disarms, if enabled and armed (R440). -/
def queueVec (m : Mach) (t q : Nat) : Mach :=
  if m.flag (P.pcie t) (F.PCIE_Q_RING_CFG_VEC_EN.nth q) && bit (m.host t).armed q && m.msixOn t then
    (m.modHost t fun h => { h with armed := putBit h.armed q false }).dueVec t (9 + q)
  else m

/-! ### PCIe requests received (R439, R441) -/

/-- A request answered with Unsupported Request, counted and raised (log entry 57). -/
def unsupported (m : Mach) (t : Nat) : Mach :=
  ((m.inc (P.pcie t) F.PCIE_COUNTS_UR_SENT).raise (P.pcie t) 2).emitOut (.unsupported t)

/-- Memory requests to a BAR are served (R433, R441). -/
def memServed (m : Mach) (t : Nat) : Bool :=
  (m.host t).memEn && (m.host t).cfgDone && m.rd (P.pcie t) F.PCIE_STAT_DSTATE = 0

/-- A poisoned memory write is dropped (R441) (log entry 56). -/
def poisonRx (m : Mach) (t : Nat) : Mach :=
  ((m.inc (P.pcie t) F.PCIE_AER_UNC_COUNT).inc (P.pcie t) F.PCIE_COUNTS_POISON_RX).raise (P.pcie t) 1

/-- A doorbell write to BAR2 (R439, R440, R441) (log entry 56). -/
def doorbell (m : Mach) (t q v : Nat) (allBytes ep : Bool) : Mach :=
  let pk := P.pcie t
  if !m.wireUp t || m.hostMode t ≠ 1 then m
  else if ep then m.poisonRx t
  else if !m.memServed t then m.unsupported t
  else
    let d := m.rd pk (F.PCIE_Q_DELIVERED_COUNT.nth q)
    let c := m.rd pk (F.PCIE_Q_CONSUMED_COUNT.nth q)
    if !allBytes || !m.flag pk (F.PCIE_Q_RING_CFG_EN.nth q) || decide ((d + 2 ^ 32 - c) % 2 ^ 32 < (v + 2 ^ 32 - c) % 2 ^ 32) then
      (m.inc pk F.PCIE_DB_ERR_COUNT).raise pk 0
    else
      let m := ((m.wr pk (F.PCIE_Q_CONSUMED_COUNT.nth q) v).mirrorCredit t q).modHost t fun h => { h with armed := putBit h.armed q true }
      if d ≠ v then m.queueVec t q else m

/-- A write of one word of the MSI-X table in BAR2 (R435, R440). -/
def msixTable (m : Mach) (t dword v : Nat) (ep : Bool) : Mach :=
  if !m.wireUp t || m.hostMode t ≠ 1 then m
  else if ep then m.poisonRx t
  else if !m.memServed t then m.unsupported t
  else
    (m.modHost t fun h => { h with vecs := vmod h.vecs (dword / 4) fun e =>
      match dword % 4 with
      | 0 => { e with addr := putBits e.addr 31 0 v }
      | 1 => { e with addr := putBits e.addr 63 32 v }
      | 2 => { e with data := v }
      | _ => { e with masked := bit v 0 } }).flushVecs t

/-- What a read of the word at `off` of BAR2 returns: doorbells, the MSI-X table, the pending bits, zero elsewhere (R435). -/
def bar2Read (m : Mach) (t off : Nat) : Nat :=
  let e := vget (m.host t).vecs ((off - 0x8000) / 16)
  if off < 0x100 then (if off % 8 = 0 then m.rd (P.pcie t) (F.PCIE_Q_CONSUMED_COUNT.nth (off / 8)) else 0)
  else if 0x8000 ≤ off ∧ off < 0x8400 then
    match off / 4 % 4 with
    | 0 => e.addr % 2 ^ 32
    | 1 => e.addr / 2 ^ 32
    | 2 => e.data
    | _ => e.masked.toNat
  else if 0x9000 ≤ off ∧ off < 0x9008 then
    (List.range 32).foldl (fun a i => putBit a i (vget (m.host t).vecs (8 * (off - 0x9000) + i)).pending) 0
  else 0

/-- A configuration request, or Configuration Request Retry Status while the endpoint is not ready (R428, R433, R434). -/
def configRequest (m : Mach) (t : Nat) (r : CfgReq) (ready : Bool) : Mach :=
  let pk := P.pcie t
  if !m.wireUp t || m.hostMode t ≠ 1 || !ready then m else
  let m := m.modHost t fun h => { h with cfgDone := true }
  match r with
  | .ids =>
    let dev := match m.part with | .p2 => 0x0102 | .p4 => 0x0104 | .p8 => 0x0108
    m.emitOut (.completion t [BitVec.ofNat 32 (dev * 65536 + 0x1FC7), BitVec.ofNat 32 0x048000B1, BitVec.ofNat 32 (dev * 65536 + 0x1FC7)])
  | .command mem bm =>
    ((m.modHost t fun h => { h with memEn := mem }).wrb pk F.PCIE_STAT_BUS_MASTER bm).flushVecs t
  | .power d => if d = 0 ∨ d = 3 then (m.wr pk F.PCIE_STAT_DSTATE d).flushVecs t else m
  | .msix en mask => ((m.wrb pk F.PCIE_STAT_MSIX_EN en).wrb pk F.PCIE_STAT_MSIX_MASK mask).flushVecs t
  | .devctl mps mrrs => if mps ≤ 2 ∧ mrrs ≤ 5 then (m.wr pk F.PCIE_STAT_MPS mps).wr pk F.PCIE_STAT_MRRS mrrs else m
  | .bar0 a => m.modHost t fun h => { h with bar0 := a.toNat / 2 ^ 24 * 2 ^ 24 }
  | .bar2 a => m.modHost t fun h => { h with bar2 := a.toNat / 2 ^ 16 * 2 ^ 16 }

/-! ### Serving the queues (R432) -/

/-- The destination entry of queue `q` holds a valid address (R453). -/
def destValid (m : Mach) (t q : Nat) : Bool :=
  let d := m.rd (P.thaig t) (F.THAIG_Q_CFG_DSEL.nth q)
  m.flag (P.thaig t) (F.THAIG_DEST_CFG_VALID.nth d) &&
    (!m.flag (P.thaig t) (F.THAIG_DEST_CFG_ANY.nth d) || bit (m.host t).learned d)

/-- The host port may deliver a trick of queue `q`: link, mode and queue settings, and a downstream credit (R438, R453). -/
def mayServe (m : Mach) (t q : Nat) : Bool :=
  m.rd (P.que t) (F.QUE_Q_CFG_CONS.nth q) = 0 && !(m.kit t).spilling && m.linkUp t && !m.refLost && decide (0 < m.portCredit t q) &&
  match m.hostMode t with
  | 1 => m.hostMem t
  | 2 => m.flag (P.thaig t) (F.THAIG_Q_CFG_EN.nth q) && m.destValid t q
  | _ => false

/-- The trick the port would take next from queue `q`: the first of its spill list while that is not empty (R314), else the head. -/
def nextTrick (m : Mach) (t q : Nat) : Option (List Cell) :=
  if (m.queue t q).spill.isEmpty then m.headTrick t q else (m.spillTrick t q).map markIsland

/-- The queues of a group in round-robin order behind the one served last. -/
def rotation (base size last : Nat) : List Nat := (List.range size).map fun i => base + (last - base + 1 + i) % size

/-- The queue the port serves next: 8–31 before 0–7, round robin within each (R432). -/
def served (m : Mach) (t : Nat) : Option Nat :=
  (rotation 8 24 (m.host t).lastHi ++ rotation 0 8 (m.host t).lastLo).find? fun q =>
    m.mayServe t q && (m.nextTrick t q).isSome

/-- The first trick of queue `q` leaves it, from the spill list or from the queue itself (R304, R314). -/
def dropNext (m : Mach) (t q : Nat) : Mach :=
  if (m.queue t q).spill.isEmpty then
    match m.headTrick t q with | some cs => m.dropCells t q cs.length | none => m
  else match m.spillTrick t q with | some cs => (m.replayReads t cs).dropSpill t q cs.length | none => m

/-- A list cut into cellGroups of at most `k` elements. -/
def cellGroups {α : Type} (k : Nat) : Nat → List α → List (List α)
  | 0, _ => []
  | n + 1, l => if l.isEmpty then [] else l.take k :: cellGroups k n (l.drop k)

/-- The memory writes of a trick from address `a`: at most `mps` bytes each, EP set on one that carries a poisoned word (R438). A slot
starts at a multiple of 2,048 bytes and holds the whole trick, so no piece crosses a 4 KiB boundary. -/
def sendCells (m : Mach) (t a mps : Nat) (cs : List Cell) : Mach :=
  let ps := cellGroups (mps / 32) 128 cs
  (ps.foldl (fun (s : Mach × Nat) p =>
    (s.1.emitOut (.hostMem t s.2 (p.flatMap fun c => wordsToBytes c.words) (p.any fun c => c.poison ≠ 0)), s.2 + 32 * p.length))
    (m, a)).1

/-- A trick delivered into queue `q`'s host ring (R438, R440). -/
def deliverRing (m : Mach) (t q : Nat) (cs : List Cell) : Mach :=
  let pk := P.pcie t
  let n := m.rd pk (F.PCIE_Q_DELIVERED_COUNT.nth q)
  let ring := m.rd pk (F.PCIE_Q_RING_LO_ADDR.nth q) * 4096 + m.rd pk (F.PCIE_Q_RING_HI_ADDR.nth q) * 2 ^ 32
  let wb := m.rd pk (F.PCIE_Q_WB_LO_ADDR.nth q) * 4 + m.rd pk (F.PCIE_Q_WB_HI_ADDR.nth q) * 2 ^ 32
  let m := m.sendCells t (ring + 2048 * (n % 2 ^ m.rd pk (F.PCIE_Q_RING_CFG_SLOTS_LOG2.nth q))) (128 * 2 ^ m.rd pk F.PCIE_STAT_MPS) cs
  let m := m.incW pk (F.PCIE_Q_DELIVERED_COUNT.nth q)
  let m := if wb = 0 then m else m.emitOut (.hostMem t wb (leBytes 4 ((n + 1) % 2 ^ 32)) false)
  ((m.dropNext t q).mirrorCredit t q).queueVec t q

/-- A trick as a STREAM datagram carries it (R454). -/
def streamBytes (cs : List Cell) : List Byte :=
  match cs with
  | [] => []
  | h :: r =>
    let hdr := wordsToBytes h.words
    let len := ofLe ((hdr.drop 30).take 2)
    let body := (r.flatMap fun c => wordsToBytes c.words).take len
    hdr ++ body ++ List.replicate ((4 - body.length % 4) % 4) 0

/-- UDP payload that fits a frame of the configured MTU (R454) (log entry 65). -/
def udpRoom (m : Mach) (t : Nat) : Nat :=
  m.rd (P.eth t) F.ETH_CFG_MTU - (if m.flag (P.eth t) F.ETH_CFG_IPV6 then 48 else 28)

/-- Further tricks of queue `q` taken into a datagram that holds `body` (R454) (log entry 65). -/
def fillDatagram (t q : Nat) : Nat → Mach → Nat → List Byte → Mach × Nat × List Byte
  | 0, m, n, body => (m, n, body)
  | k + 1, m, n, body =>
    if !m.mayServe t q || (m.checkQueue t q false).isSome then (m, n, body)
    else match m.nextTrick t q with
    | none => (m, n, body)
    | some cs =>
      let b := streamBytes cs
      if n ≠ 0 ∧ m.udpRoom t < 8 + body.length + b.length then (m, n, body)
      else
        let m := m.countPoison t q cs
        let m := ((m.dropNext t q).incW (P.thaig t) (F.THAIG_Q_SENT_COUNT.nth q)).mirrorCredit t q
        fillDatagram t q k m (n + 1) (body ++ b)

/-- MAC, IP and port of destination entry `d` (R453). -/
def destOf (m : Mach) (t d : Nat) : Nat × Nat × Nat :=
  let pk := P.thaig t
  (m.rd pk (F.THAIG_DEST_MAC_HI_MAC.nth d) * 2 ^ 32 + m.rd pk (F.THAIG_DEST_MAC_LO_MAC.nth d),
   m.rd pk (F.THAIG_DEST_IP0_ADDR.nth d) + m.rd pk (F.THAIG_DEST_IP1_ADDR.nth d) * 2 ^ 32 +
     m.rd pk (F.THAIG_DEST_IP2_ADDR.nth d) * 2 ^ 64 + m.rd pk (F.THAIG_DEST_IP3_ADDR.nth d) * 2 ^ 96,
   m.rd pk (F.THAIG_DEST_CFG_PORT.nth d))

/-- The IEEE 802.1Q tag of the frames the part makes: priority and VLAN (R442, R460). -/
def vlanTag (m : Mach) (t : Nat) : Option Nat :=
  let pk := P.eth t
  if m.flag pk F.ETH_CFG_VLAN_EN then some (m.rd pk F.ETH_CFG_PCP * 2 ^ 13 + m.rd pk F.ETH_CFG_VID) else none

/-- A datagram leaves the part from its source port; the frame is counted (R447). -/
def sendUdp (m : Mach) (t mac ip port : Nat) (bytes : List Byte) : Mach :=
  (m.incW (P.eth t) F.ETH_TX_FRAMES_COUNT).emitOut
    (.frame t (m.vlanTag t) (m.rd (P.thaig t) F.THAIG_CFG_SRC_PORT) mac ip port bytes)

/-- One STREAM datagram of queue `q` (R453–R455) (log entry 65). -/
def deliverStream (m : Mach) (t q : Nat) : Mach :=
  let pk := P.thaig t
  let seq := m.rd pk (F.THAIG_Q_SENT_COUNT.nth q)
  let d := m.destOf t (m.rd pk (F.THAIG_Q_CFG_DSEL.nth q))
  let port := m.rd pk (F.THAIG_Q_CFG_PORT.nth q)
  let r := fillDatagram t q 4 m 0 []
  r.1.sendUdp t d.1 d.2.1 (if port = 0 then d.2.2 else port)
    (leBytes 1 0xD0 ++ leBytes 1 r.2.1 ++ leBytes 1 q ++ leBytes 1 t ++ leBytes 4 seq ++ r.2.2)

/-- The host port completes a delivery from the queue whose turn it is (R304, R432): from the queue itself, or, with `replay`, from
its spill list (R314). Nothing happens when the queue in turn is not of that kind, or when none can be served. -/
def deliver (m : Mach) (t : Nat) (replay : Bool) : Mach :=
  match m.served t with
  | none => m
  | some q =>
    if (m.queue t q).spill.isEmpty = replay then m
    else match m.checkQueue t q false with
    | some m' => m'
    | none =>
      let m := m.modHost t fun h => if 8 ≤ q then { h with lastHi := q } else { h with lastLo := q }
      if m.hostMode t = 1 then
        match m.nextTrick t q with
        | some cs => (m.countPoison t q cs).deliverRing t q cs
        | none => m
      else m.deliverStream t q

/-! ### Thaig acceptance, credit grants, events (R448, R452, R455) -/

/-- IP address of a destination entry as the port's IP version sees it. -/
def destIp (m : Mach) (t d : Nat) : Nat :=
  if m.flag (P.eth t) F.ETH_CFG_IPV6 then (m.destOf t d).2.1 else m.rd (P.thaig t) (F.THAIG_DEST_IP0_ADDR.nth d)

/-- The lowest destination entry that admits a source (R448) (log entry 60). -/
def admitting (m : Mach) (t ip : Nat) : Option Nat :=
  (List.range 4).find? fun d =>
    m.flag (P.thaig t) (F.THAIG_DEST_CFG_VALID.nth d) && m.flag (P.thaig t) (F.THAIG_DEST_CFG_CTRL_OK.nth d) &&
    (m.flag (P.thaig t) (F.THAIG_DEST_CFG_ANY.nth d) || m.destIp t d = ip)

/-- An entry takes a datagram's source addresses (log entry 60). -/
def learn (m : Mach) (t d : Nat) (src : NetSrc) : Mach :=
  let pk := P.thaig t
  let ip := src.ip.toNat
  let m := (m.wr pk (F.THAIG_DEST_MAC_LO_MAC.nth d) src.mac.toNat).wr pk (F.THAIG_DEST_MAC_HI_MAC.nth d) (src.mac.toNat / 2 ^ 32)
  let m := m.wr pk (F.THAIG_DEST_IP0_ADDR.nth d) ip
  let m := if m.flag (P.eth t) F.ETH_CFG_IPV6 then
      ((m.wr pk (F.THAIG_DEST_IP1_ADDR.nth d) (ip / 2 ^ 32)).wr pk (F.THAIG_DEST_IP2_ADDR.nth d) (ip / 2 ^ 64)).wr pk
        (F.THAIG_DEST_IP3_ADDR.nth d) (ip / 2 ^ 96)
    else m
  m.modHost t fun h => { h with learned := putBit h.learned d true }

/-- A datagram of a Thaig type is accepted, or counted and dropped (R448) (log entry 60). -/
def admitDatagram (m : Mach) (t : Nat) (src : NetSrc) (session : Nat) : Mach × Bool :=
  let pk := P.thaig t
  match m.admitting t src.ip.toNat with
  | none => ((m.inc pk F.THAIG_DROPS_FILTER).raise pk 0, false)
  | some d =>
    if session ≠ m.rd pk F.THAIG_SESSION_TAG then ((m.inc pk F.THAIG_DROPS_SESSION).raise pk 1, false)
    else
      let m := if m.flag pk (F.THAIG_DEST_CFG_ANY.nth d) then m.learn t d src else m
      (m.endSilence t, true)

/-- An Ethernet link receives: frames are processed while the physical link is up (R457). -/
def etherUp (m : Mach) (t : Nat) : Bool := m.wireUp t && m.hostMode t = 2

/-- An accepted CREDIT_GRANT (R455): queue, limit, and whether it is 16 bytes long (log entry 62). -/
def grant (m : Mach) (t q limit : Nat) (lenOk : Bool) : Mach :=
  let pk := P.thaig t
  let old := m.rd pk (F.THAIG_Q_LIMIT_LIMIT.nth q)
  if !lenOk || decide (31 < q) || !m.flag pk (F.THAIG_Q_CFG_EN.nth q) || decide (toS 32 (limit + 2 ^ 32 - old) < 0) then
    (m.inc pk F.THAIG_GRANT_ERR_COUNT).raise pk 3
  else (m.wr pk (F.THAIG_Q_LIMIT_LIMIT.nth q) limit).mirrorCredit t q

/-- A CREDIT_GRANT datagram arrives (R448, R455). -/
def creditGrant (m : Mach) (t : Nat) (src : NetSrc) (session q limit : Nat) (lenOk : Bool) : Mach :=
  if !m.etherUp t then m else
  let r := m.admitDatagram t src session
  if r.2 then r.1.grant t q limit lenOk else r.1

/-- An EVENT datagram of port A's interrupt summary (R452) (log entry 63). -/
def sendEvent (m : Mach) (t : Nat) : Mach :=
  let pk := P.thaig t
  let p := (m.host t).peer
  let seq := m.rd pk F.THAIG_EVT_SEQ_SEQ
  (m.incW pk F.THAIG_EVT_SEQ_SEQ).sendUdp t p.1 p.2.1 p.2.2
    (leBytes 1 0xC5 ++ leBytes 3 0 ++ leBytes 4 (m.rd pk F.THAIG_SESSION_TAG) ++ leBytes 4 seq ++
      leBytes 4 (m.irqPair t 0).1 ++ leBytes 4 (m.irqPair t 0).2 ++ leBytes 8 (m.now t) ++ leBytes 4 0)

/-- Events go out: port A is attached through this port over Thaig and EVT.EN is 1. -/
def evtOn (m : Mach) (t : Nat) : Bool :=
  m.etherUp t && m.pathA t = 2 && m.flag (P.thaig t) F.THAIG_EVT_EN

/-- An EVENT that is due goes out (R452). -/
def thaigEvent (m : Mach) (t : Nat) : Mach :=
  if m.evtOn t && (m.host t).evtDue then (m.modHost t fun h => { h with evtDue := false }).sendEvent t else m

/-- The EVENT is repeated while the pair stays non-zero (R452) (log entry 63). -/
def eventRepeat (m : Mach) (t : Nat) : Mach :=
  if m.evtOn t && m.rd (P.thaig t) F.THAIG_EVT_REPEAT_MS ≠ 0 && (m.host t).evtPair ≠ (0, 0) then m.sendEvent t else m

/-- The pair of summaries followed: a change to a value other than zero makes an EVENT due, a change to zero cancels it (R452) (log entry 63). -/
def followPair (m : Mach) (t : Nat) : Mach :=
  let h := m.host t
  let on := m.pathA t = 2
  let q := if on then m.irqPair t 0 else (0, 0)
  if h.evtPair = q then m
  else m.modHost t fun h => { h with evtPair := q, evtDue := decide (q ≠ (0, 0)) && m.flag (P.thaig t) F.THAIG_EVT_EN }

/-! ### PTP and the discipline of the time base (R444–R446) -/

/-- A PTP message received: stored with its timestamp, or dropped when no slot is free (R444) (log entry 67). -/
def ptpRx (m : Mach) (t : Nat) (bytes : List Byte) : Mach :=
  let pk := P.eth t
  if !m.flag pk F.ETH_PTP_CFG_EN then m
  else
    let lvl := m.rd pk F.ETH_PTP_RX_LVL
    if 8 ≤ lvl then (m.inc pk F.ETH_PTP_RX_DROP_COUNT).raise pk 1
    else
      let s := (m.rd pk F.ETH_PTP_RX_HEAD + lvl) % 8
      let b := bytes.take 144
      let els := [2 ^ 31 + min bytes.length 4095, m.now t % 2 ^ 32, m.now t / 2 ^ 32, m.fracF t] ++
        (List.range 36).map fun i => ofLe ((b.drop (4 * i)).take 4)
      let m := els.zipIdx.foldl (fun m e => m.setEl pk 0 (40 * s + e.2) e.1) m
      (m.wr pk F.ETH_PTP_RX_LVL (lvl + 1)).raise pk 0

/-- `PTP_CMD.RX_POP` (R444). -/
def ptpPop (m : Mach) (t : Nat) : Mach :=
  let pk := P.eth t
  let lvl := m.rd pk F.ETH_PTP_RX_LVL
  if lvl = 0 then m
  else
    let s := m.rd pk F.ETH_PTP_RX_HEAD
    ((m.setEl pk 0 (40 * s) 0).wr pk F.ETH_PTP_RX_LVL (lvl - 1)).wr pk F.ETH_PTP_RX_HEAD ((s + 1) % 8)

/-- `PTP_CMD.TX_GO` (R445). -/
def ptpGo (m : Mach) (t : Nat) : Mach :=
  if (m.host t).ptpPend then m.refuse (P.eth t) 4
  else (m.modHost t fun h => { h with ptpPend := true }).wr (P.eth t) F.ETH_PTP_TX_TSF_VALID 0

/-- The PTP frame has been sent (R445) (log entry 67). -/
def ptpSent (m : Mach) (t : Nat) : Mach :=
  let pk := P.eth t
  if !m.etherUp t || !(m.host t).ptpPend then m
  else
    let b := ((List.range 36).flatMap fun i => leBytes 4 (m.el pk 1 i)).take (m.rd pk F.ETH_PTP_TX_LEN_LEN)
    let m := (m.modHost t fun h => { h with ptpPend := false }).wr2 pk F.ETH_PTP_TX_TS_LO_N F.ETH_PTP_TX_TS_HI_N (m.now t)
    let m := (m.wr pk F.ETH_PTP_TX_TSF_F (m.fracF t)).wr pk F.ETH_PTP_TX_TSF_VALID 1
    ((m.incW pk F.ETH_TX_FRAMES_COUNT).emitOut (.ptpFrame t b)).raise pk 2

/-- A write of `SLEW_RATE` (R446): the rate in force on the whole part; in an island segment ignored and counted (R499) (log entry 66). -/
def slewRateWrite (m : Mach) (t : Nat) (v : Word) : Mach :=
  let r := toS 32 v.toNat
  if m.flag (P.ring t) F.RING_STAT_OUTSIDE then m.errCount (P.eth t)
  else if 858993 < r.natAbs then m.refuse (P.eth t) 4
  else { m.setWord (P.eth t) 0x0A0 v with slewRate := r }

/-- A write of `SLEW_OFS` (R446): added to REMAIN; in an island segment ignored and counted (R499). A sum outside REMAIN's 32 bits is a free
value (log entries 3, 66). -/
def slewOfsWrite (m : Mach) (t : Nat) (v : Word) : Mach :=
  let r := m.slewRemain + toS 32 v.toNat
  if m.flag (P.ring t) F.RING_STAT_OUTSIDE then m.errCount (P.eth t)
  else if -(2 ^ 31) ≤ r ∧ r < 2 ^ 31 then { m with slewRemain := r }
  else
    let f := m.freeNat
    { f.2 with slewRemain := toS 32 f.1 }

/-! ### Frames received (R442, R443) -/

/-- The VLAN tag matches (R442) (log entry 58). -/
def tagOk (m : Mach) (t : Nat) (tag : Option (BitVec 12)) : Bool :=
  match tag with
  | none => !m.flag (P.eth t) F.ETH_CFG_VLAN_EN
  | some v => m.flag (P.eth t) F.ETH_CFG_VLAN_EN && m.rd (P.eth t) F.ETH_CFG_VID = v.toNat

/-- The frame is accepted (R443) (log entry 58). -/
def frameOk (m : Mach) (t : Nat) (f : Frame) : Bool :=
  let arp := match f.body with | .arp _ => true | _ => false
  let kind := match f.body with
    | .udp p _ _ => m.rd (P.thaig t) F.THAIG_CFG_PORT = p.toNat
    | .other => false
    | _ => true
  (f.dst == .own || (f.dst == .broadcast && arp) || f.dst == .ptp) && m.tagOk t f.tag && f.csumOk && kind

/-- A frame counted, with what its FEC codewords needed (R460) (log entries 58, 59). -/
def countRx (m : Mach) (t corr uncorr : Nat) : Mach :=
  let pk := P.eth t
  let m := ((m.incW pk F.ETH_RX_FRAMES_COUNT).incBy pk F.ETH_FEC_CORR corr).incBy pk F.ETH_FEC_UNCORR uncorr
  if 0 < uncorr then m.raise pk 3 else m

/-- A frame dropped and counted (R443). -/
def dropFrame (m : Mach) (t : Nat) (csumOk : Bool) : Mach :=
  m.inc (P.eth t) (if csumOk then F.ETH_RX_DROP_FILTER else F.ETH_RX_DROP_CSUM)

/-- A reply of the network layer (R442). -/
def netReply (m : Mach) (t kind : Nat) (bytes : List Byte) : Mach :=
  (m.incW (P.eth t) F.ETH_TX_FRAMES_COUNT).emitOut (.netReply t kind (m.vlanTag t) bytes)

/-- What an accepted frame other than a UDP datagram does (R442, R444). -/
def frameEffect (m : Mach) (t : Nat) (b : FrameBody) : Mach :=
  let pk := P.eth t
  let v6 := m.flag pk F.ETH_CFG_IPV6
  match b with
  | .arp a => if !v6 && m.rd pk F.ETH_IP4_ADDR = a.toNat then m.netReply t 0 (beBytes 4 a.toNat) else m
  | .icmp e => if e.length ≤ m.rd pk F.ETH_CFG_MTU then m.netReply t 1 e else m
  | .nd a =>
    let own := ((List.range 4).map fun i => m.rd pk (F.ETH_IP6_n_ADDR.nth i) * 2 ^ (32 * i)).sum
    if v6 && own = a.toNat then m.netReply t 2 (beBytes 16 a.toNat) else m
  | .ptp bs => m.ptpRx t bs
  | _ => m

/-- A datagram of a type Thaig does not have (R447). -/
def badFormat (m : Mach) (t : Nat) : Mach := (m.inc (P.thaig t) F.THAIG_DROPS_FORMAT).raise (P.thaig t) 4

/-! ### Register reads and writes of the four pages (R458–R461) -/

/-- HOSTP registers computed when read. -/
def hostpRead (m : Mach) (t off : Nat) : Option Word :=
  match off with
  | 0x044 => some (BitVec.ofNat 32 (m.host t).restart.toNat)
  | 0x048 => some (BitVec.ofNat 32 (putBit (m.word (P.hostp t) 0x048).toNat 5 (m.attachedAt t)))
  | _ => none

/-- PCIE registers computed when read: ID depends on the part (R434). -/
def pcieRead (m : Mach) (_t off : Nat) : Option Word :=
  if off = 0x040 then
    some (BitVec.ofNat 32 ((match m.part with | .p2 => 0x0102 | .p4 => 0x0104 | .p8 => 0x0108) * 65536 + 0x1FC7))
  else none

/-- ETH registers computed when read: PTP_CMD, SLEW_STAT. -/
def ethRead (m : Mach) (t off : Nat) : Option Word :=
  match off with
  | 0x08C => some (BitVec.ofNat 32 ((m.host t).ptpPend.toNat * 2))
  | 0x0A8 => some (BitVec.ofNat 32 (ofS 32 m.slewRemain))
  | _ => none

/-- A write to a register of page HOSTP that has a behaviour of its own. -/
def writeHostp (m : Mach) (t off : Nat) (v : Word) : Option Mach :=
  let pk := P.hostp t
  match off with
  | 0x040 =>
    if fieldOf v F.HOSTP_CFG_MODE = 3 ∨ fieldOf v F.HOSTP_CFG_PMD = 3 ∨ fieldOf v F.HOSTP_CFG_WIDTH = 3 ∨
        (fieldOf v F.HOSTP_CFG_CTRL_CAP = 0 ∧ m.attachedAt t) then some (m.refuse pk 5) else none
  | 0x044 => some (if bit v.toNat 0 then m.hostRestart t else m)
  | _ => none

/-- A write to a register of page PCIE that has a behaviour of its own. -/
def writePcie (m : Mach) (t off : Nat) (v : Word) : Option Mach :=
  let pk := P.pcie t
  if 0x100 ≤ off ∧ off < 0x500 then
    let q := (off - 0x100) / 0x20
    let en := m.flag pk (F.PCIE_Q_RING_CFG_EN.nth q)
    match (off - 0x100) % 0x20 with
    | 0x08 =>
      let s := bits v.toNat 4 0
      if s = 0 ∨ 15 < s ∨ (en ∧ s ≠ m.rd pk (F.PCIE_Q_RING_CFG_SLOTS_LOG2.nth q)) then some (m.refuse pk 4)
      else
        let m' := m.genericWrite pk off v
        let m' := if !en && bit v.toNat 31 then
            ((m'.wr pk (F.PCIE_Q_DELIVERED_COUNT.nth q) 0).wr pk (F.PCIE_Q_CONSUMED_COUNT.nth q) 0).modHost t
              fun h => { h with armed := putBit h.armed q true }
          else m'
        some (m'.mirrorCredit t q)
    | 0x14 => none
    | 0x18 => none
    | _ => if en then some (m.refuse pk 4) else none
  else none

/-- A write to a register of page ETH that has a behaviour of its own. -/
def writeEth (m : Mach) (t off : Nat) (v : Word) : Option Mach :=
  let pk := P.eth t
  let n := v.toNat
  match off with
  | 0x048 =>
    let vid := fieldOf v F.ETH_CFG_VID
    let mtu := fieldOf v F.ETH_CFG_MTU
    if vid = 0 ∨ 4094 < vid ∨ mtu < 1280 ∨ 9194 < mtu then some (m.refuse pk 4) else none
  | 0x04C => if bits n 7 0 = 0 then some (m.refuse pk 4) else none
  | 0x08C =>
    let m := if bit n 0 then m.ptpPop t else m
    some (if bit n 1 then m.ptpGo t else m)
  | 0x090 => if bits n 7 0 < 60 ∨ 144 < bits n 7 0 then some (m.refuse pk 4) else none
  | 0x0A0 => some (m.slewRateWrite t v)
  | 0x0A4 => some (m.slewOfsWrite t v)
  | _ => none

/-- Writes to array 1 of page ETH are ignored and counted while a PTP frame is pending (R445); array 0 is not writable (R444). -/
def ethLocked (m : Mach) (t a : Nat) : Bool := a ≠ 1 || (m.host t).ptpPend

/-- A write to a register of page THAIG that has a behaviour of its own. -/
def writeThaig (m : Mach) (t off : Nat) (v : Word) : Option Mach :=
  let pk := P.thaig t
  if off = 0x040 then
    if fieldOf v F.THAIG_CFG_PORT = 0 ∨ fieldOf v F.THAIG_CFG_SRC_PORT = 0 then some (m.refuse pk 5) else none
  else none

/-! ### ARM (R456) -/

/-- A full trick of every stream served over Thaig fits a frame of the member tile. -/
def hostArmOk (m : Mach) (h t : Nat) : Bool :=
  m.hostMode t ≠ 2 ||
  (List.range 8).all fun n =>
    let on := m.flag (P.outf t) (F.OUTF_STR_CFG_EN.nth n) &&
      (m.members h).contains (2 * t + m.rd (P.outf t) (F.OUTF_STR_CFG_SRC.nth n))
    let viaThaig := m.flag (P.thaig t) (F.THAIG_Q_CFG_EN.nth n) && m.rd (P.que t) (F.QUE_Q_CFG_CONS.nth n) = 0 && m.destValid t n
    !on || !viaThaig || decide ((if m.flag (P.eth t) F.ETH_CFG_IPV6 then 2104 else 2084) ≤ m.rd (P.eth t) F.ETH_CFG_MTU)

/-! ### Resets -/

/-- A block soft reset of HOSTP, PCIE, ETH or THAIG: the page's own, with a host port reset of cause SOFT_RESET (R429). -/
def softResetHostPage (m : Mach) (t pk : Nat) : Mach := (m.softResetPage pk).hostReset t 7

end Sys2Proof.Machine.Mach
end

