-- ==== Sys2Proof/Machine/Dram.lean ====
section
/-!
DEFINITION. The DRAM controller (R475–R492): configuration and mask rules, training and self-refresh, MR4 and retraining, refresh,
postponement and panic; page DRAM.
-/

namespace Sys2Proof.Machine.Mach

/-! ### Configuration (R476, R478–R480) -/

/-- The die density that SIZE and RANKS give is one of 4, 8, 16, 32 Gbit (R476). -/
def densityOk (size ranks : Nat) : Bool :=
  if ranks = 0 then decide (size ≤ 3) else decide (1 ≤ size) && decide (size ≤ 4)

/-- A protected span allowed by R480 and R492. -/
def protOk (en : Bool) (prot size : Nat) : Bool := !en || (decide (1 ≤ prot) && decide (prot ≤ min 16 (2 ^ size)))

/-- Register offset, home bit and user (1 LPDDR4X, 2 LPDDR5, 3 both) of the bank masks (R478, R479). -/
def bankMasks : List (Nat × Nat × Nat) := [(0x060, 12, 3), (0x068, 13, 3), (0x070, 14, 1), (0x078, 14, 2), (0x080, 15, 2)]

/-- The masks in use contain their home bits and otherwise only row bits (R479), and CFG and ECC fit (step MAP of R482) (log entry 75). -/
def mapOk (m : Mach) (t : Nat) : Bool :=
  let pk := P.dram t
  let type := m.rd pk F.DRAM_CFG_TYPE
  let size := m.rd pk F.DRAM_CFG_SIZE
  let ranks := m.rd pk F.DRAM_CFG_RANKS
  let row := (if type = 2 then 16 else 15) + ranks
  densityOk size ranks && protOk (m.flag pk F.DRAM_ECC_EN) (m.rd pk F.DRAM_ECC_PROT) size &&
  bankMasks.all fun x =>
    let mask := (m.word pk x.1).toNat + (m.word pk (x.1 + 4)).toNat * 2 ^ 32
    !bit x.2.2 (type - 1) ||
      (bit mask x.2.1 && (List.range 64).all fun i => !bit mask i || i = x.2.1 || (decide (row ≤ i) && decide (i < 30 + size)))

/-- A bank or bank-group bit of device address `a`: the parity of `a` and its mask (R479) (log entry 75). -/
def bankBit (m : Mach) (t off a : Nat) : Bool :=
  parity 64 (a &&& ((m.word (P.dram t) off).toNat + (m.word (P.dram t) (off + 4)).toNat * 2 ^ 32))

/-- Where a burst of device address `a` lies: sub-channel, column burst, bank-group and bank bits (highest first), rank, row (R478, R479) (log entry 75). -/
def dramLoc (m : Mach) (t a : Nat) : Nat × Nat × List Bool × Nat × Nat :=
  let pk := P.dram t
  let lp5 := m.rd pk F.DRAM_CFG_TYPE = 2
  let ranks := m.rd pk F.DRAM_CFG_RANKS
  let home := if lp5 then 16 else 15
  let banks := if lp5 then [0x080, 0x078, 0x068, 0x060] else [0x070, 0x068, 0x060]
  (a / 2 ^ 6 % 2, a / 2 ^ 7 % 32, banks.map fun off => m.bankBit t off a, if ranks = 1 then a / 2 ^ home % 2 else 0,
   a % 2 ^ (30 + m.rd pk F.DRAM_CFG_SIZE) / 2 ^ (home + ranks))

/-- CFG, ECC and the masks, as AON copies them (R483). -/
def dramCfgWords (m : Mach) (t : Nat) : List Word :=
  ([0x040, 0x044, 0x060, 0x064, 0x068, 0x06C, 0x070, 0x074, 0x078, 0x07C, 0x080, 0x084] : List Nat).map (m.word (P.dram t))

/-! ### Training and retention (R482, R483) -/

/-- Contents of a tile's DRAM lost (log entry 10). -/
def loseDram (m : Mach) (t : Nat) : Mach :=
  { m with dram := m.dram.clear (t * 2 ^ 36) ((t + 1) * 2 ^ 36), dramMark := m.dramMark.clear (t * 2 ^ 33) ((t + 1) * 2 ^ 33) }

/-- DRAM training is part of a PREP of the tile (R482). -/
def dramTrains (m : Mach) (t : Nat) : Bool :=
  m.live t D.dram && m.enabled (P.dram t) && m.rd (P.dram t) F.DRAM_CFG_TYPE ≠ 0

/-- Training starts: from self-refresh with the contents kept when nothing changed since its entry, or when the device is trained already; else
with a device reset (log entry 71). -/
def dramTrainStart (m : Mach) (t : Nat) : Mach :=
  let pk := P.dram t
  if !m.dramTrains t then m
  else
    let was := m.flag pk F.DRAM_STAT_TRAINED
    let keep := was || (m.tile t).dramAon = some (m.dramCfgWords t)
    let m := if keep then m else m.loseDram t
    let m := m.modTile t fun ts => { ts with dramKept := keep, dramAon := if keep then ts.dramAon else none }
    let m := ((m.wr pk F.DRAM_STAT_TRAINED 0).wr pk F.DRAM_STAT_TRAINING 1).wr pk F.DRAM_STAT_KEPT 0 |>.wr pk F.DRAM_STAT_TRAIN_STEP 0
    if was then m.dmaDramDown t else m

/-- Training ends (R482); `fail` is the code of the first step that fails, if one does. The map is judged from the registers (log entry 71). -/
def dramTrainDone (m : Mach) (t : Nat) (fail : Option Nat) : Mach :=
  let pk := P.dram t
  if !m.live t D.dram || !m.flag pk F.DRAM_STAT_TRAINING then m
  else
    let m' := m.wr pk F.DRAM_STAT_TRAINING 0
    match (if m.mapOk t then fail else some 8) with
    | some s => (((m'.wr pk F.DRAM_STAT_TRAIN_STEP s).raise pk 1).record t 0x0E t s 0 0)
    | none =>
      let m' := (m'.wr pk F.DRAM_STAT_TRAINED 1).wrb pk F.DRAM_STAT_KEPT (m.tile t).dramKept
      (m'.modTile t fun ts => { ts with dramAon := none }).raise pk 0

/-- The controller stops: a trained device enters self-refresh, its configuration copied to AON (R483); accesses are refused (log entry 71). -/
def dramStop (m : Mach) (t : Nat) : Mach :=
  let pk := P.dram t
  let was := m.flag pk F.DRAM_STAT_TRAINED
  let m := if was then m.modTile t fun ts => { ts with dramAon := some (m.dramCfgWords t) } else m
  let m := (m.wr pk F.DRAM_STAT_TRAINED 0).wr pk F.DRAM_STAT_TRAINING 0
  if was then m.dmaDramDown t else m

/-- DDR_RESET_N low: power-on or package reset, or DORMANT without self-refresh (R483). -/
def dramReset (m : Mach) (t : Nat) : Mach := (m.loseDram t).modTile t fun ts => { ts with dramAon := none, dramKept := false }

/-- A write of 0 to ENABLE is refused: the DRAM kitty is ready, or a hand with a member on the tile is armed (R483). -/
def dramEnableHeld (m : Mach) (t : Nat) : Bool := (m.kit t).dramReady || m.tileArmed t

/-! ### MR4, retraining, refresh, panic (R484–R489) -/

def dramTrained (m : Mach) (t : Nat) : Bool := m.live t D.dram && m.flag (P.dram t) F.DRAM_STAT_TRAINED
def dramPanic (m : Mach) (t : Nat) : Bool := m.flag (P.dram t) F.DRAM_STAT_PANIC

/-- MR4 of each die read: highest code, whether a die is above 85 °C, whether one is above its operating limit (R484) (log entry 72). -/
def mr4Read (m : Mach) (t code : Nat) (hot above : Bool) : Mach :=
  let pk := P.dram t
  if !m.dramTrained t || m.dramPanic t then m
  else
    let was := m.flag pk F.DRAM_STAT_DEV_HOT
    let m := ((m.wr pk F.DRAM_MR4_VALUE code).wrb pk F.DRAM_STAT_HOT_RATE (hot || above)).wrb pk F.DRAM_STAT_DEV_HOT above
    if above && !was then (m.raise pk 7).record t 0x0F t 0 0 (detail 0 1 code) else m

/-- A periodic retraining (R484). -/
def dramRetrain (m : Mach) (t : Nat) : Mach :=
  if !m.dramTrained t || m.dramPanic t || m.rd (P.dram t) F.DRAM_RETRAIN_MS = 0 then m else m.inc (P.dram t) F.DRAM_RETRAINS_COUNT

/-- tRFCab in nanoseconds (R485). -/
def rfcNs (m : Mach) (t : Nat) : Nat :=
  let pk := P.dram t
  let set := m.rd pk F.DRAM_TIMING_RFC_NS
  let d := m.rd pk F.DRAM_CFG_SIZE - m.rd pk F.DRAM_CFG_RANKS
  if set ≠ 0 then set
  else match d with
  | 0 => 130
  | 1 => if m.rd pk F.DRAM_CFG_TYPE = 2 then 210 else 180
  | 2 => 280
  | _ => 380

/-- Owed refreshes repaid by instant `n` after a panic: one after another, each starting as the previous one ends (R489) (log entry 73). -/
def repay (t n : Nat) : Nat → Mach → Mach
  | 0, m => m
  | k + 1, m =>
    let owed := m.rd (P.dram t) F.DRAM_REF_OWED_NOW
    if m.dramPanic t || owed = 0 || decide (n < (m.tile t).refNext) then m
    else repay t n k ((m.wr (P.dram t) F.DRAM_REF_OWED_NOW (owed - 1)).modTile t fun ts =>
      { ts with refNext := ts.refNext + (m.rfcNs t + 1) / 2 })

/-- One more refresh owed. -/
def oweRefresh (m : Mach) (t : Nat) : Mach :=
  let pk := P.dram t
  let owed := m.rd pk F.DRAM_REF_OWED_NOW + 1
  (m.wr pk F.DRAM_REF_OWED_NOW owed).wr pk F.DRAM_REF_OWED_MAX (max owed (m.rd pk F.DRAM_REF_OWED_MAX))

/-- A refresh falls due at instant `n`: issued, postponed while panic lasts or owed ones are being repaid, forced with 8 owed
(R485, R488, R489) (log entry 73). -/
def refreshDue (m : Mach) (t n : Nat) : Mach :=
  let pk := P.dram t
  let m := m.advance t n
  if !m.dramTrained t then m
  else
    let m := repay t (m.now t) 16 m
    let owed := m.rd pk F.DRAM_REF_OWED_NOW
    if m.dramPanic t then
      if 8 ≤ owed then (m.inc pk F.DRAM_REF_FORCED_COUNT).raise pk 4 else m.oweRefresh t
    else if 0 < owed then m.oweRefresh t else m

/-- The fill of the real-time buffer as status shows it; `full` counts a client that found it full (R487) (log entry 74). -/
def rtFill (m : Mach) (t fill : Nat) (full : Bool) : Mach :=
  let pk := P.dram t
  let m := (m.wr pk F.DRAM_RT_FILL_NOW fill).wr pk F.DRAM_RT_FILL_PEAK (max fill (m.rd pk F.DRAM_RT_FILL_PEAK))
  if full then (m.inc pk F.DRAM_RT_FULL_COUNT).raise pk 8 else m

/-- The fill reaches the panic threshold at instant `n`, or is reported anew while panic lasts (R487, R488) (log entry 74). -/
def panicOn (m : Mach) (t n fill : Nat) (full : Bool) : Mach :=
  let pk := P.dram t
  let m := m.advance t n
  if !m.dramTrained t || decide (512 < fill) then m
  else if m.dramPanic t then m.rtFill t fill full
  else if fill < (512 * m.rd pk F.DRAM_RT_PANIC_PCT + 99) / 100 then m
  else
    let m := repay t (m.now t) 16 m
    (((m.rtFill t fill full).wr pk F.DRAM_STAT_PANIC 1).inc pk F.DRAM_PANICS_COUNT).raise pk 2

/-- The fill falls to the clear threshold at instant `n`: panic ends and the owed refreshes are repaid, the first at once (R487, R489) (log entries 73, 74). -/
def panicOff (m : Mach) (t n fill : Nat) : Mach :=
  let pk := P.dram t
  let m := m.advance t n
  if !m.dramTrained t || !m.dramPanic t || decide (512 * m.rd pk F.DRAM_RT_CLEAR_PCT / 100 < fill) then m
  else
    let m := ((m.rtFill t fill false).wr pk F.DRAM_STAT_PANIC 0).raise pk 3
    repay t (m.now t) 16 (m.modTile t fun ts => { ts with refNext := m.now t })

/-! ### Page DRAM (R492) -/

/-- DRAM registers computed when read: CAP, STAT.SELF_REFRESH, REF_OWED.NOW. -/
def dramRegRead (m : Mach) (t off : Nat) : Option Word :=
  let pk := P.dram t
  match off with
  | 0x048 => some (BitVec.ofNat 32 (m.dramCap t / 2 ^ 20))
  | 0x0A0 => some (BitVec.ofNat 32 (putBit (m.word pk 0x0A0).toNat 3 (m.tile t).dramAon.isSome))
  | 0x0A4 => some ((repay t (m.now t) 16 m).word pk 0x0A4)
  | _ => none

/-- A write to a register of page DRAM that has a behaviour of its own. -/
def writeDram (m : Mach) (t off : Nat) (v : Word) : Option Mach :=
  let pk := P.dram t
  let n := v.toNat
  let held := m.flag pk F.DRAM_STAT_TRAINED || m.flag pk F.DRAM_STAT_TRAINING
  let no := some (m.refuse pk 9)
  match off with
  | 0x040 =>
    if held || decide (4 < bits n 27 24) || bits n 17 16 = 3 || decide (3 < bits n 10 8) || !densityOk (bits n 27 24) (bits n 20 20)
    then no else none
  | 0x044 => if held || !protOk (bit n 0) (bits n 20 16) (m.rd pk F.DRAM_CFG_SIZE) then no else none
  | 0x04C => if bits n 31 16 < 10 then no else none
  | 0x054 => if bits n 15 8 < 10 ∨ 95 < bits n 15 8 ∨ bits n 15 8 ≤ bits n 7 0 then no else none
  | 0x058 => if bits n 15 0 < 100 then no else none
  | _ => if 0x060 ≤ off ∧ off ≤ 0x084 ∧ held then no else none

/-- A block soft reset of DRAM (R483, R490). -/
def softResetDram (m : Mach) (t : Nat) : Mach :=
  let m := m.dramStop t
  (m.modTile t fun ts => { ts with refNext := 0 }).softResetPage (P.dram t)

end Sys2Proof.Machine.Mach
end

