-- ==== Sys2Proof/Machine/Link.lean ====
section
/-!
DEFINITION. Ring links (R493–R496): which links are up, link-down and link-up at both ends, the tiles a tile reaches; page RING.
-/

namespace Sys2Proof.Machine.Mach

/-- The neighbours of a tile in the U and L directions (R493). -/
def upOf (m : Mach) (t : Nat) : Nat := (t + 1) % m.nTiles
def downOf (m : Mach) (t : Nat) : Nat := (t + m.nTiles - 1) % m.nTiles

/-- The RING domain of a tile works. -/
def ringLive (m : Mach) (t : Nat) : Bool := m.live t D.ring

/-- Link U of tile `t` is up, as both its ends have it (R493). -/
def linkUUp (m : Mach) (t : Nat) : Bool :=
  m.ringLive t && m.flag (P.ring t) F.RING_STAT_U_UP && m.ringLive (m.upOf t) && m.flag (P.ring (m.upOf t)) F.RING_STAT_L_UP

/-- A change of the links waits for its 20 µs (R496). -/
def unsettle (m : Mach) : Mach :=
  (List.range 8).foldl (fun m t => if m.ringLive t then m.wr (P.ring t) F.RING_STAT_SETTLED 0 else m) m

/-- One end of a link goes down, if it is up: counted and raised (R494, R523). -/
def endDown (m : Mach) (t : Nat) (up downs : Field) : Mach :=
  if m.flag (P.ring t) up then ((m.wr (P.ring t) up 0).inc (P.ring t) downs).raise (P.ring t) 0 else m

/-- Link U of tile `t` goes down at both ends (R494). -/
def linkDown (m : Mach) (t : Nat) : Mach :=
  ((m.endDown t F.RING_STAT_U_UP F.RING_ERR_U_DOWNS).endDown (m.upOf t) F.RING_STAT_L_UP F.RING_ERR_L_DOWNS).unsettle

/-- Link U of tile `t` fails; the frames retried at each of its ends since it came up are counted with it (R494, R523) (log entry 133). -/
def linkFails (m : Mach) (t retriesU retriesL : Nat) : Mach :=
  let m := if m.linkUUp t then
      (m.incBy (P.ring t) F.RING_ERR_U_RETRIES retriesU).incBy (P.ring (m.upOf t)) F.RING_ERR_L_RETRIES retriesL
    else m
  m.linkDown t

/-- Link U of tile `t` has trained: up at both ends, with the one-way delay that each end measured (R494). -/
def linkTrained (m : Mach) (t delayU delayL : Nat) : Mach :=
  let u := m.upOf t
  if m.linkUUp t || !m.ringLive t || !m.ringLive u || !m.flag (P.ring t) F.RING_CFG_U_EN || !m.flag (P.ring u) F.RING_CFG_L_EN then m
  else
    let m := ((m.wr (P.ring t) F.RING_STAT_U_UP 1).wr (P.ring t) F.RING_DELAY_U_DELAY delayU).raise (P.ring t) 1
    (((m.wr (P.ring u) F.RING_STAT_L_UP 1).wr (P.ring u) F.RING_DELAY_L_DELAY delayL).raise (P.ring u) 1).unsettle

/-- A tile leaves the ring: both its links go down (R494, R496). -/
def offRing (m : Mach) (t : Nat) : Mach := (m.linkDown t).linkDown (m.downOf t)

/-- A set of tiles, as a bit mask, with the neighbours that up links add. -/
def grow (m : Mach) (s : Nat) : Nat :=
  (List.range m.nTiles).foldl (fun s t =>
    if m.linkUUp t && (bit s t || bit s (m.upOf t)) then s ||| 2 ^ t ||| 2 ^ m.upOf t else s) s

/-- The tiles that tile `t` reaches through links that are up, itself included (R496). -/
def component (m : Mach) (t : Nat) : Nat := (List.range 8).foldl (fun s _ => m.grow s) (2 ^ t)

/-- A write to a register of page RING that has a behaviour of its own: a disabled link is held down (R494, R523). -/
def writeRing (m : Mach) (t off : Nat) (v : Word) : Option Mach :=
  if off ≠ 0x040 then none
  else
    let m := m.genericWrite (P.ring t) off v
    let m := if bit v.toNat 1 then m else m.linkDown t
    some (if bit v.toNat 0 then m else m.linkDown (m.downOf t))

end Sys2Proof.Machine.Mach
end

