-- ==== Sys2Proof/Machine/Trigger.lean ====
section
/-!
DEFINITION. The dealer's triggers (R169–R175, R226): the grid, a trigger issued or dropped, pin edges and the phase switch, position
crossings.
-/

namespace Sys2Proof.Machine.Mach

/-- The hand's leader was lost, or its tile reset, while the hand was armed (R146). -/
def leaderLost (m : Mach) (h : Nat) : Bool := (m.hand h).lost.contains (m.leader h) || (m.hand h).gridHeld

/-- Trigger source of an armed hand (R169); without its leader it keeps its grid (R146). -/
def handSrc (m : Mach) (h : Nat) : Nat := if m.leaderLost h then 0 else m.rd (P.deal (m.leader h)) F.DEAL_SRC_SRC

/-- Period and phase of the hand's grid in force (R135, R170). -/
def handGrid (m : Mach) (h : Nat) : Nat × Nat :=
  if m.leaderLost h then (m.hand h).grid
  else (m.rd (P.deal (m.leader h)) F.DEAL_PERIOD_TICKS, m.rd (P.deal (m.leader h)) F.DEAL_PHASE_ACT_TICKS)

/-- `n` is a point of a grid. -/
def onGrid (grid : Nat × Nat) (n : Nat) : Bool := ((n : Int) - grid.2) % (max 1 grid.1 : Nat) = 0

/-- First point of a grid at or after `n`. -/
def firstPoint (grid : Nat × Nat) (n : Nat) : Nat := n + (((grid.2 : Int) - n) % (max 1 grid.1 : Nat)).toNat

/-- First grid point of hand `h` at or after `n` (R138). -/
def gridPoint (m : Mach) (h n : Nat) : Nat := firstPoint (m.handGrid h) n

/-- A missing capture's trigger joins those the next marker names (R174). -/
def missTrigger (m : Mach) (g n : Nat) : Mach :=
  if m.inDeal g && !m.pixelless g then m.modClu g fun s => { s with pendMissing := s.pendMissing ++ [n] } else m

/-- What an issued trigger starts beside the capture: the line boundary, timing outputs, bridge, gated SPI frame, strobes (R102, R163,
R180, R186, R370) (log entry 41). -/
def startLine (m : Mach) (g n : Nat) (hr : List Nat) : Mach :=
  let pk := P.deal g
  let bg := m.actFlag (P.vc g) F.VC_BGCAL_EN
  let m := (((m.incW pk F.DEAL_TRIG_CNT_COUNT).wr2 pk F.DEAL_LAST_LO_N F.DEAL_LAST_HI_N n).lineBoundary g).bgFollow g bg
  let m := (m.modClu g fun s => { s with lastTrig := some n }).startEdges g n
  (((m.applyBridge g).spiLine g n).lampLine g n hr).emitOut (.trigger g n)

/-- The capture of an issued trigger (R148–R151, R218). -/
def startCapture (m : Mach) (g n : Nat) (legacy : Option Int) : Mach :=
  let s := m.clu g
  let counted := m.inDeal g
  let leadLen := match m.handOf g with | some h => (m.hand h).leadInLen | none => 16
  let lead := decide (s.trigs < leadLen)
  let cap : Capture :=
    { n, cents := (List.range (m.phases g)).map fun p => m.centroid g n p, counted, leadIn := counted && lead,
      depth := m.act (P.acc g) F.ACC_LIMITS_DEPTH, missing := if counted then s.pendMissing else [], legacy }
  let m := m.modClu g fun s =>
    { s with reading := some cap, started := 0, trigs := if counted then s.trigs + 1 else s.trigs,
             pendMissing := if counted then [] else s.pendMissing,
             legacyFirst := if counted && !lead && s.legacyFirst.isNone then legacy else s.legacyFirst }
  if counted && !lead && (m.accSt g).accStart.isNone then m.modAcc g fun a => { a with accStart := some n } else m

/-- A trigger of member `g` at instant `n` of its tile's time base (R170, R174, R175): issued, or dropped because the port is busy. `hr`:
the headroom readings of the line before, in mV by string (R368). -/
def trigger (m : Mach) (g n : Nat) (hr : List Nat) (legacy : Option Int) : Mach :=
  if !m.armed g || m.refLost || m.idleMember g || !m.live (g / 2) (D.sport (g % 2)) then m
  else if !m.enabled (P.deal g) then m.missTrigger g n
  else if (m.clu g).dropNext then (m.modClu g fun s => { s with dropNext := false }).missTrigger g n
  else if m.portBusy g then
    if m.inDeal g then ((m.inc (P.deal g) F.DEAL_OVERRUN_COUNT).raise (P.deal g) 0).missTrigger g n else m
  else
    let m := m.startLine g n hr
    if m.pixelless g then (if m.inDeal g then m.modClu g fun s => { s with trigs := s.trigs + 1 } else m)
    else m.startCapture g n legacy

/-- A grid point of an INTERNAL or EXT_PHASE hand at which member `g` triggers (R170, R172). -/
def captureTrigger (m : Mach) (g n : Nat) (hr : List Nat) : Mach :=
  match m.handOf g with
  | none => m
  | some h =>
    let past := match (m.clu g).lastTrig with | some l => decide (n ≤ l) | none => false
    let beforeSwitch := match (m.clu (m.leader h)).phaseSwitch with | some (_, s) => decide (n ≤ s) | none => true
    if decide (2 ≤ m.handSrc h) || !onGrid (m.handGrid h) n || !beforeSwitch || past then m
    else (m.advance (g / 2) n).trigger g n hr none

/-- Every member of hand `h` triggers at `n`; `hr` by cluster of the leader's tile. -/
def triggerAll (m : Mach) (h n : Nat) (hr : List (List Nat)) (legacy : Option Int) : Mach :=
  (m.followers h).foldl (fun m g => m.trigger g n (hr.getD (g % 2) []) legacy) m

/-- An ignored edge or crossing is counted on the leader's page (R171–R173) (log entry 34). -/
def ignoreTrigger (m : Mach) (g : Nat) : Mach := (m.inc (P.deal g) F.DEAL_TRIG_IGNORED_COUNT).raise (P.deal g) 1

/-- An edge or crossing at `n` lies less than MIN_SPACING after the last trigger a member of the hand was issued (R171) (log entry 34). -/
def tooClose (m : Mach) (h n : Nat) : Bool :=
  (m.followers h).any fun g => match (m.clu g).lastTrig with
    | some l => decide (n < l + m.rd (P.deal (m.leader h)) F.DEAL_MIN_SPACING_TICKS)
    | none => false

/-- The grid that a qualified edge at `e` makes (R172). -/
def newGrid (m : Mach) (g e : Nat) : Nat × Nat :=
  let per := max 1 (m.rd (P.deal g) F.DEAL_PERIOD_TICKS)
  (per, (e + m.rd (P.deal g) F.DEAL_EXT_OFS_TICKS) % per)

/-- First trigger of the grid of an edge at `e` whose switch point is `s` (R172) (log entry 32). -/
def newFirst (m : Mach) (g e s : Nat) : Nat := firstPoint (m.newGrid g e) (s + (m.newGrid g e).1 / 2)

/-- The pending switch of leader `g` takes effect; one accepted after its switch point is pending next (R172) (log entry 32). -/
def switchPhase (m : Mach) (g e : Nat) : Mach :=
  ((m.wr (P.deal g) F.DEAL_PHASE_ACT_TICKS (m.newGrid g e).2).raise (P.deal g) 2).modClu g fun s =>
    { s with phaseSwitch := s.phaseNext, phaseNext := none }

/-- A qualified edge re-phases the grid of a hand whose leader is `g` (R172) (log entry 32). -/
def phaseEdge (m : Mach) (h g n : Nat) : Mach :=
  let close := match (m.clu g).lastEdge with
    | some l => decide (n < l + m.rd (P.deal g) F.DEAL_MIN_SPACING_TICKS)
    | none => false
  if close then m.ignoreTrigger g
  else
    let m := match (m.clu g).phaseSwitch with
      | some (e, s) => if m.newFirst g e s ≤ n then m.switchPhase g e else m
      | none => m
    match (m.clu g).phaseSwitch with
    | some (e, s) =>
      if n < s then (m.ignoreTrigger g).modClu g fun c => { c with lastEdge := some n, phaseSwitch := some (n, m.gridPoint h (n + 4000)) }
      else
        let m := if (m.clu g).phaseNext.isSome then m.ignoreTrigger g else m
        m.modClu g fun c =>
          { c with lastEdge := some n, phaseNext := some (n, firstPoint (m.newGrid g e) (max (n + 4000) (m.newFirst g e s))) }
    | none => m.modClu g fun c => { c with lastEdge := some n, phaseSwitch := some (n, m.gridPoint h (n + 4000)) }

/-- TRIG pin `pin` of tile `t` takes a new level at sample instant `n` and holds it for `held` samples: for a hand whose filter that
satisfies the edge qualifies at its sample `n + FILT` (R171, R172) (log entry 31). -/
def trigPinEdge (m : Mach) (t pin : Nat) (rising : Bool) (n held : Nat) (hr : List (List Nat)) : Mach :=
  let m := (m.advance t n).modTile t fun ts => { ts with trig := putBit ts.trig pin rising }
  if !m.live t D.aux then m
  else
    (List.range 16).foldl (fun m h =>
      let g := m.leader h
      let pk := P.deal g
      let filt := m.rd pk F.DEAL_TRIG_FILT_FILT
      let e := n + filt
      if !m.handArmed h || m.leaderLost h || g / 2 ≠ t || m.rd pk F.DEAL_SRC_PIN ≠ pin || m.flag pk F.DEAL_SRC_POL = rising ||
          decide (held ≤ filt) then m
      else match m.handSrc h with
        | 1 => (m.advance t e).phaseEdge h g e
        | 2 => if m.tooClose h e then (m.advance t e).ignoreTrigger g else (m.advance t (e + 2)).triggerAll h (e + 2) hr none
        | _ => m) m

/-- The switch point of hand `h`'s pending re-phase is past: the new grid begins at its first point at or after S + PERIOD / 2 (R172) (log entry 32). -/
def phaseSwitch (m : Mach) (h : Nat) : Mach :=
  let g := m.leader h
  match (m.clu g).phaseSwitch with
  | none => m
  | some (e, s) =>
    if !m.handArmed h || m.leaderLost h then m else (m.advance (g / 2) (m.newFirst g e s)).switchPhase g e

/-- Position of a LEGACY_POS hand as its leader compares it, in 2^-16 units (R173, R226) (log entry 33). -/
def legacyPos (m : Mach) (h : Nat) : Int :=
  let c := m.rd P.mode (F.MODE_HAND_CFG_POS_CLUSTER.nth h)
  let q : Int := if m.rd P.mode (F.MODE_HAND_CFG_POS_KIND.nth h) = 0 then (m.axA c).enc * 65536 else rshr (m.axA c).p 16
  m.posSign (m.leader h) * q

/-- The position of hand `h` has reached the next boundary at instant `n` (R173); a hand has one pitch, its leader's (log entries 33, 122). -/
def positionCrossing (m : Mach) (h n : Nat) (hr : List (List Nat)) : Mach :=
  let g := m.leader h
  let t := g / 2
  if !m.handArmed h || m.handSrc h ≠ 3 then m
  else
    let m := m.advance t n
    let m := if m.rd P.mode (F.MODE_HAND_CFG_POS_KIND.nth h) = 1 then
        m.axisRun (m.rd P.mode (F.MODE_HAND_CFG_POS_CLUSTER.nth h)) n else m
    let k := (m.clu g).legacyTop + 1
    if m.legacyPos h < (m.clu g).legacyOrg + k * m.rd (P.acc g) F.ACC_PITCH_PITCH then m
    else
      let at_ := if m.rd P.mode (F.MODE_HAND_CFG_POS_KIND.nth h) = 0 then n + 2 else n
      let m := (m.followers h).foldl (fun m g => m.modClu g fun s => { s with legacyTop := k }) m
      if m.tooClose h n then m.ignoreTrigger g else (m.advance t at_).triggerAll h at_ hr (some k)

/-- The LEGACY_POS grid fixed at the grid point that arms the hand (R226) (log entry 33). -/
def armLegacy (m : Mach) (h g : Nat) : Mach :=
  let q := m.legacyPos h
  m.modClu g fun s => { s with legacyOrg := q, legacyTop := 0, legacyFirst := none }

end Sys2Proof.Machine.Mach
end

