-- ==== Sys2Proof/Machine/Twc.lean ====
section
/-!
DEFINITION. The two-wire controller (R527–R543): transfers of the host, of the lamp stages and of the alert response, bus clear,
timeouts; and page GPIO (R575, R576).
-/

namespace Sys2Proof.Machine.Mach

def twcS (m : Mach) (t : Nat) : TwcSt := (m.tile t).twc
def modTwc (m : Mach) (t : Nat) (f : TwcSt → TwcSt) : Mach := m.modTile t fun ts => { ts with twc := f ts.twc }

/-- Owner of the running transfer (R543): 0 none, 1 host, 2 and 3 lamp stages, 4 alert. -/
def twcOwner (m : Mach) (t : Nat) : Nat := m.rd (P.twc t) F.TWC_STAT_OWNER

/-- A transfer or a bus clear runs (R59, R541). -/
def twcBusy (m : Mach) (t : Nat) : Bool :=
  m.flag (P.twc t) F.TWC_STAT_BUSY || m.flag (P.twc t) F.TWC_STAT_CLEARING

/-- A host transfer is pending or running (R532). -/
def twcHostHeld (m : Mach) (t : Nat) : Bool := m.flag (P.twc t) F.TWC_CMD_GO

/-- `k` elements of the transfer buffer from element `i` on. -/
def twcBuf (m : Mach) (t i k : Nat) : List Byte := (List.range k).map fun j => BitVec.ofNat 8 (m.el (P.twc t) 0 (i + j))

/-- Pieces of a REG_WRITE of `len` bytes from pointer `ptr` (R531): start pointer, first buffer element, bytes. -/
def twcSplit (k ptrBits : Nat) : Nat → Nat → Nat → Nat → List (Nat × Nat × Nat)
  | 0, _, _, _ => []
  | fuel + 1, ptr, i, len =>
    let room := if k = 0 then len else 2 ^ k - ptr % 2 ^ k
    if len ≤ room then [(ptr, i, len)]
    else (ptr, i, room) :: twcSplit k ptrBits fuel ((ptr + room) % 2 ^ ptrBits) (i + room) (len - room)

/-- The host transfer's pieces: one, but for a split REG_WRITE. -/
def twcPieces (m : Mach) (t : Nat) : List (Nat × Nat × Nat) :=
  let pk := P.twc t
  let pw := 8 * m.rd pk F.TWC_XFER_PTR_W
  let ptr := m.rd pk F.TWC_PTR_PTR % 2 ^ pw
  let len := m.rd pk F.TWC_LEN_LEN
  if m.rd pk F.TWC_XFER_KIND = 2 then twcSplit (m.rd pk F.TWC_XFER_PAGE_LOG2) pw 257 ptr 0 len else [(ptr, 0, len)]

/-- The bytes the controller sends for a piece, address bytes included, unless the transfer ends early (R530). -/
def twcSent (m : Mach) (t : Nat) (p : Nat × Nat × Nat) : List Byte :=
  let pk := P.twc t
  let a := m.rd pk F.TWC_XFER_ADDR
  let ptr := beBytes (m.rd pk F.TWC_XFER_PTR_W) p.1
  let w := BitVec.ofNat 8 (2 * a)
  let r := BitVec.ofNat 8 (2 * a + 1)
  match m.rd pk F.TWC_XFER_KIND with
  | 0 => w :: m.twcBuf t p.2.1 p.2.2
  | 1 => [r]
  | 2 => w :: (ptr ++ m.twcBuf t p.2.1 p.2.2)
  | _ => w :: (ptr ++ [r])

/-- The pieces from the current one on go out. -/
def twcSend (m : Mach) (t : Nat) : Mach :=
  ((m.twcPieces t).drop (m.twcS t).piece).foldl (fun m p => m.emitOut (.bus t (m.twcSent t p))) m

/-- The bytes of stage `c`'s binning read (R375). -/
def twcBinSent (m : Mach) (t c : Nat) : List Byte :=
  let pk := P.lamp (2 * t + c)
  let a := m.rd pk F.LAMP_EE_ADDR
  BitVec.ofNat 8 (2 * a) :: (beBytes (if m.flag pk F.LAMP_CFG_EE_PW then 2 else 1) (m.rd pk F.LAMP_EE_PTR) ++ [BitVec.ofNat 8 (2 * a + 1)])

/-- A transfer of `owner` starts. -/
def twcBegin (m : Mach) (t owner : Nat) : Mach :=
  let pk := P.twc t
  let m := (m.wr pk F.TWC_STAT_OWNER owner).wr pk F.TWC_STAT_BUSY 1
  let m := m.modTwc t fun s => { s with piece := 0, tries := 0, abort := false }
  if owner = 1 then (m.wr pk F.TWC_STAT_PEND 0).twcSend t
  else if owner = 4 then (m.modTwc t fun s => { s with alerts := s.alerts - 1 }).emitOut (.bus t [0x19])
  else m.emitOut (.bus t (m.twcBinSent t (owner - 2)))

/-- Stage `c`'s binning read waits for the controller. -/
def binWaits (m : Mach) (t c : Nat) : Bool := (m.lampS (2 * t + c)).reading

/-- A binning read that meets a disabled or powered-down controller fails at once with lamp cause 1 (R539) (log entry 100). -/
def binRefuse (m : Mach) (t : Nat) : Mach :=
  (List.range 2).foldl (fun m c => if m.binWaits t c then m.binDone (2 * t + c) none else m) m

/-- The next waiting request is taken, in the order of R539 (log entry 88). -/
def twcServe (m : Mach) (t : Nat) : Mach :=
  let pk := P.twc t
  if m.twcBusy t then m
  else if !(m.live t D.aux && m.enabled pk) then m.binRefuse t
  else if m.binWaits t 0 then m.twcBegin t 2
  else if m.binWaits t 1 then m.twcBegin t 3
  else if 0 < (m.twcS t).alerts then m.twcBegin t 4
  else if m.twcHostHeld t then m.twcBegin t 1
  else m

/-- TWC.STAT shows the line levels (R528, R543) (log entry 88). -/
def twcRead (m : Mach) (t off : Nat) : Option Word :=
  if off = 0x058 then
    let s := m.twcS t
    some (BitVec.ofNat 32 (putBits (m.word (P.twc t) 0x058).toNat 2 0 (4 * s.alertLow.toNat + 2 * s.sda.toNat + s.scl.toNat)))
  else none

/-- The event of a host transfer or an alert-response read (R540) (log entry 44). -/
def twcEvent (m : Mach) (t code addr kind result tries done : Nat) : Mach :=
  let pk := P.twc t
  let payload := leBytes 1 addr ++ leBytes 1 kind ++ leBytes 1 result ++ leBytes 1 tries ++ leBytes 2 done ++
    leBytes 2 (m.rd pk F.TWC_PTR_PTR) ++ leBytes 4 ((m.twcRead t 0x058).getD 0).toNat ++ leBytes 4 0
  let seq := (m.twcS t).seq
  (m.modTwc t fun s => { s with seq := (s.seq + 1) % 2 ^ 32 }).emitEvent t 0x08 4 pk F.TWC_EVT_LOST_COUNT (some 7)
    { hdr := eventHdr 0xB t code seq (m.now t) 16, payload }

/-- A bus clear starts (R537). -/
def busClear (m : Mach) (t : Nat) : Mach :=
  (m.wr (P.twc t) F.TWC_STAT_CLEARING 1).wr (P.twc t) F.TWC_CMD_CLEAR 1

/-- What an alert-response read leaves (R538), with its event (log entries 3, 87). -/
def twcAlertEnd (m : Mach) (t result tries : Nat) (data : List Byte) : Mach :=
  let pk := P.twc t
  match result, data with
  | 1, b :: _ =>
    let a := b.toNat / 2
    let m := (((m.wr pk F.TWC_ALERT_BYTE b.toNat).wr pk F.TWC_ALERT_ADDR a).wr pk F.TWC_ALERT_VALID 1).raise pk 6
    m.twcEvent t 2 a 1 result tries 1
  | _, _ =>
    let m := if result = 2 then (m.wr pk F.TWC_ALERT_VALID 0).raise pk 6 else m
    let (a, m) := m.freeNat
    m.twcEvent t 2 (a % 128) 1 result tries data.length

/-- The piece that a transfer with `done` data bytes acknowledged is in: the last one that starts at or before byte `done`. -/
def twcPieceOf (m : Mach) (t done : Nat) : Nat :=
  if m.twcOwner t = 1 then ((m.twcPieces t).filter fun p => decide (p.2.1 ≤ done)).length - 1 else 0

/-- Retries used in the piece that a transfer with `done` data bytes acknowledged is in (R535) (log entry 87). -/
def twcTries (m : Mach) (t done : Nat) : Nat := if m.twcPieceOf t done = (m.twcS t).piece then (m.twcS t).tries else 0

/-- The running transfer ends with a result (R535): status, counts, events, the buffer of a read, the trick of R540; ENABLE falls where a
write of 0 waited for it (R542) (log entry 88). -/
def twcEnd (m : Mach) (t result done : Nat) (data : List Byte) : Mach :=
  let pk := P.twc t
  let owner := m.twcOwner t
  let tries := m.twcTries t done
  let m := ((m.wr pk F.TWC_STAT_RESULT result).wr pk F.TWC_STAT_DONE done).wr pk F.TWC_STAT_TRIES tries
  let m := (((m.wr pk F.TWC_STAT_OWNER 0).wr pk F.TWC_STAT_BUSY 0).incW pk F.TWC_XFERS_COUNT).raise pk 0
  let m := if result = 1 then m else m.raise pk 1
  let m := if (m.twcS t).disable then (m.wr pk F.PAGE_CTRL_ENABLE 0).modTwc t fun s => { s with disable := false } else m
  match owner with
  | 1 =>
    let m := m.wr pk F.TWC_CMD_GO 0
    let m := (data.zip (List.range 256)).foldl (fun m e => m.setEl pk 0 e.2 e.1.toNat) m
    m.twcEvent t 1 (m.rd pk F.TWC_XFER_ADDR) (m.rd pk F.TWC_XFER_KIND) result tries done
  | 4 => m.twcAlertEnd t result tries data
  | _ => m.binDone (2 * t + (owner - 2)) (if result = 1 then some data else none)

/-- Bytes the running transfer reads (`none` for a write) and whether it may be retried (R533, R538). -/
def twcReads (m : Mach) (t : Nat) : Option Nat :=
  match m.twcOwner t with
  | 1 => if m.rd (P.twc t) F.TWC_XFER_KIND % 2 = 1 then some (m.rd (P.twc t) F.TWC_LEN_LEN) else none
  | 4 => some 1
  | _ => some 64

/-- The running transfer sends pointer or data bytes, which a target can answer with NACK (R533). -/
def twcWrites (m : Mach) (t : Nat) : Bool :=
  match m.twcOwner t with
  | 1 => decide (m.rd (P.twc t) F.TWC_XFER_KIND ≠ 1)
  | 4 => false
  | _ => true

/-- Data bytes of the running transfer. -/
def twcLen (m : Mach) (t : Nat) : Nat := (m.twcReads t).getD (m.rd (P.twc t) F.TWC_LEN_LEN)

/-- The data the transfer brought agree with the count: a read received `done` bytes, a write none; pieces that completed stand. -/
def twcDataOk (m : Mach) (t done : Nat) (data : List Byte) : Bool :=
  decide (done ≤ m.twcLen t) && decide ((m.twcS t).piece ≤ m.twcPieceOf t done) && decide (data.length = if (m.twcReads t).isSome then done else 0)

/-- A transfer ends on the bus (R533–R536): an ABORT that waited turns a completion into ABORTED; an address NACK ends it once every
retry is used (log entries 11, 87). -/
def twcTransferEnd (m : Mach) (t : Nat) (e : TwcEnd) (done : Nat) (data : List Byte) : Mach :=
  let pk := P.twc t
  let s := m.twcS t
  let retries := if m.twcOwner t = 4 then 0 else m.rd pk F.TWC_CFG_RETRY_N
  if !m.live t D.aux || !m.flag pk F.TWC_STAT_BUSY || !m.twcDataOk t done data then m
  else
    let fin := fun (m : Mach) r => ((m.modTwc t fun s => { s with scl := true, sda := true }).twcEnd t r done data).twcServe t
    match e with
    | .complete => if done = m.twcLen t then fin m (if s.abort then 7 else 1) else m
    | .nackAddr => if m.twcTries t done = retries || s.abort then fin m (if s.abort then 7 else 2) else m
    | .nackData => if m.twcWrites t then fin m 3 else m
    | .contention => fin ((m.raise pk 2).inc pk F.TWC_CONTENTIONS_COUNT) 4
    | .aborted => if s.abort then fin m 7 else m

/-- The binning read of stage `g` ends, with its 64 bytes or without (R375, R539). -/
def binRead (m : Mach) (g : Nat) (rec_ : Option (List Byte)) : Mach :=
  let t := g / 2
  let data := rec_.getD []
  if !m.live t D.aux || !m.flag (P.twc t) F.TWC_STAT_BUSY || m.twcOwner t ≠ 2 + g % 2 || decide (64 < data.length) then m
  else (m.twcEnd t (if data.length = 64 then 1 else 3) data.length data).twcServe t

/-- A retry gap ends in piece `piece` of the transfer: the retry is counted and the piece restarts from its START (R533); in a gap an
ABORT ends the transfer instead (R534). -/
def twcRetry (m : Mach) (t piece : Nat) : Mach :=
  let pk := P.twc t
  let s := m.twcS t
  let tries := if piece = s.piece then s.tries else 0
  if !m.live t D.aux || !m.flag pk F.TWC_STAT_BUSY || m.twcOwner t = 4 || decide (piece < s.piece) || s.abort ||
      decide (m.rd pk F.TWC_CFG_RETRY_N ≤ tries) || (m.twcOwner t = 1 && decide ((m.twcPieces t).length ≤ piece)) ||
      (m.twcOwner t ≠ 1 && piece ≠ 0) then m
  else
    let m := (m.modTwc t fun s => { s with piece, tries := tries + 1 }).inc pk F.TWC_NACKS_COUNT
    if m.twcOwner t = 1 then m.twcSend t else m.emitOut (.bus t (m.twcBinSent t (m.twcOwner t - 2)))

/-- SCL stays low for SCL_MS (R529): in a transfer, in a contention wait (`cont`), in a bus clear, or idle (log entry 87). -/
def sclLow (m : Mach) (t : Nat) (cont : Bool) (done : Nat) (data : List Byte) : Mach :=
  let pk := P.twc t
  if !(m.live t D.aux && m.enabled pk) || (m.flag pk F.TWC_STAT_BUSY && !m.twcDataOk t done data) then m
  else
    let m := ((m.modTwc t fun s => { s with scl := false }).raise pk 3).inc pk F.TWC_TMO_SCL
    if m.flag pk F.TWC_STAT_CLEARING then ((m.wr pk F.TWC_STAT_CLEARING 0).wr pk F.TWC_CMD_CLEAR 0).twcServe t
    else if m.flag pk F.TWC_STAT_BUSY then ((if cont then m.raise pk 2 else m).twcEnd t 5 done data).twcServe t
    else m

/-- SDA stays low for SDA_MS (R529); a transfer ends with SDA_TMO and a bus clear follows (R537) (log entry 87). -/
def sdaLow (m : Mach) (t : Nat) (cont : Bool) (done : Nat) (data : List Byte) : Mach :=
  let pk := P.twc t
  if !(m.live t D.aux && m.enabled pk) || (m.flag pk F.TWC_STAT_BUSY && !m.twcDataOk t done data) then m
  else
    let m := ((m.modTwc t fun s => { s with sda := false }).raise pk 4).inc pk F.TWC_TMO_SDA
    if m.flag pk F.TWC_STAT_BUSY then ((if cont then m.raise pk 2 else m).twcEnd t 6 done data).busClear t else m

/-- A bus clear ends (R537): SDA is high, or the ninth pulse has not freed it. -/
def busClearEnd (m : Mach) (t : Nat) (sda : Bool) : Mach :=
  let pk := P.twc t
  if !m.live t D.aux || !m.flag pk F.TWC_STAT_CLEARING then m
  else
    let m := ((m.modTwc t fun s => { s with scl := true, sda }).wr pk F.TWC_STAT_CLEARING 0).wr pk F.TWC_CMD_CLEAR 0
    (if sda then m.wr pk F.TWC_STAT_SDA_STUCK 0 else (m.wr pk F.TWC_STAT_SDA_STUCK 1).raise pk 5).twcServe t

/-- ALERT_N changes; its falling edge schedules an alert-response read while ALERT_AUTO is 1 (R538). -/
def alertEdge (m : Mach) (t : Nat) (low : Bool) : Mach :=
  let fell := low && !(m.twcS t).alertLow
  let m := m.modTwc t fun s => { s with alertLow := low }
  if fell && m.live t D.aux && m.enabled (P.twc t) && m.flag (P.twc t) F.TWC_CFG_ALERT_AUTO then
    (m.modTwc t fun s => { s with alerts := s.alerts + 1 }).twcServe t
  else m

/-- A refused write of page TWC (R543). -/
def twcRefuse (m : Mach) (t : Nat) : Mach := m.refuse (P.twc t) 8

/-- `CMD.GO` (R530, R532). -/
def twcGo (m : Mach) (t : Nat) : Mach :=
  let pk := P.twc t
  let a := m.rd pk F.TWC_XFER_ADDR
  let pw := m.rd pk F.TWC_XFER_PTR_W
  if !m.enabled pk || m.twcHostHeld t || m.flag pk F.TWC_STAT_SDA_STUCK || decide (a < 8) || decide (0x78 ≤ a) ||
      ((pw = 0 || pw = 3) && decide (2 ≤ m.rd pk F.TWC_XFER_KIND)) then m.twcRefuse t
  else
    let m := m.wr pk F.TWC_CMD_GO 1
    if m.twcBusy t then m.wr pk F.TWC_STAT_PEND 1 else m.twcServe t

/-- `CMD.ABORT` (R534): ignored unless a host transfer runs. -/
def twcAbort (m : Mach) (t : Nat) : Mach :=
  if m.twcOwner t = 1 then m.modTwc t fun s => { s with abort := true } else m

/-- `CMD.ALERT_READ` (R538, R532). -/
def alertRead (m : Mach) (t : Nat) : Mach :=
  if !m.enabled (P.twc t) || m.flag (P.twc t) F.TWC_STAT_SDA_STUCK then m.twcRefuse t
  else (m.modTwc t fun s => { s with alerts := s.alerts + 1 }).twcServe t

/-- `CMD.CLEAR` (R537). -/
def twcClear (m : Mach) (t : Nat) : Mach := if m.twcBusy t then m.twcRefuse t else m.busClear t

/-- A write to a register of page TWC that has a behaviour of its own (R532, R543) (log entry 89). -/
def writeTwc (m : Mach) (t off : Nat) (v : Word) : Option Mach :=
  let n := v.toNat
  let held := m.twcHostHeld t
  let no := some (m.twcRefuse t)
  match off with
  | 0x040 => if held || bits n 1 0 = 3 then no else none
  | 0x044 => if held || bits n 23 16 = 0 || bits n 15 8 = 0 || bits n 7 0 = 0 then no else none
  | 0x048 => if held || [1, 2].contains (bits n 19 16) || decide (9 ≤ bits n 19 16) then no else none
  | 0x04C => if held then no else none
  | 0x050 => if held || bits n 8 0 = 0 || decide (256 < bits n 8 0) then no else none
  | 0x054 =>
    let m := if bit n 0 then m.twcGo t else m
    let m := if bit n 1 then m.twcAbort t else m
    let m := if bit n 2 then m.alertRead t else m
    some (if bit n 3 then m.twcClear t else m)
  | _ => none

/-- A write of ENABLE on page TWC (R537, R542): 0 during a transfer acts as ABORT and waits for its end; 0 to 1 starts a bus clear. -/
def twcEnable (m : Mach) (t : Nat) (en : Bool) : Mach :=
  let pk := P.twc t
  if en then
    let was := m.enabled pk
    let m := (m.wr pk F.PAGE_CTRL_ENABLE 1).modTwc t fun s => { s with disable := false }
    if was then m else if m.flag pk F.TWC_STAT_CLEARING then m else m.busClear t
  else if m.flag pk F.TWC_STAT_BUSY then (m.twcAbort t).modTwc t fun s => { s with disable := true }
  else m.wr pk F.PAGE_CTRL_ENABLE 0

/-- The controller stops at once, by soft reset or with its domain (R541): buffer, requests and the alert register clear. A binning
read that waited for it fails (log entry 88). -/
def twcStop (m : Mach) (t : Nat) : Mach :=
  let s := m.twcS t
  let m := m.modTwc t fun _ => { scl := s.scl, sda := s.sda, alertLow := s.alertLow }
  (m.clearArrays (P.twc t)).binRefuse t

/-- A block soft reset of TWC. -/
def softResetTwc (m : Mach) (t : Nat) : Mach := (m.softResetPage (P.twc t)).twcStop t

/-! ### Page GPIO (R575, R576) -/

/-- Level of GPIO pin `n` of tile `t` at the ball: the driven level of an output, else what the board drives. -/
def gpioLevel (m : Mach) (t n : Nat) : Bool :=
  let pk := P.gpio t
  if m.live t D.aux && m.enabled pk && bit (m.rd pk F.GPIO_DIR_OE) n then bit (m.rd pk F.GPIO_OUT_LEVEL) n
  else bit (m.tile t).gpioIn n

/-- The levels of all eight pins. -/
def gpioLevels (m : Mach) (t : Nat) : Nat := (List.range 8).foldl (fun a n => a + 2 ^ n * (m.gpioLevel t n).toNat) 0

/-- GPIO registers computed when read: IN (R575). -/
def gpioRead (m : Mach) (t off : Nat) : Option Word :=
  if off = 0x048 then some (BitVec.ofNat 32 ((m.tile t).trig % 16 * 256 + m.gpioLevels t)) else none

/-- An edge of pin `n` raises GPIO_EDGE where EDGE, as it stood before, enables it (R576). -/
def gpioEvent (m : Mach) (t n : Nat) (rising : Bool) : Mach :=
  let pk := P.gpio t
  if m.live t D.aux && m.enabled pk && bit (m.rd pk (if rising then F.GPIO_EDGE_RISE else F.GPIO_EDGE_FALL)) n then m.raise pk n else m

end Sys2Proof.Machine.Mach
end

