-- ==== Sys2Proof/Machine/Power.lean ====
section
/-!
DEFINITION. Power domains, clocks, resets, time base (R53–R90): requests for domains and shading SRAM modes, the power sequencer, what
a domain loses and regains, tile reset, power-on reset, REFCLK loss, the time base's registers, DORMANT and wake.
-/

namespace Sys2Proof.Machine.Mach

/-! ### Domains (R59–R67) -/

/-- Domains that domain `d` requires (R59). -/
def requires (d : Nat) : List Nat :=
  match d with
  | 5 => [4] | 10 => [8] | 11 => [9] | 12 => [8, 14] | 13 => [9, 15] | 19 => [7] | _ => []

/-- The switchable domains that DOM_REQ requests by bit, ascending. -/
def reqDomains : List Nat := [3, 4, 5, 6, 7, 8, 9, 10, 11, 12, 13, 16, 17, 18, 19, 20]

/-- Domain `d` is requested. -/
def requested (m : Mach) (t d : Nat) : Bool := bit (m.word (P.pwr t) 0x040).toNat (d - 1)

def setReq (m : Mach) (t d : Nat) (b : Bool) : Mach :=
  m.setWord (P.pwr t) 0x040 (BitVec.ofNat 32 (putBit (m.word (P.pwr t) 0x040).toNat (d - 1) b))

/-- `PWR.SHT_MODE` of a cluster: 0 OFF, 1 ON, 2 RETAIN. -/
def shtField (c : Nat) : Field := if c = 0 then F.PWR_SHT_MODE_SHT0 else F.PWR_SHT_MODE_SHT1
def shtReq (m : Mach) (t c : Nat) : Nat := m.rd (P.pwr t) (shtField c)

/-- Mode a cluster's shading SRAM is in. -/
def shtNow (m : Mach) (t c : Nat) : ShtMode := if c = 0 then (m.tile t).sht0 else (m.tile t).sht1
def setSht (m : Mach) (t c : Nat) (s : ShtMode) : Mach :=
  m.modTile t fun ts => if c = 0 then { ts with sht0 := s } else { ts with sht1 := s }

/-- A TRIG or GPIO pin of the tile is selected by an armed hand (R59, R576). -/
def pinInUse (m : Mach) (t : Nat) : Bool :=
  (List.range 16).any fun h => m.handArmed h &&
    ((m.leader h / 2 = t && (m.handSrc h = 1 || m.handSrc h = 2)) ||
     ((m.flag P.mode (F.MODE_HAND_DEALCFG_START_PIN.nth h) || m.flag P.mode (F.MODE_HAND_DEALCFG_END_PIN.nth h)) &&
      m.rd P.mode (F.MODE_HAND_DEALCFG_PIN_TILE.nth h) = t &&
      (let s := m.rd P.mode (F.MODE_HAND_DEALCFG_PIN_SEL.nth h); decide (s ≤ 3) || decide (8 ≤ s))))

/-- A "Refused while" condition of R59 holds for domain `d`; the successor role counts only where `succ` says so (R141). -/
def refusedWhile (m : Mach) (t d : Nat) (succ : Bool) : Bool :=
  let role := m.rd (P.decl t) F.DECL_ROLE_ROLE
  match d with
  | 3 => (m.handOf (2 * t)).isSome || (m.handOf (2 * t + 1)).isSome || role = 1 || role = 3 || (succ && role = 2)
  | 4 | 5 => m.linkUp t && m.ctrlCapable t
  | 6 =>
    (m.kit t).dramReady || (List.range 16).any fun c => (m.dmaCh t c).outs.any fun x => x.dram
  | 7 =>
    (List.range 32).any (fun q => !(m.queue t q).cells.isEmpty || !(m.queue t q).spill.isEmpty) ||
    (List.range 16).any fun c => m.dmaBusy t c
  | 8 | 10 | 12 => m.running (2 * t)
  | 9 | 11 | 13 => m.running (2 * t + 1)
  | 14 => m.domOn t 12
  | 15 => m.domOn t 13
  | 16 => [2 * t, 2 * t + 1].any fun g => m.moving g || m.drvEnPin g
  | 17 =>
    (m.tile t).sweep.isSome ||
    [2 * t, 2 * t + 1].any fun g => m.flag (P.lamp g) F.LAMP_STAT_BST_RUN || m.flag (P.lamp g) F.LAMP_CTRL_DIRECT || bit (m.lampStat g) 6
  | 18 => m.excitation t || (m.monS t).calRun
  | 19 => m.running (2 * t) || m.running (2 * t + 1)
  | 20 => m.twcBusy t || m.pinInUse t
  | _ => false

/-- PREPARED falls (R137); a preparation that runs goes on and ends without setting it. -/
def unprepare (m : Mach) (t : Nat) : Mach :=
  m.inSeg t fun m =>
    let m := m.wr P.mode (F.MODE_TILE_MODE_PREPARED.nth t) 0
    if m.flag P.mode (F.MODE_TILE_MODE_PREP_BUSY.nth t) then m.modTile t fun ts => { ts with prepInvalid := true } else m

/-- The domains whose switching ends PREPARED (R137). -/
def prepDomain (d : Nat) : Bool := [6, 10, 11, 17, 18, 20].contains d

/-- Page lists of a domain back at their reset values, window arrays zero. -/
def losePages (m : Mach) (t d : Nat) : Mach :=
  (pagesOfDomain d).foldl (fun m p => (m.resetPage (pageKey t p)).clearArrays (pageKey t p)) m

/-- Producers whose domain goes off lose the events that wait for FREE and abandon their open tricks (R305). -/
def dropHeld (m : Mach) (t : Nat) (prods : List Nat) : Mach := m.stopProducers t prods

/-- The readout, dealer and sensor SPI of a cluster go (SPORT off). -/
def sportOff (m : Mach) (g : Nat) : Mach :=
  let t := g / 2
  let m := match (m.clu g).reading with | some c => (m.endReading g).loseCapture g c | none => m
  let m := m.modClu g fun s =>
    { s with started := 0, edges := [], toBase := 0, origin := 0, prevEdges := [], prevBase := 0, prevOrigin := 0, lastOfs := [],
             phaseSwitch := none, phaseNext := none, lastEdge := none, lastTrig := none, clampRef := [], laneSkew := [], spi := {} }
  let m := m.losePages t (D.sport (g % 2))
  let base := P.sspi t * 4096
  let lo := base + spiBase g
  let m := { m with regs := m.regs.clear lo (lo + 0x40) }
  if m.domOn t (D.sport (1 - g % 2)) then m else m.resetPage (P.sspi t)

/-- The pixel pipeline of a cluster goes (PIPE off); the shading table and its descriptor lie in SHT (R237). -/
def pipeOff (m : Mach) (g : Nat) : Mach :=
  let pk := P.shd g
  let desc := (List.range 10).map fun i => m.word pk (0x100 + 4 * i)
  let m := ((m.resetPage (P.acc g)).clearArrays (P.acc g)).resetPage pk
  let m := (List.range 10).foldl (fun m i => m.setWord pk (0x100 + 4 * i) (desc.getD i 0)) m
  let m := (m.resetPage (P.cal g)).clearArrays (P.cal g)
  m.modClu g fun s =>
    { s with slot := none, liveJ := [0, 0, 0, 0, 0, 0], calT := {}, acc := {}, released := [], chkLogged := [], upsets := [],
             passed := none, dropped := none }

/-- Domain `d` of tile `t` is off: everything it holds is lost, but what AON or RETAIN keeps (R62, R86). -/
def domOff (m : Mach) (t d : Nat) : Mach :=
  let m := match d with
    | 3 => (m.offRing t).losePages t d |>.wr (P.clk t) F.CLK_STAT_RING_PLL_LOCK 0
    | 4 =>
      ((m.losePages t d).modHost t fun h => { perstLow := h.perstLow }).wr (P.clk t) F.CLK_STAT_HOST_PLL_LOCK 0
    | 5 => (m.hostlOff t).losePages t d
    | 6 =>
      let m := (m.dramStop t).losePages t d
      if (m.tile t).dormant && !m.flag (P.pwr t) F.PWR_DORM_CFG_DRAM_SR then m.dramReset t else m
    | 7 =>
      (m.losePages t d).modTile t fun ts =>
        { ts with queues := Vector.replicate 32 {}, kitty := { spilling := ts.kitty.spilling }, dma := Vector.replicate 16 {} }
    | 8 | 9 => m.sportOff (2 * t + (d - 8))
    | 10 | 11 =>
      let g := 2 * t + (d - 10)
      (m.losePages t d).modClu g fun s =>
        { s with convs := s.convs.map fun c =>
                   { aonOk := c.aonOk, aonMap := c.aonMap, aonFactors := c.aonFactors, aonBase := c.aonBase, entered := c.entered,
                     left := c.left },
                 calStart := 0, calHost := false }
    | 12 | 13 => m.pipeOff (2 * t + (d - 12))
    | 14 | 15 => m.loseTable (2 * t + (d - 14))
    | 16 =>
      let m := [2 * t, 2 * t + 1].foldl (fun m g => m.axisCut g) (m.losePages t d)
      (m.modTile t fun ts => { ts with pace := Vector.replicate 16 {} }).dropHeld t [1, 2, 3]
    | 17 =>
      let m := [2 * t, 2 * t + 1].foldl (fun m g => m.modLamp g fun _ => {}) (m.losePages t d)
      (m.modTile t fun ts => { ts with sweep := none, patt := Vector.replicate 4 {} }).dropHeld t [4, 5]
    | 18 =>
      ((m.losePages t d).modTile t fun ts => { ts with mon := { aon := ts.mon.aon }, fe := {} }).dropHeld t [6, 7]
    | 19 =>
      let m := [2 * t, 2 * t + 1].foldl (fun m g => m.modClu g fun s =>
        { s with inMeld := none, stage7 := false, outTricks := [], creditWait := false, seamL := {}, seamR := {}, degShown := false,
                 eodDue := false, released := [] }) (m.losePages t d)
      m.modTile t fun ts => { ts with chkFifo := [], strs := Vector.replicate 8 {} }
    | 20 => (((m.losePages t d).modTile t fun ts => { ts with meas := Vector.replicate 2 {} }).twcStop t).dropHeld t [8]
    | _ => m
  if prepDomain d then m.unprepare t else m

/-- Domain `d` of tile `t` comes on from its post-power-on-reset state, with what AON restores (R62, R86) (log entry 54). -/
def domUp (m : Mach) (t d : Nat) : Mach :=
  let m := match d with
    | 3 => m.wr (P.clk t) F.CLK_STAT_RING_PLL_LOCK 1
    | 4 =>
      let c := hostCfgReset (decide (m.rd P.pkg F.PKG_STRAPS_BOOT = t)) (m.rd P.pkg F.PKG_STRAPS_HMODE)
      ((m.setWord (P.hostp t) 0x040 (BitVec.ofNat 32 c)).modHost t fun h => { h with cfg := c }).wr (P.clk t) F.CLK_STAT_HOST_PLL_LOCK 1
    | 10 | 11 => (List.range 6).foldl (fun m v => m.restoreAon (2 * t + (d - 10)) v) m
    | 18 => m.monRestore t
    | _ => m
  if prepDomain d then m.unprepare t else m

/-! ### Power sequencer (R61, R64) -/

/-- Domain `d` belongs to the target: requested, and the tile not DORMANT; before control ports are usable only RING comes up (R58). -/
def inTarget (m : Mach) (t d : Nat) : Bool := m.requested t d && !(m.tile t).dormant && (d = 3 || m.cpb.usable)

/-- Mode of a cluster's shading SRAM in the target: in DORMANT it stays in RETAIN or goes off (R59, R90) (log entry 23). -/
def shtTarget (m : Mach) (t c : Nat) : ShtMode :=
  match m.shtReq t c with
  | 1 => if (m.tile t).dormant then .off else if m.cpb.usable then .on else m.shtNow t c
  | 2 => .retain
  | _ => .off

/-- The next domain to switch off: descending, none before the domains that require it. -/
def nextOff (m : Mach) (t : Nat) : Option SeqStep :=
  [20, 19, 18, 17, 16, 15, 14, 13, 12, 11, 10, 9, 8, 7, 6, 5, 4, 3].findSome? fun d =>
    let free := [5, 10, 11, 12, 13, 19].all fun e => !(requires e).contains d || !m.domOn t e
    if d = 14 || d = 15 then
      let c := d - 14
      let goal := m.shtTarget t c
      if goal ≠ .on && m.shtNow t c ≠ goal && m.shtNow t c ≠ .off && free then some { dom := d, on := false, sht := goal } else none
    else if m.domOn t d && !m.inTarget t d && free then some { dom := d, on := false } else none

/-- The next domain to switch on: ascending, each preceded by what it requires. -/
def nextOn (m : Mach) (t : Nat) : Option SeqStep :=
  [3, 4, 5, 6, 7, 8, 9, 10, 11, 12, 13, 14, 15, 16, 17, 18, 19, 20].findSome? fun d =>
    if d = 14 || d = 15 then
      let goal := m.shtTarget t (d - 14)
      if m.shtNow t (d - 14) ≠ goal then some { dom := d, on := true, sht := goal } else none
    else if m.domOn t d || !m.inTarget t d then none
    else match (requires d).find? fun r => !m.domOn t r with
      | some r => some { dom := r, on := true, sht := .on }
      | none => some { dom := d, on := true }

/-- The sequencer takes its next step, or has reached its target (R61). -/
def seqKick (m : Mach) (t : Nat) : Mach :=
  if (m.tile t).seq.isSome || !m.awake t then m
  else
    match (match m.nextOff t with | some s => some s | none => m.nextOn t) with
    | some s => (m.modTile t fun ts => { ts with seq := some s }).wr (P.pwr t) F.PWR_DOM_STAT_SEQ_BUSY 1
    | none =>
      if m.flag (P.pwr t) F.PWR_DOM_STAT_SEQ_BUSY then (m.wr (P.pwr t) F.PWR_DOM_STAT_SEQ_BUSY 0).raise (P.pwr t) 0 else m

/-- The ON bit of a domain. -/
def setOn (m : Mach) (t d : Nat) (b : Bool) : Mach :=
  m.wr (P.pwr t) F.PWR_DOM_STAT_ON (putBit (m.rd (P.pwr t) F.PWR_DOM_STAT_ON) (d - 1) b)

/-- What a step of the sequencer does when it has finished (log entry 111). -/
def seqStep (m : Mach) (t : Nat) (s : SeqStep) : Mach :=
  if s.dom = 14 || s.dom = 15 then
    let c := s.dom - 14
    let lose := s.sht = .off || (s.sht = .on && m.shtNow t c = .off) || (s.sht = .retain && m.shtNow t c = .off)
    let m := if lose then m.domOff t s.dom else m
    (m.setSht t c s.sht).setOn t s.dom (s.sht = .on)
  else if s.on then (m.domUp t s.dom |>.setOn t s.dom true)
  else (m.domOff t s.dom).setOn t s.dom false

/-- What becomes possible once a domain shows on. -/
def afterOn (m : Mach) (t d : Nat) : Mach :=
  match d with
  | 5 => (m.startTraining t).mirrorCredits t
  | 7 => m.mirrorCredits t
  | _ => m

/-- The sequencer has finished switching a domain (R61) (log entry 11). -/
def domainSwitched (m : Mach) (t : Nat) : Mach :=
  match (m.tile t).seq with
  | none => m
  | some s =>
    if !m.awake t then m
    else
      let m := (m.modTile t fun ts => { ts with seq := none }).seqStep t s
      (if s.on then m.afterOn t s.dom else m).seqKick t

/-! ### Wake and alarm (R68, R80) -/

/-- The tile wakes from DORMANT (R68): causes as they read in WAKE_CAUSE. -/
def wakeUp (m : Mach) (t causes : Nat) : Mach :=
  if !(m.tile t).dormant || causes = 0 then m
  else
    let pk := P.pwr t
    let m := m.setWord pk 0x050 (m.word pk 0x050 ||| BitVec.ofNat 32 causes)
    (((m.modTile t fun ts => { ts with dormant := false }).raise pk 4).unprepare t).seqKick t

/-- The wake sources that are enabled, of those that occur (R68). -/
def wakeSources (m : Mach) (t gpio : Nat) (alarm cp : Bool) : Nat :=
  let pk := P.pwr t
  (m.rd pk F.PWR_WAKE_CFG_GPIO_WAKE &&& gpio) * 256 + (alarm && m.flag pk F.PWR_WAKE_CFG_ALARM_WAKE).toNat * 2 +
    (cp && m.flag pk F.PWR_WAKE_CFG_CP_WAKE).toNat

/-- A 64-bit alarm value. -/
def alarmAt (m : Mach) (t : Nat) : Nat := m.rd2 (P.tb t) F.TB_ALARM_LO_N_LO F.TB_ALARM_HI_N_HI

/-- The alarm fires if its time has come (R80). -/
def alarmFire (m : Mach) (t : Nat) : Mach :=
  let pk := P.tb t
  if (m.tile t).life = .por || !m.flag pk F.TB_CTRL_ALARM_EN || m.flag pk F.TB_STAT_ALARM_HIT || decide (m.now t < m.alarmAt t) then m
  else ((m.wr pk F.TB_STAT_ALARM_HIT 1).raise pk 0).wakeUp t (m.wakeSources t 0 true false)

/-- The time base reaches the alarm value (R80). -/
def alarmReached (m : Mach) (t : Nat) : Mach :=
  let pk := P.tb t
  if (m.tile t).life = .por || !m.flag pk F.TB_CTRL_ALARM_EN || m.flag pk F.TB_STAT_ALARM_HIT then m
  else (m.advance t (m.alarmAt t)).alarmFire t

/-! ### Time base page (R78–R82) -/

/-- A hand of the package is outside READY. -/
def anyRunning (m : Mach) : Bool := (List.range 16).any fun h => decide (2 ≤ m.handState h)

/-- `TB.CTRL` written (R78–R80). -/
def writeTbCtrl (m : Mach) (t : Nat) (v : Word) : Mach :=
  let pk := P.tb t
  let n := v.toNat
  let m := m.wrb pk F.TB_CTRL_PPS_OUT_EN (bit n 3)
  let m := if bit n 0 then
      ((m.wr pk F.TB_CAP_FRAC_F (m.fracF t)).wr2 pk F.TB_CAP_LO_N_LO F.TB_CAP_HI_N_HI (m.now t)) else m
  let m := if bit n 1 then
      if m.flag pk F.TB_STAT_MASTER && !m.anyRunning then (m.wr pk F.TB_CTRL_LOAD 1).wr pk F.TB_STAT_LOAD_PEND 1
      else m.raise pk 3
    else m
  let m := m.wrb pk F.TB_CTRL_ALARM_EN (bit n 2)
  if bit n 2 then m.alarmFire t else m.wr pk F.TB_STAT_ALARM_HIT 0

/-- A write to a register of page TB that has a behaviour of its own. -/
def writeTb (m : Mach) (t off : Nat) (v : Word) : Option Mach :=
  match off with
  | 0x040 => some (m.writeTbCtrl t v)
  | 0x058 | 0x05C => if m.flag (P.tb t) F.TB_CTRL_ALARM_EN then some (m.errCount (P.tb t)) else none
  | _ => none

/-- A rising edge on PPS_IN at instant `n` of tile 0's time base; it is not stamped in a tile reset of tile 0 (R81, R119). -/
def ppsIn (m : Mach) (n : Nat) : Mach :=
  let pk := P.tb 0
  let m := m.advance 0 n
  if !(match (m.tile 0).life with | .starting | .up => true | _ => false) then m else (m.wr2 pk F.TB_PPS_LO_N_LO F.TB_PPS_HI_N_HI (m.now 0)).raise pk 1

/-- Level of PPS_OUT: low while tile 0 is in reset (R81, R119) and in its DORMANT (R49). -/
def ppsOut (m : Mach) : Bool := m.answers 0 && !(m.tile 0).dormant && m.flag (P.tb 0) F.TB_CTRL_PPS_OUT_EN && decide (m.now 0 % 500000000 < 50000000)

/-! ### Page PWR (R60, R64–R69) -/

/-- One bit of a DOM_REQ write judged (R60): the domain cleared (log entries 22, 112). -/
def clearDom (m : Mach) (t d : Nat) : Mach :=
  let pk := P.pwr t
  if reqDomains.any fun e => (requires e).contains d && m.requested t e then m.raise pk 1
  else if m.refusedWhile t d true then m.raise pk 2
  else m.setReq t d false

/-- One bit of a DOM_REQ write judged: the domain set, with what it requires (log entries 22, 112). -/
def setDom (m : Mach) (t d : Nat) : Mach :=
  if (d = 12 && m.shtReq t 0 ≠ 1) || (d = 13 && m.shtReq t 1 ≠ 1) then m.raise (P.pwr t) 1
  else (requires d).foldl (fun m r => if r = 14 || r = 15 then m else m.setReq t r true) (m.setReq t d true)

/-- A write of `PWR.DOM_REQ` (R60): clears in descending order, then sets in ascending order. -/
def writeDomReq (m : Mach) (t : Nat) (v : Word) : Mach :=
  let old := (m.word (P.pwr t) 0x040).toNat
  let clears := reqDomains.reverse.filter fun d => bit old (d - 1) && !bit v.toNat (d - 1)
  let sets := reqDomains.filter fun d => !bit old (d - 1) && bit v.toNat (d - 1)
  (sets.foldl (fun m d => m.setDom t d) (clears.foldl (fun m d => m.clearDom t d) m)).seqKick t

/-- One field of a SHT_MODE write (R60, R64, R67) (log entries 22, 112). -/
def setShtReq (m : Mach) (t c x : Nat) : Mach :=
  let pk := P.pwr t
  if x = m.shtReq t c then m
  else if x = 3 then m.errCount pk
  else if m.shtReq t c = 1 && m.requested t (12 + c) then m.raise pk 1
  else if m.shtReq t c = 1 && m.refusedWhile t (14 + c) true then m.raise pk 2
  else (m.wr pk (shtField c) x).setReq t (14 + c) (x = 1)

/-- A write of `PWR.SHT_MODE`. -/
def writeShtMode (m : Mach) (t : Nat) (v : Word) : Mach :=
  ((m.setShtReq t 1 (bits v.toNat 3 2)).setShtReq t 0 (bits v.toNat 1 0)).seqKick t

/-- A write to a register of page PWR that has a behaviour of its own. -/
def writePwr (m : Mach) (t off : Nat) (v : Word) : Option Mach :=
  match off with
  | 0x040 => some (m.writeDomReq t v)
  | 0x048 => some (m.writeShtMode t v)
  | 0x058 =>
    some (if !bit v.toNat 0 then m
      else if bits v.toNat 31 16 = 0x5A1E then m.modTile t fun ts => { ts with rstDue := ts.rstDue ||| 4 }
      else m.errCount (P.pwr t))
  | _ => none

/-- Soft resets of the AON and CTRL pages: conditions of the tile that the registers only show stay as they are (R84, R86) (log entry 19). -/
def softResetPwr (m : Mach) (t : Nat) : Mach :=
  let pk := P.pwr t
  let stat := m.word pk 0x044
  let rails := m.word pk 0x060
  let m := (((m.softResetPage pk).setWord pk 0x044 stat).setWord pk 0x060 rails).setWord pk 0x054 0
  (m.setReq t 14 (m.shtReq t 0 = 1)).setReq t 15 (m.shtReq t 1 = 1)
def softResetTb (m : Mach) (t : Nat) : Mach :=
  let pk := P.tb t
  let s := m.word pk 0x060 &&& 0x13
  (m.softResetPage pk).setWord pk 0x060 s
def softResetClk (m : Mach) (t : Nat) : Mach :=
  let s := m.word (P.clk t) 0x040 &&& 0xF
  (m.softResetPage (P.clk t)).setWord (P.clk t) 0x040 s

/-! ### Tile reset (R62, R69, R83, R86, R89) -/

/-- The grids of armed hands whose leader lies on the tile are kept for their other members, as they stand before it is reset (R146). -/
def keepGrids (m : Mach) (t : Nat) : Mach :=
  (List.range 16).foldl (fun m h =>
    if m.handArmed h && m.leader h / 2 = t && (m.tile t).life = .up && !m.leaderLost h then
      let g := m.handGrid h
      m.modHand h fun s => { s with grid := g, gridHeld := true }
    else m) m

/-- A record that only the tile's AON copy holds (R88, R522) (log entry 108). -/
def recordAon (m : Mach) (t code unit subA subB det : Nat) : Mach :=
  let k := m.rd (P.decl t) F.DECL_AON_SEQ_K
  let r : FaultRec := { time := m.now t, seq := k, code, tile := t, isl := false, aon := false, unit, subA, subB, detail := det }
  (m.modTile t fun ts => { ts with aonLog := (ts.aonLog ++ [r]).drop (ts.aonLog.length - 15) }).incW (P.decl t) F.DECL_AON_SEQ_K

/-- A record of tile `t` about itself: the tile that serves its segment cannot enter its own reset (R522) (log entries 77, 108). -/
def recordSelf (m : Mach) (t code unit subA subB det : Nat) : Mach :=
  if m.rd (P.decl t) F.DECL_ROLE_ROLE % 2 = 1 then m.recordAon t code unit subA subB det else m.record t code unit subA subB det

/-- Motion cut by a tile reset: an axis that moved is UNCERTAIN (R89). -/
def resetAxis (m : Mach) (g : Nat) : Mach :=
  if !m.axLive g then m
  else
    let m := m.axisRun g (m.now (g / 2))
    (if m.moving g then m.setUncertain g 1 else m).axisCut g

/-- Pages of CTRL back at their defaults, but for what AON holds of them and the clock conditions (R75, R86, R524). -/
def resetCtrl (m : Mach) (t : Nat) : Mach :=
  let clk := m.word (P.clk t) 0x040 &&& 0xFFFF0003
  let k := m.rd (P.decl t) F.DECL_AON_SEQ_K
  let m := ((m.resetPage (P.tile t)).resetPage (P.clk t)).resetPage (P.decl t)
  (m.setWord (P.clk t) 0x040 clk).wr (P.decl t) F.DECL_AON_SEQ_K k

/-- SYNCED falls (R82, R498). -/
def unsync (m : Mach) (t : Nat) : Mach :=
  if m.flag (P.tb t) F.TB_STAT_SYNCED then (m.wr (P.tb t) F.TB_STAT_SYNCED 0).raise (P.tb t) 2 else m

/-- A tile reset with the cause bits of `RST_CAUSE` in `causes` (R83). A trigger during one adds its bit (R85); one that is due later
stays due (log entry 114). -/
def tileReset (m : Mach) (t causes : Nat) : Mach :=
  let pk := P.pwr t
  let m := m.modTile t fun ts => { ts with rstDue := ts.rstDue &&& (255 ^^^ causes) }
  if !m.present t then m
  else match (m.tile t).life with
  | .por => m
  | .reset | .released | .failed => m.setWord pk 0x054 (m.word pk 0x054 ||| BitVec.ofNat 32 causes)
  | .starting | .up =>
    let m := (m.modTile t fun ts => { ts with seq := none }).inSeg t fun m => m.keepGrids t
    let m := (m.resetAxis (2 * t)).resetAxis (2 * t + 1)
    let m := m.recordSpillLost m t
    let m := m.setWord pk 0x054 (m.word pk 0x054 ||| BitVec.ofNat 32 causes)
    let m := m.recordSelf t 0x02 t causes 0 0
    let m := m.inSeg t fun m => if m.attachedAt t then m.detach else m
    let m := m.unprepare t
    let m := [20, 19, 18, 17, 16, 13, 12, 15, 14, 11, 10, 9, 8, 7, 6, 5, 4, 3].foldl (fun m d => m.domOff t d) m
    let m := ((m.wr pk F.PWR_DOM_STAT_ON 3).wr pk F.PWR_DOM_STAT_SEQ_BUSY 0).modTile t fun ts =>
      { ts with life := .reset, seq := none, sht0 := .off, sht1 := .off, dormant := false, held := [], islLog := [],
                ring := { ts.ring with view := [], rate := none, wdFails := 0, missNow := false } }
    let m := ((m.unsync t).wr (P.tb t) F.TB_STAT_MASTER 0).wrb (P.tb t) F.TB_STAT_DEGRADED m.refLost
    m.resetCtrl t

/-- The internal reset ends, 10 µs after its trigger, and the sequencer powers what DOM_REQ requests (R62, R83); a trigger that fell due
meanwhile has added its cause bit (R69, R85) (log entry 114). -/
def tileRelease (m : Mach) (t : Nat) : Mach :=
  if (m.tile t).life ≠ .reset then m
  else
    let m := m.setWord (P.pwr t) 0x054 (m.word (P.pwr t) 0x054 ||| BitVec.ofNat 32 (m.tile t).rstDue)
    (m.modTile t fun ts => { ts with life := .released, rstDue := 0 }).seqKick t

/-- The pages of the tile answer again (R83). -/
def tilePagesAnswer (m : Mach) (t : Nat) : Mach :=
  if (m.tile t).life = .released then m.modTile t fun ts => { ts with life := .up } else m

/-! ### Power-on and package reset (R55–R58) -/

/-- The part in power-on or package reset, whose effect is the same (R57): only what stands at its balls remains (log entries 21, 90). -/
def powerOn (m : Mach) (pkg : Bool) : Mach :=
  let fresh : Mach :=
    { part := m.part, refLost := m.refLost, free := m.free, out := m.out,
      tiles := m.tiles.map fun ts =>
        { trig := ts.trig, gpioIn := ts.gpioIn, host := { perstLow := ts.host.perstLow },
          twc := { scl := ts.twc.scl, sda := ts.twc.sda, alertLow := ts.twc.alertLow } },
      clus := m.clus.map fun c => { dlckIn := c.dlckIn, axis := { lim := c.axis.lim, drvFault := c.axis.drvFault } } }
  (List.range m.nTiles).foldl (fun f t =>
    (f.setWord (P.pwr t) 0x060 (m.word (P.pwr t) 0x060)).setWord (P.pwr t) 0x054 (if pkg then 2 else 1)) fresh

/-- An action that a pulse of length `d` may trigger (R55, R57): between the two bounds the manual leaves it open (log entry 3). -/
def onDip (m : Mach) (d : Dip) (act : Mach → Mach) : Mach :=
  match d with
  | .short => m
  | .long => act m
  | .between =>
    let (b, m) := m.freeBool
    if b then act m else m

/-- What a dip of one of a tile's own rails does: nothing more than RAIL_STAT shows while the part is in power-on reset (R55, R70, R85). -/
def railFault (m : Mach) (t : Nat) : Mach :=
  if (m.tile t).life = .por then m else (m.raise (P.pwr t) 3).tileReset t 0x40

/-- A supervised rail dips (R55). -/
def railDip (m : Mach) (r : Rail) (d : Dip) : Mach :=
  m.onDip d fun m => match r with
    | .common => m.powerOn false
    | .bank t b =>
      let ok := m.rd (P.pwr t) F.PWR_RAIL_STAT_BANK_OK
      if !m.present t || !bit ok b then m
      else (m.wr (P.pwr t) F.PWR_RAIL_STAT_BANK_OK (putBit ok b false)).railFault t
    | .vddq t =>
      if !m.present t || !m.flag (P.pwr t) F.PWR_RAIL_STAT_VDDQ_OK then m
      else (m.wr (P.pwr t) F.PWR_RAIL_STAT_VDDQ_OK 0).railFault t

/-- A bank or VDDQ_DDR rail is above its threshold, a bank at 3.3 V or 1.8 V (R47, R69, R167) (log entries 21, 125). -/
def railRamp (m : Mach) (r : Rail) (v33 : Bool) : Mach :=
  match r with
  | .common => m
  | .bank t b =>
    if !m.present t then m
    else
      let pk := P.pwr t
      let m := m.wr pk F.PWR_RAIL_STAT_BANK_OK (putBit (m.rd pk F.PWR_RAIL_STAT_BANK_OK) b true)
      let m := m.wr pk F.PWR_RAIL_STAT_BANK_33 (putBit (m.rd pk F.PWR_RAIL_STAT_BANK_33) b v33)
      if v33 && decide ((b : Nat) < 2) && m.live t (D.sport b) then m.clearLvds (2 * t + b) else m
  | .vddq t => if m.present t then m.wr (P.pwr t) F.PWR_RAIL_STAT_VDDQ_OK 1 else m

/-- The power-on reset is released and the straps are sampled (R42, R56, R58); with TEST_EN high everything stays in reset (log entry 4). -/
def porRelease (m : Mach) (boot hmode : Nat) (quad testEn : Bool) : Mach :=
  if !(List.range 8).all fun t => (m.tile t).life = .por then m
  else if testEn then { m with testHeld := true, jtag := {} }
  else
    let m := { m with testHeld := false, refLost := false, cpb := { quad } }
    let m := ((m.wr P.pkg F.PKG_STRAPS_BOOT boot).wr P.pkg F.PKG_STRAPS_HMODE hmode).wrb P.pkg F.PKG_STRAPS_CPB_QUAD quad
    (List.range m.nTiles).foldl (fun m t =>
      let m := m.modTile t fun ts => { ts with life := .starting, n := 0, sub := 0 }
      let m := m.wr (P.clk t) F.CLK_STAT_REF_OK 1
      let m := if t = boot && hmode ≠ 0 then (m.setReq t 4 true).setReq t 5 true else m
      m.seqKick t) m

/-- The main PLL of a tile locks (R58). -/
def pllLock (m : Mach) (t : Nat) : Mach := if (m.tile t).life = .starting then m.wr (P.clk t) F.CLK_STAT_MAIN_LOCK 1 else m

/-- A tile's self-test ends (R58). -/
def selfTest (m : Mach) (t : Nat) (pass : Bool) : Mach :=
  if (m.tile t).life = .starting then m.modTile t fun ts => { ts with selfOk := pass } else m

/-- 2 ms after release: control port B is usable, pages answer but for a tile in tile reset, the boot tile's host port comes up (R58) (log entry 4). -/
def portsUsable (m : Mach) : Mach :=
  if m.cpb.usable || (m.tile 0).life = .por then m
  else
    let m := { m with cpb := { m.cpb with usable := true } }
    (List.range m.nTiles).foldl (fun m t =>
      (m.modTile t fun ts => { ts with life := if ts.life = .starting then .up else ts.life }).seqKick t) m

/-! ### REFCLK loss and return (R74) -/

/-- The step pulses of a tile's axes stop; a moving axis and one that counts its encoder are UNCERTAIN (R74). -/
def refLossAxes (m : Mach) (t : Nat) : Mach :=
  [2 * t, 2 * t + 1].foldl (fun m g =>
    if !m.axLive g then m
    else
      let m := m.axisRun g (m.now t)
      (if m.moving g || m.flag (P.axis g) F.AXIS_CFG_ENC_EN then m.setUncertain g 3 else m).axisCut g) m

/-- What else one tile does at a REFCLK loss: its outputs are at their low levels while `refLost` stands. -/
def refLossTile (m : Mach) (t : Nat) : Mach :=
  if (m.tile t).life = .por || !m.present t then m
  else
    let m := [2 * t, 2 * t + 1].foldl (fun m g =>
      if m.live t D.lamp then ((m.cutStrobes g).wr (P.lamp g) F.LAMP_CTRL_DIRECT 0).boostUpdate g else m) m
    let m := if m.ringLive t then m.offRing t else m
    let m := m.setWord (P.clk t) 0x040 (m.word (P.clk t) 0x040 &&& 0xFFFF0000)
    ((m.inc (P.clk t) F.CLK_STAT_REF_LOSS_CNT).wr (P.tb t) F.TB_STAT_DEGRADED 1).record t 0x01 t 0 0 0

/-- REFCLK is lost (R74) (log entry 24). -/
def refLoss (m : Mach) : Mach :=
  if m.refLost then m
  else
    let m := (List.range m.nTiles).foldl refLossAxes m
    (List.range m.nTiles).foldl refLossTile { m with refLost := true }

/-- REFCLK is back (R74): every tile takes a tile reset with cause CLK_LOSS (log entry 24). -/
def refReturn (m : Mach) : Mach :=
  if !m.refLost then m
  else
    (List.range m.nTiles).foldl (fun m t =>
      if (m.tile t).life = .por then m
      else
        (((m.wr (P.clk t) F.CLK_STAT_REF_OK 1).wr (P.clk t) F.CLK_STAT_MAIN_LOCK 1).wr (P.tb t) F.TB_STAT_DEGRADED 0).tileReset t 0x20)
      { m with refLost := false }

/-! ### DORMANT (R90, R141) -/

/-- The power-down conditions for DORMANT hold, the successor role apart (R59, R141). -/
def dormantOk (m : Mach) (t : Nat) : Bool :=
  m.answers t && !(m.tile t).dormant && (m.handOf (2 * t)).isNone && (m.handOf (2 * t + 1)).isNone &&
  m.rd (P.decl t) F.DECL_ROLE_ROLE % 2 = 0 &&
  [3, 4, 5, 6, 7, 8, 9, 10, 11, 12, 13, 16, 17, 18, 19, 20].all fun d => !m.domOn t d || !m.refusedWhile t d false

/-- The tile enters DORMANT (R68, R90): its sequencer switches every other domain off (log entry 23). -/
def dormantEnter (m : Mach) (t : Nat) : Mach :=
  let pk := P.pwr t
  let m := (m.modTile t fun ts => { ts with dormant := true }).setWord pk 0x050 0
  let m := if !m.flag pk F.PWR_DORM_CFG_DRAM_SR && !m.domOn t D.dram then m.dramReset t else m
  m.seqKick t

end Sys2Proof.Machine.Mach
end

