-- ==== Sys2Proof/Machine/Hands.lean ====
section
/-!
DEFINITION. Modes and hands (R131–R147): forming a hand, its command queue, ARM conditions, transitions, deal boundaries and the drain,
pin boundaries, tile preparation, and the mode a tile reports.
-/

namespace Sys2Proof.Machine.Mach

/-! ### Tiles as the hands see them (R26, R142, R511) -/

/-- A refusal of this chapter (R133). -/
def refuseMode (m : Mach) : Mach := m.refuse P.mode 0

/-- The declarer reaches the tile, and its pages answer (R109, R138). -/
def reachable (m : Mach) (t : Nat) : Bool :=
  m.answers t && (match m.declarer with | some d => m.reaches d t | none => false)

/-- LINK cause of ISLAND: the tile's ISLAND_EN bit is 1 and its host port's link is not up (R511). -/
def linkIsland (m : Mach) (t : Nat) : Bool := m.awake t && m.viewed t (fun v => bit (v.rd P.mode F.MODE_ISLAND_EN_EN) t) && !m.linkUp t

/-- PART cause: the tile lies outside the primary segment. -/
def partIsland (m : Mach) (t : Nat) : Bool := m.awake t && m.flag (P.ring t) F.RING_STAT_OUTSIDE

/-- The tile is in ISLAND (R511). -/
def inIsland (m : Mach) (t : Nat) : Bool := m.linkIsland t || m.partIsland t

/-- `TILE_MODE.MODE` (R26, R133): of the states of its hands the highest in the order SCAN, HOLD, CALIBRATE, READY. -/
def tileMode (m : Mach) (t : Nat) : Nat :=
  if (m.tile t).dormant && m.answers t then 0
  else if !m.reachable t then 7
  else if m.inIsland t then 5
  else
    let st := [2 * t, 2 * t + 1].map fun g => match m.handOf g with | some h => m.handState h | none => 1
    if st.contains 3 then 3 else if st.contains 4 then 4 else if st.contains 2 then 2 else 1

/-- Members that take part in the hand's boundaries: followers whose tile was not lost (R146, R513). -/
def active (m : Mach) (h : Nat) : List Nat := (m.followers h).filter fun g => !(m.hand h).lost.contains g

/-- Tile whose time base the hand's boundaries are taken from: its leader's, or the declarer's when the leader is lost. -/
def handTile (m : Mach) (h : Nat) : Nat :=
  if m.leaderLost h || !m.awake (m.leader h / 2) then m.declarer.getD 0 else m.leader h / 2

/-- An island segment makes no boundary for a hand whose leader lies outside it (R513) (log entry 84). -/
def noBoundary (m : Mach) (h : Nat) : Bool := m.viewOf.isSome && m.leaderLost h

/-! ### HAND_CFG and the settings (R134) -/

/-- The state condition of R134: not formed, or READY and disarmed. -/
def handOpen (m : Mach) (h : Nat) : Bool :=
  !m.flag P.mode (F.MODE_HAND_CFG_VALID.nth h) || (m.handState h = 1 && !m.handArmed h)

/-- A written HAND_CFG value meets the conditions of R134. -/
def handCfgOk (m : Mach) (h : Nat) (v : Word) : Bool :=
  let members := fieldOf v F.MODE_HAND_CFG_MEMBERS
  let kind := fieldOf v F.MODE_HAND_CFG_POS_KIND
  let valid := fieldOf v F.MODE_HAND_CFG_VALID = 1
  decide (members < 2 ^ (2 * m.nTiles)) &&
  ((List.range 16).all fun i => i = h || !m.flag P.mode (F.MODE_HAND_CFG_VALID.nth i) ||
    (members &&& m.rd P.mode (F.MODE_HAND_CFG_MEMBERS.nth i)) = 0) &&
  (!valid || (members ≠ 0 && (decide (2 ≤ kind) || bit members (fieldOf v F.MODE_HAND_CFG_POS_CLUSTER)))) &&
  kind ≠ 3

/-- The hand's STATE, with STATE_CHANGE when it changes. -/
def setHandState (m : Mach) (h s : Nat) : Mach :=
  if m.handState h = s then m else (m.wr P.mode (F.MODE_HAND_STAT_STATE.nth h) s).raise P.mode 1

/-- A write of HAND_CFG (R134): new members leave direct drive (R374); a cluster that no longer has a hand has no deal to wait for, so
its pending commits apply at once (R102). -/
def writeHandCfg (m : Mach) (h : Nat) (v : Word) : Mach :=
  if !m.handOpen h || !m.handCfgOk h v then m.refuseMode
  else
    let had := (List.range 16).filter fun g => m.handOf g = some h
    let m := ((m.runAxes (List.range 16)).genericWrite P.mode (0x040 + 4 * h) v).paceForms h
    let valid := m.flag P.mode (F.MODE_HAND_CFG_VALID.nth h)
    let m := m.setHandState h (if valid then 1 else 0)
    let m := if valid then (m.members h).foldl (fun m g => m.lampMember g) m else m
    had.foldl (fun m g => if (m.handOf g).isNone then m.dealBoundary g else m) m

/-! ### The command queue (R139, R140) -/

/-- A command of the host, as against a boundary from a pin or a line count (R140). -/
def fromHost (c : HandCmd) : Bool := match c with | .pinStart | .pinEnd | .linesEnd => false | _ => true

/-- The queue with an entry stamped `n` in its place: after earlier stamps, and of equal stamps pins and line counts go first (R140). -/
def joinQueue (n : Nat) (c : HandCmd) (q : List (Nat × HandCmd)) : List (Nat × HandCmd) :=
  let ahead := q.takeWhile fun e => decide (e.1 < n) || (e.1 = n && (fromHost c || !fromHost e.2))
  ahead ++ (n, c) :: q.drop ahead.length

/-- The hand's queue replaced, with QUEUED. -/
def setQueue (m : Mach) (h : Nat) (q : List (Nat × HandCmd)) : Mach :=
  (m.modHand h fun s => { s with queue := q }).wr P.mode (F.MODE_HAND_STAT_QUEUED.nth h) q.length

/-- An entry stamped `n` joins the queue, or finds it full and is refused (R140). -/
def enqueue (m : Mach) (h n : Nat) (c : HandCmd) : Mach :=
  if 4 ≤ (m.hand h).queue.length then m.refuseMode else m.setQueue h (joinQueue n c (m.hand h).queue)

/-- The queued command of a code (R139). -/
def queuedCmd (n : Nat) : Option HandCmd :=
  match n with
  | 1 => some .arm | 2 => some .disarm | 3 => some .toReady | 4 => some .toCalibrate | 5 => some .toScan
  | 8 => some .dealStart | 9 => some .dealEnd | _ => none

/-- A write of HAND_CMD (R138, R139) (log entry 29). -/
def handCommand (m : Mach) (h n : Nat) : Mach :=
  match queuedCmd n with
  | some c => m.enqueue h (m.now (m.declarer.getD 0)) c
  | none =>
    if (n = 6 || n = 7) && decide (3 ≤ m.handState h) then m.wr P.mode (F.MODE_HAND_STAT_HOLD_HOST.nth h) (if n = 6 then 1 else 0)
    else m.refuseMode

/-! ### ARM (R138, R147, R176 and the conditions of the blocks) -/

/-- The DEAL conditions of R176 for the hand's leader. -/
def dealArmOk (m : Mach) (h : Nat) : Bool :=
  let lt := m.leader h / 2
  match m.rd (P.deal (m.leader h)) F.DEAL_SRC_SRC with
  | 1 => m.domOn lt D.aux
  | 2 => m.domOn lt D.aux && (m.members h).all fun g => g / 2 = lt
  | 3 =>
    let pt := m.rd P.mode (F.MODE_HAND_CFG_POS_CLUSTER.nth h) / 2
    decide (m.rd P.mode (F.MODE_HAND_CFG_POS_KIND.nth h) ≤ 1) && (m.members h).all fun g => g / 2 = pt
  | _ => true

/-- The pin that the hand's deal boundaries use lies in a powered AUX domain (R576). -/
def pinArmOk (m : Mach) (h : Nat) : Bool :=
  let s := m.rd P.mode (F.MODE_HAND_DEALCFG_PIN_SEL.nth h)
  !(m.flag P.mode (F.MODE_HAND_DEALCFG_START_PIN.nth h) || m.flag P.mode (F.MODE_HAND_DEALCFG_END_PIN.nth h)) ||
    (decide (4 ≤ s) && decide (s < 8)) ||
    (let t := m.rd P.mode (F.MODE_HAND_DEALCFG_PIN_TILE.nth h)
     m.answers t && m.domOn t D.aux)

/-- The queue of each of the member's streams can take them (R322). -/
def queueArmOk (m : Mach) (g : Nat) : Bool :=
  let t := g / 2
  m.enabled (P.que t) && (m.streamsOf g).all fun n =>
    !m.isPool t n || (decide (64 ≤ m.rd (P.que t) (F.QUE_Q_CFG_LIMIT.nth n)) && m.enabled (P.kitty t) && (m.kit t).sramReady)

/-- The ARM conditions of one member (R138, R147, R176, R204, R234, R266, R297, R322, R361, R381). -/
def memberArmOk (m : Mach) (h g : Nat) : Bool :=
  let t := g / 2
  let slow := let s := m.rd (P.deal (m.leader h)) F.DEAL_SRC_SRC
    decide (2 ≤ s) && decide (8 * m.rd (P.deal (m.leader h)) F.DEAL_MIN_SPACING_TICKS ≤ m.busyTime g)
  m.flag P.mode (F.MODE_TILE_MODE_PREPARED.nth t) && m.reachable t && !(m.tile t).dormant && !m.inIsland t &&
  m.domOn t (D.sport (g % 2)) && m.enabled (P.deal g) && m.pixperOk g && !slow && m.meldArmOk h g && m.hostArmOk h t && m.paceArmOk h g &&
  m.lampArmOk g &&
  (m.pixelless g ||
    (m.domOn t (D.vc (g % 2)) && m.domOn t (D.pipe (g % 2)) && m.domOn t D.dmaq && m.domOn t D.meld && m.vcArmOk g &&
     m.enabled (P.acc g) && m.shadeArmOk g && m.queueArmOk g))

/-- Every precondition of ARM. -/
def armOk (m : Mach) (h : Nat) : Bool :=
  m.handState h = 1 && !m.handArmed h && m.dealArmOk h && m.pinArmOk h && (m.members h).all (fun g => m.memberArmOk h g) &&
  (decide (2 ≤ m.rd P.mode (F.MODE_HAND_CFG_POS_KIND.nth h)) || m.domOn (m.rd P.mode (F.MODE_HAND_CFG_POS_CLUSTER.nth h) / 2) D.mot)

/-! ### What leaves the queue (R138, R140) -/

/-- The preconditions of a command that leaves the head of the queue (log entry 28). -/
def commandOk (m : Mach) (h : Nat) (c : HandCmd) : Bool :=
  let st := m.handState h
  match c with
  | .arm => m.armOk h
  | .disarm => st = 1 && m.handArmed h && (m.members h).all fun g => !m.moving g
  | .toCalibrate | .toScan => st = 1 && m.handArmed h
  | .toReady => decide (2 ≤ st)
  | .dealStart => decide (2 ≤ st)
  | .pinStart => decide (2 ≤ st) && !m.dealOpen h
  | .dealEnd | .pinEnd | .linesEnd => m.dealOpen h

/-- The command at the head of the queue leaves it once the one before has taken effect and no drain window runs; DEAL_START with a deal
open ends that deal first (R143) (log entry 28). -/
def leaveQueue (m : Mach) (h : Nat) : Mach :=
  let s := m.hand h
  match s.queue with
  | [] => m
  | (_, c) :: r =>
    if s.current.isSome || m.flag P.mode (F.MODE_HAND_STAT_DRAINING.nth h) then m
    else if !m.commandOk h c then (m.setQueue h r).refuseMode
    else
      let at_ := m.now (m.handTile h)
      if c = .dealStart && m.dealOpen h then m.modHand h fun s => { s with current := some .dealEnd, endCause := 5, at_ := at_ }
      else
        let cause := match c with | .dealEnd => 1 | .pinEnd => 2 | .toReady => 3 | .linesEnd => 4 | _ => s.endCause
        (m.setQueue h r).modHand h fun s => { s with current := some c, endCause := cause, at_ := at_ }

/-! ### Boundaries (R138, R143–R145) -/

/-- The hand is armed at this grid point (R138, R146, R165, R170, R226, R269). -/
def armHand (m : Mach) (h : Nat) : Mach :=
  let l := m.leader h
  let m := (m.wr P.mode (F.MODE_HAND_STAT_ARMED.nth h) 1).wr P.mode (F.MODE_HAND_STAT_MEMBER_LOST.nth h) 0
  let m := ((m.modHand h fun s => { s with lost := [], gridHeld := false }).raise P.mode 1)
  let m := m.wr (P.deal l) F.DEAL_PHASE_ACT_TICKS (m.rd (P.deal l) F.DEAL_PHASE_TICKS)
  (m.members h).foldl (fun m g =>
    let m := m.modClu g fun s =>
      { s with acc := {}, phaseSwitch := none, phaseNext := none, lastEdge := none, trigs := 0, pendMissing := [], dropNext := false, recEnd := none }
    ((m.armOutputs g).armMeld g).armLegacy h g) m

/-- A member stops: timing outputs and lamps at their post-reset levels, a shadow step in progress abandoned, a waiting SPI frame free to
start (R138, R180, R195). -/
def disarmMember (m : Mach) (g : Nat) : Mach :=
  let m := m.modClu g fun s =>
    { s with edges := [], toBase := 0, prevEdges := [], prevBase := 0, phaseSwitch := none, phaseNext := none, lastEdge := none }
  ((m.lampDisarm g).abandonSteps g).spiKick g

/-- The hand is disarmed at this grid point (R138, R172). -/
def disarmHand (m : Mach) (h : Nat) : Mach :=
  let l := m.leader h
  let m := ((m.runAxes (m.members h)).wr P.mode (F.MODE_HAND_STAT_ARMED.nth h) 0).raise P.mode 1
  let m := (m.followers h).foldl disarmMember m
  (m.wr (P.deal l) F.DEAL_PHASE_ACT_TICKS (m.rd (P.deal l) F.DEAL_PHASE_TICKS)).modHand h fun s =>
    { s with lost := [], gridHeld := false }

/-- Both members of a seam take part, and reach each other (R277) (log entry 51). -/
def seamWhole (m : Mach) (h g o : Nat) : Bool := (m.active h).contains o && m.reaches (g / 2) (o / 2) && m.answers (o / 2)

/-- A number that tells the deals of all hands apart: start boundary and hand; never 0. -/
def dealKey (m : Mach) (h : Nat) : Nat := (m.hand h).startN * 16 + h + 1

/-- What a deal start does in one member (R102, R144, R213, R248, R254, R257, R277). -/
def startMember (m : Mach) (h g : Nat) : Mach :=
  let bg := m.actFlag (P.vc g) F.VC_BGCAL_EN
  let m := ((m.dealBoundary g).bgFollow g bg).modClu g fun s => { s with recEnd := none, dropNext := false }
  let m := m.abortBuild g
  if m.pixelless g then m.modClu g fun s => { s with trigs := 0 }
  else
    let m := m.accStartDeal g
    let m := if m.calibrating g then m.calStartDeal g else m
    (m.liveBaseline g).meldStartDeal g (m.dealKey h) fun o => m.seamWhole h g o

/-- A start boundary (R143, R144). -/
def startDeal (m : Mach) (h : Nat) : Mach :=
  let next := m.rd P.mode (F.MODE_HAND_NEXT_NEXT.nth h)
  let m := ((m.wr P.mode (F.MODE_HAND_DEAL_DEAL.nth h) next).wr P.mode (F.MODE_HAND_NEXT_NEXT.nth h) (next + 1)).wr P.mode
    (F.MODE_HAND_LINES_LINES.nth h) 0
  let m := ((m.wr P.mode (F.MODE_HAND_STAT_DEAL_OPEN.nth h) 1).wr P.mode (F.MODE_HAND_STAT_LEADIN.nth h) 1).raise P.mode 2
  let m := m.modHand h fun s =>
    { s with speed := m.rd P.mode (F.MODE_HAND_SPEED_SPEED.nth h),
             leadInLen := max 16 (m.rd P.mode (F.MODE_HAND_DEALCFG_LEADIN.nth h)),
             maxLines := m.rd P.mode (F.MODE_HAND_MAXLINES_MAX_LINES.nth h),
             startN := m.now (m.handTile h), drained := false, linesDone := false, lineTime := none }
  (m.active h).foldl (fun m g => m.startMember h g) m

/-- An end boundary (R145): captures triggered from here on do not belong to the deal; whether its end-of-deal tricks are sent is settled
here (R293). -/
def endDeal (m : Mach) (h : Nat) : Mach :=
  let deal := m.rd P.mode (F.MODE_HAND_DEAL_DEAL.nth h)
  let cause := (m.hand h).endCause
  let m := ((m.wr P.mode (F.MODE_HAND_STAT_DEAL_OPEN.nth h) 0).wr P.mode (F.MODE_HAND_STAT_LEADIN.nth h) 0).wr P.mode
    (F.MODE_HAND_STAT_DRAINING.nth h) 1
  let m := m.modHand h fun s => { s with endTime := m.now (m.handTile h), drained := false }
  let m := (m.active h).foldl (fun m g => m.latchOutput g) m
  (List.range 16).foldl (fun m g =>
    match (m.clu g).cut with
    | some c => if c.hand = h && c.deal = deal then m.modClu g fun s => { s with cut := some { c with cause } } else m
    | none => m) m

/-- READY takes effect: HOLD_HOST and HOLD_PACE fall, the axes are released (R138). -/
def readyNow (m : Mach) (h : Nat) : Mach :=
  let m := (m.wr P.mode (F.MODE_HAND_STAT_HOLD_HOST.nth h) 0).paceReady h
  (m.setHandState h 1).modHand h fun s => { s with readyAfter := false }

/-- The command that has left the queue takes effect at its grid point, the first at or after T + 8 µs (R138). -/
def handTransition (m : Mach) (h : Nat) : Mach :=
  match (m.hand h).current with
  | none => m
  | some c =>
    let m := (m.advance (m.handTile h) (m.gridPoint h ((m.hand h).at_ + 4000))).modHand h fun s => { s with current := none }
    match c with
    | .arm => m.armHand h
    | .disarm => m.disarmHand h
    | .toCalibrate => m.setHandState h 2
    | .toScan => m.setHandState h 3
    | .toReady => if m.dealOpen h then (m.endDeal h).modHand h fun s => { s with readyAfter := true } else m.readyNow h
    | .dealStart | .pinStart => m.startDeal h
    | .dealEnd | .pinEnd | .linesEnd => m.endDeal h

/-- The reference stream has released MAX_LINES output lines of the open deal (R143). -/
def maxLinesReached (m : Mach) (h : Nat) : Mach :=
  let s := m.hand h
  if !m.dealOpen h || m.noBoundary h || s.linesDone || s.maxLines = 0 || (m.refCluster h).isNone ||
      decide (m.rd P.mode (F.MODE_HAND_LINES_LINES.nth h) < s.maxLines) then m
  else (m.modHand h fun s => { s with linesDone := true }).enqueue h (s.lineTime.getD (m.now (m.handTile h))) .linesEnd

/-- The capture after the lead-in has been triggered (R144). -/
def leadInDone (m : Mach) (h : Nat) : Mach :=
  let lead := F.MODE_HAND_STAT_LEADIN.nth h
  if m.flag P.mode lead && (m.active h).any fun g => decide ((m.hand h).leadInLen < (m.clu g).trigs) then
    (m.wr P.mode lead 0).raise P.mode 4
  else m

/-- A capture of the member's deal is still in readout or in position wait (R145). -/
def captureDue (m : Mach) (g : Nat) : Bool :=
  (match (m.clu g).reading with | some c => c.counted | none => false) ||
  (match (m.clu g).slot with | some l => l.cap.counted | none => false)

/-- Steps 1 to 4 of the drain for one member with pixels (R145) (log entry 52). -/
def drainMember (m : Mach) (g endN : Nat) (cal : Bool) : Mach :=
  let m := m.accClose g endN
  let m := if cal then m.calEndDeal g else m
  (((m.accEndDeal g cal).meldEndDeal g).liveBaseline g).saveAllAon g

/-- Members of the hand that ended their deal at a rejoin and have not drained (R516) (log entry 52). -/
def drainRejoined (m : Mach) (h : Nat) : Mach :=
  (m.active h).foldl (fun m g =>
    match (m.clu g).recEnd with
    | some e => if (m.clu g).drained || m.captureDue g || m.pixelless g then m else m.drainMember g e.1 (m.handState h = 2)
    | none => m) m

/-- The drain of the hand's deal completes once every capture of the deal is accumulated or missing (R145) (log entry 52). -/
def drainComplete (m : Mach) (h : Nat) : Mach :=
  let m := m.drainRejoined h
  let s := m.hand h
  let mine := (m.active h).filter fun g => !m.pixelless g && (m.clu g).recEnd.isNone
  if !m.flag P.mode (F.MODE_HAND_STAT_DRAINING.nth h) || s.drained || mine.any m.captureDue then m
  else (mine.foldl (fun m g => m.drainMember g s.endTime (m.handState h = 2)) m).modHand h fun s => { s with drained := true }

/-- Tc of R145: the end boundary, or the later instant at which the last capture of the deal completed at stage 1 or was lost. -/
def drainFrom (m : Mach) (h : Nat) : Nat :=
  (((m.active h).filter fun g => !m.pixelless g).map fun g => (m.clu g).capEnd).foldl max (m.hand h).endTime

/-- The drain window ends: at least 256 µs after Tc, and once every stream has sent its end-of-deal trick (R145). -/
def drainWindowEnd (m : Mach) (h : Nat) : Mach :=
  if !m.flag P.mode (F.MODE_HAND_STAT_DRAINING.nth h) || !(m.hand h).drained ||
      (m.active h).any (fun g => !m.pixelless g && !m.streamsDone g) then m
  else
    let m := m.advance (m.handTile h) (m.drainFrom h + 128000)
    let m := (m.wr P.mode (F.MODE_HAND_STAT_DRAINING.nth h) 0).raise P.mode 3
    if (m.hand h).readyAfter then m.readyNow h else m

/-! ### Pin boundaries (R143, R576) -/

/-- An edge of the selected polarity on the hand's pin, sampled now: it ends an open deal or starts one (R143) (log entry 28). -/
def dealPin (m : Mach) (h : Nat) (rising : Bool) : Mach :=
  let t := m.rd P.mode (F.MODE_HAND_DEALCFG_PIN_TILE.nth h)
  let s := m.rd P.mode (F.MODE_HAND_DEALCFG_PIN_SEL.nth h)
  if m.handState h = 0 || m.noBoundary h || (decide (4 ≤ s) && decide (s < 8)) || !m.reachable t || !m.live t D.aux ||
      m.flag P.mode (F.MODE_HAND_DEALCFG_PIN_EDGE.nth h) = rising then m
  else if m.dealOpen h then (if m.flag P.mode (F.MODE_HAND_DEALCFG_END_PIN.nth h) then m.enqueue h (m.now t) .pinEnd else m)
  else if m.flag P.mode (F.MODE_HAND_DEALCFG_START_PIN.nth h) then m.enqueue h (m.now t) .pinStart
  else m

/-- A deal pin edge of hand `h`, sampled at instant `n` of its pin's tile (log entry 31). -/
def dealPinEdge (m : Mach) (h n : Nat) (rising : Bool) : Mach :=
  (m.advance (m.rd P.mode (F.MODE_HAND_DEALCFG_PIN_TILE.nth h)) n).dealPin h rising

/-- An edge of the level on GPIO ball `n` of a tile reaches its users: the page's event, wake, deal boundaries (R68, R143, R575) (log entry 31). -/
def ballEdge (m : Mach) (t n : Nat) (rising : Bool) : Mach :=
  let m := m.gpioEvent t n rising
  let m := if bit (m.rd (P.pwr t) F.PWR_WAKE_CFG_GPIO_POL) n ≠ rising then m.wakeUp t (m.wakeSources t (2 ^ n) false false) else m
  (List.range 16).foldl (fun m h =>
    if m.rd P.mode (F.MODE_HAND_DEALCFG_PIN_TILE.nth h) = t && m.rd P.mode (F.MODE_HAND_DEALCFG_PIN_SEL.nth h) = 8 + n then
      m.dealPin h rising else m) m

/-- The edges between two sets of ball levels, balls in ascending order. -/
def ballEdges (m : Mach) (t old : Nat) : Mach :=
  (List.range 8).foldl (fun m n =>
    let new := m.gpioLevel t n
    if bit old n = new then m else m.ballEdge t n new) m

/-- The board drives GPIO ball `n` of a tile to a level at instant `k` (log entry 31). -/
def gpioEdge (m : Mach) (t n : Nat) (rising : Bool) (k : Nat) : Mach :=
  let m := m.advance t k
  let old := m.gpioLevels t
  (m.modTile t fun ts => { ts with gpioIn := putBit ts.gpioIn n rising }).ballEdges t old

/-! ### Preparation (R136, R137) -/

/-- The steps that a PREP of the tile runs now (R136) (log entry 107). -/
def prepMask (m : Mach) (t : Nat) : Nat :=
  let vc := fun c => m.live t (D.vc c)
  let bin := fun c => m.lampOn (2 * t + c) && m.flag (P.lamp (2 * t + c)) F.LAMP_CFG_EE_EN
  (m.dramTrains t).toNat + (vc 0).toNat * 2 + (vc 1).toNat * 4 + (bin 0).toNat * 8 + (bin 1).toNat * 16 + (m.monOn t).toNat * 32

/-- PREP of a tile (R136): every step starts with the configuration present now (log entry 107). -/
def prepStart (m : Mach) (t : Nat) : Mach :=
  if !m.reachable t || (m.tile t).dormant || m.inIsland t || m.flag P.mode (F.MODE_TILE_MODE_PREP_BUSY.nth t) || m.tileArmed t then
    m.refuseMode
  else
    let m := ((m.wr P.mode (F.MODE_TILE_MODE_PREP_BUSY.nth t) 1).wr P.mode (F.MODE_TILE_MODE_PREPARED.nth t) 0).wr P.mode
      (F.MODE_TILE_MODE_PREP_ERR.nth t) 0
    let steps := m.prepMask t
    let convs := m.vcCounts (2 * t) + m.vcCounts (2 * t + 1) * 64
    let m := m.modTile t fun ts => { ts with prepInvalid := false, prepSteps := steps, prepConvs := convs }
    let m := if m.live t D.mon then (if (m.monS t).aon.isNone then m.monCalStart t else m.monRestore t) else m
    let m := [2 * t, 2 * t + 1].foldl (fun m g => if m.live t (D.vc (g % 2)) then m.vcCalStart g false else m) m
    (((m.binStart (2 * t)).binStart (2 * t + 1)).twcServe t).dramTrainStart t

/-- A step of the tile's preparation still runs (log entry 107). -/
def prepRuns (m : Mach) (t : Nat) : Bool :=
  m.flag (P.dram t) F.DRAM_STAT_TRAINING || m.monOn t && ((m.monS t).calPend || (m.monS t).calRun) ||
  [2 * t, 2 * t + 1].any fun g => m.flag (P.vc g) F.VC_STAT_CAL_BUSY || (m.lampS g).reading

/-- The steps of the preparation that failed, as PREP_ERR shows them (R133, R136): those that ran from PREP on and whose domain is still
on (log entry 107). -/
def prepErr (m : Mach) (t : Nat) : Nat :=
  let steps := (m.tile t).prepSteps
  let vc := [0, 1].any fun c => bit steps (1 + c) && m.live t (D.vc c) && m.vcPrepFailed (2 * t + c) (bits (m.tile t).prepConvs (6 * c + 5) (6 * c))
  let bin := [0, 1].any fun c => bit steps (3 + c) && m.live t D.lamp && !m.flag (P.lamp (2 * t + c)) F.LAMP_STAT_BIN_VALID
  let mon := bit steps 5 && m.live t D.mon && (m.flag (P.mon t) F.MON_STAT_CAL_FAIL || !m.flag (P.mon t) F.MON_STAT_CAL_VALID)
  (bit steps 0 && m.live t D.dram && m.rd (P.dram t) F.DRAM_STAT_TRAIN_STEP ≠ 0 : Bool).toNat + vc.toNat * 2 + bin.toNat * 4 + mon.toNat * 8

/-- The preparation of a tile ends once its last step has ended (R136, R137) (log entry 107). -/
def prepComplete (m : Mach) (t : Nat) : Mach :=
  if !m.flag P.mode (F.MODE_TILE_MODE_PREP_BUSY.nth t) || m.prepRuns t then m
  else
    let e := m.prepErr t
    let m := (m.wr P.mode (F.MODE_TILE_MODE_PREP_BUSY.nth t) 0).wr P.mode (F.MODE_TILE_MODE_PREP_ERR.nth t) e
    let m := (m.wrb P.mode (F.MODE_TILE_MODE_PREPARED.nth t) (decide (e = 0) && !(m.tile t).prepInvalid)).raise P.mode 5
    if e = 0 then m else m.raise P.mode 6

end Sys2Proof.Machine.Mach
end

