-- ==== Sys2Proof/Machine/Ring.lean ====
section
/-!
DEFINITION. The tile ring's roles (R496–R526): election, reachability changes, synchronisation, heartbeats and judgements of loss,
succession, recovery, partition, rejoin and reconciliation, the watchdog, ageing, DORMANT requests; pages RING, DECL, ISLAND.
-/

namespace Sys2Proof.Machine.Mach

def ringS (m : Mach) (t : Nat) : RingSt := (m.tile t).ring
def modRing (m : Mach) (t : Nat) (f : RingSt → RingSt) : Mach := m.modTile t fun ts => { ts with ring := f ts.ring }

/-- Tiles of a bit mask. -/
def tilesOf (s : Nat) : List Nat := (List.range 8).filter fun t => bit s t

/-! ### Health and roles (R500, R501) -/

/-- Passed its self-test, has a ring link up, not FAILED, not DORMANT (R500). -/
def fit (m : Mach) (t : Nat) : Bool :=
  m.awake t && (m.tile t).selfOk && (m.flag (P.ring t) F.RING_STAT_U_UP || m.flag (P.ring t) F.RING_STAT_L_UP) && !(m.tile t).dormant

/-- Healthy: fit, and no recovery of the tile is running (R500, R508). -/
def healthy (m : Mach) (t : Nat) : Bool := m.fit t && (m.ringS t).recov.isNone

def role (m : Mach) (t : Nat) : Nat := m.rd (P.decl t) F.DECL_ROLE_ROLE

/-- The tile takes a role (log entry 26). -/
def setRole (m : Mach) (t r : Nat) : Mach :=
  if m.role t = r then m else (m.wr (P.decl t) F.DECL_ROLE_ROLE r).raise (P.decl t) 0

/-- The reachability map of a tile (R496). -/
def reach (m : Mach) (t : Nat) : Nat := m.rd (P.ring t) F.RING_STAT_REACH

/-- The next healthy tile of a set in the U direction from a tile (R500). -/
def nextHealthy (m : Mach) (d s : Nat) : Option Nat :=
  ((List.range m.nTiles).map fun i => (d + 1 + i) % m.nTiles).find? fun u => u ≠ d && bit s u && m.healthy u

/-- SUCC as the tiles of a segment show it, 0xF for none. -/
def showSucc (m : Mach) (s : Nat) (x : Option Nat) : Mach :=
  (tilesOf s).foldl (fun m t => if m.awake t then m.wr (P.decl t) F.DECL_ROLE_SUCC (x.getD 15) else m) m

/-- Declarer `d` of segment `s` is its time master and shown by its tiles (R497, R500). -/
def showDecl (m : Mach) (s d : Nat) : Mach :=
  (tilesOf s).foldl (fun m t =>
    if m.awake t then (m.wr (P.decl t) F.DECL_ROLE_DECL d).wrb (P.tb t) F.TB_STAT_MASTER (t = d) else m) m

/-- The declarer's successor is always the next healthy tile; a newly named one is shown when its mirror is complete (R500, R501). -/
def followSuccessor (m : Mach) : Mach :=
  match m.declarer with
  | none => m
  | some d =>
    let s := m.reach d
    let want := m.nextHealthy d s
    let now := m.rd (P.decl d) F.DECL_ROLE_SUCC
    let shown := if now = 15 then none else some now
    if want = shown then { m with copying := none }
    else if shown.isNone && m.copying = want then m
    else
      let m := (tilesOf s).foldl (fun m t => if m.role t = 2 then m.setRole t 0 else m) m
      { m.showSucc s none with copying := want }

/-- The copy of the mirror to the successor named is complete (R501). -/
def mirrorCopied (m : Mach) : Mach :=
  match m.declarer, m.copying with
  | some d, some x =>
    if m.healthy x && m.reaches d x then { (m.showSucc (m.reach d) (some x)).setRole x 2 with copying := none } else m
  | _, _ => m

/-! ### Election and succession (R500, R504, R505) -/

/-- Global pages that a declarer without a mirror restores from no copy return to default, but for LOCK: every page other than SEM, GUARD
and, in PORTS, the keepalive windows and STAT; with `guard` every page other than SEM (R515). No hand is formed, so that a COMMIT pending for
a deal start applies (R102), and the package log is empty (R98, R504, R505) (log entry 134). -/
def loseGlobals (m : Mach) (guard : Bool) : Mach :=
  let m := m.runAxes (List.range 16)
  let pages := [P.ports, P.mode, P.faultlog, P.island] ++ if guard then [P.guard] else []
  let keep := [0x048, 0x04C, 0x050].map fun off => m.word P.ports off
  let m := pages.foldl (fun m pk =>
    let lock := m.word pk 0x004 &&& 4
    (m.resetPage pk).setWord pk 0x004 lock) m
  let m := if guard then m
    else ((m.setWord P.ports 0x048 (keep.getD 0 0)).setWord P.ports 0x04C (keep.getD 1 0)).setWord P.ports 0x050 (keep.getD 2 0)
  (List.range 16).foldl (fun m g => if (m.handOf g).isNone then m.dealBoundary g else m) { m with hands := Vector.replicate 16 {}, pkgLog := [] }

/-- A record of a tile's AON copy that the log in force lacks (R508) (log entry 81). -/
def logHas (m : Mach) (r : FaultRec) : Bool :=
  m.pkgLog.any fun x => x.tile = r.tile && x.time = r.time && x.code = r.code && x.unit = r.unit && x.subA = r.subA && x.subB = r.subB &&
    x.detail = r.detail

/-- The AON records of tile `x` that the log of declarer `d`'s segment lacks are entered, with the AON flag (R508) (log entry 81). -/
def mergeAon (m : Mach) (d x : Nat) : Mach :=
  m.inSeg d fun m => (m.tile x).aonLog.foldl (fun m r =>
    if m.logHas r then m else m.logPackage { r with aon := true, isl := m.viewOf.isSome }) m

/-- A tile becomes declarer of the primary segment: the count of elections and successions tells which did last (R515) (log entry 79). -/
def becomeDeclarer (m : Mach) (d : Nat) : Mach :=
  let m := { m with declStamp := m.declStamp + 1 }
  (m.setRole d 1).modRing d fun r => { r with declAt := m.declStamp }

/-- REACH of every tile on the ring takes its links' state (R496). -/
def takeMaps (m : Mach) : Mach :=
  (List.range 8).foldl (fun m t =>
    if !m.ringLive t then m
    else
      let s := m.component t
      let m := if m.reach t = s then m else (m.wr (P.ring t) F.RING_STAT_REACH s).raise (P.ring t) 2
      m.wr (P.ring t) F.RING_STAT_SETTLED 1) m

/-! ### Partition (R510–R513) -/

/-- A declarer's PARTITION record and event: its own segment and the tiles that became unreachable (R510, R518). -/
def recordPartition (m : Mach) (d seg lost : Nat) : Mach :=
  m.inSeg d fun m =>
    let m := (m.inc P.island F.ISLAND_PARTITIONS_COUNT).wr2 P.island F.ISLAND_CUT_T_LO_N F.ISLAND_CUT_T_HI_N (m.now d)
    (m.raise P.island 0).record d 0x14 d 0 0 (detail 0 1 seg + detail 1 1 lost)

/-- Seams between a cluster of the segment and one outside it become degraded (R277, R509, R513). -/
def cutSeams (m : Mach) (seg : Nat) : Mach :=
  (List.range 16).foldl (fun m g =>
    if !bit seg (g / 2) || !m.live (g / 2) D.meld then m
    else [Side.left, Side.right].foldl (fun m d =>
      if m.hasSeam g d && !bit seg (m.partner g d / 2) then m.degradeSeam g d else m) m) m

/-- A member of a hand is cut off from the primary segment (R142, R513). -/
def cutMember (m : Mach) (g : Nat) : Mach :=
  match (m.clu g).cut, m.handOf g with
  | none, some h =>
    let c : CutView := { hand := h, state := m.handState h, armed := m.handArmed h, dealOpen := m.inDeal g, deal := m.dealNo g }
    m.modClu g fun s => { s with cut := some c }
  | _, _ => m

/-- Tile `t` belongs to the island segment of declarer `d`: freewheeling at the RATE of the cut, its members cut off (R499, R513). -/
def enterSegment (m : Mach) (t d : Nat) : Mach :=
  let m := (m.cutMember (2 * t)).cutMember (2 * t + 1)
  let rate := m.slewRate
  (((m.wr (P.ring t) F.RING_STAT_OUTSIDE 1).setRole t (if t = d then 3 else 0)).modRing t fun r => { r with rate := some (r.rate.getD rate) })

/-- The hands as an island segment keeps them: no command waits, and one whose leader lies outside keeps its grid (R513) (log entry 84). -/
def islandHands (m : Mach) (seg : Nat) : Vector Hand 16 :=
  m.hands.mapIdx fun h s =>
    let s := { s with queue := [], current := none }
    if m.handArmed h && !bit seg (m.leader h / 2) && !m.leaderLost h then
      { s with grid := m.handGrid h, lost := m.leader h :: s.lost }
    else s

/-- The tiles of a set form an island segment under its lowest-numbered healthy tile (R510): the global pages it serves stand as at the
cut, its log is empty and numbered from 0 (log entry 80). -/
def formIsland (m : Mach) (seg : Nat) : Mach :=
  match (match (tilesOf seg).find? m.healthy with | some d => some d | none => (tilesOf seg).find? m.awake) with
  | none => m
  | some d =>
    let src := match (tilesOf seg).findSome? m.islandOf with | some o => m.swapView o | none => m
    let view := src.regs.filter fun e => globalBase ≤ e.1
    let hands := src.islandHands seg
    let m := (tilesOf seg).foldl (fun m t => if m.awake t then m.enterSegment t d else m) m
    let m := ((m.showDecl seg d).showSucc seg none).modTile d fun ts => { ts with islLog := [], ring := { ts.ring with view, hands } }
    m.inView d fun m =>
      let m := ((m.wr P.faultlog F.FAULTLOG_HEAD_SEQ 0).wr P.faultlog F.FAULTLOG_HELD_COUNT 0).wr P.faultlog F.FAULTLOG_OVERWRITTEN_COUNT 0
      (List.range 16).foldl (fun m h => m.wr P.mode (F.MODE_HAND_STAT_QUEUED.nth h) 0) m

/-! ### Judgement of loss and recovery (R503, R508, R509) -/

/-- The declarer commands a tile reset with cause TILE_DECL where it reaches the tile (R508 step 2). -/
def commandReset (m : Mach) (d x : Nat) : Mach :=
  if m.reaches d x && m.awake x then m.modTile x fun ts => { ts with rstDue := ts.rstDue ||| 8 } else m

/-- Attempts have failed RETRY times: the tile is FAILED and held in tile reset (R508). -/
def failTile (m : Mach) (d x : Nat) : Mach :=
  let n := (m.ringS x).fails
  let m := m.tileReset x 8
  let m := m.modTile x fun ts => { ts with life := .failed, rstDue := 0 }
  let m := m.modRing x fun r => { r with recov := none, fails := 0 }
  m.inSeg d fun m => ((m.raise (P.decl d) 4).record d 0x12 x n 0 0)

/-- An attempt has failed: after RETRY in a row the tile is FAILED, else the next attempt begins at step `step` (log entry 83). -/
def attemptFails (m : Mach) (d x step : Nat) : Mach :=
  let m := m.modRing x fun r => { r with fails := r.fails + 1 }
  if max 1 (m.rd (P.decl d) F.DECL_RECOV_RETRY) ≤ (m.ringS x).fails then m.failTile d x
  else
    let m := m.modRing x fun r => { r with recov := some step }
    if step = 2 then m.commandReset d x else m

/-- What a hand of the view in force loses with tile `x` (R146) (log entry 82). -/
def loseMembers (m : Mach) (h x : Nat) : Mach :=
  let gone := (m.members h).filter fun g => g / 2 = x && !(m.hand h).lost.contains g
  if !m.handArmed h || gone.isEmpty then m
  else
    ((m.modHand h fun s => { s with lost := s.lost ++ gone }).wr P.mode (F.MODE_HAND_STAT_MEMBER_LOST.nth h) 1).raise P.mode 8

/-- Tile `x` is judged lost by serving tile `d` (R503): TILE_LOST, R146 for its members, degraded seams, and recovery from step 2, or from
step 3 where it has reported its own reset. Lost again within 1 s of its return, the attempt before has failed (log entries 77, 82, 83). -/
def judgeLost (m : Mach) (d x cause : Nat) : Mach :=
  if x = d || (m.ringS x).recov.isSome || (m.tile x).life = .failed || (m.tile x).life = .por then m
  else
    let m := m.inSeg d fun m =>
      let m := m.keepGrids x
      let hands := (List.range 16).filter fun h => (m.members h).any fun g => g / 2 = x && m.flag P.mode (F.MODE_HAND_CFG_VALID.nth h)
      let m := hands.foldl (fun m h => m.loseMembers h x) m
      let mask := hands.foldl (fun a h => a + 2 ^ h) 0
      (m.raise (P.decl d) 2).record d 0x10 x cause 0 (detail 0 2 (3 * 2 ^ (2 * x)) + detail 2 2 mask)
    let m := m.cutSeams (m.reach d &&& (255 - 2 ^ x))
    let again := match (m.ringS x).backAt with | some b => decide (m.now d < b + 500000000) | none => false
    let m := m.modRing x fun r => { r with backAt := none, missed := 0, fails := if again then r.fails else 0 }
    let step := if cause = 3 then 3 else 2
    if again then m.attemptFails d x step
    else
      let m := m.modRing x fun r => { r with recov := some step }
      if step = 2 then m.commandReset d x else m

/-- A recovery ends: the tile is healthy again (R508 step 5). -/
def tileBack (m : Mach) (d x : Nat) : Mach :=
  let n := (m.ringS x).fails + 1
  let m := m.modRing x fun r => { r with recov := none, backAt := some (m.now d) }
  m.inSeg d fun m => ((m.inc (P.decl d) F.DECL_RECOVERIES_COUNT).raise (P.decl d) 3).record d 0x11 x n 0 0

/-- Step 4 once the tile has answered: it ends when the tile is SYNCED (R508). -/
def recoverySync (m : Mach) (x : Nat) : Mach :=
  match m.serving x with
  | none => m
  | some d => if (m.ringS x).recov = some 4 && m.flag (P.tb x) F.TB_STAT_SYNCED then m.tileBack d x else m

/-- A lost tile answers on the ring (R508 steps 3 and 4). -/
def tileAnswers (m : Mach) (x : Nat) : Mach :=
  match m.serving x with
  | none => m
  | some d =>
    if (m.ringS x).recov ≠ some 3 || !m.answers x || !m.reaches d x then m
    else ((m.mergeAon d x).modRing x fun r => { r with recov := some 4 }).recoverySync x

/-- The serving tile whose recovery of `x` is running: that of the segment `x` is in, or the primary declarer. -/
def recoverer (m : Mach) (x : Nat) : Option Nat :=
  match m.serving x with | some d => some d | none => m.declarer

/-- Step 2 or 3 runs out of its 10 ms (R508). -/
def recoveryTimeout (m : Mach) (x : Nat) : Mach :=
  match m.recoverer x, (m.ringS x).recov with
  | some d, some s => if s = 2 || s = 3 then m.attemptFails d x 2 else m
  | _, _ => m

/-- `DECL.CMD.RECOVER` on a page of declarer `d` (R508, R524): a FAILED tile's hold is released and attempts begin at step 3 (log entry 83). -/
def recoverCmd (m : Mach) (t : Nat) (v : Word) : Mach :=
  (List.range 8).foldl (fun m x =>
    if !bit v.toNat x then m
    else if (m.tile x).life = .failed then
      ((m.modTile x fun ts => { ts with life := .reset }).modRing x fun r => { r with recov := some 3, fails := 0 }).tileRelease x
    else m.errCount (P.decl t)) m

/-- A tile reset that is due starts (R62, R69, R83); a tile that reports one is judged lost by its segment's declarer (R503) (log entry 80). -/
def tileResetDue (m : Mach) (x : Nat) : Mach :=
  let causes := (m.tile x).rstDue
  if causes = 0 then m
  else
    let d := m.serving x
    let up := (m.tile x).life = .up
    let m := m.tileReset x causes
    if !up then m
    else match d with
    | some d =>
      if (m.ringS x).recov = some 2 then m.modRing x fun r => { r with recov := some 3 } else m.judgeLost d x 3
    | none => m

/-! ### Succession (R504) -/

/-- The first healthy tile in the U direction from a lost declarer, among the tiles of `u`'s segment (R504). -/
def heirOf (m : Mach) (u old : Nat) : Option Nat :=
  ((List.range m.nTiles).map fun i => (old + 1 + i) % m.nTiles).find? fun x => x ≠ old && bit (m.reach u) x && m.healthy x

/-- Tile `u` succeeds the declarer `old`, judged lost with `cause` (R504). -/
def succeed (m : Mach) (u old cause : Nat) : Mach :=
  let mirror := m.rd (P.decl u) F.DECL_ROLE_SUCC = u
  let seg := m.reach u &&& (255 - 2 ^ old)
  let m := if m.awake old && m.reaches u old then (m.setRole old 0).wr (P.tb old) F.TB_STAT_MASTER 0 else m
  let m := if mirror then m else m.loseGlobals false
  let m := (((m.becomeDeclarer u).showDecl seg u).showSucc seg none)
  let m := { m with copying := none }
  let m := ((m.inc (P.decl u) F.DECL_SUCCESSIONS_COUNT).raise (P.decl u) 1).record u 0x13 u old (!mirror).toNat 0
  let m := (tilesOf (255 - 2 ^ old)).foldl (fun m x =>
    if (m.ringS x).recov.isSome then (m.modRing x fun r => { r with recov := some 2 }).commandReset u x else m) m
  (m.judgeLost u old cause).followSuccessor

/-! ### Rejoin (R515, R516) -/

/-- Members of the tile judged lost within their island segment stay idle in their hands (R516). -/
def keepLost (m : Mach) (hands : Vector Hand 16) (seg : Nat) : Mach :=
  (List.range 16).foldl (fun m h =>
    let gone := (vget hands h).lost.filter fun g => bit seg (g / 2) && (m.members h).contains g && !(m.hand h).lost.contains g
    if gone.isEmpty || !m.handArmed h then m else m.modHand h fun s => { s with lost := s.lost ++ gone }) m

/-- Tile `t` leaves its island segment for the primary one: its copies are overwritten and its next SYNC message steps it (R499, R515). -/
def leaveSegment (m : Mach) (t : Nat) : Mach :=
  (m.wr (P.ring t) F.RING_STAT_OUTSIDE 0).modRing t fun r => { r with rate := none, stepDue := true }

/-- The segment of island declarer `o` joins the primary segment of `d`: its records are appended to the package log (R515, R519) (log entry 78). -/
def joinPrimary (m : Mach) (o : Nat) : Mach :=
  let log := (m.tile o).islLog
  let hands := (m.ringS o).hands
  let seg := (tilesOf 255).foldl (fun a t => if m.islandOf t = some o then a + 2 ^ t else a) 0
  let m := m.keepLost hands seg
  let m := (tilesOf seg).foldl (fun m t => m.leaveSegment t) m
  let m := (m.setRole o 0).modTile o fun ts => { ts with islLog := [], ring := { ts.ring with view := [], hands := Vector.replicate 16 {} } }
  let m := log.foldl (fun m r => m.logPackage r) m
  let m := m.wr P.island F.ISLAND_STAT_ISLAND (m.rd P.island F.ISLAND_STAT_ISLAND ||| seg)
  { m with joining := m.joining ||| seg }

/-- The segment of island declarer `o` joins that of island declarer `d`, which goes on serving both (log entry 79). -/
def joinIsland (m : Mach) (d o : Nat) : Mach :=
  let log := (m.tile o).islLog
  let m := (m.setRole o 0).modTile o fun ts => { ts with islLog := [], ring := { ts.ring with view := [], hands := Vector.replicate 16 {} } }
  m.inView d fun m => log.foldl (fun m r => m.logPackage r) m

/-- Every former island member has been reconciled: the REJOIN record, with the spilled tricks held then (R515, R518) (log entry 78). -/
def finishRejoin (m : Mach) : Mach :=
  let waits := (List.range 16).any fun g => (m.clu g).cut.isSome && bit m.joining (g / 2)
  match m.declarer with
  | none => m
  | some d =>
    if m.joining = 0 || waits then m
    else
      let tiles := m.joining
      let held := ((tilesOf tiles).map fun t => ((List.range 32).map fun q => (m.queue t q).spillTricks).sum).sum
      let m := { m with joining := 0 }
      let m := ((m.inc P.island F.ISLAND_REJOINS_COUNT).wr2 P.island F.ISLAND_JOIN_T_LO_N F.ISLAND_JOIN_T_HI_N (m.now d)).raise P.island 1
      m.record d 0x15 d 0 0 (detail 0 1 tiles + detail 4 4 held)

/-- Which declarer stays where several meet in one segment (R515): the primary; else, without a declarer in the package, the island
declarer that held the role most recently, or the lowest; else the lowest island declarer as such (log entry 79). -/
def winner (m : Mach) (ds : List Nat) : Option Nat :=
  match ds.find? fun d => m.role d = 1 with
  | some d => some d
  | none =>
    if m.declarer.isSome then ds.head?
    else ds.foldl (fun b d => match b with
      | none => some d
      | some x => if (m.ringS x).declAt < (m.ringS d).declAt then some d else some x) none

/-- The segment `s` settles its roles (R515): every other declarer yields. `before` is the part of the segment that each declarer reached
before the change (log entry 78). -/
def settleRoles (m : Mach) (before : Nat → Nat) (s : Nat) : Mach :=
  let ds := (tilesOf s).filter fun t => m.answers t && (m.role t = 1 || m.role t = 3)
  match m.winner ds with
  | none => m
  | some d =>
    let grown := s &&& (255 - before d) ≠ 0
    let m := if m.role d = 3 && m.declarer.isNone && grown then
        let held := decide (0 < (m.ringS d).declAt)
        let m := m.joinPrimary d
        let m := if held then m else m.loseGlobals true
        m.becomeDeclarer d
      else m
    let m := (ds.filter (· ≠ d)).foldl (fun m o => if m.role d = 1 then m.joinPrimary o else m.joinIsland d o) m
    let m := (tilesOf s).foldl (fun m t =>
      if !m.awake t then m
      else if m.role d = 3 then (if t = d then m else m.enterSegment t d)
      else if m.flag (P.ring t) F.RING_STAT_OUTSIDE then m.leaveSegment t else m) m
    (m.showDecl s d).showSucc s (if m.role d = 3 || m.rd (P.decl d) F.DECL_ROLE_SUCC = 15 then none else some (m.rd (P.decl d) F.DECL_ROLE_SUCC))

/-- What tile `u` loses with a change of its map: tiles that neither sleep nor were lost before (R503). -/
def lostBy (m : Mach) (old new : Nat) : Nat :=
  (tilesOf (old &&& (255 - new))).foldl (fun a x =>
    if (m.tile x).dormant || (m.ringS x).recov.isSome || (m.tile x).life = .failed || (m.tile x).life = .por then a else a + 2 ^ x) 0

/-- The segment `s` judges what it lost (R503, R505, R510) (log entry 78). -/
def judgeSegment (m : Mach) (before : Nat → Nat) (s : Nat) : Mach :=
  match (tilesOf s).find? fun t => m.answers t && (m.role t = 1 || m.role t = 3) with
  | some d =>
    let lost := m.lostBy (before d) s
    let n := (tilesOf lost).length
    if lost = 0 then m
    else if m.role d = 1 && (tilesOf s).filter m.healthy ⊆ [d] then
      let m := m.formIsland s
      let m := m.cutSeams s
      if 2 ≤ n then m.recordPartition d s lost else m
    else if n = 1 then m.judgeLost d ((tilesOf lost).headD 0) 2
    else (m.cutSeams s).recordPartition d s lost
  | none =>
    match (match (tilesOf s).find? m.healthy with | some u => some u | none => none) with
    | none => m
    | some u =>
      let lost := m.lostBy (before u) s
      let old := m.rd (P.decl u) F.DECL_ROLE_DECL
      if lost = 0 || (lost = 2 ^ old && !m.flag (P.ring u) F.RING_STAT_OUTSIDE) then m
      else
        let m := (m.formIsland s).cutSeams s
        if 2 ≤ (tilesOf lost).length then
          (match (tilesOf s).find? fun t => m.role t = 3 with | some d => m.recordPartition d s lost | none => m)
        else m

/-- 20 µs after the last link change the maps take effect (R496): segments that meet rejoin, then losses and partitions are judged, and
resets that waited for a tile to be reachable are commanded (R508) (log entry 78). -/
def reachSettle (m : Mach) : Mach :=
  let waits := (List.range 8).filter fun t => m.ringLive t && !m.flag (P.ring t) F.RING_STAT_SETTLED
  if waits.isEmpty then m
  else
    let before := m.reach
    let m := m.takeMaps
    let segs := ((List.range 8).filter m.ringLive).foldl (fun a t => if a.contains (m.reach t) then a else a ++ [m.reach t]) ([] : List Nat)
    let m := segs.foldl (fun m s => m.settleRoles before s) m
    let m := segs.foldl (fun m s => m.judgeSegment before s) m
    let m := (List.range 8).foldl (fun m x =>
      match m.recoverer x with
      | some d => if (m.ringS x).recov = some 2 then m.commandReset d x else m
      | none => m) m
    m.finishRejoin

/-- Declarer election (R500, R505): at power-on every time base is aligned with the declarer's; after a reset of every tile, the declarer
starts from its AON copies and the log is rebuilt from every tile's AON records, tile by tile (log entries 80, 81). -/
def election (m : Mach) : Mach :=
  if (List.range 8).any fun t => m.awake t && m.role t % 2 = 1 then m
  else
    let m := m.takeMaps
    match (List.range 8).find? m.healthy with
    | none => m
    | some d =>
      let s := m.reach d
      let first := !m.cpb.usable
      let m := if first then m else m.loseGlobals false
      let m := (m.becomeDeclarer d).showDecl s d
      let m := if first then
          let base := m.tile d
          (tilesOf s).foldl (fun m t => (m.modTile t fun ts => { ts with n := base.n, sub := base.sub }).wr (P.tb t) F.TB_STAT_SYNCED 1) m
        else
          (tilesOf s).foldl (fun m x => m.mergeAon d x) (m.wr (P.tb d) F.TB_STAT_SYNCED 1)
      let succ := m.nextHealthy d s
      let m := m.showSucc s succ
      let m := match succ with | some x => m.setRole x 2 | none => m
      let rest := ((List.range 8).filter fun t => m.ringLive t && !bit s t).foldl
        (fun a t => if a.contains (m.reach t) then a else a ++ [m.reach t]) ([] : List Nat)
      rest.foldl (fun m s => m.formIsland s) m

/-! ### Synchronisation (R79, R497–R499) -/

/-- A ring message of class SYNC or HEART leaves a tile (R495). -/
def ringOut (m : Mach) (t cls : Nat) (ws : List Nat) : Mach := m.emitOut (.ring t cls ws)

/-- The time base of tile `t`, at `was` before, was set: instants of earlier triggers and edges no longer lie on it, and the segments of its axes
go on from where they are (log entry 34). -/
def retimed (m : Mach) (t was : Nat) : Mach :=
  if m.now t = was then m
  else [2 * t, 2 * t + 1].foldl (fun m g =>
    ((m.axisRun g was).axisRebase g (m.now t)).modClu g fun s => { s with lastTrig := none, lastEdge := none }) m

/-- A time master sends a SYNC message at its next multiple of 5,000 ticks; a LOAD that waits takes effect there (R79, R497) (log entries 6, 86). -/
def syncSend (m : Mach) (t : Nat) : Mach :=
  let pk := P.tb t
  if !m.ringLive t || m.role t % 2 ≠ 1 || !m.flag pk F.TB_STAT_MASTER then m
  else
    let m := m.advance t ((m.now t / 5000 + 1) * 5000)
    let m := if !m.flag pk F.TB_STAT_LOAD_PEND then m
      else
        let n := m.rd2 pk F.TB_LOAD_LO_N_LO F.TB_LOAD_HI_N_HI
        let m := (((m.modTile t fun ts => { ts with n, sub := 0 }).wr pk F.TB_STAT_LOAD_PEND 0).wr pk F.TB_CTRL_LOAD 0).retimed t (m.now t)
        { m with slewRemain := 0, slewCount := 0 }
    m.ringOut t 1 [m.now t, m.fracF t]

/-- The member's next trigger counts as dropped when its time base was stepped within an open deal (R499). -/
def stepMember (m : Mach) (g n : Nat) : Mach :=
  let m := if m.inDeal g then m.modClu g fun s => { s with dropNext := true } else m
  if m.flag (P.ring (g / 2)) F.RING_STAT_OUTSIDE then m
  else m.modClu g fun s => { s with cut := s.cut.map fun c => { c with stepped := some n } }

/-- A SYNC message arrives at tile `t` (R497, R498): the time base is stepped while not SYNCED, beyond 1/2 tick, or at a rejoin; else F
moves by 1/16 tick (log entry 86). -/
def syncReceive (m : Mach) (t : Nat) : Mach :=
  match m.serving t with
  | none => m
  | some d =>
    if t = d || !m.ringLive t || !m.ringLive d || !m.reaches d t || m.role d % 2 ≠ 1 then m
    else
      let pk := P.ring t
      let e : Int := ((m.time32 d : Int) - m.time32 t) / 2 ^ 28
      let m := m.wr pk F.RING_SYNC_ERR (ofS 16 (clampI (-32768) 32767 e))
      let was := m.now t
      let step := !m.flag (P.tb t) F.TB_STAT_SYNCED || decide (8 < e.natAbs) || (m.ringS t).stepDue
      let m := if step then
          let m := (m.modTile t fun ts => { ts with n := (m.tile d).n, sub := (m.tile d).sub }).modRing t fun r => { r with stepDue := false }
          let m := (m.inc pk F.RING_SYNC_STEPS).record t 0x16 t 0 0 (detail 0 8 (ofS 64 (e / 16)) + detail 8 1 (e % 16).toNat)
          let m := m.retimed t was
          (m.stepMember (2 * t) (m.now t)).stepMember (2 * t + 1) (m.now t)
        else
          let t32 := (m.time32 t : Int) + e.sign * 2 ^ 28
          m.modTile t fun ts => { ts with n := (t32 / 2 ^ 32).toNat % 2 ^ 64, sub := (t32 % 2 ^ 32).toNat }
      let left : Int := ((m.time32 d : Int) - m.time32 t) / 2 ^ 28
      let m := if left.natAbs ≤ 2 then m.wr (P.tb t) F.TB_STAT_SYNCED 1 else m.unsync t
      m.recoverySync t

/-- No SYNC message for 30 µs (R498). -/
def syncLost (m : Mach) (t : Nat) : Mach := if m.flag (P.tb t) F.TB_STAT_MASTER then m else m.unsync t

/-- A former island member is reconciled with its hand at the first grid point 8 µs after its time step (R516). -/
def reconcile (m : Mach) (g : Nat) : Mach :=
  match (m.clu g).cut with
  | none => m
  | some c =>
    match c.stepped with
    | none => m
    | some n =>
      if m.flag (P.ring (g / 2)) F.RING_STAT_OUTSIDE then m
      else
        let at_ := m.gridPoint c.hand (n + 4000)
        let m := (m.advance (g / 2) at_).modClu g fun s => { s with cut := none }
        let mine := m.handOf g = some c.hand
        let same := mine && m.dealOpen c.hand && m.rd P.mode (F.MODE_HAND_DEAL_DEAL.nth c.hand) = c.deal && !m.idleMember g
        let m := if c.dealOpen && same then m
          else if c.dealOpen then (m.modClu g fun s => { s with recEnd := some (at_, c.deal, c.cause), drained := false }).latchOutput g
          else m.modClu g fun s => { s with recEnd := some (at_, c.deal, c.cause) }
        let m := if c.armed && !(mine && m.handArmed c.hand) then m.disarmMember g else m
        m.finishRejoin

/-! ### Heartbeats (R502, R503) -/

/-- A declarer sends a heartbeat at its next multiple of 25,000 ticks; the responses and beats not missed end their runs (R502) (log entry 6). -/
def heartbeatSend (m : Mach) (d : Nat) : Mach :=
  if !m.ringLive d || m.role d % 2 ≠ 1 then m
  else
    let m := m.advance d ((m.now d / 25000 + 1) * 25000)
    let m := (tilesOf (m.reach d)).foldl (fun m t =>
      m.modRing t fun r => { r with beats := 0, missed := if r.missNow then r.missed else 0, missNow := false }) m
    m.ringOut d 2 [m.now d]

/-- Tile `x`'s response to a heartbeat is missed by its declarer, or, with `beat`, tile `x` misses a heartbeat (R502, R503). -/
def heartbeatMiss (m : Mach) (x : Nat) (beat : Bool) : Mach :=
  if beat then
    if !m.ringLive x || m.role x % 2 = 1 || m.flag (P.ring x) F.RING_STAT_OUTSIDE then m
    else
      let old := m.rd (P.decl x) F.DECL_ROLE_DECL
      let m := (m.inc (P.decl x) F.DECL_HB_MISS_COUNT).modRing x fun r => { r with beats := r.beats + 1 }
      if (m.ringS x).beats < 3 || m.heirOf x old ≠ some x then m
      else (m.modRing x fun r => { r with beats := 0 }).succeed x old (if m.reaches x old then 1 else 2)
  else
    match m.serving x with
    | none => m
    | some d =>
      if x = d || (m.tile x).dormant || (m.ringS x).recov.isSome || (m.tile x).life = .failed || (m.tile x).life = .por then m
      else
        let m := (m.inc (P.decl d) F.DECL_HB_MISS_COUNT).modRing x fun r => { r with missed := r.missed + 1, missNow := true }
        if 3 ≤ (m.ringS x).missed && m.reaches d x then m.judgeLost d x 1 else m

/-! ### Watchdog, ageing, spill levels (R507, R521, R525) -/

/-- The tile watchdog's check; after LIMIT failures in a row it resets the tile alone (R507). -/
def watchdogCheck (m : Mach) (t : Nat) (pass : Bool) : Mach :=
  if !m.answers t || !m.flag (P.decl t) F.DECL_WDOG_EN then m
  else if pass then m.modRing t fun r => { r with wdFails := 0 }
  else
    let m := m.modRing t fun r => { r with wdFails := r.wdFails + 1 }
    if (m.ringS t).wdFails < m.rd (P.decl t) F.DECL_WDOG_LIMIT then m
    else (m.modTile t fun ts => { ts with rstDue := ts.rstDue ||| 16 }).tileResetDue t

/-- Ageing monitor `mon` of a tile reports the largest share of rated life (R521). -/
def ageing (m : Mach) (t mon life : Nat) : Mach :=
  if !m.answers t then m
  else
    let old := m.rd (P.decl t) F.DECL_AGE_LIFE
    let new := max old (min life 65535)
    let m := m.wr (P.decl t) F.DECL_AGE_LIFE new
    if new / 50 = old / 50 then m else m.record t 0x17 t mon 0 (detail 0 2 new)

/-- The spill cell count of tile `t` reaches its segment's declarer (R525). -/
def spillReport (m : Mach) (t : Nat) : Mach :=
  match m.serving t with
  | none => m
  | some d =>
    if !m.answers t || !m.reaches d t then m
    else
      let n := ((List.range 32).map fun q => m.spillCells t q).sum
      m.inSeg t fun m => m.wr P.island (F.ISLAND_SPILL_CELLS.nth t) n

/-! ### DORMANT request (R141, R506) -/

/-- DORMANT is requested of a tile; a successor first hands its role on (log entry 25). -/
def dormantRequest (m : Mach) (t : Nat) : Mach :=
  if !m.dormantOk t || !m.reachable t then m.refuse P.mode 7
  else
    let m := if m.role t ≠ 2 then m
      else match m.declarer with
      | none => m
      | some d =>
        let s := m.reach d
        let next := m.nextHealthy d (s &&& (255 - 2 ^ t))
        let m := ({ m with copying := none }.setRole t 0).showSucc s next
        match next with | some x => m.setRole x 2 | none => m
    m.dormantEnter t

/-! ### Pages DECL and ISLAND (R524, R525) -/

/-- `DECL.HEALTH` as the tile's segment sees it. -/
def declHealth (m : Mach) (t : Nat) : Nat :=
  let mask := fun p => ((List.range 8).filter p).foldl (fun a x => a + 2 ^ x) 0
  let s := m.reach t
  mask (fun x => (m.tile x).life = .failed) * 2 ^ 24 + mask (fun x => (m.tile x).dormant) * 2 ^ 16 +
    mask (fun x => (m.ringS x).recov.isSome) * 2 ^ 8 + mask (fun x => bit s x && m.healthy x)

/-- DECL registers that are computed when read. -/
def declRead (m : Mach) (t off : Nat) : Option Word := if off = 0x044 then some (BitVec.ofNat 32 (m.declHealth t)) else none

/-- A write to a register of page DECL that has a behaviour of its own. -/
def writeDecl (m : Mach) (t off : Nat) (v : Word) : Option Mach :=
  match off with
  | 0x048 => if fieldOf v F.DECL_WDOG_LIMIT = 0 then some (m.refuse (P.decl t) 6) else none
  | 0x04C => if fieldOf v F.DECL_RECOV_RETRY = 0 then some (m.refuse (P.decl t) 6) else none
  | 0x050 => some (m.recoverCmd t v)
  | _ => none

/-- Soft resets of RING and DECL: the state of the links, the roles and the AON record count stay (R84, R86) (log entry 19). -/
def softResetRing (m : Mach) (t : Nat) : Mach :=
  let w := [0x044, 0x048, 0x04C].map fun off => m.word (P.ring t) off
  (((m.softResetPage (P.ring t)).setWord (P.ring t) 0x044 (w.getD 0 0)).setWord (P.ring t) 0x048 (w.getD 1 0)).setWord (P.ring t) 0x04C
    (w.getD 2 0)
def softResetDecl (m : Mach) (t : Nat) : Mach :=
  let r := m.word (P.decl t) 0x040
  let k := m.word (P.decl t) 0x068
  (((m.softResetPage (P.decl t)).setWord (P.decl t) 0x040 r).setWord (P.decl t) 0x068 k).modRing t fun s => { s with wdFails := 0 }

/-! ### What follows every step (R138, R313, R511, R525) -/

/-- The ISLAND page of the view in force, for accesses its serving tile `d` answers: tiles in ISLAND, causes, segment; tiles outside it
keep the last values known. -/
def showIsland (m : Mach) (d : Nat) (flags : List (Nat × Bool × Bool)) : Mach :=
  let s := m.reach d
  let put := fun (m : Mach) (f : Field) (p : Nat × Bool × Bool → Bool) =>
    m.wr P.island f (flags.foldl (fun a x => if bit s x.1 then putBit a x.1 (p x) else a) (m.rd P.island f))
  let m := put m F.ISLAND_STAT_ISLAND fun x => x.2.1 || x.2.2
  let m := put m F.ISLAND_CAUSE_LINK fun x => x.2.1
  let m := put m F.ISLAND_CAUSE_PART fun x => x.2.2
  let all := ((List.range 8).filter m.present).foldl (fun a x => a + 2 ^ x) 0
  ((m.wr P.island F.ISLAND_STAT_SEGMENT s).wr P.island F.ISLAND_STAT_UNREACH (all &&& (255 - s))).wrb P.island F.ISLAND_STAT_ISL_VIEW
    m.viewOf.isSome

/-- A tile's part of a change of ISLAND: spilling follows it, replay begins where spilling ends (R512); the event goes to the segment's
page. -/
def followIsland (m : Mach) (t : Nat) : Mach :=
  let now := m.inIsland t
  let was := m.viewed t fun v => bit (v.rd P.island F.ISLAND_STAT_ISLAND) t
  let seen := match m.serving t with | some d => m.reaches d t && m.answers t | none => false
  let m := if now = was || !seen then m else m.inSeg t fun m => m.raise P.island (if now then 2 else 3)
  let spill := now && (m.kit t).dramReady
  if (m.kit t).spilling = spill then m
  else
    let m := m.modKit t fun k => { k with spilling := spill }
    if spill then m
    else (List.range 32).foldl (fun m q => m.modQueue t q fun s => { s with replay := s.replay || !s.spill.isEmpty }) m

/-- `ISL_MEMBER` of every hand of the view in force. -/
def showIslMember (m : Mach) (isl : List Bool) : Mach :=
  (List.range 16).foldl (fun m h =>
    m.wrb P.mode (F.MODE_HAND_STAT_ISL_MEMBER.nth h)
      (m.flag P.mode (F.MODE_HAND_CFG_VALID.nth h) && (m.members h).any fun g => isl.getD (g / 2) false)) m

/-- ISLAND, its pages and what follows from it, in every segment. -/
def settleIsland (m : Mach) : Mach :=
  let m := (List.range 8).foldl followIsland m
  let flags := (List.range 8).map fun t => (t, m.linkIsland t, m.partIsland t)
  let isl := flags.map fun x => x.2.1 || x.2.2
  let show_ := fun (m : Mach) (d : Nat) => (m.showIsland d flags).showIslMember isl
  let m := match m.declarer with | some d => show_ m d | none => m
  m.islandDeclarers.foldl (fun m d => m.inView d fun m => show_ m d) m

end Sys2Proof.Machine.Mach
end

