-- ==== Sys2Proof/Machine/Bus.lean ====
section
/-!
DEFINITION. The register space (R91–R109): where an access goes, page headers, COMMIT, windows, reads and writes of every page under
locks and guards; semaphores, keepalive and the pages SEM, PORTS, MODE and GUARD (R120–R127). A port is a number here: 0 A, 1 B.
-/

namespace Sys2Proof.Machine.Mach

/-! ### Where an access goes (R91, R92, R109, R63) -/

/-- What answers an access to a page: no page, a tile that does not answer, a domain that is off, the page. -/
inductive Target where
  | bad | unreach | domOff | page
deriving DecidableEq, Repr

/-- The domain that serves an offset of a tile page is on (R63, R178, R237, R570). -/
def pageOn (m : Mach) (t pg off : Nat) : Bool :=
  let o := off % 0x800
  if [0x00, 0x01, 0x02, 0x03, 0x05].contains pg then true
  else if pg = 0x36 then
    if 0x040 ≤ o && o < 0x080 then m.domOn t (D.sport 0)
    else if 0x080 ≤ o && o < 0x0C0 then m.domOn t (D.sport 1)
    else m.domOn t (D.sport 0) || m.domOn t (D.sport 1)
  else if (pg = 0x12 || pg = 0x13) && decide (0x100 ≤ o) && decide (o < 0x128) then m.domOn t (D.sht (pg % 2))
  else m.domOn t (domainOf pg)

/-- The target of an access that entered at tile `e`, in the view it meets. Of the global pages an island segment serves SEM, PORTS,
FAULTLOG and ISLAND (R514) (log entries 14, 85). -/
def target (m : Mach) (e tf pg off : Nat) : Target :=
  if !pageExists tf pg || (tf ≠ 14 && !m.present tf) then .bad
  else if tf = 14 then
    match m.declarer with
    | none => .unreach
    | some d =>
      if m.answers d && m.reaches e d && (m.viewOf.isNone || [1, 2, 5, 6].contains pg) then .page else .unreach
  else if !m.answers tf || !m.reaches e tf then .unreach
  else if m.pageOn tf pg off then .page else .domOff

/-- An access with no page behind it, counted (R91, R92). -/
def badAddr (m : Mach) : Mach := (m.inc P.ports F.PORTS_BAD_ADDR_COUNT).raise P.ports 6

/-- An access to a page whose domain is off, counted; it wakes a DORMANT tile (R63, R68) (log entry 109). -/
def offAccess (m : Mach) (t : Nat) : Mach :=
  let m := (m.inc (P.pwr t) F.PWR_OFF_ACCESS_COUNT).raise (P.pwr t) 5
  m.wakeUp t (m.wakeSources t 0 false true)

/-- An access to a page of a DORMANT tile other than TILE, PWR, CLK, TB and DECL wakes it, also while the page still answers (R68). -/
def accessWake (m : Mach) (tf pg : Nat) : Mach :=
  if [0x00, 0x01, 0x02, 0x03, 0x05].contains pg || decide (8 ≤ tf) then m else m.wakeUp tf (m.wakeSources tf 0 false true)

/-- What an access leaves beside its effect on the page that answers it. -/
def missed (m : Mach) (x : Target) (tf pg : Nat) : Mach :=
  match x with
  | .bad => m.badAddr
  | .unreach => m.raise P.ports 7
  | .domOff => m.offAccess tf
  | .page => m.accessWake tf pg

def fieldTile (addr : Nat) : Nat := bits addr 23 20
def fieldPage (addr : Nat) : Nat := bits addr 19 12
/-- Byte offset with the two low address bits ignored (R93). -/
def fieldOff (addr : Nat) : Nat := bits addr 11 2 * 4

/-! ### Windows (R104–R106) -/

/-- Words of an element of `w` bits. -/
def elWords (w : Nat) : Nat := (w + 31) / 32

/-- Elements and element bits of array `a` of a page; size 0 where the page's chapter defines no such array. -/
def winShape (m : Mach) (pk a : Nat) : Nat × Nat :=
  let g := 2 * tileOf pk + pageOf pk % 2
  let n := m.width g * m.phases g
  match blockCode (tileOf pk) (pageOf pk) with
  | 0x48 => if a < 2 then (1024, 32) else (0, 32)
  | 0x4C => match a with | 0 => (16, 64) | 1 | 2 => (30, 64) | _ => (0, 32)
  | 0x50 => if a < 2 then (n, 64) else if a < 5 then (n, 32) else (0, 32)
  | 0x52 => if a = 0 then (98304, 96) else (0, 32)
  | 0x54 => if a = 0 then (98304, 64) else (0, 32)
  | 0x57 => if a % 8 < 6 then (2050, 16) else (0, 32)
  | 0x6E => if a < 2 then (64, 32) else (0, 32)
  | 0x6F => if a < 4 then (16, 32) else (0, 32)
  | 0x70 => if a = 0 then (64, 128) else (0, 32)
  | 0x71 => if a < 8 then (17, 16) else (0, 32)
  | 0x62 => match a with | 0 => (320, 32) | 1 => (36, 32) | _ => (0, 32)
  | 0x74 => if a = 0 then (256, 8) else (0, 32)
  | 0xE5 => if a = 0 then (2048, 128) else if a ≤ 8 then (32, 128) else (0, 32)
  | _ => (0, 32)

/-- Half `i % 2` of the record in slot `i / 2` of a log of `size` slots (R519, R526). -/
def logHalf (log : List FaultRec) (size i : Nat) : Nat :=
  match log.find? fun r => r.seq % size = i / 2 with
  | some r => ofLe (((recBytes r).drop (16 * (i % 2))).take 16)
  | none => 0

/-- Element `i` of array `a` as a window shows it. -/
def winGet (m : Mach) (pk a i : Nat) : Nat :=
  if pk = P.faultlog then
    if a = 0 then logHalf m.pkgLog 1024 i
    else if m.reachable (a - 1) then logHalf (m.tile (a - 1)).aonLog 16 i else 0
  else m.el pk a i

/-- An element of array `a` of a page may be written by the host (log entry 16). -/
def winWritable (pk a : Nat) : Bool :=
  match blockCode (tileOf pk) (pageOf pk) with
  | 0x4C => a = 0
  | 0x50 | 0x54 | 0x70 | 0xE5 => false
  | 0x62 => a = 1
  | _ => true

/-- The owning block uses the array now, so that window writes are ignored and counted (R106 and the chapters) (log entry 16). -/
def winLocked (m : Mach) (pk a i : Nat) : Bool :=
  let t := tileOf pk
  let g := 2 * t + pageOf pk % 2
  match blockCode t (pageOf pk) with
  | 0x48 => m.inDeal g && a = m.act pk F.SPORT_TO_BANK_BANK
  | 0x52 => m.tableLocked g || m.flag (P.cal g) F.CAL_STAT_BUSY
  | 0x57 =>
    let bank := m.act pk (if a / 8 = 0 then F.OUTF_TONE_BANK0 else F.OUTF_TONE_BANK1)
    m.inDeal (2 * t + a / 8) && i / 1025 = bank
  | 0x6E => m.chainLocked t a
  | 0x62 => m.ethLocked t a
  | _ => false

/-- The event that a refused element write raises beside the count, where its chapter names one. -/
def winRefused (m : Mach) (pk v : Nat) : Option Nat :=
  let t := tileOf pk
  match blockCode t (pageOf pk) with
  | 0x4C => if m.armed (2 * t + pageOf pk % 2) then some 5 else none
  | 0x6F => if stepOkElem v then none else some 1
  | 0x74 => if m.twcHostHeld t then some 8 else none
  | _ => none

def winSel (m : Mach) (pk : Nat) : Nat := bits (m.word pk 0x200).toNat 3 0
def winIndex (m : Mach) (pk : Nat) : Nat := bits (m.word pk 0x204).toNat 23 0

/-- RANGE_ERR set when INDEX is at or beyond the array's size (log entry 15). -/
def rangeCheck (m : Mach) (pk : Nat) : Mach :=
  if m.winIndex pk < (m.winShape pk (m.winSel pk)).1 then m else m.setWord pk 0x208 (m.word pk 0x208 ||| 1)

/-- INDEX lies inside the selected array (R105). -/
def winInside (m : Mach) (pk : Nat) : Bool := decide (m.winIndex pk < (m.winShape pk (m.winSel pk)).1)

/-- A copy of the selected element taken into WIN_DATA0–3. -/
def winCopy (m : Mach) (pk : Nat) : Mach :=
  let a := m.winSel pk
  let i := m.winIndex pk
  let inside := decide (i < (m.winShape pk a).1)
  let v := if inside then m.winGet pk a i else 0
  let m := if inside && blockCode (tileOf pk) (pageOf pk) = 0x52 then m.readEntry (2 * tileOf pk + pageOf pk % 2) i else m
  ((List.range 4).foldl (fun m k => m.setWord pk (0x20C + 4 * k) (BitVec.ofNat 32 (v / 2 ^ (32 * k)))) m).rangeCheck pk

/-- INDEX moves to the next element. -/
def winNext (m : Mach) (pk : Nat) : Mach := m.setWord pk 0x204 (BitVec.ofNat 32 ((m.winIndex pk + 1) % 2 ^ 24))

/-- The element that the assembled words and the highest one form (log entry 15). -/
def winValue (m : Mach) (pk k v : Nat) : Nat :=
  ((List.range k).map fun j => Store.get 0 m.winAsm (pk * 4 + j) * 2 ^ (32 * j)).sum + v * 2 ^ (32 * k)

/-- The bits of an element that its layout names; the others read zero (R9): edge-table entries (R162), segment descriptors (R200),
pattern steps (R388) (log entry 15). -/
def winKept (pk v : Nat) : Nat :=
  match blockCode (tileOf pk) (pageOf pk) with
  | 0x48 => v % 2 ^ 21
  | 0x4C => v / 2 ^ 56 * 2 ^ 56 + v % 2 ^ 53
  | 0x6F => bits v 29 16 * 2 ^ 16 + bits v 9 0
  | _ => v

/-- The element stored: through its block where that does more than keep it (log entry 15). -/
def winStore (m : Mach) (pk a i v : Nat) : Mach :=
  if blockCode (tileOf pk) (pageOf pk) = 0x52 then m.hostEntry (2 * tileOf pk + pageOf pk % 2) i v
  else m.setEl pk a i (winKept pk v)

/-- A write of WIN_DATA word `k` (R105, R106) (log entries 15, 16). -/
def winData (m : Mach) (pk k v : Nat) : Mach :=
  let a := m.winSel pk
  let i := m.winIndex pk
  let s := m.winShape pk a
  let top := elWords s.2 - 1
  if s.1 = 0 ∨ top < k then m
  else if s.1 ≤ i ∧ k < top then m.rangeCheck pk
  else if k < top then { m with winAsm := Store.set 0 m.winAsm (pk * 4 + k) v }
  else if !winWritable pk a || m.winLocked pk a i then m.errCount pk
  else if s.1 ≤ i then m.rangeCheck pk
  else
    let x := m.winValue pk k v % 2 ^ s.2
    match m.winRefused pk x with
    | some b => m.refuse pk b
    | none => ((m.winStore pk a i x).winNext pk).rangeCheck pk

/-- A write to a window register. -/
def winWrite (m : Mach) (pk off : Nat) (v : Word) : Mach :=
  match off with
  | 0x200 => m.setWord pk off (v &&& 0xF)
  | 0x204 => (m.setWord pk off (v &&& 0xFFFFFF)).winCopy pk
  | 0x208 =>
    let m := if bit v.toNat 0 then m.setWord pk off 0 else m
    if bit v.toNat 1 then (m.winNext pk).winCopy pk else m
  | _ => m.winData pk ((off - 0x20C) / 4) v.toNat

/-! ### COMMIT (R101, R102) -/

/-- The page's reference dealer, where it has one (R102). -/
def dealerOf (m : Mach) (pk : Nat) : Option Nat :=
  let t := tileOf pk
  let pg := pageOf pk
  if t = 14 then none
  else if (0x08 ≤ pg && pg ≤ 0x15) || [0x28, 0x29, 0x2C, 0x2D].contains pg then some (2 * t + pg % 2)
  else if [0x16, 0x17, 0x18, 0x2A].contains pg then some (2 * t + m.rd pk F.COMMIT_REF)
  else none

/-- Copies of the page made at once (log entry 30). -/
def commitAtOnce (m : Mach) (pk : Nat) : Mach :=
  let g := 2 * tileOf pk + pageOf pk % 2
  let was := m.actFlag (P.vc g) F.VC_BGCAL_EN
  let m := m.copyShadows pk
  if pk = P.vc g then m.bgFollow g was else m

/-- A write of COMMIT: REF, then LINE, DEAL and NOW in ascending order (log entries 30, 89). -/
def writeCommit (m : Mach) (pk : Nat) (v : Word) : Mach :=
  let n := v.toNat
  let m := if tileOf pk ≠ 14 && [0x16, 0x17, 0x18, 0x2A].contains (pageOf pk) then m.wrb pk F.COMMIT_REF (bit n 8) else m
  match m.dealerOf pk with
  | none => if bits n 2 0 = 0 then m else m.commitAtOnce pk
  | some g =>
    let m := if !bit n 0 then m else if m.running g then m.wr pk F.COMMIT_LINE 1 else m.commitAtOnce pk
    let m := if !bit n 1 then m
      else if (m.handOf g).isSome then m.wr pk F.COMMIT_DEAL 1 else m.commitAtOnce pk
    if !bit n 2 then m else if m.running g then m.errCount pk else m.commitAtOnce pk

/-! ### Page headers (R84, R97, R98) -/

/-- The producers of queues that a page's block holds (R299). -/
def producersOf (pk : Nat) : List Nat :=
  match blockCode (tileOf pk) (pageOf pk) with
  | 0x68 => [1 + pageOf pk % 2]
  | 0x6A => [3]
  | 0x6C => [4 + pageOf pk % 2]
  | 0x70 => [6]
  | 0x71 => [7]
  | 0x74 => [8]
  | 0x5E => [9]
  | _ => []

/-- A block soft reset of a page (R84, R305). A later write sees the block idle and disabled; GPIO pins return to inputs. -/
def softReset (m : Mach) (pk : Nat) : Mach :=
  let t := tileOf pk
  let g := 2 * t + pageOf pk % 2
  let m := m.stopProducers t (producersOf pk)
  match blockCode t (pageOf pk) with
  | 0x41 => m.softResetPwr t
  | 0x42 => m.softResetClk t
  | 0x43 => m.softResetTb t
  | 0x44 => m.softResetRing t
  | 0x45 => m.softResetDecl t
  | 0x48 => m.softResetSport g
  | 0x4A => m.softResetDeal g
  | 0x4C => (m.softResetVc g).unprepare t
  | 0x50 => m.softResetAcc g
  | 0x52 => m.softResetShd g
  | 0x54 => m.softResetCal g
  | 0x56 => m.softResetMeld t
  | 0x57 => m.softResetOutf t
  | 0x58 => m.softResetChk t
  | 0x5C => m.softResetQue t
  | 0x5D => m.softResetKitty t
  | 0x5E => m.softResetDma t
  | 0x5F => (m.softResetDram t).unprepare t
  | 0x60 | 0x61 | 0x62 | 0x63 => m.softResetHostPage t pk
  | 0x68 => m.softResetAxis g
  | 0x6A => m.softResetPace t
  | 0x6C => (m.softResetLamp g).unprepare t
  | 0x6E => m.softResetLchain t
  | 0x6F => m.softResetPatt t
  | 0x70 => (m.softResetMon t).unprepare t
  | 0x71 => m.softResetFe t
  | 0x72 => m.softResetMeas t
  | 0x74 => (m.softResetTwc t).unprepare t
  | 0x75 =>
    let old := m.gpioLevels t
    (m.softResetPage pk).ballEdges t old
  | 0x76 => m.softResetSspi t
  | _ => m.softResetPage pk

/-- A write of PAGE_CTRL.ENABLE, with the effect that the block's chapter gives (log entry 17). -/
def writeEnable (m : Mach) (pk : Nat) (en : Bool) : Mach :=
  let t := tileOf pk
  let g := 2 * t + pageOf pk % 2
  let was := m.enabled pk
  let new := m.wrb pk F.PAGE_CTRL_ENABLE en
  match blockCode t (pageOf pk) with
  | 0x52 => new.shdEnable g was en
  | 0x56 | 0x57 => if en then new else new.outputOff t
  | 0x5F => if en then new else if m.dramEnableHeld t then m.refuse pk 9 else new.dramStop t
  | 0x68 => if en || !was then new else if m.moving g || m.homePhase g ≠ 0 then m.axisDisable g else new
  | 0x6C => new.lampEnable g
  | 0x70 => if en = was then m else new.monEnable t
  | 0x71 => new.feEnable t
  | 0x72 => if en = was then m else new.measEnable t
  | 0x74 => m.twcEnable t en
  | 0x75 => new.ballEdges t (m.gpioLevels t)
  | _ => new

/-- A write of PAGE_CTRL: ENABLE, then SRST, which a DORMANT entry in progress discards (R85), then LOCK (log entry 89). -/
def writePageCtrl (m : Mach) (pk : Nat) (v : Word) : Mach :=
  let n := v.toNat
  let m := m.writeEnable pk (bit n 0)
  let m := if !bit n 1 then m else if tileOf pk = 14 then m.errCount pk else if m.fallingAsleep (tileOf pk) then m else m.softReset pk
  if bit n 2 then m.wr pk F.PAGE_CTRL_LOCK 1 else m

/-- A write to a header register (R97). -/
def writeHeader (m : Mach) (pk off : Nat) (v : Word) : Mach :=
  match off with
  | 0x004 => m.writePageCtrl pk v
  | 0x010 => m.setWord pk off (m.word pk off &&& ~~~v)
  | 0x014 => m.setWord pk off v
  | 0x01C => m.setWord pk 0x010 (m.word pk 0x010 ||| v)
  | 0x020 => m.setWord pk off (v &&& 3)
  | 0x030 => m.writeCommit pk v
  | _ => m.errCount pk

/-- A header register as read (log entry 18). -/
def readHeader (m : Mach) (pk off : Nat) : Word :=
  let tf := tileOf pk
  let pg := pageOf pk
  match off with
  | 0x000 => BitVec.ofNat 32 (blockCode tf pg * 2 ^ 24 + tf * 2 ^ 20 + pageInstance tf pg * 2 ^ 16 + 0x0100)
  | 0x008 =>
    let c := (m.word pk 0x030).toNat
    BitVec.ofNat 32 (m.rd pk F.PAGE_CTRL_LOCK * 8 + (bit c 0 || bit c 1).toNat * 4 + m.rd pk F.PAGE_CTRL_ENABLE)
  | 0x018 => m.word pk 0x010 &&& m.word pk 0x014
  | 0x004 | 0x010 | 0x014 | 0x020 | 0x024 | 0x030 => m.word pk off
  | _ => 0

/-! ### Block registers of the tile pages -/

/-- A write to a tile page register that its chapter gives a behaviour of its own. -/
def blockWrite (m : Mach) (pk off : Nat) (v : Word) : Option Mach :=
  let t := tileOf pk
  let g := 2 * t + pageOf pk % 2
  match blockCode t (pageOf pk) with
  | 0x41 => m.writePwr t off v
  | 0x43 => m.writeTb t off v
  | 0x44 => m.writeRing t off v
  | 0x45 => m.writeDecl t off v
  | 0x48 => m.writeSport g off v
  | 0x4A => m.writeDeal g off v
  | 0x4C => m.writeVc g off v
  | 0x50 => m.writeAcc g off v
  | 0x52 => m.writeShd g off v
  | 0x54 => m.writeCal g off v
  | 0x56 => m.writeMeld t off v
  | 0x57 => m.writeOutf t off v
  | 0x58 => m.writeChk t off v
  | 0x5C => (m.writeQue t off v).map fun m => m.dmaFree t
  | 0x5D => m.writeKitty t off v
  | 0x5E => m.writeDma t off v
  | 0x5F => m.writeDram t off v
  | 0x60 => m.writeHostp t off v
  | 0x61 => m.writePcie t off v
  | 0x62 => m.writeEth t off v
  | 0x63 => m.writeThaig t off v
  | 0x68 => m.writeAxis g off v
  | 0x6A => m.writePace t off v
  | 0x6C => m.writeLamp g off v
  | 0x6E => m.writeLchain t off v
  | 0x6F => m.writePatt t off v
  | 0x70 => m.writeMon t off v
  | 0x71 => m.writeFe t off v
  | 0x72 => m.writeMeas t off v
  | 0x74 => m.writeTwc t off v
  | 0x75 => some ((m.genericWrite pk off v).ballEdges t (m.gpioLevels t))
  | 0x76 => m.writeSspi t off v
  | _ => none

/-- Page TILE: the interrupt summaries (R128). -/
def summaryRead (m : Mach) (t off : Nat) : Option Word :=
  match off with
  | 0x080 => some (BitVec.ofNat 32 (m.tileIrq t 0))
  | 0x084 => some (BitVec.ofNat 32 (m.tileIrq t 0 / 2 ^ 32))
  | 0x088 => some (BitVec.ofNat 32 (m.tileIrq t 1))
  | 0x08C => some (BitVec.ofNat 32 (m.tileIrq t 1 / 2 ^ 32))
  | _ => none

/-- A tile page register that is computed when read. -/
def blockRead (m : Mach) (pk off : Nat) : Option Word :=
  let t := tileOf pk
  let g := 2 * t + pageOf pk % 2
  match blockCode t (pageOf pk) with
  | 0x40 => m.summaryRead t off
  | 0x45 => m.declRead t off
  | 0x48 => m.sportRead g off
  | 0x4A => m.dealRead g off
  | 0x4C => m.vcRead g off
  | 0x50 => m.accRead g off
  | 0x52 => m.shdRead g off
  | 0x58 => m.chkRead t off
  | 0x5C => m.queRead t off
  | 0x5D => m.kittyRead t off
  | 0x5E => m.dmaRead t off
  | 0x5F => m.dramRegRead t off
  | 0x60 => m.hostpRead t off
  | 0x61 => m.pcieRead t off
  | 0x62 => m.ethRead t off
  | 0x68 => m.axisRead g off
  | 0x6C => m.lampRead g off
  | 0x6E => m.lchainRead t off
  | 0x70 => m.monRead t off
  | 0x72 => m.measRead t off
  | 0x74 => m.twcRead t off
  | 0x75 => m.gpioRead t off
  | 0x76 => m.sspiRead t off
  | _ => none

/-! ### Semaphores (R120, R121) -/

/-- Owner of semaphore `n`: 0 free, else the holder's ID. -/
def owner (m : Mach) (n : Nat) : Nat := m.rd P.sem (F.SEM_OWNER_OWNER.nth n)

/-- The port is alive (R125). -/
def alive (m : Mach) (p : Nat) : Bool := m.flag P.ports (if p = 0 then F.PORTS_STAT_ALIVE_A else F.PORTS_STAT_ALIVE_B)

/-- A write of CLAIMn by port `p` (R121). -/
def semClaim (m : Mach) (p n c : Nat) : Mach :=
  let o := m.owner n
  if c = p + 1 then
    if o ≠ 0 then m
    else if m.alive p then m.wr P.sem (F.SEM_OWNER_OWNER.nth n) c
    else (m.errCount P.sem).raise P.ports 9
  else if c = 0 && o = p + 1 then m.wr P.sem (F.SEM_OWNER_OWNER.nth n) 0
  else m.errCount P.sem

/-- Half `h` of the semaphores that the holder with ID `id` holds. -/
def heldWord (m : Mach) (id h : Nat) : Nat :=
  ((List.range 32).map fun i => if m.owner (32 * h + i) = id then 2 ^ i else 0).sum

/-! ### Guards (R123, R124) -/

/-- Semaphores that guard a page. -/
def guardSems (m : Mach) (pk : Nat) : List Nat :=
  (List.range 64).filterMap fun n =>
    let w := (m.word P.guard (0x040 + 4 * n)).toNat
    let t := bits w 27 24
    if bit w 31 && bits w 15 8 = pageOf pk && (t = tileOf pk || (t = 15 && decide (tileOf pk < 8))) then some (bits w 5 0) else none

/-- A write of port `p` to a register of the page is ignored by a guard. INT_RAW and the pages SEM, PORTS and GUARD are not guarded (log entry 91). -/
def guardBlocks (m : Mach) (p pk off : Nat) : Bool :=
  off ≠ 0x010 && !([P.sem, P.ports, P.guard].contains pk) && (m.guardSems pk).any fun n => m.owner n ≠ p + 1

/-- A guard entry that is valid admits only the holder of its semaphore. -/
def entryBlocks (m : Mach) (p n : Nat) : Bool :=
  m.flag P.guard (F.GUARD_ENTRY_VALID.nth n) && m.owner (m.rd P.guard (F.GUARD_ENTRY_SEM.nth n)) ≠ p + 1

/-- A write ignored by a guard, counted for its port. -/
def guardCount (m : Mach) (p : Nat) : Mach :=
  (m.inc P.guard (if p = 0 then F.GUARD_BLOCKED_A_COUNT else F.GUARD_BLOCKED_B_COUNT)).raise P.guard 0

/-- A write of ENTRYn (log entry 91). -/
def writeEntryN (m : Mach) (p n : Nat) (v : Word) : Mach :=
  if m.entryBlocks p n then m.guardCount p
  else
    let m := m.genericWrite P.guard (0x040 + 4 * n) v
    if bit v.toNat 31 && bits v.toNat 27 24 = 14 && [1, 2, 4].contains (bits v.toNat 15 8) then
      (m.wr P.guard (F.GUARD_ENTRY_VALID.nth n) 0).errCount P.guard
    else m

/-! ### Keepalive (R125, R126) -/

def kaWindow (m : Mach) (p : Nat) : Nat := m.rd P.ports (if p = 0 then F.PORTS_KA_WIN_A_MS else F.PORTS_KA_WIN_B_MS)
def kaEnd (m : Mach) (p : Nat) : Nat := if p = 0 then m.kaWinA else m.kaWinB

/-- A write of KEEPALIVE: the port is alive and its window runs anew, in CLK_PIPE cycles in which a declarer serves (log entry 92). -/
def keepalive (m : Mach) (p : Nat) : Mach :=
  let n := m.kaClock + m.kaWindow p * 500000
  let m := m.wr P.ports (if p = 0 then F.PORTS_STAT_ALIVE_A else F.PORTS_STAT_ALIVE_B) 1
  if p = 0 then { m with kaWinA := n } else { m with kaWinB := n }

/-- A port's window ends: it is not alive, its semaphores are released, SEM_LOST goes to the other port. While no declarer serves the
package the windows are frozen (log entry 92). -/
def keepaliveExpiry (m : Mach) (p : Nat) : Mach :=
  if m.declarer.isNone || !m.alive p then m
  else
    let m := if m.kaEnd p ≤ m.kaClock then m else m.passCycles (m.kaEnd p - m.kaClock)
    let m := (List.range 64).foldl (fun m n => if m.owner n = p + 1 then m.wr P.sem (F.SEM_OWNER_OWNER.nth n) 0 else m) m
    let m := m.wr P.ports (if p = 0 then F.PORTS_STAT_ALIVE_A else F.PORTS_STAT_ALIVE_B) 0
    let m := m.wr P.ports (if p = 0 then F.PORTS_STAT_WAS_LOST_A else F.PORTS_STAT_WAS_LOST_B) 1
    m.raise P.ports p

/-! ### Pages PORTS and MODE -/

/-- A write to PORTS (R127, R130, R514) (log entry 85). -/
def writePorts (m : Mach) (p off : Nat) (v : Word) : Mach :=
  let n := bits v.toNat 5 0
  if off = 0x06C then (if n ≤ 8 then { m with msixArmed := putBit m.msixArmed n true } else m.errCount P.ports)
  else if m.viewOf.isSome then m.errCount P.ports
  else match off with
  | 0x044 => m.keepalive p
  | 0x048 | 0x04C => if bits v.toNat 15 0 = 0 then m.errCount P.ports else m.genericWrite P.ports off v
  | 0x054 => if bit v.toNat 0 then m.detach else m
  | _ => m.genericWrite P.ports off v

/-- A write of TILE_CMD (R136, R141): PREP bits, then DORM bits, each in ascending order of tile. -/
def tileCommand (m : Mach) (v : Word) : Mach :=
  let n := v.toNat
  let m := (List.range 8).foldl (fun m t => if bit n t then m.prepStart t else m) m
  (List.range 8).foldl (fun m t => if bit n (8 + t) then m.dormantRequest t else m) m

/-- A write to MODE (R132–R134, R139). -/
def writeMode (m : Mach) (off : Nat) (v : Word) : Mach :=
  let h := off % 0x40 / 4
  match off / 0x40 with
  | 1 => m.writeHandCfg h v
  | 2 | 4 | 5 => if m.handOpen h then m.genericWrite P.mode off v else m.refuseMode
  | 3 => m.handCommand h (bits v.toNat 3 0)
  | 6 => if m.dealOpen h then m.refuseMode else m.genericWrite P.mode off v
  | _ => if off = 0x2A0 then m.tileCommand v else m.genericWrite P.mode off v

/-- A write to a block register of a global page. -/
def globalWrite (m : Mach) (p pk off : Nat) (v : Word) : Mach :=
  if pk = P.sem then
    if off < 0x140 then (if m.viewOf.isSome then m.errCount pk else m.semClaim p ((off - 0x040) / 4) (bits v.toNat 1 0))
    else m.genericWrite pk off v
  else if pk = P.ports then m.writePorts p off v
  else if pk = P.mode then m.writeMode off v
  else if pk = P.guard && decide (off < 0x140) then m.writeEntryN p ((off - 0x040) / 4) v
  else m.genericWrite pk off v

/-- A block register of a global page that is computed when read by port `p`. -/
def globalRead (m : Mach) (p pk off : Nat) : Option Word :=
  let d := m.declarer.getD 0
  let w := fun n => some (BitVec.ofNat 32 n)
  if pk = P.pkg then
    if off = 0x040 then w (match m.part with | .p2 => 0x5702B103 | .p4 => 0x5704B10F | .p8 => 0x5708B1FF) else none
  else if pk = P.sem then
    if off < 0x140 then w (m.owner ((off - 0x040) / 4))
    else match off with
    | 0x240 => w (m.heldWord 1 0)
    | 0x244 => w (m.heldWord 1 1)
    | 0x248 => w (m.heldWord 2 0)
    | 0x24C => w (m.heldWord 2 1)
    | _ => none
  else if pk = P.ports then
    match off with
    | 0x040 => w (p + 1)
    | 0x050 => w (putBit (m.word pk off).toNat 16 m.cpb.quad)
    | 0x05C => w (m.irqSum d 0)
    | 0x060 => w (m.irqSum d 1)
    | 0x064 => w (m.globIrq 0)
    | 0x068 => w (m.globIrq 1)
    | _ => none
  else if pk = P.mode then
    if 0x280 ≤ off ∧ off < 0x2A0 then
      let t := (off - 0x280) / 4
      w (if m.present t then putBits (m.word pk off).toNat 2 0 (m.tileMode t) else 7)
    else none
  else none

/-! ### Accesses -/

/-- A write that a served page receives from port `p`, past guards: the page's lock, then the register (R92, R95, R98, R100). -/
def regWrite (m : Mach) (p pk off : Nat) (v : Word) : Mach :=
  if m.flag pk F.PAGE_CTRL_LOCK && !([0x004, 0x010, 0x030].contains off) then m.errCount pk
  else if pk = P.ports && m.viewOf.isSome && decide (off < 0x040) && off ≠ 0x010 then m.errCount pk
  else if off < 0x040 then m.writeHeader pk off v
  else if 0x800 ≤ off then m.errCount pk
  else match rowOf pk off with
  | none => m.errCount pk
  | some _ =>
    if hasWindow (tileOf pk) (pageOf pk) && decide (0x200 ≤ off) && decide (off < 0x21C) then m.winWrite pk off v
    else if tileOf pk = 14 then m.globalWrite p pk off v
    else (m.blockWrite pk off v).getD (m.genericWrite pk off v)

/-- A register of a served page as port `p` reads it: WIN_DATA zero while INDEX lies outside the selected array (R105); at offset x + 0x800 the active copy of the RWS register at x (R100). -/
def regRead (m : Mach) (p pk off : Nat) : Word :=
  if off < 0x040 then m.readHeader pk off
  else if 0x800 ≤ off then
    match rowOf pk (off - 0x800) with
    | none => 0
    | some r => m.word pk off &&& BitVec.ofNat 32 r.rws
  else match rowOf pk off with
  | none => 0
  | some _ =>
    if hasWindow (tileOf pk) (pageOf pk) && decide (0x20C ≤ off) && decide (off < 0x21C) && !m.winInside pk then 0
    else ((if tileOf pk = 14 then m.globalRead p pk off else m.blockRead pk off).getD (m.word pk off))

/-- A write to one page. -/
def writeOne (m : Mach) (p e tf addr : Nat) (v : Word) : Mach :=
  let pg := fieldPage addr
  let off := fieldOff addr
  let pk := pageKey tf pg
  match m.target e tf pg off with
  | .page => (if m.guardBlocks p pk off then m.guardCount p else m.regWrite p pk off v).accessWake tf pg
  | x => m.missed x tf pg

/-- A tile that a broadcast write misses (R109) (log entry 109). -/
def bcastMiss (m : Mach) : Mach := (m.inc P.ports F.PORTS_BCAST_MISS_COUNT).raise P.ports 8

/-- A write of port `p` in the view it meets (R91) (log entry 109). -/
def busWrite (m : Mach) (p e addr : Nat) (v : Word) : Mach :=
  let tf := fieldTile addr
  if tf ≠ 15 then m.writeOne p e tf addr v
  else if !pageExists 0 (fieldPage addr) then m.badAddr
  else (List.range m.nTiles).foldl (fun m t =>
    if m.answers t && m.reaches e t then m.writeOne p e t addr v else m.bcastMiss) m

/-- Tile field of a read: a broadcast read is tile 0's (R91). -/
def readField (addr : Nat) : Nat := if fieldTile addr = 15 then 0 else fieldTile addr

/-- The word that a read of port `p` entering at tile `e` returns (R91, R92, R109). -/
def hostRead (m : Mach) (p e addr : Nat) : Word :=
  m.viewed e fun m =>
    let tf := readField addr
    if m.target e tf (fieldPage addr) (fieldOff addr) = .page then m.regRead p (pageKey tf (fieldPage addr)) (fieldOff addr) else 0

/-- What a read leaves: nothing but the counts of R91, R63 and R109 (R95). -/
def readEffect (m : Mach) (e addr : Nat) : Mach :=
  m.inSeg e fun m => m.missed (m.target e (readField addr) (fieldPage addr) (fieldOff addr)) (readField addr) (fieldPage addr)

/-- A write of port `p` that enters at tile `e`. -/
def hostWrite (m : Mach) (p e addr : Nat) (v : Word) : Mach := m.inSeg e fun m => m.busWrite p e addr v

/-- The access is answered under R91, R92 or R109 (R117, R450); a broadcast read is tile 0's (log entry 115). -/
def addrErr (m : Mach) (e addr : Nat) : Bool :=
  m.viewed e fun m =>
    let x := m.target e (readField addr) (fieldPage addr) (fieldOff addr)
    x = .bad || x = .unreach

/-- A write is answered so: for a broadcast one, on any tile that misses it (log entry 115). -/
def writeErr (m : Mach) (e addr : Nat) : Bool :=
  m.viewed e fun m =>
    if fieldTile addr = 15 then !pageExists 0 (fieldPage addr) || (List.range m.nTiles).any fun t => !(m.answers t && m.reaches e t)
    else m.addrErr e addr

/-- The write of one page is ignored by a guard. -/
def blockedOne (m : Mach) (p e tf addr : Nat) : Bool :=
  let pk := pageKey tf (fieldPage addr)
  let off := fieldOff addr
  m.target e tf (fieldPage addr) off = .page &&
    (m.guardBlocks p pk off ||
      (pk = P.guard && decide (0x040 ≤ off) && decide (off < 0x140) && !m.flag pk F.PAGE_CTRL_LOCK && m.entryBlocks p ((off - 0x040) / 4)))

/-- The write is ignored by a guarded page on some tile (R117, R450). -/
def writeBlocked (m : Mach) (p e addr : Nat) : Bool :=
  m.viewed e fun m =>
    if fieldTile addr = 15 then (List.range m.nTiles).any fun t => m.blockedOne p e t addr
    else m.blockedOne p e (fieldTile addr) addr

end Sys2Proof.Machine.Mach
end

