-- ==== Sys2Proof/Machine/Pins.lean ====
section
/-!
DEFINITION. The levels of the signal balls (R36, R44–R49, R62, R74): what each holds after a power-on reset, what its block drives, and
the boundary-scan chain over them (R41). A ball of a tile is its position in R36, a package signal its row in R38 (log entry 90).
-/

namespace Sys2Proof.Machine

/-- What the part drives on a ball: low, high, or nothing. -/
inductive Lvl where
  | low | high | z
deriving DecidableEq, Repr

/-- The level of a Boolean output. -/
def Lvl.of (b : Bool) : Lvl := if b then .high else .low

/-- An open-drain output: low or released. -/
def Lvl.openDrain (pulled : Bool) : Lvl := if pulled then .low else .z

namespace Mach

/-- Position of a cluster's ball within its block, for balls that both clusters have: `base` on cluster 0, `base + step` on cluster 1. -/
def inBlock (base len step p : Nat) : Option (Nat × Nat) :=
  if base ≤ p ∧ p < base + len then some (0, p - base)
  else if base + step ≤ p ∧ p < base + step + len then some (1, p - base - step)
  else none

/-- What a ball of a tile holds after a power-on reset, and whenever its block does not drive it (R44, R48, R49, R62) (log entry 124). -/
def resetLevel (p : Nat) : Lvl :=
  match inBlock 0 53 62 p with
  | some (_, q) => if q = 51 then .high else if 30 ≤ q ∧ q ≤ 49 then .low else .z
  | none =>
  match inBlock 53 9 62 p with
  | some (_, q) => if q = 0 then .low else .z
  | none =>
  match inBlock 124 14 14 p with
  | some (_, q) => if q ≤ 2 ∨ q = 10 ∨ q = 11 then .low else .z
  | none =>
  match inBlock 236 37 38 p with
  | some (_, q) => if q = 27 then .high else .low
  | none => if (152 ≤ p ∧ p ≤ 160) ∨ p = 203 ∨ p = 204 ∨ p = 273 then .low else .z

/-! ### Sensor SPI (R178) -/

/-- Half clock periods since CS_N fell for the frame in the shifter; none while no frame holds CS_N low. -/
def spiHalves (m : Mach) (g n : Nat) : Option Nat :=
  let s := (m.clu g).spi
  if s.shift.isNone || decide (n < s.start) then none
  else
    let e := (n - s.start) / m.spiHalf g
    if e ≤ 2 * m.spiBits g || (m.flag (P.sspi (g / 2)) (F.SSPI_CFG_CS_HOLD.nth (g % 2)) && !s.tx.isEmpty) then some e else none

/-- Level of SPc_CS_N. -/
def csPin (m : Mach) (g n : Nat) : Bool := (m.spiHalves g n).isNone

/-- Level of SPc_SCK: at rest as CPOL says, and the other level after each odd edge. -/
def sckPin (m : Mach) (g n : Nat) : Bool :=
  let e := match m.spiHalves g n with | some e => min e (2 * m.spiBits g) | none => 0
  bit (m.spiMode g) 1 != decide (e % 2 = 1)

/-- Level of SPc_MOSI: with CPHA 0 a bit stands before the odd edge that samples it, with CPHA 1 from that edge on; low at rest (log entry 124). -/
def mosiPin (m : Mach) (g n : Nat) : Bool :=
  match m.spiHalves g n, (m.clu g).spi.shift with
  | some e, some f =>
    let k := if bit (m.spiMode g) 0 then (e - 1) / 2 else e / 2
    !(bit (m.spiMode g) 0 && e = 0) && (m.frameBits g f).getD (min k (m.spiBits g - 1)) false
  | _, _ => false

/-! ### Lamp chain, indicators, measurement outputs (R384, R385, R391, R420, R421) -/

/-- Level of LCH_OUT: Manchester bits of 500 ticks, START two periods high, low between frames. -/
def lchPin (m : Mach) (t n : Nat) : Bool :=
  match (m.tile t).sweep with
  | none => false
  | some s =>
    let k := (n - s.start) / 500
    let b := bit (m.sweepFrame t s) k
    if n < s.start || decide (59 ≤ k) then false
    else if k < 2 then true
    else if (n - s.start) % 500 < 250 then !b else b

/-- Level of INDn: periods of 255 × (PRE + 1) CLK_MON cycles counted from time base 0 (log entry 124). -/
def indPin (m : Mach) (t i n : Nat) : Bool :=
  let pre := m.rd (P.patt t) F.PATT_IND_PWM_PRE + 1
  m.live t D.lamp &&
    (decide (n / 8 % (255 * pre) < m.indLevel t i * pre) != m.flag (P.patt t) (F.PATT_IND_INV.nth i))

/-- Level of MEASo (log entry 132); low while it is off or failsafe, whatever INV says. -/
def measPin (m : Mach) (t o n : Nat) : Bool :=
  let pk := P.meas t
  let m := m.measSettle t o
  m.live t D.aux && m.enabled pk && m.flag pk (F.MEAS_OUT_CFG_EN.nth o) && !m.flag pk (F.MEAS_OUT_STAT_FAILSAFE.nth o) &&
    (decide ((n - (vget (m.tile t).meas o).epoch) / 8 % (m.measWave t o).2 < (m.measWave t o).1) != m.flag pk (F.MEAS_OUT_CFG_INV.nth o))

/-! ### Host lanes, DRAM -/

/-- Host lanes that the configuration in force uses (R426). -/
def lanesUsed (m : Mach) (t : Nat) : Nat :=
  let c := (m.host t).cfg
  match m.hostMode t with
  | 1 => 2 ^ bits c 13 12
  | 2 => (match bits c 10 8 with | 3 => 2 | 4 => 4 | _ => 1)
  | _ => 0

/-- A transmit lane is in electrical idle: unused, without power, its endpoint held by HP_PERST_N, or REFCLK lost (R74, R426, R437). -/
def laneIdle (m : Mach) (t l : Nat) : Bool :=
  !m.hostPower t || m.refLost || decide (m.lanesUsed t ≤ l) || (m.hostMode t = 1 && (m.host t).perstLow)

/-- A DRAM ball of a sub-channel while the controller has power: what is no traffic (R46). With LPDDR4X, WCK0_T is CKE, and WCK0_C,
WCK1_T, WCK1_C and CA6 are driven low. -/
def dramBall (m : Mach) (t q : Nat) : Option Lvl :=
  if m.rd (P.dram t) F.DRAM_CFG_TYPE = 2 && (q = 23 || q = 24 || q = 25 || q = 34) then some .low else none

/-- DDR_RESET_N: high once a device has been brought up, in self-refresh too; not settled after a training that failed (R44, R483) (log entry 124). -/
def dramResetPin (m : Mach) (t : Nat) : Option Lvl :=
  let pk := P.dram t
  if (m.tile t).dramAon.isSome then some .high
  else if !m.live t D.dram then some .low
  else if m.flag pk F.DRAM_STAT_TRAINED || m.flag pk F.DRAM_STAT_TRAINING then some .high
  else if m.rd pk F.DRAM_STAT_TRAIN_STEP ≠ 0 then none else some .low

/-! ### Every ball -/

/-- A level while domain `d` of tile `t` drives, else the ball's level after a power-on reset (R49, R62). -/
def whileLive (m : Mach) (t d p : Nat) (l : Option Lvl) : Option Lvl := if m.live t d then l else some (resetLevel p)

/-- What the part drives at time base `n` on the ball at position `p` of tile `t`; none for data traffic and analog levels, which the
commands report instead (R36, R44) (log entry 124). -/
def ballOut (m : Mach) (t p n : Nat) : Option Lvl :=
  match inBlock 0 53 62 p with
  | some (c, q) =>
    let g := 2 * t + c
    m.whileLive t (D.sport c) p
      (if q = 30 then some (.of (m.mclkPin g n)) else if q = 31 then some (.of (m.mclkNPin g n))
       else if 32 ≤ q ∧ q ≤ 47 then some (.of (m.toPin g (q - 32) n))
       else if q = 48 then some (.of (m.sckPin g n)) else if q = 49 then some (.of (m.mosiPin g n))
       else if q = 51 then some (.of (m.csPin g n)) else some (resetLevel p))
  | none =>
  match inBlock 53 9 62 p with
  | some (c, q) =>
    m.whileLive t D.lamp p (if q = 0 then (if m.flag (P.lamp (2 * t + c)) F.LAMP_STAT_BST_RUN then none else some .low)
      else if 3 ≤ q then none else some .z)
  | none =>
  match inBlock 124 14 14 p with
  | some (c, q) =>
    let g := 2 * t + c
    let phase := n % m.rd (P.axis g) F.AXIS_IREF_PER_PER
    m.whileLive t D.mot p
      (match q with
       | 0 => some (.of (m.stepPin g n)) | 1 => some (.of (m.dirPin g n)) | 2 => some (.of (m.drvEnPin g))
       | 10 => some (.of (decide (phase < m.irefActive g false))) | 11 => some (.of (decide (phase < m.irefActive g true)))
       | _ => some .z)
  | none =>
  match inBlock 236 37 38 p with
  | some (_, q) => m.whileLive t D.dram p (m.dramBall t q)
  | none =>
    if p = 152 then m.whileLive t D.lamp p (some (.of (m.lchPin t n)))
    else if 153 ≤ p ∧ p ≤ 160 then m.whileLive t D.lamp p (some (.of (m.indPin t (p - 153) n)))
    else if 162 ≤ p ∧ p ≤ 193 then m.whileLive t D.mon p (if (p - 162) % 4 < 2 then none else some .z)
    else if p = 203 ∨ p = 204 then m.whileLive t D.aux p (some (.of (m.measPin t (p - 203) n)))
    else if p = 205 ∨ p = 206 then
      m.whileLive t D.aux p (if m.twcBusy t || m.flag (P.twc t) F.TWC_STAT_CLEARING then none else some .z)
    else if 212 ≤ p ∧ p ≤ 219 then
      m.whileLive t D.aux p (some (if m.enabled (P.gpio t) && bit (m.rd (P.gpio t) F.GPIO_DIR_OE) (p - 212) then
        .of (bit (m.rd (P.gpio t) F.GPIO_OUT_LEVEL) (p - 212)) else .z))
    else if 220 ≤ p ∧ p ≤ 227 then (if m.laneIdle t ((p - 220) / 2) then some .z else none)
    else if p = 273 then m.dramResetPin t
    else if p = 313 then some (.openDrain (m.clkreqLow t))
    else some (resetLevel p)

/-- What the part drives on package signal `k`, a row of R38: PPS_OUT, the interrupt pins, JTAG_TDO; nothing on CPB_IO outside a frame. -/
def pkgOut (m : Mach) (k : Nat) : Lvl :=
  match k with
  | 4 => .of m.ppsOut
  | 5 => .openDrain m.pinA
  | 6 => .openDrain m.pinB
  | 23 => match m.jtag.tdo with | some b => .of b | none => .z
  | _ => .z

/-! ### The boundary-scan chain (R41) -/

/-- A ball that the boundary-scan chain covers, a CMOS or open-drain signal ball (R41, R44) (log entry 90). -/
def scanned (p : Nat) : Bool :=
  (match inBlock 0 53 62 p with | some (_, q) => decide (30 ≤ q ∧ q ≤ 51) | none => false) || p = 53 || p = 115 ||
  (match inBlock 124 14 14 p with | some (_, q) => decide (q ≤ 11) | none => false) ||
  decide ((152 ≤ p ∧ p ≤ 160) ∨ (203 ≤ p ∧ p ≤ 219) ∨ (312 ≤ p ∧ p ≤ 314))

/-- Balls in tile `t`'s section of the chain: its own, and on tile 0 the package signals but REFCLK and the TAP's own, numbered from 315
(R38, R39, R41); their order is the part's own (log entry 90). -/
def scanSection (t : Nat) : List Nat :=
  let own := (List.range 315).filter scanned
  let pkg := if t = 0 then 315 :: (List.range 17).map (· + 318) else []
  (own ++ pkg).mergeSort fun a b => decide (Config.scanRank t a ≤ Config.scanRank t b)

/-- The cells of the chain through tiles 0 … n − 1 in order: a ball's own, after further cells of the part (R41) (log entry 90). -/
def scanCells (m : Mach) : List (Option (Nat × Nat)) :=
  (List.range m.nTiles).flatMap fun t =>
    (scanSection t).flatMap fun p => List.replicate (Config.cellsBefore t p) none ++ [some (t, p)]

/-- What the part drives on a ball of the chain (numbers from 315 on are package signals). -/
def scanOut (m : Mach) (t p : Nat) : Option Lvl := if p < 315 then m.ballOut t p (m.now t) else some (m.pkgOut (p - 315))

/-- What the board drives on an input ball of the chain, where a command has reported it. -/
def scanIn (m : Mach) (t p : Nat) : Option Bool :=
  match inBlock 124 14 14 p with
  | some (c, q) =>
    let s := (m.clu (2 * t + c)).axis
    if q = 3 then some !s.drvFault else if 7 ≤ q ∧ q ≤ 9 then some (bit s.lim (q - 7)) else none
  | none =>
    let ts := m.tile t
    if p = 205 then some ts.twc.scl else if p = 206 then some ts.twc.sda else if p = 207 then some !ts.twc.alertLow
    else if 208 ≤ p ∧ p ≤ 211 then some (bit ts.trig (p - 208))
    else if 212 ≤ p ∧ p ≤ 219 then some (bit ts.gpioIn (p - 212))
    else if p = 312 then some !ts.host.perstLow else none

/-- What a cell captures: the level of its ball where the part drives it or a command has reported it (log entry 90). -/
def scanLevel (m : Mach) (x : Option (Nat × Nat)) : Option Bool :=
  match x with
  | none => none
  | some (t, p) =>
    match m.scanOut t p with
    | some .low => some false
    | some .high => some true
    | _ => m.scanIn t p

/-- Bits, with a free value where one is not known (log entries 3, 90). -/
def fillFree : List (Option Bool) → Mach → List Bool × Mach
  | [], m => ([], m)
  | some b :: r, m =>
    let (l, m) := fillFree r m
    (b :: l, m)
  | none :: r, m =>
    let (b, m) := m.freeBool
    let (l, m) := fillFree r m
    (b :: l, m)

/-- The boundary-scan chain is between TDI and TDO; BYPASS, all ones, and the state after a reset select the bypass bit (log entry 90). -/
def chainSelected (j : JtagSt) : Bool :=
  match j.inst with
  | some i => i.any (! ·) && Config.selectsChain i
  | none => false

/-- An instruction that hands the balls to the update register (EXTEST); R41 names no codes (log entry 90). -/
def scanDrives (j : JtagSt) : Bool :=
  match j.inst with
  | some i => chainSelected j && Config.drivesBalls i
  | none => false

/-- An open-drain ball: HP_CLKREQ_N, HP_WAKE_N, the two-wire lines, the interrupt pins (R38, R44). -/
def openDrainBall (p : Nat) : Bool := [205, 206, 313, 314, 320, 321].contains p

/-- A ball of the chain that has an output (R38, R44). -/
def canDrive (p : Nat) : Bool :=
  (decide (p < 315) && resetLevel p ≠ .z) || openDrainBall p || decide ((212 ≤ p ∧ p ≤ 219) ∨ p = 319 ∨ (324 ≤ p ∧ p ≤ 327))

/-- The level on a ball of the chain at time base `n`: under EXTEST an output takes its cell's update bit, or nothing where the update
register disables it (log entry 90); else what its block drives. Outside the chain EXTEST changes nothing. -/
def ballLevel (m : Mach) (t p : Nat) : Option Lvl :=
  match m.scanCells.findIdx? (· = some (t, p)) with
  | some k =>
    if scanDrives m.jtag && canDrive p then
      let b := m.jtag.update.getD k false
      some (if !Config.cellDrives m.jtag.update t p then .z else if openDrainBall p then .openDrain !b else .of b)
    else m.scanOut t p
  | none => m.scanOut t p

end Mach
end Sys2Proof.Machine
end

