-- ==== Sys2Proof/Machine/Cpb.lean ====
section
/-!
DEFINITION. Control port B (R113–R119) and the JTAG test access port (R41): frames with their CRC, the write queue, reads that complete
in the background, STAT.
-/

namespace Sys2Proof.Machine.Mach

/-- The state of control port B changed. -/
def modCpb (m : Mach) (f : CpbSt → CpbSt) : Mach := { m with cpb := f m.cpb }

/-- Accesses to a global page wait: no declarer that answers serves the segment of tile `e` (R107). -/
def globalsHeld (m : Mach) (e : Nat) : Bool :=
  match m.serving e with
  | none => true
  | some d => !(m.answers d && m.reaches e d)

/-- An access that enters at tile `e` waits for a declarer (log entry 13). -/
def waits (m : Mach) (e addr : Nat) : Bool := fieldTile addr = 14 && decide (fieldPage addr ≤ 6) && m.globalsHeld e

/-- A frame with a bad host CRC: counted, shown in the next STAT (R115). -/
def cpbCrcBad (m : Mach) : Mach :=
  (m.inSeg 0 fun m => m.inc P.ports F.PORTS_CPB_ERR_CRC).modCpb fun s => { s with crcErr := true }

/-- A frame discarded and counted (R114). -/
def cpbDiscard (m : Mach) : Mach :=
  if m.cpb.usable then m.inSeg 0 fun m => (m.inc P.ports F.PORTS_CPB_ERR_FRAME).raise P.ports 5 else m

/-- A frame received whole: its effect when its CRC is good. Before the port is usable nothing is received (R115, R116). -/
def cpbFrame (m : Mach) (bytes : List Byte) (crc : Nat) (f : Mach → Mach) : Mach :=
  if !m.cpb.usable then m else if crc8 bytes = crc then f m else m.cpbCrcBad

/-- The STAT byte (R117). -/
def cpbStat (s : CpbSt) (pend reject : Bool) : Nat :=
  pend.toNat * 128 + reject.toNat * 64 + s.crcErr.toNat * 32 + s.addrErr.toNat * 16 + s.blocked.toNat * 8 + s.wseq % 8

/-- The part phase of a READ or FETCH: STAT, DATA, CRC; the flags reported clear (R114, R117). -/
def cpbAnswer (m : Mach) (pend : Bool) (data : Word) : Mach :=
  let body := BitVec.ofNat 8 (cpbStat m.cpb pend m.cpb.reject) :: beBytes 4 data.toNat
  (m.emitOut (.cpb (body ++ [BitVec.ofNat 8 (crc8 body)]))).modCpb fun s =>
    { s with reject := false, crcErr := false, addrErr := false, blocked := false }

/-- A WRITE frame (R114, R116). -/
def cpbWrite (m : Mach) (addr data crc : Nat) : Mach :=
  m.cpbFrame (BitVec.ofNat 8 0x02 :: beBytes 3 addr ++ beBytes 4 data) crc fun m => m.modCpb fun s =>
    if 16 ≤ s.writes.length then { s with reject := true }
    else { s with writes := s.writes ++ [(addr, BitVec.ofNat 32 data)], wseq := (s.wseq + 1) % 8 }

/-- The write at the head of the queue is applied, once tile 0's path answers and no earlier read waits (R108, R116, R119). -/
def cpbWriteApply (m : Mach) : Mach :=
  match m.cpb.writes with
  | [] => m
  | (a, v) :: rest =>
    let readFirst := match m.cpb.reading with | some (_, k) => k = 0 | none => false
    if readFirst || !m.answers 0 || m.waits 0 a then m
    else
      let ae := m.writeErr 0 a
      let bl := m.writeBlocked 1 0 a
      (m.modCpb fun s =>
        { s with writes := rest, reading := s.reading.map fun r => (r.1, r.2 - 1), addrErr := s.addrErr || ae,
                 blocked := s.blocked || bl }).hostWrite 1 0 a v

/-- A read whose time has come is made (R116): tile 0's path answers and every earlier write of the port has been applied (R108). -/
def cpbReadDone (m : Mach) : Mach :=
  match m.cpb.reading with
  | none => m
  | some (a, k) =>
    if k ≠ 0 || !m.answers 0 || m.waits 0 a then m
    else
      let v := m.hostRead 1 0 a
      let ae := m.addrErr 0 a
      (m.readEffect 0 a).modCpb fun s => { s with reading := none, result := some v, addrErr := s.addrErr || ae }

/-- A READ frame: `ready` when the register is there by the start of STAT, `cut` when CPB_CS_N rises before the part's CRC (R114,
R116). -/
def cpbRead (m : Mach) (addr crc : Nat) (ready cut : Bool) : Mach :=
  m.cpbFrame (BitVec.ofNat 8 0x0B :: beBytes 3 addr) crc fun m =>
    let m :=
      if m.cpb.reading.isSome then m.modCpb fun s => { s with reject := true }
      else
        let m := m.modCpb fun s => { s with reading := some (addr, s.writes.length), result := none }
        if ready then m.cpbReadDone else m
    if cut then m.cpbDiscard else m.cpbAnswer m.cpb.reading.isSome (if m.cpb.reading.isSome then 0 else m.cpb.result.getD 0)

/-- A FETCH frame (R116). -/
def cpbFetch (m : Mach) (crc : Nat) : Mach :=
  m.cpbFrame [BitVec.ofNat 8 0x0D, 0, 0, 0] crc fun m =>
    m.cpbAnswer m.cpb.reading.isSome (if m.cpb.reading.isSome then 0 else m.cpb.result.getD 0)

/-- A SET_QUAD or SET_SINGLE frame (R114). -/
def cpbLanes (m : Mach) (cmd crc : Nat) (quad : Bool) : Mach :=
  m.cpbFrame (BitVec.ofNat 8 cmd :: List.replicate 7 0) crc fun m => m.modCpb fun s => { s with quad }

/-! ### JTAG (R41) -/

/-- The TAP controller's next state on a rising edge of TCK (IEEE 1149.1) (log entry 90). -/
def Tap.next (s : Tap) (tms : Bool) : Tap :=
  match s, tms with
  | .reset, true => .reset | .reset, false => .idle
  | .idle, true => .selDr | .idle, false => .idle
  | .selDr, true => .selIr | .selDr, false => .capDr
  | .capDr, true => .ex1Dr | .capDr, false => .shDr
  | .shDr, true => .ex1Dr | .shDr, false => .shDr
  | .ex1Dr, true => .updDr | .ex1Dr, false => .pauDr
  | .pauDr, true => .ex2Dr | .pauDr, false => .pauDr
  | .ex2Dr, true => .updDr | .ex2Dr, false => .shDr
  | .updDr, true => .selDr | .updDr, false => .idle
  | .selIr, true => .reset | .selIr, false => .capIr
  | .capIr, true => .ex1Ir | .capIr, false => .shIr
  | .shIr, true => .ex1Ir | .shIr, false => .shIr
  | .ex1Ir, true => .updIr | .ex1Ir, false => .pauIr
  | .pauIr, true => .ex2Ir | .pauIr, false => .pauIr
  | .ex2Ir, true => .updIr | .ex2Ir, false => .shIr
  | .updIr, true => .selDr | .updIr, false => .idle

/-- A bit shifted in at the far end. -/
def shiftIn (l : List Bool) (b : Bool) : List Bool := l.drop 1 ++ [b]

/-- Capture or shift of the state the TAP stands in at a rising edge. -/
def tapAction (m : Mach) (tdi : Bool) : Mach :=
  let j := m.jtag
  match j.tap with
  | .capIr =>
    let (bs, m) := fillFree (List.replicate Config.irBits none) m
    { m with jtag := { j with irShift := true :: false :: bs } }
  | .shIr => { m with jtag := { j with irShift := shiftIn j.irShift tdi } }
  | .capDr =>
    if chainSelected j then
      let (bs, m) := fillFree (m.scanCells.map m.scanLevel) m
      { m with jtag := { j with chain := bs } }
    else { m with jtag := { j with bypass := false } }
  | .shDr => { m with jtag := if chainSelected j then { j with chain := shiftIn j.chain tdi } else { j with bypass := tdi } }
  | _ => m

/-- TDO and the update registers at a falling edge (log entry 90). -/
def tapFall (j : JtagSt) : JtagSt :=
  let j := match j.tap with
    | .updIr => { j with inst := some j.irShift }
    | .updDr => if chainSelected j then { j with update := j.chain } else j
    | .reset => { j with inst := none }
    | _ => j
  let tdo := match j.tap with
    | .shIr => j.irShift.head?
    | .shDr => if chainSelected j then j.chain.head? else some j.bypass
    | _ => none
  { j with tdo }

/-- An edge of JTAG_TCK with the levels of TMS and TDI, or with JTAG_TRST_N low, which holds the test logic in reset (R41). In a power-on or
package reset nothing is driven (R40, R48) (log entry 90). -/
def jtagEdge (m : Mach) (rising tms tdi trstLow : Bool) : Mach :=
  if m.testHeld || (m.tile 0).life = .por then m
  else if trstLow then { m with jtag := {} }
  else if rising then
    let m := m.tapAction tdi
    { m with jtag := { m.jtag with tap := Tap.next m.jtag.tap tms } }
  else
    let j := tapFall m.jtag
    let m := { m with jtag := j }
    match j.tdo with
    | some b => m.emitOut (.tdo b)
    | none => m

end Sys2Proof.Machine.Mach
end

