-- ==== Sys2Proof/Machine/HostCtl.lean ====
section
/-!
DEFINITION. Control port A's paths (R110–R112): BAR0 requests and Thaig control requests, received Ethernet frames; accesses that wait
for a declarer (R107); and what follows every step: islands, the successor, the interrupt pins and MSI-X vectors 0–8 (R129, R130).
-/

namespace Sys2Proof.Machine

/-- The address of a register. -/
def regAddr (tf page off : Nat) : Nat := (tf * 256 + page) * 4096 + off

namespace Mach

/-! ### A register write of a port -/

/-- The tile at which accesses of port `p` enter, while its path stands: port B is usable and tile 0 answers, port A is attached to a tile
that answers (log entry 4). -/
def portEntry (m : Mach) (p : Nat) : Option Nat :=
  let up := if p = 1 then m.cpb.usable else m.flag P.ports F.PORTS_STAT_A_PATH
  if up && m.answers (m.entryTile p) then some (m.entryTile p) else none

/-- Accesses of port `p` wait already: later ones keep their order (R108) (log entry 13). -/
def portWaits (m : Mach) (p : Nat) : Bool :=
  m.heldAcc.any fun x => match x with | .write q _ _ _ => q = p | _ => p = 0

/-- A write of port `p` that enters at tile `e`, or waits for a declarer (R107) (log entry 13). -/
def accessWrite (m : Mach) (p e addr : Nat) (v : Word) : Mach :=
  if m.waits e addr || m.portWaits p then { m with heldAcc := m.heldAcc ++ [.write p e addr v] } else m.hostWrite p e addr v

/-- A write of a word to a register address by a port. Without a path no access reaches the part (log entry 110). -/
def portWrite (m : Mach) (p : Port) (addr : Nat) (v : Word) : Mach :=
  let p := match p with | .a => 0 | .b => 1
  match m.portEntry p with
  | some e => m.accessWrite p e addr v
  | none => m

/-! ### BAR0 (R110, R111, R431, R441) -/

/-- Reads of consecutive words, each an access of its own; the words come back in one completion. -/
def pcieRead0 (m : Mach) (t addr n : Nat) : Mach :=
  let r := (List.range n).foldl (fun (a : Mach × List Word) i =>
    let x := (addr + 4 * i) % 2 ^ 24
    (a.1.readEffect t x, a.2 ++ [a.1.hostRead 0 t x])) (m, [])
  r.1.emitOut (.completion t r.2)

/-- Writes of consecutive words; one whose byte enables are not all set is ignored and counted (R111). -/
def pcieWrite0 (m : Mach) (t addr : Nat) (ws : List (Word × Bool)) : Mach :=
  (ws.zipIdx).foldl (fun m x =>
    if x.1.2 then m.accessWrite 0 t ((addr + 4 * x.2) % 2 ^ 24) x.1.1 else m.inSeg t fun m => m.inc P.ports F.PORTS_BAD_ADDR_COUNT) m

/-- A memory request to BAR0 of tile `t`'s endpoint, poisoned when `ep` (log entries 56, 57). -/
def bar0Request (m : Mach) (t addr : Nat) (req : Bar0Req) (ep : Bool) : Mach :=
  let addr := addr / 4 * 4
  let write := match req with | .write _ => true | .read _ => false
  if !m.wireUp t || m.hostMode t ≠ 1 then m
  else if write && ep then m.poisonRx t
  else if !m.memServed t || !m.ctrlCapable t then m.unsupported t
  else if m.viewed t fun m => m.foreign t then (m.inSeg t countForeign).unsupported t
  else
    let m := m.inSeg t fun m => if m.attachedAt t then m else m.attach t
    match req with
    | .read n =>
      let held := (List.range n).any fun i => m.waits t ((addr + 4 * i) % 2 ^ 24)
      if held || m.portWaits 0 then { m with heldAcc := m.heldAcc ++ [.pcieRead t addr n] } else m.pcieRead0 t addr n
    | .write ws => m.pcieWrite0 t addr ws

/-! ### Thaig control requests (R447–R451) -/

/-- A little-endian field of `k` bytes at offset `o` of a datagram; bytes beyond its end read zero (log entry 62). -/
def dgram (bs : List Byte) (o k : Nat) : Nat := ofLe ((bs.drop o).take k)

/-- Operation `i` of a request: its code, address and data (R449) (log entry 62). -/
def opAt (bs : List Byte) (i : Nat) : Nat × Nat × Nat :=
  (dgram bs (16 + 8 * i) 1, dgram bs (17 + 8 * i) 3, dgram bs (20 + 8 * i) 4)

/-- The request has the form of R449 (log entry 61). -/
def reqFormOk (bs : List Byte) : Bool :=
  let n := dgram bs 2 1
  decide (1 ≤ n) && decide (n ≤ 64) && decide (bs.length = 16 + 8 * n) &&
  (List.range n).all fun i => (opAt bs i).1 = 1 || (opAt bs i).1 = 2

/-- The bytes of a CONTROL_RSP (R450). -/
def rspBytes (m : Mach) (t status count retry seq : Nat) (ops : List Byte) : List Byte :=
  let pk := P.thaig t
  [BitVec.ofNat 8 0xC4, BitVec.ofNat 8 status, BitVec.ofNat 8 count, BitVec.ofNat 8 retry] ++
    leBytes 4 (m.rd pk F.THAIG_SESSION_TAG) ++ leBytes 4 seq ++ leBytes 4 (m.rd pk F.THAIG_SEQ_EXPECT) ++ ops

/-- One operation executed, with its part of the response (R450). -/
def runOp (m : Mach) (t : Nat) (op : Nat × Nat × Nat) : Mach × List Byte :=
  let a := op.2.1
  let ae := (if op.1 = 1 then m.addrErr t a else m.writeErr t a).toNat
  let rsp := fun (stat v : Nat) => BitVec.ofNat 8 stat :: leBytes 3 a ++ leBytes 4 v
  if op.1 = 1 then (m.readEffect t a, rsp ae (m.hostRead 0 t a).toNat)
  else (m.hostWrite 0 t a (BitVec.ofNat 32 op.2.2), rsp (ae + 2 * (m.writeBlocked 0 t a).toNat) 0)

/-- The operations of a request executed in order; the response carries the tag of the request (R450). -/
def runOps (m : Mach) (t mac ip port : Nat) (bs : List Byte) : Mach :=
  let pk := P.thaig t
  let n := dgram bs 2 1
  let seq := dgram bs 8 4
  let m := (m.wr pk F.THAIG_SEQ_EXPECT (seq + 1)).wr pk F.THAIG_SEQ_STAT_SYNCED 1
  let tag := leBytes 4 (dgram bs 4 4)
  let r := (List.range n).foldl (fun (a : Mach × List Byte) i =>
    let x := a.1.runOp t (opAt bs i)
    (x.1, a.2 ++ x.2)) (m, [])
  let full := r.1.rspBytes t 0 n 0 seq r.2
  let rsp := full.take 4 ++ tag ++ full.drop 8
  (r.1.modHost t fun h => { h with resp := rsp }).sendUdp t mac ip port rsp

/-- A request that its sequence number lets through or turns away (R451) (log entries 61, 126). -/
def judgeSeq (m : Mach) (t mac ip port : Nat) (bs : List Byte) : Mach :=
  let pk := P.thaig t
  let seq := dgram bs 8 4
  let exp := m.rd pk F.THAIG_SEQ_EXPECT
  if !m.flag pk F.THAIG_SEQ_STAT_SYNCED || bit (dgram bs 1 1) 0 || seq = exp then
    let m := m.inSeg t fun m => if m.attachedAt t then m else m.attach t
    if (List.range (dgram bs 2 1)).any (fun i => m.waits t (opAt bs i).2.1) then
      { m with heldAcc := m.heldAcc ++ [.thaig t mac ip port bs] }
    else m.runOps t mac ip port bs
  else if (seq + 1) % 2 ^ 32 = exp then
    let old := (m.host t).resp
    (m.inc pk F.THAIG_RETRIES_COUNT).sendUdp t mac ip port (old.take 3 ++ [1] ++ old.drop 4)
  else ((m.inc pk F.THAIG_SEQ_ERR_COUNT).raise pk 2).sendUdp t mac ip port (m.rspBytes t 1 0 0 seq [])

/-- A CONTROL_REQ that was accepted; one of the wrong form is answered and counted (R449–R451, R461) (log entry 61). -/
def acceptedReq (m : Mach) (t mac ip port : Nat) (bs : List Byte) : Mach :=
  let m := m.modHost t fun h => { h with peer := (mac, ip, port) }
  let answer := fun (m : Mach) status => m.sendUdp t mac ip port (m.rspBytes t status 0 0 (dgram bs 8 4) [])
  if !m.ctrlCapable t then answer m 4
  else if !reqFormOk bs then answer (m.inc (P.thaig t) F.THAIG_DROPS_FORMAT) 3
  else if m.viewed t fun m => m.foreign t then answer (m.inSeg t countForeign) 2
  else if m.portWaits 0 then
    if 4 ≤ (m.heldAcc.filter fun x => match x with | .thaig u _ _ _ _ => u = t | _ => false).length then
      m.inc (P.thaig t) F.THAIG_DROPS_BUSY
    else { m with heldAcc := m.heldAcc ++ [.thaig t mac ip port bs] }
  else m.judgeSeq t mac ip port bs

/-- A datagram to Thaig's port (R447, R448). -/
def datagram (m : Mach) (t : Nat) (src : NetSrc) (bs : List Byte) : Mach :=
  let kind := dgram bs 0 1
  if kind = 0xC2 then
    let r := m.admitDatagram t src (dgram bs 4 4)
    if r.2 then r.1.acceptedReq t src.mac.toNat src.ip.toNat src.port.toNat bs else r.1
  else if kind = 0xC3 then m.creditGrant t src (dgram bs 4 4) (dgram bs 2 1) (dgram bs 8 4) (bs.length = 16)
  else m.badFormat t

/-- A CONTROL_REQ datagram arrives (log entry 61). -/
def controlReq (m : Mach) (t : Nat) (src : NetSrc) (bs : List Byte) : Mach :=
  if m.etherUp t then m.datagram t src (BitVec.ofNat 8 0xC2 :: bs) else m

/-- A received Ethernet frame (R442, R443). -/
def ethFrame (m : Mach) (t : Nat) (f : Frame) : Mach :=
  if !m.etherUp t then m
  else if !m.frameOk t f then (m.countRx t f.corr f.uncorr).dropFrame t f.csumOk
  else
    let m := m.countRx t f.corr f.uncorr
    match f.body with
    | .udp _ src bs => m.datagram t src bs
    | b => m.frameEffect t b

/-! ### Accesses that waited (R107) -/

/-- One access that waited is made. -/
def runHeld (m : Mach) (x : HeldAcc) : Mach :=
  match x with
  | .write p e a v => m.hostWrite p e a v
  | .pcieRead t a n => m.pcieRead0 t a n
  | .thaig t mac ip port bs => m.judgeSeq t mac ip port bs

/-- Tile at which a waiting access entered. -/
def heldEntry (x : HeldAcc) : Nat :=
  match x with
  | .write _ e _ _ => e
  | .pcieRead t _ _ => t
  | .thaig t _ _ _ _ => t

/-- Accesses that waited are made in order, once a declarer answers (log entry 13). -/
def replayHeld (m : Mach) : Mach :=
  let go := m.heldAcc.filter fun x => !m.globalsHeld (heldEntry x)
  go.foldl runHeld { m with heldAcc := m.heldAcc.filter fun x => m.globalsHeld (heldEntry x) }

/-! ### What follows every step (R129, R130, R452) -/

/-- The interrupt pins: tile 0 drives them, holds their level while it does not answer (R119, R129), and releases them in DORMANT (R49) (log entry 102). -/
def settlePins (m : Mach) : Mach :=
  if !m.answers 0 then m
  else if (m.tile 0).dormant then { m with pinA := false, pinB := false }
  else { m with pinA := m.pinLow 0, pinB := m.pinLow 1 }

/-- MSI-X vectors 0–8 of port A on tile `t`'s endpoint: an armed vector whose summary bit is 1 sends its message and disarms (R130) (log entry 101). -/
def settleMsix (m : Mach) (t : Nat) : Mach :=
  if m.pathA t ≠ 1 || !m.msixOn t then m
  else
    let s := (m.irqPair t 0).1
    (List.range 9).foldl (fun m v =>
      if bit m.msixArmed v && (if v = 0 then bit s 8 else bit s (v - 1)) then
        { m with msixArmed := putBit m.msixArmed v false }.dueVec t v
      else m) m

/-- What follows every command: waiting accesses, ISLAND, the successor, the interrupt pair of each port, MSI-X, and last the pins. -/
def settle (m : Mach) : Mach :=
  let m := m.replayHeld.settleIsland.followSuccessor
  ((List.range 8).foldl settleMsix ((List.range 8).foldl followPair m)).settlePins

/-- No command waits: one CLK_PIPE cycle passes, and nothing leaves the part (log entry 1). -/
def idle (m : Mach) : Mach := ({ m with out := [] }.passCycles 1).settle

end Mach

end Sys2Proof.Machine
end

