-- ==== Sys2Proof/Machine/State.lean ====
section
/-!
DEFINITION. The state of the block: the commands that wait, first in, first out, and everything the manual gives the part; how a
command can stop; the state before power comes up.
-/

namespace Sys2Proof.Machine

/-- The queue of waiting commands and the part. -/
structure State where
  pending : List Instr
  m : Mach
deriving DecidableEq, Repr

/-- Faults: none. Every access and every event of this part has an effect that its manual gives, a refusal of the part's own (counted,
raised, answered) included. -/
inductive Fault where
deriving DecidableEq, Repr

/-- Refusals of the model. -/
inductive Refusal where
  /-- Raised by an arm of `exec` whose command has no meaning yet. Safe: the machine stops where the hardware goes on. No arm does. -/
  | notModelled (mnemonic : String)
deriving DecidableEq, Repr

/-- The part with no command waiting, held in power-on reset (R55–R58): every register at its reset value, every memory and queue
empty. A run begins with the commands of the start: rails, POWER_ON_RESET_RELEASE and what R58 lists (log entry 4). -/
def State.reset : State := { pending := [], m := { part := .p8 } }

end Sys2Proof.Machine
end

