-- ==== Sys2Proof/Machine/Exec.lean ====
section
/-!
DEFINITION. How a command's effect becomes the next state: what left the part before is forgotten, the effect is made, and what
follows from every change is settled (islands, successor, interrupt pins).
-/

namespace Sys2Proof.Machine

/-- The next state of a command with effect `f`; the queue is not touched. -/
def State.effect (s : State) (f : Mach → Mach) : Host.Outcome State Fault Refusal :=
  .next { s with m := (f { s.m with out := [] }).settle }

end Sys2Proof.Machine
end

