-- ==== Sys2Proof/Machine/HostCmds.lean ====
section
/-!
DEFINITION. Meanings of the commands of host ports and Thaig.
-/

namespace Sys2Proof.Machine

/-- HOST_RESTART (R427). -/
def execHostRestart (p : Port) (t : Fin 8) (v : Word) (s : State) : Host.Outcome State Fault Refusal :=
  s.effect fun m => m.portWrite p (regAddr t 0x20 0x044) (v ||| 1)

/-- LINK_UP (R428). -/
def execLinkUp (t : Fin 8) (gen : Fin 8) (width : Fin 8) (s : State) : Host.Outcome State Fault Refusal :=
  s.effect fun m => m.linkComes t gen width

/-- TRAIN_FAIL (R428). -/
def execTrainFail (t : Fin 8) (s : State) : Host.Outcome State Fault Refusal :=
  s.effect fun m => m.trainFail t

/-- PERST (R437). -/
def execPerst (t : Fin 8) (s : State) : Host.Outcome State Fault Refusal :=
  s.effect fun m => m.perstFalls t

/-- HOT_RESET (R429). -/
def execHotReset (t : Fin 8) (s : State) : Host.Outcome State Fault Refusal :=
  s.effect fun m => m.pcieReset t 2

/-- DL_DOWN (R429). -/
def execDlDown (t : Fin 8) (s : State) : Host.Outcome State Fault Refusal :=
  s.effect fun m => m.pcieReset t 3

/-- FLR (R433). -/
def execFlr (t : Fin 8) (s : State) : Host.Outcome State Fault Refusal :=
  s.effect fun m => m.pcieReset t 4

/-- PCS_LOSS (R429). -/
def execPcsLoss (t : Fin 8) (s : State) : Host.Outcome State Fault Refusal :=
  s.effect fun m => m.pcsLoss t

/-- HOST_SILENT (R429). -/
def execHostSilent (t : Fin 8) (s : State) : Host.Outcome State Fault Refusal :=
  s.effect fun m => m.hostSilent t

/-- DOORBELL (R439). -/
def execDoorbell (t : Fin 8) (q : Fin 32) (v : Word) (beAll : Bool) (ep : Bool) (s : State) : Host.Outcome State Fault Refusal :=
  s.effect fun m => m.doorbell t q v.toNat beAll ep

/-- ETH_FRAME_RECEIVED (R443). -/
def execEthFrameReceived (t : Fin 8) (frame : Frame) (s : State) : Host.Outcome State Fault Refusal :=
  s.effect fun m => m.ethFrame t frame

/-- PTP_RX_POP (R444). -/
def execPtpRxPop (p : Port) (t : Fin 8) (v : Word) (s : State) : Host.Outcome State Fault Refusal :=
  s.effect fun m => m.portWrite p (regAddr t 0x22 0x08C) (v ||| 1)

/-- PTP_TX_GO (R445). -/
def execPtpTxGo (p : Port) (t : Fin 8) (v : Word) (s : State) : Host.Outcome State Fault Refusal :=
  s.effect fun m => m.portWrite p (regAddr t 0x22 0x08C) (v ||| 2)

/-- PTP_TX_DONE (R445). -/
def execPtpTxDone (t : Fin 8) (s : State) : Host.Outcome State Fault Refusal :=
  s.effect fun m => m.ptpSent t

/-- SLEW_RATE_WRITE (R446). -/
def execSlewRateWrite (p : Port) (t : Fin 8) (v : Word) (s : State) : Host.Outcome State Fault Refusal :=
  s.effect fun m => m.portWrite p (regAddr t 0x22 0x0A0) (v)

/-- SLEW_OFS_WRITE (R446). -/
def execSlewOfsWrite (p : Port) (t : Fin 8) (v : Word) (s : State) : Host.Outcome State Fault Refusal :=
  s.effect fun m => m.portWrite p (regAddr t 0x22 0x0A4) (v)

/-- CONTROL_REQ (R451). -/
def execControlReq (t : Fin 8) (src : NetSrc) (body : List Byte) (s : State) : Host.Outcome State Fault Refusal :=
  s.effect fun m => m.controlReq t src body

/-- CREDIT_GRANT (R455). -/
def execCreditGrant (t : Fin 8) (src : NetSrc) (session : Word) (q : Byte) (limit : Word) (lenOk : Bool) (s : State) : Host.Outcome State Fault Refusal :=
  s.effect fun m => m.creditGrant t src session.toNat q.toNat limit.toNat lenOk

/-- THAIG_EVENT (R452). -/
def execThaigEvent (t : Fin 8) (s : State) : Host.Outcome State Fault Refusal :=
  s.effect fun m => m.thaigEvent t

/-- EVENT_REPEAT (R452). -/
def execEventRepeat (t : Fin 8) (s : State) : Host.Outcome State Fault Refusal :=
  s.effect fun m => m.eventRepeat t

/-- PERST_RELEASE (R437). -/
def execPerstRelease (t : Fin 8) (s : State) : Host.Outcome State Fault Refusal :=
  s.effect fun m => m.perstRises t

/-- CONFIG_REQUEST (R433). -/
def execConfigRequest (t : Fin 8) (req : CfgReq) (ready : Bool) (s : State) : Host.Outcome State Fault Refusal :=
  s.effect fun m => m.configRequest t req ready

/-- MSIX_TABLE_WRITE (R440). -/
def execMsixTableWrite (t : Fin 8) (dword : Fin 256) (v : Word) (ep : Bool) (s : State) : Host.Outcome State Fault Refusal :=
  s.effect fun m => m.msixTable t dword v.toNat ep

end Sys2Proof.Machine
end

