-- ==== Sys2Proof/Machine/Light.lean ====
section
/-!
DEFINITION. Meanings of the commands of lamps, lamp chain, patterns.
-/

namespace Sys2Proof.Machine

/-- BST_EN_WRITE (R366). -/
def execBstEnWrite (p : Port) (g : Fin 16) (v : Word) (s : State) : Host.Outcome State Fault Refusal :=
  s.effect fun m => m.portWrite p (regAddr (g / 2) (0x2C + g % 2) 0x0CC) (v)

/-- LAMP_DIRECT (R374). -/
def execLampDirect (p : Port) (g : Fin 16) (v : Word) (s : State) : Host.Outcome State Fault Refusal :=
  s.effect fun m => m.portWrite p (regAddr (g / 2) (0x2C + g % 2) 0x0CC) (v)

/-- SHUT_CLR (R379). -/
def execShutClr (p : Port) (g : Fin 16) (v : Word) (s : State) : Host.Outcome State Fault Refusal :=
  s.effect fun m => m.portWrite p (regAddr (g / 2) (0x2C + g % 2) 0x0CC) (v ||| 8)

/-- BINNING_READ_COMPLETE (R376). -/
def execBinningReadComplete (g : Fin 16) (record : Option (List Byte)) (s : State) : Host.Outcome State Fault Refusal :=
  s.effect fun m => m.binRead g record

/-- LCHAIN_GO (R386). -/
def execLchainGo (p : Port) (t : Fin 8) (v : Word) (s : State) : Host.Outcome State Fault Refusal :=
  s.effect fun m => m.portWrite p (regAddr t 0x2E 0x044) (v ||| 1)

/-- LCHAIN_FRAME_DONE (R385). -/
def execLchainFrameDone (t : Fin 8) (s : State) : Host.Outcome State Fault Refusal :=
  s.effect fun m => m.chainFrameDone t

/-- PATTERN_TICK (R389). -/
def execPatternTick (s : State) : Host.Outcome State Fault Refusal :=
  s.effect fun m => m.patternTick

/-- PATT_START (R390). -/
def execPattStart (p : Port) (t : Fin 8) (mask : BitVec 4) (s : State) : Host.Outcome State Fault Refusal :=
  s.effect fun m => m.portWrite p (regAddr t 0x2F 0x080) (mask.setWidth 32)

/-- PATT_STOP (R390). -/
def execPattStop (p : Port) (t : Fin 8) (mask : BitVec 4) (s : State) : Host.Outcome State Fault Refusal :=
  s.effect fun m => m.portWrite p (regAddr t 0x2F 0x080) ((mask.setWidth 32) <<< 8)

/-- BST_OK_CHANGE (R366). -/
def execBstOkChange (g : Fin 16) (ok : Bool) (s : State) : Host.Outcome State Fault Refusal :=
  s.effect fun m => m.boostOk g ok

end Sys2Proof.Machine
end

