-- ==== Sys2Proof/Machine/Measure.lean ====
section
/-!
DEFINITION. Meanings of the commands of monitor converter, front end, measurement outputs.
-/

namespace Sys2Proof.Machine

/-- MON_SLOT (R397). -/
def execMonSlot (t : Fin 8) (raw : BitVec 16) (s : State) : Host.Outcome State Fault Refusal :=
  s.effect fun m => m.monSlot t raw.toNat

/-- MON_CAL (R398). -/
def execMonCal (p : Port) (t : Fin 8) (v : Word) (s : State) : Host.Outcome State Fault Refusal :=
  s.effect fun m => m.portWrite p (regAddr t 0x30 0x048) (v ||| 1)

/-- MON_CAL_DONE (R399). -/
def execMonCalDone (t : Fin 8) (ofs : Int) (gain : Nat) (lin : List Int) (s : State) : Host.Outcome State Fault Refusal :=
  s.effect fun m => m.monCalDone t ofs gain lin

/-- TRUMP (R401). -/
def execTrump (p : Port) (t : Fin 8) (v : Word) (s : State) : Host.Outcome State Fault Refusal :=
  s.effect fun m => m.portWrite p (regAddr t 0x30 0x04C) (v ||| 0x80000000)

/-- MON_SNAP (R405). -/
def execMonSnap (p : Port) (t : Fin 8) (v : Word) (s : State) : Host.Outcome State Fault Refusal :=
  s.effect fun m => m.portWrite p (regAddr t 0x30 0x048) (v ||| 2)

/-- SNAP_PERIOD (R405). -/
def execSnapPeriod (t : Fin 8) (s : State) : Host.Outcome State Fault Refusal :=
  s.effect fun m => m.snapPeriod t

/-- SNAPSHOT_COMPLETE (R405). -/
def execSnapshotComplete (t : Fin 8) (s : State) : Host.Outcome State Fault Refusal :=
  s.effect fun m => m.snapshotDone t

/-- FE_HALF_START (R410). -/
def execFeHalfStart (t : Fin 8) (mask : BitVec 8) (s : State) : Host.Outcome State Fault Refusal :=
  s.effect fun m => m.feHalfStart t mask.toNat

/-- FE_OVERRUN (R413). -/
def execFeOverrun (t : Fin 8) (s : State) : Host.Outcome State Fault Refusal :=
  s.effect fun m => m.feOverrun t

/-- MEAS_FAILSAFE_TIMEOUT (R421). -/
def execMeasFailsafeTimeout (t : Fin 8) (o : Fin 2) (s : State) : Host.Outcome State Fault Refusal :=
  s.effect fun m => m.failsafe t o

end Sys2Proof.Machine
end

