-- ==== Sys2Proof/Machine/Modes.lean ====
section
/-!
DEFINITION. Meanings of the commands of hands, deals, triggers.
-/

namespace Sys2Proof.Machine

/-- HAND_CFG_WRITE (R134). -/
def execHandCfgWrite (p : Port) (h : Fin 16) (v : Word) (s : State) : Host.Outcome State Fault Refusal :=
  s.effect fun m => m.portWrite p (regAddr 14 0x03 (0x040 + 4 * h)) (v)

/-- ARM (R138). -/
def execArm (p : Port) (h : Fin 16) (s : State) : Host.Outcome State Fault Refusal :=
  s.effect fun m => m.portWrite p (regAddr 14 0x03 (0x0C0 + 4 * h)) (1)

/-- DISARM (R138). -/
def execDisarm (p : Port) (h : Fin 16) (s : State) : Host.Outcome State Fault Refusal :=
  s.effect fun m => m.portWrite p (regAddr 14 0x03 (0x0C0 + 4 * h)) (2)

/-- TO_READY (R138). -/
def execToReady (p : Port) (h : Fin 16) (s : State) : Host.Outcome State Fault Refusal :=
  s.effect fun m => m.portWrite p (regAddr 14 0x03 (0x0C0 + 4 * h)) (3)

/-- TO_CALIBRATE (R138). -/
def execToCalibrate (p : Port) (h : Fin 16) (s : State) : Host.Outcome State Fault Refusal :=
  s.effect fun m => m.portWrite p (regAddr 14 0x03 (0x0C0 + 4 * h)) (4)

/-- TO_SCAN (R138). -/
def execToScan (p : Port) (h : Fin 16) (s : State) : Host.Outcome State Fault Refusal :=
  s.effect fun m => m.portWrite p (regAddr 14 0x03 (0x0C0 + 4 * h)) (5)

/-- HOLD_SET (R138). -/
def execHoldSet (p : Port) (h : Fin 16) (s : State) : Host.Outcome State Fault Refusal :=
  s.effect fun m => m.portWrite p (regAddr 14 0x03 (0x0C0 + 4 * h)) (6)

/-- HOLD_CLEAR (R138). -/
def execHoldClear (p : Port) (h : Fin 16) (s : State) : Host.Outcome State Fault Refusal :=
  s.effect fun m => m.portWrite p (regAddr 14 0x03 (0x0C0 + 4 * h)) (7)

/-- DEAL_START (R143). -/
def execDealStart (p : Port) (h : Fin 16) (s : State) : Host.Outcome State Fault Refusal :=
  s.effect fun m => m.portWrite p (regAddr 14 0x03 (0x0C0 + 4 * h)) (8)

/-- DEAL_END (R143). -/
def execDealEnd (p : Port) (h : Fin 16) (s : State) : Host.Outcome State Fault Refusal :=
  s.effect fun m => m.portWrite p (regAddr 14 0x03 (0x0C0 + 4 * h)) (9)

/-- HAND_CMD_LEAVE_QUEUE (R140). -/
def execHandCmdLeaveQueue (h : Fin 16) (seg : Fin 8) (s : State) : Host.Outcome State Fault Refusal :=
  s.effect fun m => m.inSeg seg fun m => m.leaveQueue h

/-- HAND_TRANSITION (R138). -/
def execHandTransition (h : Fin 16) (seg : Fin 8) (s : State) : Host.Outcome State Fault Refusal :=
  s.effect fun m => m.inSeg seg fun m => m.handTransition h

/-- DEAL_PIN_EDGE (R143). -/
def execDealPinEdge (h : Fin 16) (n : BitVec 64) (rising : Bool) (s : State) : Host.Outcome State Fault Refusal :=
  s.effect fun m => m.inSeg (m.rd P.mode (F.MODE_HAND_DEALCFG_PIN_TILE.nth h)) fun m => m.dealPinEdge h n.toNat rising

/-- MAX_LINES_REACHED (R143). -/
def execMaxLinesReached (h : Fin 16) (seg : Fin 8) (s : State) : Host.Outcome State Fault Refusal :=
  s.effect fun m => m.inSeg seg fun m => m.maxLinesReached h

/-- LEADIN_DONE (R144). -/
def execLeadinDone (h : Fin 16) (seg : Fin 8) (s : State) : Host.Outcome State Fault Refusal :=
  s.effect fun m => m.inSeg seg fun m => m.leadInDone h

/-- DRAIN_COMPLETE (R145). -/
def execDrainComplete (h : Fin 16) (seg : Fin 8) (s : State) : Host.Outcome State Fault Refusal :=
  s.effect fun m => m.inSeg seg fun m => m.drainComplete h

/-- DRAIN_WINDOW_END (R145). -/
def execDrainWindowEnd (h : Fin 16) (seg : Fin 8) (s : State) : Host.Outcome State Fault Refusal :=
  s.effect fun m => m.inSeg seg fun m => m.drainWindowEnd h

/-- PREP (R136). -/
def execPrep (p : Port) (tiles : BitVec 8) (s : State) : Host.Outcome State Fault Refusal :=
  s.effect fun m => m.portWrite p (regAddr 14 0x03 0x2A0) (tiles.setWidth 32)

/-- PREP_COMPLETE (R136). -/
def execPrepComplete (t : Fin 8) (s : State) : Host.Outcome State Fault Refusal :=
  s.effect fun m => m.inSeg t fun m => m.prepComplete t

/-- DORMANT_REQUEST (R141). -/
def execDormantRequest (p : Port) (tiles : BitVec 8) (s : State) : Host.Outcome State Fault Refusal :=
  s.effect fun m => m.portWrite p (regAddr 14 0x03 0x2A0) ((tiles.setWidth 32) <<< 8)

/-- WAKE (R68). -/
def execWake (t : Fin 8) (gpio : BitVec 8) (alarm : Bool) (cp : Bool) (s : State) : Host.Outcome State Fault Refusal :=
  s.effect fun m => m.wakeUp t (m.wakeSources t gpio.toNat alarm cp)

/-- CAPTURE_TRIGGER (R170). -/
def execCaptureTrigger (g : Fin 16) (n : BitVec 64) (hr : List Nat) (s : State) : Host.Outcome State Fault Refusal :=
  s.effect fun m => m.inSeg (g / 2) fun m => m.captureTrigger g n.toNat hr

/-- TRIG_PIN_EDGE (R171). -/
def execTrigPinEdge (t : Fin 8) (pin : Fin 4) (rising : Bool) (edge : PinEdge) (hr : List (List Nat)) (s : State) :
    Host.Outcome State Fault Refusal :=
  s.effect fun m => m.inSeg t fun m => m.trigPinEdge t pin rising edge.n.toNat edge.held hr

/-- PHASE_SWITCH (R172). -/
def execPhaseSwitch (h : Fin 16) (seg : Fin 8) (s : State) : Host.Outcome State Fault Refusal :=
  s.effect fun m => m.inSeg seg fun m => m.phaseSwitch h

/-- POSITION_CROSSING (R173). -/
def execPositionCrossing (h : Fin 16) (seg : Fin 8) (n : BitVec 64) (hr : List (List Nat)) (s : State) : Host.Outcome State Fault Refusal :=
  s.effect fun m => m.inSeg seg fun m => m.positionCrossing h n.toNat hr

end Sys2Proof.Machine
end

