-- ==== Sys2Proof/Machine/Motion.lean ====
section
/-!
DEFINITION. Meanings of the commands of axes and the planner tick.
-/

namespace Sys2Proof.Machine

/-- PLANNER_TICK (R329). -/
def execPlannerTick (leds : List (List Nat)) (s : State) : Host.Outcome State Fault Refusal :=
  s.effect fun m => (List.range 16).foldl (fun m g => m.lampTick g (leds.getD g [])) m.plannerTick

/-- LEVEL_LOST (R356). -/
def execLevelLost (t : Fin 8) (u : Fin 8) (s : State) : Host.Outcome State Fault Refusal :=
  s.effect fun m => m.levelLost t u

/-- MICROSTEP_EVENT (R330). -/
def execMicrostepEvent (g : Fin 16) (n : BitVec 64) (s : State) : Host.Outcome State Fault Refusal :=
  s.effect fun m => m.microstepEvent g n.toNat

/-- AXIS_GO (R335). -/
def execAxisGo (p : Port) (g : Fin 16) (v : Word) (s : State) : Host.Outcome State Fault Refusal :=
  s.effect fun m => m.portWrite p (regAddr (g / 2) (0x28 + g % 2) 0x044) (v ||| 2)

/-- AXIS_STOP (R337). -/
def execAxisStop (p : Port) (g : Fin 16) (v : Word) (s : State) : Host.Outcome State Fault Refusal :=
  s.effect fun m => m.portWrite p (regAddr (g / 2) (0x28 + g % 2) 0x044) (v ||| 4)

/-- AXIS_ESTOP (R340). -/
def execAxisEstop (p : Port) (g : Fin 16) (v : Word) (s : State) : Host.Outcome State Fault Refusal :=
  s.effect fun m => m.portWrite p (regAddr (g / 2) (0x28 + g % 2) 0x044) (v ||| 8)

/-- HOME_GO (R345). -/
def execHomeGo (p : Port) (g : Fin 16) (v : Word) (s : State) : Host.Outcome State Fault Refusal :=
  s.effect fun m => m.portWrite p (regAddr (g / 2) (0x28 + g % 2) 0x044) (v ||| 16)

/-- FORGET (R350). -/
def execForget (p : Port) (g : Fin 16) (v : Word) (s : State) : Host.Outcome State Fault Refusal :=
  s.effect fun m => m.portWrite p (regAddr (g / 2) (0x28 + g % 2) 0x044) (v ||| 32)

/-- CHAT_CLR (R343). -/
def execChatClr (p : Port) (g : Fin 16) (v : Word) (s : State) : Host.Outcome State Fault Refusal :=
  s.effect fun m => m.portWrite p (regAddr (g / 2) (0x28 + g % 2) 0x044) (v ||| 64)

/-- AXIS_SNAP (R352). -/
def execAxisSnap (p : Port) (g : Fin 16) (v : Word) (s : State) : Host.Outcome State Fault Refusal :=
  s.effect fun m => m.portWrite p (regAddr (g / 2) (0x28 + g % 2) 0x044) (v ||| 128)

/-- AXIS_DRV_EN_WRITE (R342). -/
def execAxisDrvEnWrite (p : Port) (g : Fin 16) (en : Bool) (s : State) : Host.Outcome State Fault Refusal :=
  s.effect fun m => m.portWrite p (regAddr (g / 2) (0x28 + g % 2) 0x044) (BitVec.ofNat 32 en.toNat)

/-- ENCODER_EDGE (R334). -/
def execEncoderEdge (g : Fin 16) (kind : EncEdge) (s : State) : Host.Outcome State Fault Refusal :=
  s.effect fun m => match kind with | .up => m.encoderStep g true | .down => m.encoderStep g false | .error => m.encoderError g | .index => m.encoderIndex g

/-- LIMIT_INPUT_CHANGE (R343). -/
def execLimitInputChange (g : Fin 16) (i : Fin 3) (change : LimChange) (s : State) : Host.Outcome State Fault Refusal :=
  s.effect fun m => match change with | .level b => m.inputLevel g i b | .chatter => m.inputChatter g i

/-- DRV_FAULT (R340). -/
def execDrvFault (g : Fin 16) (active : Bool) (s : State) : Host.Outcome State Fault Refusal :=
  s.effect fun m => m.driverFaultEdge g active

/-- HOMING_NOT_FOUND (R347). -/
def execHomingNotFound (g : Fin 16) (s : State) : Host.Outcome State Fault Refusal :=
  s.effect fun m => m.homingNotFound g

/-- IREF_HOLD_TIMEOUT (R333). -/
def execIrefHoldTimeout (g : Fin 16) (s : State) : Host.Outcome State Fault Refusal :=
  s.effect fun m => m.holdTimeout g

end Sys2Proof.Machine
end

