-- ==== Sys2Proof/Machine/Moves.lean ====
section
/-!
DEFINITION. Meanings of the commands of DMA and DRAM.
-/

namespace Sys2Proof.Machine

/-- DMA_GO (R466). -/
def execDmaGo (p : Port) (t : Fin 8) (c : Fin 16) (s : State) : Host.Outcome State Fault Refusal :=
  s.effect fun m => m.portWrite p (regAddr t 0x1E (0x10C + 64 * c)) (1)

/-- DMA_STOP (R472). -/
def execDmaStop (p : Port) (t : Fin 8) (c : Fin 16) (s : State) : Host.Outcome State Fault Refusal :=
  s.effect fun m => m.portWrite p (regAddr t 0x1E (0x10C + 64 * c)) (2)

/-- DMA_RESUME (R472). -/
def execDmaResume (p : Port) (t : Fin 8) (c : Fin 16) (s : State) : Host.Outcome State Fault Refusal :=
  s.effect fun m => m.portWrite p (regAddr t 0x1E (0x10C + 64 * c)) (4)

/-- DESC_FETCHED (R466). -/
def execDescFetched (t : Fin 8) (c : Fin 16) (cpl : Cpl) (s : State) : Host.Outcome State Fault Refusal :=
  s.effect fun m => m.descFetched t c cpl

/-- DESC_POLL (R466). -/
def execDescPoll (t : Fin 8) (c : Fin 16) (s : State) : Host.Outcome State Fault Refusal :=
  s.effect fun m => m.descPoll t c

/-- DMA_BURST (R467). -/
def execDmaBurst (t : Fin 8) (c : Fin 16) (s : State) : Host.Outcome State Fault Refusal :=
  s.effect fun m => m.dmaBurst t c

/-- DMA_TRANSACTION_DONE (R471). -/
def execDmaTransactionDone (t : Fin 8) (c : Fin 16) (i : Fin 256) (cpl : Cpl) (s : State) : Host.Outcome State Fault Refusal :=
  s.effect fun m => m.dmaDone t c i cpl

/-- DMA_TIMEOUT (R470). -/
def execDmaTimeout (t : Fin 8) (c : Fin 16) (s : State) : Host.Outcome State Fault Refusal :=
  s.effect fun m => m.dmaTimeout t c

/-- DRAM_TRAINING_DONE (R482). -/
def execDramTrainingDone (t : Fin 8) (fail : Option (Fin 16)) (s : State) : Host.Outcome State Fault Refusal :=
  s.effect fun m => m.dramTrainDone t (fail.map Fin.val)

/-- MR4_READ (R484). -/
def execMr4Read (t : Fin 8) (code : Byte) (hot : Bool) (above : Bool) (s : State) : Host.Outcome State Fault Refusal :=
  s.effect fun m => m.mr4Read t code.toNat hot above

/-- DRAM_RETRAIN (R484). -/
def execDramRetrain (t : Fin 8) (s : State) : Host.Outcome State Fault Refusal :=
  s.effect fun m => m.dramRetrain t

/-- REFRESH_DUE (R485). -/
def execRefreshDue (t : Fin 8) (n : BitVec 64) (s : State) : Host.Outcome State Fault Refusal :=
  s.effect fun m => m.refreshDue t n.toNat

/-- PANIC_ON (R487). -/
def execPanicOn (t : Fin 8) (n : BitVec 64) (fill : Nat) (full : Bool) (s : State) : Host.Outcome State Fault Refusal :=
  s.effect fun m => m.panicOn t n.toNat fill full

/-- PANIC_OFF (R489). -/
def execPanicOff (t : Fin 8) (n : BitVec 64) (fill : Nat) (s : State) : Host.Outcome State Fault Refusal :=
  s.effect fun m => m.panicOff t n.toNat fill

end Sys2Proof.Machine
end

