-- ==== Sys2Proof/Machine/Output.lean ====
section
/-!
DEFINITION. Meanings of the commands of stages 7–9 and the check page.
-/

namespace Sys2Proof.Machine

/-- MELD_TAKE_LINE (R267). -/
def execMeldTakeLine (g : Fin 16) (s : State) : Host.Outcome State Fault Refusal :=
  s.effect fun m => m.takeLine g

/-- OVERLAP_ARRIVAL (R274). -/
def execOverlapArrival (g : Fin 16) (right : Bool) (s : State) : Host.Outcome State Fault Refusal :=
  s.effect fun m => m.overlapArrival g (if right then .right else .left)

/-- MELD_TIMEOUT (R275). -/
def execMeldTimeout (g : Fin 16) (s : State) : Host.Outcome State Fault Refusal :=
  s.effect fun m => m.meldTimeout g

/-- END_OF_DEAL_NOTICE (R278). -/
def execEndOfDealNotice (g : Fin 16) (right : Bool) (s : State) : Host.Outcome State Fault Refusal :=
  s.effect fun m => m.eodNotice g (if right then .right else .left)

/-- STAGE9_CREDIT_RESUME (R288). -/
def execStage9CreditResume (g : Fin 16) (s : State) : Host.Outcome State Fault Refusal :=
  s.effect fun m => m.pump g

/-- CHK_POP (R291). -/
def execChkPop (p : Port) (t : Fin 8) (v : Word) (s : State) : Host.Outcome State Fault Refusal :=
  s.effect fun m => m.portWrite p (regAddr t 0x18 0x088) (v ||| 1)

/-- CHECK_INJECT (R292). -/
def execCheckInject (p : Port) (t : Fin 8) (v : Word) (s : State) : Host.Outcome State Fault Refusal :=
  s.effect fun m => m.portWrite p (regAddr t 0x18 0x044) (v ||| 1)

end Sys2Proof.Machine
end

