-- ==== Sys2Proof/Machine/Regs.lean ====
section
/-!
DEFINITION. Meanings of the commands of the register space, control ports and semaphores.
-/

namespace Sys2Proof.Machine

/-- BLOCK_SOFT_RESET (R84). -/
def execBlockSoftReset (p : Port) (tf : Fin 16) (page : Fin 256) (v : Word) (s : State) : Host.Outcome State Fault Refusal :=
  s.effect fun m => m.portWrite p (regAddr tf page 0x004) (v ||| 2)

/-- PAGE_ENABLE_WRITE (R97). -/
def execPageEnableWrite (p : Port) (tf : Fin 16) (page : Fin 256) (en : Bool) (s : State) : Host.Outcome State Fault Refusal :=
  s.effect fun m => m.portWrite p (regAddr tf page 0x004) (BitVec.ofNat 32 en.toNat)

/-- PAGE_LOCK (R98). -/
def execPageLock (p : Port) (tf : Fin 16) (page : Fin 256) (v : Word) (s : State) : Host.Outcome State Fault Refusal :=
  s.effect fun m => m.portWrite p (regAddr tf page 0x004) (v ||| 4)

/-- INT_SET (R97). -/
def execIntSet (p : Port) (tf : Fin 16) (page : Fin 256) (v : Word) (s : State) : Host.Outcome State Fault Refusal :=
  s.effect fun m => m.portWrite p (regAddr tf page 0x01C) (v)

/-- COMMIT_NOW (R101). -/
def execCommitNow (p : Port) (tf : Fin 16) (page : Fin 256) (v : Word) (s : State) : Host.Outcome State Fault Refusal :=
  s.effect fun m => m.portWrite p (regAddr tf page 0x030) (v ||| 4)

/-- COMMIT_DEAL (R102). -/
def execCommitDeal (p : Port) (tf : Fin 16) (page : Fin 256) (v : Word) (s : State) : Host.Outcome State Fault Refusal :=
  s.effect fun m => m.portWrite p (regAddr tf page 0x030) (v ||| 2)

/-- COMMIT_LINE (R102). -/
def execCommitLine (p : Port) (tf : Fin 16) (page : Fin 256) (v : Word) (s : State) : Host.Outcome State Fault Refusal :=
  s.effect fun m => m.portWrite p (regAddr tf page 0x030) (v ||| 1)

/-- WIN_ADDR_WRITE (R105). -/
def execWinAddrWrite (p : Port) (tf : Fin 16) (page : Fin 256) (v : Word) (s : State) : Host.Outcome State Fault Refusal :=
  s.effect fun m => m.portWrite p (regAddr tf page 0x204) (v)

/-- WIN_STEP (R104). -/
def execWinStep (p : Port) (tf : Fin 16) (page : Fin 256) (v : Word) (s : State) : Host.Outcome State Fault Refusal :=
  s.effect fun m => m.portWrite p (regAddr tf page 0x208) (v ||| 2)

/-- WIN_DATA_WRITE (R105). -/
def execWinDataWrite (p : Port) (tf : Fin 16) (page : Fin 256) (w : Fin 4) (v : Word) (s : State) : Host.Outcome State Fault Refusal :=
  s.effect fun m => m.portWrite p (regAddr tf page (0x20C + 4 * w)) (v)

/-- REGISTER_WRITE (R94) (log entry 110). -/
def execRegisterWrite (p : Port) (addr : BitVec 24) (v : Word) (s : State) : Host.Outcome State Fault Refusal :=
  s.effect fun m => m.portWrite p (addr.toNat) (v)

/-- BAR0_REQUEST (R111). -/
def execBar0Request (t : Fin 8) (addr : BitVec 24) (req : Bar0Req) (ep : Bool) (s : State) : Host.Outcome State Fault Refusal :=
  s.effect fun m => m.bar0Request t addr.toNat req ep

/-- A_DETACH (R110). -/
def execADetach (p : Port) (v : Word) (s : State) : Host.Outcome State Fault Refusal :=
  s.effect fun m => m.portWrite p (regAddr 14 0x02 0x054) (v ||| 1)

/-- CPB_WRITE (R114). -/
def execCpbWrite (addr : BitVec 24) (data : Word) (crc : Byte) (s : State) : Host.Outcome State Fault Refusal :=
  s.effect fun m => m.cpbWrite addr.toNat data.toNat crc.toNat

/-- CPB_READ (R116). -/
def execCpbRead (addr : BitVec 24) (crc : Byte) (ready : Bool) (cut : Bool) (s : State) : Host.Outcome State Fault Refusal :=
  s.effect fun m => m.cpbRead addr.toNat crc.toNat ready cut

/-- CPB_FETCH (R116). -/
def execCpbFetch (crc : Byte) (s : State) : Host.Outcome State Fault Refusal :=
  s.effect fun m => m.cpbFetch crc.toNat

/-- CPB_SET_QUAD (R114). -/
def execCpbSetQuad (crc : Byte) (s : State) : Host.Outcome State Fault Refusal :=
  s.effect fun m => m.cpbLanes 0x38 crc.toNat true

/-- CPB_SET_SINGLE (R114). -/
def execCpbSetSingle (crc : Byte) (s : State) : Host.Outcome State Fault Refusal :=
  s.effect fun m => m.cpbLanes 0x3F crc.toNat false

/-- CPB_FRAME_DISCARD (R114). -/
def execCpbFrameDiscard (s : State) : Host.Outcome State Fault Refusal :=
  s.effect fun m => m.cpbDiscard

/-- CPB_WRITE_APPLY (R116). -/
def execCpbWriteApply (s : State) : Host.Outcome State Fault Refusal :=
  s.effect fun m => m.cpbWriteApply

/-- CPB_READ_COMPLETE (R116). -/
def execCpbReadComplete (s : State) : Host.Outcome State Fault Refusal :=
  s.effect fun m => m.cpbReadDone

/-- SEM_CLAIM (R121). -/
def execSemClaim (p : Port) (n : Fin 64) (v : Word) (s : State) : Host.Outcome State Fault Refusal :=
  s.effect fun m => m.portWrite p (regAddr 14 0x01 (0x040 + 4 * n)) (v)

/-- KEEPALIVE (R125). -/
def execKeepalive (p : Port) (v : Word) (s : State) : Host.Outcome State Fault Refusal :=
  s.effect fun m => m.portWrite p (regAddr 14 0x02 0x044) (v)

/-- KEEPALIVE_EXPIRY (R126). -/
def execKeepaliveExpiry (p : Port) (s : State) : Host.Outcome State Fault Refusal :=
  s.effect fun m => m.keepaliveExpiry (match p with | .a => 0 | .b => 1)

/-- EOI_A (R130). -/
def execEoiA (p : Port) (v : Word) (s : State) : Host.Outcome State Fault Refusal :=
  s.effect fun m => m.portWrite p (regAddr 14 0x02 0x06C) (v)

end Sys2Proof.Machine
end

