-- ==== Sys2Proof/Machine/Rings.lean ====
section
/-!
DEFINITION. Meanings of the commands of the tile ring.
-/

namespace Sys2Proof.Machine

/-- RING_LINK_DOWN (R494). -/
def execRingLinkDown (loss : LinkLoss) (s : State) : Host.Outcome State Fault Refusal :=
  s.effect fun m => m.linkFails loss.t loss.retriesU.toNat loss.retriesL.toNat

/-- RING_LINK_UP (R494). -/
def execRingLinkUp (t : Fin 8) (delayU : BitVec 16) (delayL : BitVec 16) (s : State) : Host.Outcome State Fault Refusal :=
  s.effect fun m => m.linkTrained t delayU.toNat delayL.toNat

/-- REACH_SETTLE (R496). -/
def execReachSettle (s : State) : Host.Outcome State Fault Refusal :=
  s.effect fun m => m.reachSettle

/-- RECONCILE (R516). -/
def execReconcile (g : Fin 16) (s : State) : Host.Outcome State Fault Refusal :=
  s.effect fun m => m.reconcile g

/-- SYNC_SEND (R497). -/
def execSyncSend (t : Fin 8) (s : State) : Host.Outcome State Fault Refusal :=
  s.effect fun m => m.syncSend t

/-- SYNC_RECEIVE (R498). -/
def execSyncReceive (t : Fin 8) (s : State) : Host.Outcome State Fault Refusal :=
  s.effect fun m => m.syncReceive t

/-- SYNC_LOST (R498). -/
def execSyncLost (t : Fin 8) (s : State) : Host.Outcome State Fault Refusal :=
  s.effect fun m => m.syncLost t

/-- HEARTBEAT_SEND (R502). -/
def execHeartbeatSend (t : Fin 8) (s : State) : Host.Outcome State Fault Refusal :=
  s.effect fun m => m.heartbeatSend t

/-- HEARTBEAT_MISS (R502). -/
def execHeartbeatMiss (t : Fin 8) (beat : Bool) (s : State) : Host.Outcome State Fault Refusal :=
  s.effect fun m => m.heartbeatMiss t beat

/-- MIRROR_COPY_DONE (R501). -/
def execMirrorCopyDone (s : State) : Host.Outcome State Fault Refusal :=
  s.effect fun m => m.mirrorCopied

/-- WATCHDOG_CHECK (R507). -/
def execWatchdogCheck (t : Fin 8) (pass : Bool) (s : State) : Host.Outcome State Fault Refusal :=
  s.effect fun m => m.watchdogCheck t pass

/-- RECOVERY_TIMEOUT (R508). -/
def execRecoveryTimeout (t : Fin 8) (s : State) : Host.Outcome State Fault Refusal :=
  s.effect fun m => m.recoveryTimeout t

/-- TILE_ANSWERS (R508). -/
def execTileAnswers (t : Fin 8) (s : State) : Host.Outcome State Fault Refusal :=
  s.effect fun m => m.tileAnswers t

/-- RECOVER (R508). -/
def execRecover (p : Port) (t : Fin 8) (tiles : BitVec 8) (s : State) : Host.Outcome State Fault Refusal :=
  s.effect fun m => m.portWrite p (regAddr t 0x05 0x050) (tiles.setWidth 32)

/-- AGEING (R521). -/
def execAgeing (t : Fin 8) (mon : Fin 256) (life : Fin 65536) (s : State) : Host.Outcome State Fault Refusal :=
  s.effect fun m => m.ageing t mon life

/-- SPILL_LEVEL_REPORT (R525). -/
def execSpillLevelReport (t : Fin 8) (s : State) : Host.Outcome State Fault Refusal :=
  s.effect fun m => m.spillReport t

end Sys2Proof.Machine
end

