-- ==== Sys2Proof/Machine/Sensors.lean ====
section
/-!
DEFINITION. Meanings of the commands of sensor ports, converters, accumulation, shading.
-/

namespace Sys2Proof.Machine

/-- LINE_COMPLETE (R150). -/
def execLineComplete (g : Fin 16) (inputs : List InputData) (lanes : List (List Nat)) (s : State) : Host.Outcome State Fault Refusal :=
  s.effect fun m => m.lineComplete g ⟨inputs, lanes⟩

/-- DIGITAL_LINE_START (R159). -/
def execDigitalLineStart (g : Fin 16) (framing : LaneWords) (s : State) : Host.Outcome State Fault Refusal :=
  s.effect fun m => m.digitalLineStart g framing.n.toNat framing.words

/-- READOUT_TIMEOUT (R160). -/
def execReadoutTimeout (g : Fin 16) (s : State) : Host.Outcome State Fault Refusal :=
  s.effect fun m => m.readoutTimeout g

/-- LANE_LOCK_LOST (R156). -/
def execLaneLockLost (g : Fin 16) (s : State) : Host.Outcome State Fault Refusal :=
  s.effect fun m => m.lockLost g

/-- DESKEW_GO (R157). -/
def execDeskewGo (p : Port) (g : Fin 16) (v : Word) (s : State) : Host.Outcome State Fault Refusal :=
  s.effect fun m => m.portWrite p (regAddr (g / 2) (0x08 + g % 2) 0x094) (v ||| 1)

/-- DESKEW_COMPLETE (R157). -/
def execDeskewComplete (g : Fin 16) (lanes : List LaneFind) (s : State) : Host.Outcome State Fault Refusal :=
  s.effect fun m => m.deskewDone g lanes

/-- SSPI_TX (R179). -/
def execSspiTx (p : Port) (g : Fin 16) (v : Word) (s : State) : Host.Outcome State Fault Refusal :=
  s.effect fun m => m.portWrite p (regAddr (g / 2) 0x36 (0x048 + 0x40 * (g % 2))) (v)

/-- SSPI_RXPOP (R179). -/
def execSspiRxpop (p : Port) (g : Fin 16) (v : Word) (s : State) : Host.Outcome State Fault Refusal :=
  s.effect fun m => m.portWrite p (regAddr (g / 2) 0x36 (0x050 + 0x40 * (g % 2))) (v ||| 1)

/-- SSPI_FLUSH (R181). -/
def execSspiFlush (p : Port) (g : Fin 16) (v : Word) (s : State) : Host.Outcome State Fault Refusal :=
  s.effect fun m => m.portWrite p (regAddr (g / 2) 0x36 (0x050 + 0x40 * (g % 2))) (v ||| 2)

/-- SSPI_FRAME_DONE (R179). -/
def execSspiFrameDone (g : Fin 16) (miso : Word) (s : State) : Host.Outcome State Fault Refusal :=
  s.effect fun m => m.spiDone g miso.toNat

/-- VC_FULL_CAL (R188). -/
def execVcFullCal (p : Port) (g : Fin 16) (v : Word) (s : State) : Host.Outcome State Fault Refusal :=
  s.effect fun m => m.portWrite p (regAddr (g / 2) (0x0C + g % 2) 0x05C) (v ||| 1)

/-- VC_CAL_COMPLETE (R189). -/
def execVcCalComplete (g : Fin 16) (meas : List (List SliceMeas)) (s : State) : Host.Outcome State Fault Refusal :=
  s.effect fun m => m.vcCalDone g meas

/-- SHADOW_STEP_COMPLETE (R193). -/
def execShadowStepComplete (g : Fin 16) (v : Fin 6) (fit : StepEnd) (s : State) : Host.Outcome State Fault Refusal :=
  s.effect fun m => m.stepDone g v fit

/-- HANDOVER (R193). -/
def execHandover (g : Fin 16) (v : Fin 6) (phase : Fin 6) (s : State) : Host.Outcome State Fault Refusal :=
  s.effect fun m => m.handover g v phase

/-- BG_STEP_TIMEOUT (R192). -/
def execBgStepTimeout (g : Fin 16) (v : Fin 6) (pairs : Nat) (fit : StepFit) (s : State) : Host.Outcome State Fault Refusal :=
  s.effect fun m => m.stepTimeout g v pairs fit

/-- POSITION_SAMPLE (R25). -/
def execPositionSample (g : Fin 16) (s : State) : Host.Outcome State Fault Refusal :=
  s.effect fun m => m.inSeg (g / 2) fun m => m.positionSample g

/-- POSITION_TIMEOUT (R212). -/
def execPositionTimeout (g : Fin 16) (s : State) : Host.Outcome State Fault Refusal :=
  s.effect fun m => m.positionTimeout g

/-- ACCUMULATE (R215). -/
def execAccumulate (g : Fin 16) (errs : List Upset) (s : State) : Host.Outcome State Fault Refusal :=
  s.effect fun m => m.accumulate g errs

/-- T_HOST_WRITE (R242). -/
def execTHostWrite (p : Port) (g : Fin 16) (lamp : Bool) (v : Word) (s : State) : Host.Outcome State Fault Refusal :=
  s.effect fun m => if lamp then m.portWrite p (regAddr (g / 2) (0x2C + g % 2) 0x0B8) (v) else m.portWrite p (regAddr (g / 2) (0x12 + g % 2) 0x04C) (v)

/-- TEMP_STALE (R242). -/
def execTempStale (g : Fin 16) (use : TempUse) (s : State) : Host.Outcome State Fault Refusal :=
  s.effect fun m => match use with | .shd => m.staleShd g | .lampBar => m.staleLamp g false | .lampDie => m.staleLamp g true

/-- BUILD_DARK (R258). -/
def execBuildDark (p : Port) (g : Fin 16) (v : Word) (s : State) : Host.Outcome State Fault Refusal :=
  s.effect fun m => m.portWrite p (regAddr (g / 2) (0x14 + g % 2) 0x054) (v ||| 1)

/-- BUILD_GAIN (R259). -/
def execBuildGain (p : Port) (g : Fin 16) (v : Word) (s : State) : Host.Outcome State Fault Refusal :=
  s.effect fun m => m.portWrite p (regAddr (g / 2) (0x14 + g % 2) 0x054) (v ||| 2)

/-- BUILD_DEFECT (R260). -/
def execBuildDefect (p : Port) (g : Fin 16) (v : Word) (s : State) : Host.Outcome State Fault Refusal :=
  s.effect fun m => m.portWrite p (regAddr (g / 2) (0x14 + g % 2) 0x054) (v ||| 4)

/-- BUILD_COMPLETE (R257). -/
def execBuildComplete (g : Fin 16) (s : State) : Host.Outcome State Fault Refusal :=
  s.effect fun m => m.buildDone g

/-- LANE_LOCK_GAINED (R156). -/
def execLaneLockGained (g : Fin 16) (s : State) : Host.Outcome State Fault Refusal :=
  s.effect fun m => m.lockGained g

end Sys2Proof.Machine
end

