-- ==== Sys2Proof/Machine/Start.lean ====
section
/-!
DEFINITION. Meanings of the commands of reset, power, clocks, time base pins and JTAG.
-/

namespace Sys2Proof.Machine

/-- RAIL_DIP (R55). -/
def execRailDip (rail : Rail) (dip : Dip) (s : State) : Host.Outcome State Fault Refusal :=
  s.effect fun m => m.railDip rail dip

/-- POWER_ON_RESET_RELEASE (R56). -/
def execPowerOnResetRelease (boot : Fin 8) (hmode : Fin 4) (quad : Bool) (testEn : Bool) (s : State) : Host.Outcome State Fault Refusal :=
  s.effect fun m => m.porRelease boot hmode quad testEn

/-- PACKAGE_RESET (R57). -/
def execPackageReset (dip : Dip) (s : State) : Host.Outcome State Fault Refusal :=
  s.effect fun m => m.onDip dip fun m => m.powerOn true

/-- MAIN_PLL_LOCK (R58). -/
def execMainPllLock (t : Fin 8) (s : State) : Host.Outcome State Fault Refusal :=
  s.effect fun m => m.pllLock t

/-- SELF_TEST_DONE (R58). -/
def execSelfTestDone (t : Fin 8) (pass : Bool) (s : State) : Host.Outcome State Fault Refusal :=
  s.effect fun m => m.selfTest t pass

/-- DECLARER_ELECTION (R500). -/
def execDeclarerElection (s : State) : Host.Outcome State Fault Refusal :=
  s.effect fun m => m.election

/-- TILE_RST_GO (R69). -/
def execTileRstGo (p : Port) (t : Fin 8) (v : Word) (s : State) : Host.Outcome State Fault Refusal :=
  s.effect fun m => m.portWrite p (regAddr t 0x01 0x058) (v ||| 1)

/-- TILE_RESET (R62). -/
def execTileReset (t : Fin 8) (s : State) : Host.Outcome State Fault Refusal :=
  s.effect fun m => m.tileResetDue t

/-- TILE_RESET_RELEASE (R62). -/
def execTileResetRelease (t : Fin 8) (s : State) : Host.Outcome State Fault Refusal :=
  s.effect fun m => m.tileRelease t

/-- DOM_REQ_WRITE (R60). -/
def execDomReqWrite (p : Port) (t : Fin 8) (v : Word) (s : State) : Host.Outcome State Fault Refusal :=
  s.effect fun m => m.portWrite p (regAddr t 0x01 0x040) (v)

/-- SHT_MODE_WRITE (R64). -/
def execShtModeWrite (p : Port) (t : Fin 8) (v : Word) (s : State) : Host.Outcome State Fault Refusal :=
  s.effect fun m => m.portWrite p (regAddr t 0x01 0x048) (v)

/-- DOMAIN_SWITCHED (R61). -/
def execDomainSwitched (t : Fin 8) (s : State) : Host.Outcome State Fault Refusal :=
  s.effect fun m => m.domainSwitched t

/-- REFCLK_LOSS (R74). -/
def execRefclkLoss (s : State) : Host.Outcome State Fault Refusal :=
  s.effect fun m => m.refLoss

/-- REFCLK_RETURN (R74). -/
def execRefclkReturn (s : State) : Host.Outcome State Fault Refusal :=
  s.effect fun m => m.refReturn

/-- TB_CAPTURE (R78). -/
def execTbCapture (p : Port) (t : Fin 8) (v : Word) (s : State) : Host.Outcome State Fault Refusal :=
  s.effect fun m => m.portWrite p (regAddr t 0x03 0x040) (v ||| 1)

/-- TB_LOAD (R79). -/
def execTbLoad (p : Port) (t : Fin 8) (v : Word) (s : State) : Host.Outcome State Fault Refusal :=
  s.effect fun m => m.portWrite p (regAddr t 0x03 0x040) (v ||| 2)

/-- TB_ALARM_FIRE (R80). -/
def execTbAlarmFire (t : Fin 8) (s : State) : Host.Outcome State Fault Refusal :=
  s.effect fun m => m.alarmReached t

/-- PPS_IN_EDGE (R81). -/
def execPpsInEdge (n : BitVec 64) (s : State) : Host.Outcome State Fault Refusal :=
  s.effect fun m => m.ppsIn n.toNat

/-- CONTROL_PORTS_USABLE (R58). -/
def execControlPortsUsable (s : State) : Host.Outcome State Fault Refusal :=
  s.effect fun m => m.portsUsable

/-- TILE_PAGES_ANSWER (R83). -/
def execTilePagesAnswer (t : Fin 8) (s : State) : Host.Outcome State Fault Refusal :=
  s.effect fun m => m.tilePagesAnswer t

/-- BANK_RAIL_RAMP (R47). -/
def execBankRailRamp (rail : Rail) (v33 : Bool) (s : State) : Host.Outcome State Fault Refusal :=
  s.effect fun m => m.railRamp rail v33

/-- JTAG_TCK_EDGE (R41). -/
def execJtagTckEdge (rising : Bool) (tms : Bool) (tdi : Bool) (trstLow : Bool) (s : State) : Host.Outcome State Fault Refusal :=
  s.effect fun m => m.jtagEdge rising tms tdi trstLow

end Sys2Proof.Machine
end

