-- ==== Sys2Proof/Machine/Tricks.lean ====
section
/-!
DEFINITION. Meanings of the commands of queues and kitties.
-/

namespace Sys2Proof.Machine

/-- The spill writer works on queue `q` (R313, R314): SPILL_OK, the host port its consumer, and the tile spills or the list is in replay. -/
def Mach.spillWrite (m : Mach) (t q : Nat) : Mach :=
  if m.wantsSpill t q && (m.kit t).dramReady then m.spillHead t q (m.kit t).spilling else m

/-- A write of QUE.CMD by port `p`. `late`: it falls in the CLK_FAB cycle in which the other port's POP or DISCARD took the shown cell, and
finds nothing shown (R324) (log entry 129). -/
def Mach.queTake (m : Mach) (p : Port) (t q op : Nat) (late : Bool) : Mach :=
  let go := fun (m : Mach) => m.portWrite p (regAddr t 0x1C 0x040) (BitVec.ofNat 32 (op * 256 + q))
  if late then (go (m.modKit t fun k => { k with shown := none })).modKit t fun k => { k with shown := (m.kit t).shown } else go m

/-- TRICK_OPEN (R306). -/
def execTrickOpen (t : Fin 8) (q : Fin 32) (s : State) : Host.Outcome State Fault Refusal :=
  s.effect fun m => (m.openHeld t q).dmaFree t

/-- TRICK_CLOSE (R302). -/
def execTrickClose (t : Fin 8) (q : Fin 32) (s : State) : Host.Outcome State Fault Refusal :=
  s.effect fun m => m.closeTrick t q

/-- TRICK_DELIVERY (R304). -/
def execTrickDelivery (t : Fin 8) (s : State) : Host.Outcome State Fault Refusal :=
  s.effect fun m => m.deliver t false

/-- QUE_FETCH (R320). -/
def execQueFetch (p : Port) (t : Fin 8) (q : Fin 32) (s : State) : Host.Outcome State Fault Refusal :=
  s.effect fun m => m.portWrite p (regAddr t 0x1C 0x040) (BitVec.ofNat 32 (1 * 256 + q))

/-- QUE_POP (R320). -/
def execQuePop (p : Port) (t : Fin 8) (take : HeadTake) (s : State) : Host.Outcome State Fault Refusal :=
  s.effect fun m => m.queTake p t take.q 2 take.late

/-- QUE_DISCARD (R320). -/
def execQueDiscard (p : Port) (t : Fin 8) (take : HeadTake) (s : State) : Host.Outcome State Fault Refusal :=
  s.effect fun m => m.queTake p t take.q 3 take.late

/-- QUE_RESET (R318). -/
def execQueReset (p : Port) (t : Fin 8) (q : Fin 32) (s : State) : Host.Outcome State Fault Refusal :=
  s.effect fun m => m.portWrite p (regAddr t 0x1C 0x040) (BitVec.ofNat 32 (4 * 256 + q))

/-- REAP_DONE (R319). -/
def execReapDone (t : Fin 8) (q : Fin 32) (s : State) : Host.Outcome State Fault Refusal :=
  s.effect fun m => m.reapDone t q

/-- SPILL_WRITE (R313). -/
def execSpillWrite (t : Fin 8) (q : Fin 32) (s : State) : Host.Outcome State Fault Refusal :=
  s.effect fun m => m.spillWrite t q

/-- REPLAY_TRICK (R314). -/
def execReplayTrick (t : Fin 8) (s : State) : Host.Outcome State Fault Refusal :=
  s.effect fun m => m.deliver t true

/-- SRAM_REINIT (R311). -/
def execSramReinit (p : Port) (t : Fin 8) (v : Word) (s : State) : Host.Outcome State Fault Refusal :=
  s.effect fun m => m.portWrite p (regAddr t 0x1D 0x060) (v ||| 1)

/-- DRAM_INIT (R312). -/
def execDramInit (p : Port) (t : Fin 8) (v : Word) (s : State) : Host.Outcome State Fault Refusal :=
  s.effect fun m => m.portWrite p (regAddr t 0x1D 0x060) (v ||| 2)

/-- DRAM_RELEASE (R312). -/
def execDramRelease (p : Port) (t : Fin 8) (v : Word) (s : State) : Host.Outcome State Fault Refusal :=
  s.effect fun m => m.portWrite p (regAddr t 0x1D 0x060) (v ||| 4)

/-- SELFTEST (R327). -/
def execSelftest (p : Port) (t : Fin 8) (v : Word) (s : State) : Host.Outcome State Fault Refusal :=
  s.effect fun m => m.portWrite p (regAddr t 0x1D 0x060) (v ||| 8)

/-- SELFTEST_DONE (R327). -/
def execSelftestDone (t : Fin 8) (fail : Option (Fin 32768)) (s : State) : Host.Outcome State Fault Refusal :=
  s.effect fun m => m.selftestDone t (fail.map Fin.val)

end Sys2Proof.Machine
end

