-- ==== Sys2Proof/Machine/TwoWire.lean ====
section
/-!
DEFINITION. Meanings of the commands of the two-wire controller and GPIO.
-/

namespace Sys2Proof.Machine

/-- TWC_GO (R530). -/
def execTwcGo (p : Port) (t : Fin 8) (v : Word) (s : State) : Host.Outcome State Fault Refusal :=
  s.effect fun m => m.portWrite p (regAddr t 0x34 0x054) (v ||| 1)

/-- TWC_ABORT (R534). -/
def execTwcAbort (p : Port) (t : Fin 8) (v : Word) (s : State) : Host.Outcome State Fault Refusal :=
  s.effect fun m => m.portWrite p (regAddr t 0x34 0x054) (v ||| 2)

/-- TWC_CLEAR (R537). -/
def execTwcClear (p : Port) (t : Fin 8) (v : Word) (s : State) : Host.Outcome State Fault Refusal :=
  s.effect fun m => m.portWrite p (regAddr t 0x34 0x054) (v ||| 8)

/-- ALERT_READ (R538). -/
def execAlertRead (p : Port) (t : Fin 8) (v : Word) (s : State) : Host.Outcome State Fault Refusal :=
  s.effect fun m => m.portWrite p (regAddr t 0x34 0x054) (v ||| 4)

/-- ALERT_EDGE (R538). -/
def execAlertEdge (t : Fin 8) (low : Bool) (s : State) : Host.Outcome State Fault Refusal :=
  s.effect fun m => m.alertEdge t low

/-- TWC_RETRY_GAP (R533). -/
def execTwcRetryGap (t : Fin 8) (piece : Fin 257) (s : State) : Host.Outcome State Fault Refusal :=
  s.effect fun m => m.twcRetry t piece

/-- TWC_TRANSFER_END (R535). -/
def execTwcTransferEnd (t : Fin 8) (e : TwcEnd) (done : Fin 257) (data : List Byte) (s : State) : Host.Outcome State Fault Refusal :=
  s.effect fun m => m.twcTransferEnd t e done data

/-- SCL_LOW_TIMEOUT (R529). -/
def execSclLowTimeout (t : Fin 8) (cont : Bool) (done : Fin 257) (data : List Byte) (s : State) : Host.Outcome State Fault Refusal :=
  s.effect fun m => m.sclLow t cont done data

/-- SDA_LOW_TIMEOUT (R529). -/
def execSdaLowTimeout (t : Fin 8) (cont : Bool) (done : Fin 257) (data : List Byte) (s : State) : Host.Outcome State Fault Refusal :=
  s.effect fun m => m.sdaLow t cont done data

/-- BUS_CLEAR_END (R537). -/
def execBusClearEnd (t : Fin 8) (sda : Bool) (s : State) : Host.Outcome State Fault Refusal :=
  s.effect fun m => m.busClearEnd t sda

/-- GPIO_EDGE (R576). -/
def execGpioEdge (t : Fin 8) (pin : Fin 8) (rising : Bool) (n : BitVec 64) (s : State) : Host.Outcome State Fault Refusal :=
  s.effect fun m => m.inSeg t fun m => m.gpioEdge t pin rising n.toNat

end Sys2Proof.Machine
end

