-- ==== Sys2Proof/Machine/Dispatch.lean ====
section
/-!
DEFINITION. The dispatch: one arm per command, one call of its meaning.
-/

namespace Sys2Proof.Machine

/-- The effect of a command on everything but the queue. -/
def exec (i : Instr) (s : State) : Host.Outcome State Fault Refusal :=
  match i with
  | .railDip rail dip => Sys2Proof.Machine.execRailDip rail dip s
  | .powerOnResetRelease boot hmode quad testEn => Sys2Proof.Machine.execPowerOnResetRelease boot hmode quad testEn s
  | .packageReset dip => Sys2Proof.Machine.execPackageReset dip s
  | .mainPllLock t => Sys2Proof.Machine.execMainPllLock t s
  | .selfTestDone t pass => Sys2Proof.Machine.execSelfTestDone t pass s
  | .declarerElection => Sys2Proof.Machine.execDeclarerElection s
  | .tileRstGo p t v => Sys2Proof.Machine.execTileRstGo p t v s
  | .tileReset t => Sys2Proof.Machine.execTileReset t s
  | .tileResetRelease t => Sys2Proof.Machine.execTileResetRelease t s
  | .domReqWrite p t v => Sys2Proof.Machine.execDomReqWrite p t v s
  | .shtModeWrite p t v => Sys2Proof.Machine.execShtModeWrite p t v s
  | .domainSwitched t => Sys2Proof.Machine.execDomainSwitched t s
  | .refclkLoss => Sys2Proof.Machine.execRefclkLoss s
  | .refclkReturn => Sys2Proof.Machine.execRefclkReturn s
  | .tbCapture p t v => Sys2Proof.Machine.execTbCapture p t v s
  | .tbLoad p t v => Sys2Proof.Machine.execTbLoad p t v s
  | .tbAlarmFire t => Sys2Proof.Machine.execTbAlarmFire t s
  | .ppsInEdge n => Sys2Proof.Machine.execPpsInEdge n s
  | .blockSoftReset p tf page v => Sys2Proof.Machine.execBlockSoftReset p tf page v s
  | .pageEnableWrite p tf page en => Sys2Proof.Machine.execPageEnableWrite p tf page en s
  | .pageLock p tf page v => Sys2Proof.Machine.execPageLock p tf page v s
  | .intSet p tf page v => Sys2Proof.Machine.execIntSet p tf page v s
  | .commitNow p tf page v => Sys2Proof.Machine.execCommitNow p tf page v s
  | .commitDeal p tf page v => Sys2Proof.Machine.execCommitDeal p tf page v s
  | .commitLine p tf page v => Sys2Proof.Machine.execCommitLine p tf page v s
  | .winAddrWrite p tf page v => Sys2Proof.Machine.execWinAddrWrite p tf page v s
  | .winStep p tf page v => Sys2Proof.Machine.execWinStep p tf page v s
  | .winDataWrite p tf page w v => Sys2Proof.Machine.execWinDataWrite p tf page w v s
  | .registerWrite p addr v => Sys2Proof.Machine.execRegisterWrite p addr v s
  | .bar0Request t addr req ep => Sys2Proof.Machine.execBar0Request t addr req ep s
  | .aDetach p v => Sys2Proof.Machine.execADetach p v s
  | .cpbWrite addr data crc => Sys2Proof.Machine.execCpbWrite addr data crc s
  | .cpbRead addr crc ready cut => Sys2Proof.Machine.execCpbRead addr crc ready cut s
  | .cpbFetch crc => Sys2Proof.Machine.execCpbFetch crc s
  | .cpbSetQuad crc => Sys2Proof.Machine.execCpbSetQuad crc s
  | .cpbSetSingle crc => Sys2Proof.Machine.execCpbSetSingle crc s
  | .cpbFrameDiscard => Sys2Proof.Machine.execCpbFrameDiscard s
  | .cpbWriteApply => Sys2Proof.Machine.execCpbWriteApply s
  | .cpbReadComplete => Sys2Proof.Machine.execCpbReadComplete s
  | .semClaim p n v => Sys2Proof.Machine.execSemClaim p n v s
  | .keepalive p v => Sys2Proof.Machine.execKeepalive p v s
  | .keepaliveExpiry p => Sys2Proof.Machine.execKeepaliveExpiry p s
  | .eoiA p v => Sys2Proof.Machine.execEoiA p v s
  | .handCfgWrite p h v => Sys2Proof.Machine.execHandCfgWrite p h v s
  | .arm p h => Sys2Proof.Machine.execArm p h s
  | .disarm p h => Sys2Proof.Machine.execDisarm p h s
  | .toReady p h => Sys2Proof.Machine.execToReady p h s
  | .toCalibrate p h => Sys2Proof.Machine.execToCalibrate p h s
  | .toScan p h => Sys2Proof.Machine.execToScan p h s
  | .holdSet p h => Sys2Proof.Machine.execHoldSet p h s
  | .holdClear p h => Sys2Proof.Machine.execHoldClear p h s
  | .dealStart p h => Sys2Proof.Machine.execDealStart p h s
  | .dealEnd p h => Sys2Proof.Machine.execDealEnd p h s
  | .handCmdLeaveQueue h seg => Sys2Proof.Machine.execHandCmdLeaveQueue h seg s
  | .handTransition h seg => Sys2Proof.Machine.execHandTransition h seg s
  | .dealPinEdge h n rising => Sys2Proof.Machine.execDealPinEdge h n rising s
  | .maxLinesReached h seg => Sys2Proof.Machine.execMaxLinesReached h seg s
  | .leadinDone h seg => Sys2Proof.Machine.execLeadinDone h seg s
  | .drainComplete h seg => Sys2Proof.Machine.execDrainComplete h seg s
  | .drainWindowEnd h seg => Sys2Proof.Machine.execDrainWindowEnd h seg s
  | .prep p tiles => Sys2Proof.Machine.execPrep p tiles s
  | .prepComplete t => Sys2Proof.Machine.execPrepComplete t s
  | .dormantRequest p tiles => Sys2Proof.Machine.execDormantRequest p tiles s
  | .wake t gpio alarm cp => Sys2Proof.Machine.execWake t gpio alarm cp s
  | .captureTrigger g n hr => Sys2Proof.Machine.execCaptureTrigger g n hr s
  | .trigPinEdge t pin rising edge hr => Sys2Proof.Machine.execTrigPinEdge t pin rising edge hr s
  | .phaseSwitch h seg => Sys2Proof.Machine.execPhaseSwitch h seg s
  | .positionCrossing h seg n hr => Sys2Proof.Machine.execPositionCrossing h seg n hr s
  | .lineComplete g inputs lanes => Sys2Proof.Machine.execLineComplete g inputs lanes s
  | .digitalLineStart g framing => Sys2Proof.Machine.execDigitalLineStart g framing s
  | .readoutTimeout g => Sys2Proof.Machine.execReadoutTimeout g s
  | .laneLockLost g => Sys2Proof.Machine.execLaneLockLost g s
  | .deskewGo p g v => Sys2Proof.Machine.execDeskewGo p g v s
  | .deskewComplete g lanes => Sys2Proof.Machine.execDeskewComplete g lanes s
  | .sspiTx p g v => Sys2Proof.Machine.execSspiTx p g v s
  | .sspiRxpop p g v => Sys2Proof.Machine.execSspiRxpop p g v s
  | .sspiFlush p g v => Sys2Proof.Machine.execSspiFlush p g v s
  | .sspiFrameDone g miso => Sys2Proof.Machine.execSspiFrameDone g miso s
  | .vcFullCal p g v => Sys2Proof.Machine.execVcFullCal p g v s
  | .vcCalComplete g meas => Sys2Proof.Machine.execVcCalComplete g meas s
  | .shadowStepComplete g v fit => Sys2Proof.Machine.execShadowStepComplete g v fit s
  | .handover g v phase => Sys2Proof.Machine.execHandover g v phase s
  | .bgStepTimeout g v pairs fit => Sys2Proof.Machine.execBgStepTimeout g v pairs fit s
  | .positionSample g => Sys2Proof.Machine.execPositionSample g s
  | .positionTimeout g => Sys2Proof.Machine.execPositionTimeout g s
  | .accumulate g errs => Sys2Proof.Machine.execAccumulate g errs s
  | .tHostWrite p g lamp v => Sys2Proof.Machine.execTHostWrite p g lamp v s
  | .tempStale g use => Sys2Proof.Machine.execTempStale g use s
  | .buildDark p g v => Sys2Proof.Machine.execBuildDark p g v s
  | .buildGain p g v => Sys2Proof.Machine.execBuildGain p g v s
  | .buildDefect p g v => Sys2Proof.Machine.execBuildDefect p g v s
  | .buildComplete g => Sys2Proof.Machine.execBuildComplete g s
  | .meldTakeLine g => Sys2Proof.Machine.execMeldTakeLine g s
  | .overlapArrival g right => Sys2Proof.Machine.execOverlapArrival g right s
  | .meldTimeout g => Sys2Proof.Machine.execMeldTimeout g s
  | .endOfDealNotice g right => Sys2Proof.Machine.execEndOfDealNotice g right s
  | .stage9CreditResume g => Sys2Proof.Machine.execStage9CreditResume g s
  | .chkPop p t v => Sys2Proof.Machine.execChkPop p t v s
  | .checkInject p t v => Sys2Proof.Machine.execCheckInject p t v s
  | .trickOpen t q => Sys2Proof.Machine.execTrickOpen t q s
  | .trickClose t q => Sys2Proof.Machine.execTrickClose t q s
  | .trickDelivery t => Sys2Proof.Machine.execTrickDelivery t s
  | .queFetch p t q => Sys2Proof.Machine.execQueFetch p t q s
  | .quePop p t take => Sys2Proof.Machine.execQuePop p t take s
  | .queDiscard p t take => Sys2Proof.Machine.execQueDiscard p t take s
  | .queReset p t q => Sys2Proof.Machine.execQueReset p t q s
  | .reapDone t q => Sys2Proof.Machine.execReapDone t q s
  | .spillWrite t q => Sys2Proof.Machine.execSpillWrite t q s
  | .replayTrick t => Sys2Proof.Machine.execReplayTrick t s
  | .sramReinit p t v => Sys2Proof.Machine.execSramReinit p t v s
  | .dramInit p t v => Sys2Proof.Machine.execDramInit p t v s
  | .dramRelease p t v => Sys2Proof.Machine.execDramRelease p t v s
  | .selftest p t v => Sys2Proof.Machine.execSelftest p t v s
  | .selftestDone t fail => Sys2Proof.Machine.execSelftestDone t fail s
  | .plannerTick leds => Sys2Proof.Machine.execPlannerTick leds s
  | .levelLost t u => Sys2Proof.Machine.execLevelLost t u s
  | .microstepEvent g n => Sys2Proof.Machine.execMicrostepEvent g n s
  | .axisGo p g v => Sys2Proof.Machine.execAxisGo p g v s
  | .axisStop p g v => Sys2Proof.Machine.execAxisStop p g v s
  | .axisEstop p g v => Sys2Proof.Machine.execAxisEstop p g v s
  | .homeGo p g v => Sys2Proof.Machine.execHomeGo p g v s
  | .forget p g v => Sys2Proof.Machine.execForget p g v s
  | .chatClr p g v => Sys2Proof.Machine.execChatClr p g v s
  | .axisSnap p g v => Sys2Proof.Machine.execAxisSnap p g v s
  | .axisDrvEnWrite p g en => Sys2Proof.Machine.execAxisDrvEnWrite p g en s
  | .encoderEdge g kind => Sys2Proof.Machine.execEncoderEdge g kind s
  | .limitInputChange g n change => Sys2Proof.Machine.execLimitInputChange g n change s
  | .drvFault g active => Sys2Proof.Machine.execDrvFault g active s
  | .homingNotFound g => Sys2Proof.Machine.execHomingNotFound g s
  | .irefHoldTimeout g => Sys2Proof.Machine.execIrefHoldTimeout g s
  | .bstEnWrite p g v => Sys2Proof.Machine.execBstEnWrite p g v s
  | .lampDirect p g v => Sys2Proof.Machine.execLampDirect p g v s
  | .shutClr p g v => Sys2Proof.Machine.execShutClr p g v s
  | .binningReadComplete g record => Sys2Proof.Machine.execBinningReadComplete g record s
  | .lchainGo p t v => Sys2Proof.Machine.execLchainGo p t v s
  | .lchainFrameDone t => Sys2Proof.Machine.execLchainFrameDone t s
  | .patternTick => Sys2Proof.Machine.execPatternTick s
  | .pattStart p t mask => Sys2Proof.Machine.execPattStart p t mask s
  | .pattStop p t mask => Sys2Proof.Machine.execPattStop p t mask s
  | .monSlot t raw => Sys2Proof.Machine.execMonSlot t raw s
  | .monCal p t v => Sys2Proof.Machine.execMonCal p t v s
  | .monCalDone t ofs gain lin => Sys2Proof.Machine.execMonCalDone t ofs gain lin s
  | .trump p t v => Sys2Proof.Machine.execTrump p t v s
  | .monSnap p t v => Sys2Proof.Machine.execMonSnap p t v s
  | .snapPeriod t => Sys2Proof.Machine.execSnapPeriod t s
  | .snapshotComplete t => Sys2Proof.Machine.execSnapshotComplete t s
  | .feHalfStart t mask => Sys2Proof.Machine.execFeHalfStart t mask s
  | .feOverrun t => Sys2Proof.Machine.execFeOverrun t s
  | .measFailsafeTimeout t o => Sys2Proof.Machine.execMeasFailsafeTimeout t o s
  | .hostRestart p t v => Sys2Proof.Machine.execHostRestart p t v s
  | .linkUp t gen width => Sys2Proof.Machine.execLinkUp t gen width s
  | .trainFail t => Sys2Proof.Machine.execTrainFail t s
  | .perst t => Sys2Proof.Machine.execPerst t s
  | .hotReset t => Sys2Proof.Machine.execHotReset t s
  | .dlDown t => Sys2Proof.Machine.execDlDown t s
  | .flr t => Sys2Proof.Machine.execFlr t s
  | .pcsLoss t => Sys2Proof.Machine.execPcsLoss t s
  | .hostSilent t => Sys2Proof.Machine.execHostSilent t s
  | .doorbell t q v beAll ep => Sys2Proof.Machine.execDoorbell t q v beAll ep s
  | .ethFrameReceived t frame => Sys2Proof.Machine.execEthFrameReceived t frame s
  | .ptpRxPop p t v => Sys2Proof.Machine.execPtpRxPop p t v s
  | .ptpTxGo p t v => Sys2Proof.Machine.execPtpTxGo p t v s
  | .ptpTxDone t => Sys2Proof.Machine.execPtpTxDone t s
  | .slewRateWrite p t v => Sys2Proof.Machine.execSlewRateWrite p t v s
  | .slewOfsWrite p t v => Sys2Proof.Machine.execSlewOfsWrite p t v s
  | .controlReq t src body => Sys2Proof.Machine.execControlReq t src body s
  | .creditGrant t src session q limit lenOk => Sys2Proof.Machine.execCreditGrant t src session q limit lenOk s
  | .thaigEvent t => Sys2Proof.Machine.execThaigEvent t s
  | .eventRepeat t => Sys2Proof.Machine.execEventRepeat t s
  | .dmaGo p t c => Sys2Proof.Machine.execDmaGo p t c s
  | .dmaStop p t c => Sys2Proof.Machine.execDmaStop p t c s
  | .dmaResume p t c => Sys2Proof.Machine.execDmaResume p t c s
  | .descFetched t c cpl => Sys2Proof.Machine.execDescFetched t c cpl s
  | .descPoll t c => Sys2Proof.Machine.execDescPoll t c s
  | .dmaBurst t c => Sys2Proof.Machine.execDmaBurst t c s
  | .dmaTransactionDone t c n cpl => Sys2Proof.Machine.execDmaTransactionDone t c n cpl s
  | .dmaTimeout t c => Sys2Proof.Machine.execDmaTimeout t c s
  | .dramTrainingDone t fail => Sys2Proof.Machine.execDramTrainingDone t fail s
  | .mr4Read t code hot above => Sys2Proof.Machine.execMr4Read t code hot above s
  | .dramRetrain t => Sys2Proof.Machine.execDramRetrain t s
  | .refreshDue t n => Sys2Proof.Machine.execRefreshDue t n s
  | .panicOn t n fill full => Sys2Proof.Machine.execPanicOn t n fill full s
  | .panicOff t n fill => Sys2Proof.Machine.execPanicOff t n fill s
  | .ringLinkDown loss => Sys2Proof.Machine.execRingLinkDown loss s
  | .ringLinkUp t delayU delayL => Sys2Proof.Machine.execRingLinkUp t delayU delayL s
  | .reachSettle => Sys2Proof.Machine.execReachSettle s
  | .reconcile g => Sys2Proof.Machine.execReconcile g s
  | .syncSend t => Sys2Proof.Machine.execSyncSend t s
  | .syncReceive t => Sys2Proof.Machine.execSyncReceive t s
  | .syncLost t => Sys2Proof.Machine.execSyncLost t s
  | .heartbeatSend t => Sys2Proof.Machine.execHeartbeatSend t s
  | .heartbeatMiss t beat => Sys2Proof.Machine.execHeartbeatMiss t beat s
  | .mirrorCopyDone => Sys2Proof.Machine.execMirrorCopyDone s
  | .watchdogCheck t pass => Sys2Proof.Machine.execWatchdogCheck t pass s
  | .recoveryTimeout t => Sys2Proof.Machine.execRecoveryTimeout t s
  | .tileAnswers t => Sys2Proof.Machine.execTileAnswers t s
  | .recover p t tiles => Sys2Proof.Machine.execRecover p t tiles s
  | .ageing t mon life => Sys2Proof.Machine.execAgeing t mon life s
  | .twcGo p t v => Sys2Proof.Machine.execTwcGo p t v s
  | .twcAbort p t v => Sys2Proof.Machine.execTwcAbort p t v s
  | .twcClear p t v => Sys2Proof.Machine.execTwcClear p t v s
  | .alertRead p t v => Sys2Proof.Machine.execAlertRead p t v s
  | .alertEdge t low => Sys2Proof.Machine.execAlertEdge t low s
  | .twcRetryGap t piece => Sys2Proof.Machine.execTwcRetryGap t piece s
  | .twcTransferEnd t e done data => Sys2Proof.Machine.execTwcTransferEnd t e done data s
  | .sclLowTimeout t cont done data => Sys2Proof.Machine.execSclLowTimeout t cont done data s
  | .sdaLowTimeout t cont done data => Sys2Proof.Machine.execSdaLowTimeout t cont done data s
  | .busClearEnd t sda => Sys2Proof.Machine.execBusClearEnd t sda s
  | .gpioEdge t pin rising n => Sys2Proof.Machine.execGpioEdge t pin rising n s
  | .controlPortsUsable => Sys2Proof.Machine.execControlPortsUsable s
  | .tilePagesAnswer t => Sys2Proof.Machine.execTilePagesAnswer t s
  | .bankRailRamp rail v33 => Sys2Proof.Machine.execBankRailRamp rail v33 s
  | .laneLockGained g => Sys2Proof.Machine.execLaneLockGained g s
  | .perstRelease t => Sys2Proof.Machine.execPerstRelease t s
  | .configRequest t req ready => Sys2Proof.Machine.execConfigRequest t req ready s
  | .msixTableWrite t dword v ep => Sys2Proof.Machine.execMsixTableWrite t dword v ep s
  | .bstOkChange g ok => Sys2Proof.Machine.execBstOkChange g ok s
  | .jtagTckEdge rising tms tdi trstLow => Sys2Proof.Machine.execJtagTckEdge rising tms tdi trstLow s
  | .spillLevelReport t => Sys2Proof.Machine.execSpillLevelReport t s

end Sys2Proof.Machine
end

