-- ==== Sys2Proof/Safety.lean ====
section
/-!
DEFINITION. The terms the claims use: the part as a command meets it, the next state that a command's own effect gives, and when a
port's write reaches a register.
-/

namespace Sys2Proof.Machine

/-- The part as a command meets it: what left it in the step before is forgotten. -/
def State.start (s : State) : Mach := { s.m with out := [] }

/-- The next state of a command whose own effect left the part as `a`: what follows from every change is settled (`Mach.settle`). -/
def State.settled (s : State) (a : Mach) : State := { s with m := a.settle }

/-- Number of a port: 0 A, 1 B. -/
def portNo (p : Port) : Nat := match p with | .a => 0 | .b => 1

namespace Mach

/-- An access to page `pg` of tile `tf` wakes the tile: it is DORMANT, and the page is not one of TILE, PWR, CLK, TB and DECL (R68). -/
def asleep (m : Mach) (tf pg : Nat) : Bool :=
  decide (tf < 8) && !([0x00, 0x01, 0x02, 0x03, 0x05].contains pg) && (m.tile tf).dormant

/-- A write of port `p` to the register at `off` of page `pg` of tile field `tf` reaches its page: the port's path stands, no earlier
access waits, the page is served in the port's segment by a tile that the access does not wake, and no guard turns the write away (R68, R91,
R92, R107, R109, R123). -/
def takes (m : Mach) (p : Port) (tf pg off : Nat) : Bool :=
  m.heldAcc.isEmpty && m.viewOf.isNone && !m.asleep tf pg && !m.guardBlocks (portNo p) (pageKey tf pg) off &&
  match m.portEntry (portNo p) with
  | some e => !m.waits e (regAddr tf pg off) && (m.islandOf e).isNone && decide (m.target e tf pg off = .page)
  | none => false

/-- As `takes`, and the page is not locked (R98): the register takes the write. -/
def writable (m : Mach) (p : Port) (tf pg off : Nat) : Bool := m.takes p tf pg off && !m.flag (pageKey tf pg) F.PAGE_CTRL_LOCK

end Mach

/-! What the claims about every step say of a state. -/

/-- The interrupt pins show the summaries of tile 0's segment wherever tile 0 answers, and are released in its DORMANT (R49, R129). -/
def pinsFollow (m : Mach) : Prop :=
  m.answers 0 = true →
    if (m.tile 0).dormant then m.pinA = false ∧ m.pinB = false else m.pinA = m.pinLow 0 ∧ m.pinB = m.pinLow 1

/-- R130: no MSI-X vector 0–8 of the port A path stays armed while its summary bit is 1, on a
PCIe endpoint that carries port A with MSI-X enabled. -/
def armedWithoutCause (m : Mach) : Prop :=
  ∀ t, t < 8 → m.pathA t = 1 → m.msixOn t = true → ∀ v, v < 9 → bit m.msixArmed v = true →
    (if v = 0 then bit (m.irqPair t 0).1 8 else bit (m.irqPair t 0).1 (v - 1)) = false

/-- No island segment stands: every tile is in the primary segment. -/
def oneSegment (m : Mach) : Bool :=
  m.viewOf.isNone && (List.range 8).all fun t => !m.flag (P.ring t) F.RING_STAT_OUTSIDE && decide (m.rd (P.decl t) F.DECL_ROLE_ROLE ≠ 3)

end Sys2Proof.Machine
end

