-- ==== Sys2Proof/Certificates/Slice0/Obligations.lean ====
section
/-!
DEFINITION. The statements for the provers. Throughout, `s.start` is the part as a command meets it, `s.settled a` the next state of a
command whose own effect left the part as `a`; what settling changes is stated on its own (`SettlingKeepsTheRest`,
`PinsFollowTheSummaries`). An equation with `s.settled a` therefore names the whole next state: whatever `a`
does not change from `s.start` is unchanged, every byte of DRAM, every register and the queue of waiting commands included.
-/

open Sys2Proof Sys2Proof.Machine

/-! ### The step, and what follows every command -/

/-- A step runs the command at the front of the queue on the state with the queue's rest. -/
def Obligations.StepRunsTheFrontCommand : Prop :=
  ∀ (s : State) (c : Instr) (rest : List Instr), s.pending = c :: rest → step s = exec c { s with pending := rest }

/-- With no command waiting one CLK_PIPE cycle passes (the model's choice, log entry 1): with RATE and REMAIN zero the time base of every
tile out of power-on reset advances by one tick and keeps its fraction; the queue stays empty and nothing leaves the part.
Model choices it rests on: log entry 1. -/
def Obligations.IdleStepCountsOneTick : Prop :=
  ∀ (s : State), s.pending = [] → s.m.slewRate = 0 → s.m.slewRemain = 0 →
    ∃ a : Mach, step s = .next (s.settled a) ∧ a.regs = s.m.regs ∧ a.dram = s.m.dram ∧ a.out = [] ∧
      ∀ t, t < 8 → (s.m.tile t).ring.rate = none → (s.m.tile t).sub < 2 ^ 32 → (s.m.tile t).n + 1 < 2 ^ 64 →
        (a.tile t).n = (if (s.m.tile t).life = .por then (s.m.tile t).n else (s.m.tile t).n + 1) ∧ (a.tile t).sub = (s.m.tile t).sub

/-- Every command of the table completes from every state: the part never stops, and no command touches the queue of those that wait.
Model choices it rests on: log entry 11. -/
def Obligations.EveryCommandCompletes : Prop :=
  ∀ (c : Instr) (s : State), ∃ a : Mach, exec c s = .next (s.settled a) ∧ (s.settled a).pending = s.pending

/-- R49, R129, kept by every step: wherever tile 0, which drives the pins, answers, IRQ_A_N and IRQ_B_N are low exactly while the summary of their
port is not zero and PIN_A_EN or PIN_B_EN is 1, whatever path port A uses; in its DORMANT they are released (`pinsFollow`). -/
def Obligations.PinsFollowTheSummaries : Prop :=
  ∀ (s t : State), pinsFollow s.m → step s = .next t → pinsFollow t.m

/-- R130, kept by every step: on a PCIe endpoint that carries port A with MSI-X enabled, no vector 0–8 stays armed while the summary bit it
carries is 1: it has sent its message (`armedWithoutCause`). Model choices it rests on: log entry 101. -/
def Obligations.ArmedVectorsHaveNoCause : Prop :=
  ∀ (s t : State), armedWithoutCause s.m → step s = .next t → armedWithoutCause t.m

/-- What settling a command leaves as it was, when no access waits for a declarer: DRAM and its marked words, window elements, time bases
and lives of the tiles, the fields of control port B and of the test logic, the slewing, the counter of free values; and, in one segment,
every cluster and hand and every word but `ROLE` and `INT_RAW` of the pages DECL, the page ISLAND, and HAND_STAT (its ISL_MEMBER) of
page MODE. Model choices it rests on: log entry 13. -/
def Obligations.SettlingKeepsTheRest : Prop :=
  (∀ (m : Mach), m.heldAcc = [] →
    m.settle.dram = m.dram ∧ m.settle.dramMark = m.dramMark ∧ m.settle.arr = m.arr ∧ m.settle.winAsm = m.winAsm ∧
    m.settle.part = m.part ∧ m.settle.cpb = m.cpb ∧ m.settle.kaWinA = m.kaWinA ∧ m.settle.kaWinB = m.kaWinB ∧
    m.settle.kaClock = m.kaClock ∧
    m.settle.jtag = m.jtag ∧ m.settle.refLost = m.refLost ∧ m.settle.slewRate = m.slewRate ∧ m.settle.slewRemain = m.slewRemain ∧
    m.settle.free = m.free ∧ m.settle.heldAcc = [] ∧
    ∀ t, (m.settle.tile t).n = (m.tile t).n ∧ (m.settle.tile t).sub = (m.tile t).sub ∧ (m.settle.tile t).life = (m.tile t).life ∧
      (m.settle.tile t).dma = (m.tile t).dma ∧ (m.settle.tile t).mon = (m.tile t).mon ∧ (m.settle.tile t).fe = (m.tile t).fe ∧
      (m.settle.tile t).aonLog = (m.tile t).aonLog) ∧
  (∀ (m : Mach), m.heldAcc = [] → oneSegment m = true →
    m.settle.clus = m.clus ∧ m.settle.hands = m.hands ∧
    ∀ pk off, off < 4096 → pk ≠ P.island → ¬ (pk = P.mode ∧ 0x200 ≤ off ∧ off < 0x240) →
      ¬ (∃ t, t < 8 ∧ pk = P.decl t ∧ (off = 0x040 ∨ off = 0x010)) → m.settle.word pk off = m.word pk off)

/-- The state before power comes up (R55–R58): no command waits, every tile is held in power-on reset, every register of the map reads its
reset value, no byte of DRAM and no window element is listed, and control port B is not usable; the pins are low and follow the
summaries (tile 0 does not answer), and no vector is armed. Model choices it rests on: log entries 4, 9, 10. -/
def Obligations.ResetHoldsThePart : Prop :=
  State.reset.pending = [] ∧ (∀ t, t < 8 → (State.reset.m.tile t).life = .por) ∧
  (∀ pk off, State.reset.m.word pk off = resetWord (pk * 4096 + off)) ∧ State.reset.m.dram = [] ∧ State.reset.m.arr = [] ∧
  State.reset.m.cpb.usable = false ∧ (∀ h, h < 16 → State.reset.m.handState h = 0) ∧
  pinsFollow State.reset.m ∧ armedWithoutCause State.reset.m ∧ State.reset.m.pinA = false ∧ State.reset.m.pinB = false

/-! ### The register space (R91–R130) -/

/-- R63, R91, R92, R93, R95: a write of either port to a tile the part does not have, or to a page number that no page stands behind, changes
nothing but PORTS.BAD_ADDR and BAD_ADDR, and a read there returns zero; the two low address bits are ignored. An access to a page whose
domain is off reads zero; a write there is ignored; each is counted in OFF_ACCESS and raises it (on a tile that is not DORMANT nothing
else happens). Pages TILE, PWR, CLK, TB and DECL are never off. Model choices it rests on: log entry 14. -/
def Obligations.AbsentPagesReadZeroAndIgnoreWrites : Prop :=
  (∀ (s : State) (p : Port) (addr : BitVec 24) (v : Word) (e : Nat),
    s.start.heldAcc = [] → s.start.portEntry (portNo p) = some e → s.start.islandOf e = none → Mach.fieldTile addr.toNat ≠ 15 →
    (pageExists (Mach.fieldTile addr.toNat) (Mach.fieldPage addr.toNat) = false ∨
      (Mach.fieldTile addr.toNat ≠ 14 ∧ s.start.nTiles ≤ Mach.fieldTile addr.toNat)) →
    exec (.registerWrite p addr v) s = .next (s.settled s.start.badAddr) ∧
    s.start.hostRead (portNo p) e addr.toNat = 0 ∧
    s.start.hostRead (portNo p) e (addr.toNat / 4 * 4) = s.start.hostRead (portNo p) e addr.toNat) ∧
  (∀ (s : State) (p : Port) (t : Fin 8) (pg : Fin 256) (k : Fin 1024) (v : Word) (e : Nat),
    s.start.heldAcc = [] → s.start.portEntry (portNo p) = some e → s.start.islandOf e = none → (s.start.tile t).dormant = false →
    s.start.target e t pg (4 * k) = .domOff →
    exec (.registerWrite p (BitVec.ofNat 24 (regAddr t pg (4 * k))) v) s =
      .next (s.settled ((s.start.inc (P.pwr t) F.PWR_OFF_ACCESS_COUNT).raise (P.pwr t) 5)) ∧
    s.start.readEffect e (regAddr t pg (4 * k)) = (s.start.inc (P.pwr t) F.PWR_OFF_ACCESS_COUNT).raise (P.pwr t) 5 ∧
    s.start.hostRead (portNo p) e (regAddr t pg (4 * k)) = 0) ∧
  (∀ (m : Mach) (e t off : Nat) (pg : Nat), pg ∈ [0x00, 0x01, 0x02, 0x03, 0x05] → m.target e t pg off ≠ .domOff)

/-- R98, R124: once a page is locked, a write that reaches any register of it but PAGE_CTRL, INT_RAW and COMMIT changes nothing but its
ERR_COUNT. A write to a guarded page by a port that does not hold every semaphore that guards it is ignored, counted for that port, and
raises GUARD_BLOCK; INT_RAW and the pages SEM, PORTS and GUARD are never guarded. -/
def Obligations.LockedPagesIgnoreWrites : Prop :=
  (∀ (s : State) (p : Port) (tf : Fin 15) (pg : Fin 256) (k : Fin 1024) (v : Word),
    s.start.takes p tf pg (4 * k) = true → s.start.flag (pageKey tf pg) F.PAGE_CTRL_LOCK = true →
    4 * k.val ≠ 0x004 → 4 * k.val ≠ 0x010 → 4 * k.val ≠ 0x030 →
    exec (.registerWrite p (BitVec.ofNat 24 (regAddr tf pg (4 * k))) v) s = .next (s.settled (s.start.errCount (pageKey tf pg)))) ∧
  (∀ (s : State) (p : Port) (tf : Fin 15) (pg : Fin 256) (k : Fin 1024) (v : Word) (e : Nat),
    s.start.heldAcc = [] → s.start.portEntry (portNo p) = some e → s.start.waits e (regAddr tf pg (4 * k)) = false →
    s.start.islandOf e = none → s.start.asleep tf pg = false → s.start.target e tf pg (4 * k) = .page → s.start.guardBlocks (portNo p) (pageKey tf pg) (4 * k) = true →
    exec (.registerWrite p (BitVec.ofNat 24 (regAddr tf pg (4 * k))) v) s =
      .next (s.settled ((s.start.inc P.guard (match p with | .a => F.GUARD_BLOCKED_A_COUNT | .b => F.GUARD_BLOCKED_B_COUNT)).raise P.guard 0))) ∧
  (∀ (m : Mach) (p pk : Nat), m.guardBlocks p pk 0x010 = false) ∧
  (∀ (m : Mach) (p pk off : Nat), pk ∈ [P.sem, P.ports, P.guard] → m.guardBlocks p pk off = false)

/-- R94, R95, R100: a write that a register of a tile page with no behaviour of its own takes sets its RW bits and the shadow of its RWS
bits to the written value, clears its W1C bits written as 1, and changes nothing else: the active copy at offset + 0x800 stays. -/
def Obligations.WritesFollowTheAccessCodes : Prop :=
  ∀ (s : State) (p : Port) (t : Fin 8) (pg : Fin 256) (k : Fin 1024) (v : Word) (r : RegRow),
    s.start.writable p t pg (4 * k) = true → 0x040 ≤ 4 * k.val → 4 * k.val < 0x800 → rowOf (pageKey t pg) (4 * k) = some r →
    ¬ (0x200 ≤ 4 * k.val ∧ 4 * k.val < 0x21C ∧ hasWindow t pg = true) →
    s.start.blockWrite (pageKey t pg) (4 * k) v = none → r.rw ||| r.rws ≠ 0 →
    exec (.registerWrite p (BitVec.ofNat 24 (regAddr t pg (4 * k))) v) s =
      .next (s.settled (s.start.setWord (pageKey t pg) (4 * k)
        (((s.start.word (pageKey t pg) (4 * k) &&& ~~~(BitVec.ofNat 32 (r.rw ||| r.rws))) ||| (v &&& BitVec.ofNat 32 (r.rw ||| r.rws))) &&&
          ~~~(v &&& BitVec.ofNat 32 r.w1c))))

/-- R100, whole: block registers stand at 0x040–0x7FF; a read at offset x + 0x800 returns the active copy of the RWS bits of the register at
x, and zero where the register is not RWS or no register stands at x; writes anywhere in 0x800–0xFFF are ignored and counted; a write at x
is taken by the shadow, which a read at x shows, while the active copy, which the block uses (`act`), stays. The last is stated for the
registers with no behaviour of their own on a write or a read. -/
def Obligations.ActiveCopiesAreReadOnly : Prop :=
  (∀ (m : Mach) (p pk off : Nat), 0x800 ≤ off →
    m.regRead p pk off = match rowOf pk (off - 0x800) with
      | some r => m.word pk off &&& BitVec.ofNat 32 r.rws
      | none => 0) ∧
  (∀ (s : State) (p : Port) (tf : Fin 15) (pg : Fin 256) (k : Fin 1024) (v : Word),
    s.start.takes p tf pg (4 * k) = true → 0x800 ≤ 4 * k.val →
    exec (.registerWrite p (BitVec.ofNat 24 (regAddr tf pg (4 * k))) v) s = .next (s.settled (s.start.errCount (pageKey tf pg)))) ∧
  (∀ (s : State) (p : Port) (t : Fin 8) (pg : Fin 256) (k : Fin 1024) (v : Word) (r : RegRow),
    s.start.writable p t pg (4 * k) = true → 0x040 ≤ 4 * k.val → 4 * k.val < 0x800 → rowOf (pageKey t pg) (4 * k) = some r → r.rws ≠ 0 →
    ¬ (0x200 ≤ 4 * k.val ∧ 4 * k.val < 0x21C ∧ hasWindow t pg = true) → s.start.blockWrite (pageKey t pg) (4 * k) v = none →
    ∃ a : Mach, exec (.registerWrite p (BitVec.ofNat 24 (regAddr t pg (4 * k))) v) s = .next (s.settled a) ∧
      a.word (pageKey t pg) (4 * k) &&& BitVec.ofNat 32 r.rws = v &&& BitVec.ofNat 32 r.rws ∧
      a.word (pageKey t pg) (4 * k + 0x800) = s.start.word (pageKey t pg) (4 * k + 0x800) ∧
      (a.blockRead (pageKey t pg) (4 * k) = none → a.regRead (portNo p) (pageKey t pg) (4 * k) = a.word (pageKey t pg) (4 * k))) ∧
  (∀ (pk off : Nat), (rowOf pk off).isSome = true → 0x040 ≤ off ∧ off < 0x800) ∧
  (∀ (m : Mach) (pk : Nat) (f : Field), m.act pk f = bits (m.word pk (f.off + 0x800)).toNat f.hi f.lo)

/-- R97, R572: the header of a page as it is read: PAGE_ID with the page's block code and version 1.0, INT_STAT as INT_RAW AND INT_EN,
LOCK and ENABLE shown in PAGE_STAT, zero at the offsets with no register. -/
def Obligations.PageHeadersRead : Prop :=
  ∀ (m : Mach) (p : Nat) (tf : Fin 15) (pg : Fin 256), pageExists tf pg = true →
    bits (m.regRead p (pageKey tf pg) 0x000).toNat 31 24 = blockCode tf pg ∧ blockCode tf pg ≠ 0 ∧
    bits (m.regRead p (pageKey tf pg) 0x000).toNat 15 0 = 0x0100 ∧
    m.regRead p (pageKey tf pg) 0x018 = m.regRead p (pageKey tf pg) 0x010 &&& m.regRead p (pageKey tf pg) 0x014 ∧
    bit (m.regRead p (pageKey tf pg) 0x008).toNat 3 = m.flag (pageKey tf pg) F.PAGE_CTRL_LOCK ∧
    bit (m.regRead p (pageKey tf pg) 0x008).toNat 0 = m.enabled (pageKey tf pg) ∧
    ∀ off, off ∈ [0x00C, 0x028, 0x02C, 0x034, 0x038, 0x03C] → m.regRead p (pageKey tf pg) off = 0

/-- R84, R97, R98: writes of a page's header. PAGE_ENABLE_WRITE, PAGE_LOCK and BLOCK_SOFT_RESET on a page whose block adds nothing of its own
to ENABLE set ENABLE, set LOCK for good, and (on page TILE) return the events and the enable to zero; INT_SET sets INT_RAW bits. -/
def Obligations.PageHeaderCommands : Prop :=
  (∀ (s : State) (p : Port) (tf : Fin 15) (pg : Fin 256) (en : Bool), s.start.takes p tf pg 0x004 = true →
    blockCode tf pg ∉ [0x56, 0x57, 0x5F, 0x68, 0x6C, 0x70, 0x71, 0x72, 0x74, 0x75] →
    exec (.pageEnableWrite p (tf.castLE (by decide)) pg en) s = .next (s.settled (s.start.wrb (pageKey tf pg) F.PAGE_CTRL_ENABLE en))) ∧
  (∀ (s : State) (p : Port) (tf : Fin 15) (pg : Fin 256) (v : Word), s.start.takes p tf pg 0x004 = true → bit v.toNat 1 = false →
    blockCode tf pg ∉ [0x56, 0x57, 0x5F, 0x68, 0x6C, 0x70, 0x71, 0x72, 0x74, 0x75] →
    exec (.pageLock p (tf.castLE (by decide)) pg v) s = .next (s.settled
      ((s.start.wrb (pageKey tf pg) F.PAGE_CTRL_ENABLE (bit v.toNat 0)).wr (pageKey tf pg) F.PAGE_CTRL_LOCK 1))) ∧
  (∀ (s : State) (p : Port) (t : Fin 8) (v : Word), s.start.takes p t 0x00 0x004 = true → bit v.toNat 2 = false →
    s.start.fallingAsleep t = false →
    ∃ a : Mach, exec (.blockSoftReset p (t.castLE (by decide)) 0x00 v) s = .next (s.settled a) ∧
      a.word (P.tile t) 0x010 = 0 ∧ a.enabled (P.tile t) = false ∧ a.rd (P.tile t) F.ERR_COUNT_COUNT = 0 ∧
      (∀ pk off, off < 4096 → pk ≠ P.tile t → a.word pk off = s.start.word pk off) ∧
      a.arr = s.start.arr ∧ a.dram = s.start.dram ∧ a.tiles = s.start.tiles ∧ a.clus = s.start.clus) ∧
  (∀ (s : State) (p : Port) (tf : Fin 15) (pg : Fin 256) (v : Word), s.start.writable p tf pg 0x01C = true →
    exec (.intSet p (tf.castLE (by decide)) pg v) s =
      .next (s.settled (s.start.setWord (pageKey tf pg) 0x010 (s.start.word (pageKey tf pg) 0x010 ||| v))))

/-- R101, R102: COMMIT. On page ACC of a cluster whose hand is in READY or whose cluster is in no hand, COMMIT NOW copies the shadows to the
active copies at once (LIMITS shown); with the cluster's dealer running, COMMIT LINE waits, and for a cluster of a hand COMMIT DEAL
waits, with nothing else changed. -/
def Obligations.CommitCommands : Prop :=
  (∀ (s : State) (p : Port) (g : Fin 16) (v : Word), s.start.takes p (g.val / 2) (0x10 + g.val % 2) 0x030 = true →
    s.start.running g = false → bits v.toNat 1 0 = 0 →
    ∃ a : Mach, exec (.commitNow p ⟨g.val / 2, by omega⟩ ⟨0x10 + g.val % 2, by omega⟩ v) s = .next (s.settled a) ∧
      a.act (P.acc g) F.ACC_LIMITS_DEPTH = s.start.rd (P.acc g) F.ACC_LIMITS_DEPTH ∧
      (∀ off, off < 0x800 → a.word (P.acc g) off = s.start.word (P.acc g) off) ∧
      (∀ pk off, off < 4096 → pk ≠ P.acc g → a.word pk off = s.start.word pk off) ∧
      a.arr = s.start.arr ∧ a.dram = s.start.dram ∧ a.tiles = s.start.tiles ∧ a.clus = s.start.clus) ∧
  (∀ (s : State) (p : Port) (g : Fin 16) (v : Word), s.start.takes p (g.val / 2) (0x10 + g.val % 2) 0x030 = true →
    s.start.running g = true → bits v.toNat 2 1 = 0 →
    exec (.commitLine p ⟨g.val / 2, by omega⟩ ⟨0x10 + g.val % 2, by omega⟩ v) s =
      .next (s.settled (s.start.wr (P.acc g) F.COMMIT_LINE 1))) ∧
  (∀ (s : State) (p : Port) (g : Fin 16) (v : Word), s.start.takes p (g.val / 2) (0x10 + g.val % 2) 0x030 = true →
    (s.start.handOf g).isSome = true → bit v.toNat 0 = false → bit v.toNat 2 = false →
    exec (.commitDeal p ⟨g.val / 2, by omega⟩ ⟨0x10 + g.val % 2, by omega⟩ v) s =
      .next (s.settled (s.start.wr (P.acc g) F.COMMIT_DEAL 1)))

/-- R104, R105: windows. WIN_ADDR takes the index and a copy of the element into WIN_DATA; a STEP moves to the next element; the highest
WIN_DATA word of an element stores it and moves INDEX on, a lower one only waits. Stated for the records of page MON (read), the steps of
page PATT (one word) and the segment descriptors of page VC (two words). Model choices it rests on: log entry 15. -/
def Obligations.WindowCommands : Prop :=
  (∀ (s : State) (p : Port) (t : Fin 8) (v : Word), s.start.writable p t 0x30 0x204 = true → s.start.winSel (P.mon t) = 0 →
    v.toNat < 64 →
    ∃ a : Mach, exec (.winAddrWrite p (t.castLE (by decide)) 0x30 v) s = .next (s.settled a) ∧ a.winIndex (P.mon t) = v.toNat ∧
      (∀ k, k < 4 → a.word (P.mon t) (0x20C + 4 * k) = BitVec.ofNat 32 (s.start.el (P.mon t) 0 v.toNat / 2 ^ (32 * k))) ∧
      (∀ pk off, off < 4096 → ¬ (pk = P.mon t ∧ 0x204 ≤ off ∧ off < 0x21C) → a.word pk off = s.start.word pk off) ∧
      a.arr = s.start.arr ∧ a.dram = s.start.dram ∧ a.tiles = s.start.tiles ∧ a.clus = s.start.clus) ∧
  (∀ (s : State) (p : Port) (t : Fin 8) (v : Word), s.start.writable p t 0x30 0x208 = true → s.start.winSel (P.mon t) = 0 →
    s.start.winIndex (P.mon t) + 1 < 64 → bit v.toNat 0 = false →
    ∃ a : Mach, exec (.winStep p (t.castLE (by decide)) 0x30 v) s = .next (s.settled a) ∧
      a.winIndex (P.mon t) = s.start.winIndex (P.mon t) + 1 ∧
      (∀ k, k < 4 → a.word (P.mon t) (0x20C + 4 * k) =
        BitVec.ofNat 32 (s.start.el (P.mon t) 0 (s.start.winIndex (P.mon t) + 1) / 2 ^ (32 * k))) ∧
      a.arr = s.start.arr ∧ a.dram = s.start.dram ∧ a.tiles = s.start.tiles ∧ a.clus = s.start.clus) ∧
  (∀ (s : State) (p : Port) (t : Fin 8) (v : Word), s.start.writable p t 0x2F 0x20C = true → s.start.winSel (P.patt t) < 4 →
    s.start.winIndex (P.patt t) < 15 → Mach.stepOkElem v.toNat = true →
    ∃ a : Mach, exec (.winDataWrite p (t.castLE (by decide)) 0x2F 0 v) s = .next (s.settled a) ∧
      a.el (P.patt t) (s.start.winSel (P.patt t)) (s.start.winIndex (P.patt t)) = bits v.toNat 29 16 * 2 ^ 16 + bits v.toNat 9 0 ∧
      a.winIndex (P.patt t) = s.start.winIndex (P.patt t) + 1 ∧ a.dram = s.start.dram ∧ a.tiles = s.start.tiles ∧ a.clus = s.start.clus) ∧
  (∀ (s : State) (p : Port) (g : Fin 16) (w : Fin 4) (v : Word), s.start.writable p (g.val / 2) (0x0C + g.val % 2) (0x20C + 4 * w.val) = true →
    s.start.winSel (P.vc g) = 0 → w.val = 0 →
    exec (.winDataWrite p ⟨g.val / 2, by omega⟩ ⟨0x0C + g.val % 2, by omega⟩ w v) s =
      .next (s.settled { s.start with winAsm := Store.set 0 s.start.winAsm (P.vc g * 4 + w.val) v.toNat }))

/-- R91, R97: REGISTER_WRITE is the write of the word to the register at the address, shown on two registers that every page has: INT_EN takes
the word, and INT_RAW loses the bits written as 1, whatever its lock. -/
def Obligations.RegisterWriteReachesTheRegister : Prop :=
  (∀ (s : State) (p : Port) (tf : Fin 15) (pg : Fin 256) (v : Word), s.start.writable p tf pg 0x014 = true →
    ¬ (pageKey tf pg = P.ports ∧ s.start.viewOf.isSome = true) →
    exec (.registerWrite p (BitVec.ofNat 24 (regAddr tf pg 0x014)) v) s = .next (s.settled (s.start.setWord (pageKey tf pg) 0x014 v))) ∧
  (∀ (s : State) (p : Port) (tf : Fin 15) (pg : Fin 256) (v : Word), s.start.takes p tf pg 0x010 = true →
    exec (.registerWrite p (BitVec.ofNat 24 (regAddr tf pg 0x010)) v) s =
      .next (s.settled (s.start.setWord (pageKey tf pg) 0x010 (s.start.word (pageKey tf pg) 0x010 &&& ~~~v))))

/-! ### Control ports, semaphores, keepalive, interrupts -/

/-- R121: what a write to CLAIMn does, whole. `c` is the value written, `o` the owner of semaphore n (0 free, else a port's ID): the writer
takes a free semaphore while it is alive, and is counted with CLAIM_DEAD while it is not; its own ID leaves a held one as it is; 0
releases its own and is counted otherwise; any other value is counted. Of claims by both ports in one cycle, port A's comes first (R108)
and holds it. Model choices it rests on: log entry 12. -/
def Obligations.SemaphoreClaims : Prop :=
  (∀ (s : State) (p : Port) (n : Fin 64) (v : Word), s.start.writable p 14 0x01 (0x040 + 4 * n) = true →
    exec (.semClaim p n v) s = .next (s.settled (
      if bits v.toNat 1 0 = portNo p + 1 then
        if s.start.owner n = 0 then
          if s.start.alive (portNo p) = true then s.start.wr P.sem (F.SEM_OWNER_OWNER.nth n) (portNo p + 1)
          else (s.start.inc P.sem F.ERR_COUNT_COUNT).raise P.ports 9
        else s.start
      else if bits v.toNat 1 0 = 0 ∧ s.start.owner n = portNo p + 1 then s.start.wr P.sem (F.SEM_OWNER_OWNER.nth n) 0
      else s.start.inc P.sem F.ERR_COUNT_COUNT))) ∧
  (∀ (s t : State) (n : Fin 64) (v w : Word), oneSegment s.start = true → s.start.writable .a 14 0x01 (0x040 + 4 * n) = true →
    s.start.owner n = 0 → s.start.alive 0 = true → bits v.toNat 1 0 = 1 → exec (.semClaim .a n v) s = .next t →
    t.start.writable .b 14 0x01 (0x040 + 4 * n) = true → bits w.toNat 1 0 = 2 →
    t.m.owner n = 1 ∧ exec (.semClaim .b n w) t = .next (t.settled t.start))

/-- R120, what the ports read of the 64 semaphores, whole: CLAIMn and OWNERn show the owner (port A's ID 1, port B's 2, 0 free), HELD_A and
HELD_B the semaphores of each port, and PORTS.ID the reader's own ID. -/
def Obligations.SemaphoreReads : Prop :=
  ∀ (m : Mach) (p : Nat) (n : Fin 64), m.owner n < 3 → p < 2 →
    (m.regRead p P.sem (0x040 + 4 * n)).toNat = m.owner n ∧ (m.regRead p P.sem (0x140 + 4 * n)).toNat = m.owner n ∧
    ((m.regRead p P.sem (0x240 + 4 * (n.val / 32))).toNat.testBit (n.val % 32) ↔ m.owner n = 1) ∧
    ((m.regRead p P.sem (0x248 + 4 * (n.val / 32))).toNat.testBit (n.val % 32) ↔ m.owner n = 2) ∧
    (m.regRead p P.ports 0x040).toNat = p + 1

/-- R125, R126: KEEPALIVE makes the port alive and starts its window anew, on the clock that runs while a declarer serves; at the window's end the port is no
longer alive, its semaphores and no others are released, SEM_LOST is raised for the other port and WAS_LOST shown.
Model choices it rests on: log entry 92. -/
def Obligations.KeepaliveCommands : Prop :=
  (∀ (s : State) (p : Port) (v : Word), s.start.writable p 14 0x02 0x044 = true →
    ∃ a : Mach, exec (.keepalive p v) s = .next (s.settled a) ∧ a.alive (portNo p) = true ∧
      a.kaEnd (portNo p) = s.start.kaClock + s.start.kaWindow (portNo p) * 500000 ∧
      a.kaEnd (1 - portNo p) = s.start.kaEnd (1 - portNo p) ∧ a.alive (1 - portNo p) = s.start.alive (1 - portNo p) ∧
      (∀ n, n < 64 → a.owner n = s.start.owner n) ∧ a.dram = s.start.dram ∧ a.tiles = s.start.tiles ∧ a.clus = s.start.clus) ∧
  (∀ (s : State) (p : Port), s.start.declarer.isSome = true → s.start.alive (portNo p) = true →
    s.start.kaEnd (portNo p) ≤ s.start.kaClock →
    ∃ a : Mach, exec (.keepaliveExpiry p) s = .next (s.settled a) ∧ a.alive (portNo p) = false ∧
      (∀ n, n < 64 → a.owner n = if s.start.owner n = portNo p + 1 then 0 else s.start.owner n) ∧
      (a.word P.ports 0x010).toNat.testBit (portNo p) = true ∧
      a.flag P.ports (match p with | .a => F.PORTS_STAT_WAS_LOST_A | .b => F.PORTS_STAT_WAS_LOST_B) = true ∧
      a.alive (1 - portNo p) = s.start.alive (1 - portNo p) ∧ a.dram = s.start.dram ∧ a.tiles = s.start.tiles)

/-- R110, R111, R130: port A's own commands. A BAR0 read of one register through the endpoint that carries port A is answered with the
register's word; a write there is port A's register write; A_DETACH ends the path with A_DETACHED; EOI_A arms its vector again, and a
number above 8 is only counted. -/
def Obligations.PortACommands : Prop :=
  (∀ (s : State) (t : Fin 8) (addr : BitVec 24), s.start.heldAcc = [] → s.start.viewOf = none → s.start.wireUp t = true →
    s.start.hostMode t = 1 → s.start.memServed t = true → s.start.ctrlCapable t = true → s.start.islandOf t = none →
    s.start.attachedAt t = true →
    s.start.waits t (addr.toNat / 4 * 4) = false → s.start.asleep (Mach.readField addr.toNat) (Mach.fieldPage addr.toNat) = false →
    s.start.target t (Mach.readField addr.toNat) (Mach.fieldPage addr.toNat) (Mach.fieldOff addr.toNat) = .page →
    exec (.bar0Request t addr (.read 1) false) s =
      .next (s.settled (s.start.emitOut (.completion t [s.start.hostRead 0 t addr.toNat])))) ∧
  (∀ (s : State) (t : Fin 8) (addr : BitVec 24) (v : Word), s.start.heldAcc = [] → s.start.viewOf = none → s.start.wireUp t = true →
    s.start.hostMode t = 1 → s.start.memServed t = true → s.start.ctrlCapable t = true → s.start.islandOf t = none →
    s.start.attachedAt t = true → s.start.answers t = true → addr.toNat % 4 = 0 →
    exec (.bar0Request t addr (.write [(v, true)]) false) s = exec (.registerWrite .a addr v) s) ∧
  (∀ (s : State) (p : Port) (v : Word), s.start.writable p 14 0x02 0x054 = true → s.start.flag P.ports F.PORTS_STAT_A_PATH = true →
    exec (.aDetach p v) s = .next (s.settled
      (((s.start.wr P.ports F.PORTS_STAT_A_PATH 0).wr P.ports F.PORTS_STAT_A_TILE 0).raise P.ports 3))) ∧
  (∀ (s : State) (p : Port) (v : Word), s.start.writable p 14 0x02 0x06C = true →
    exec (.eoiA p v) s = .next (s.settled (
      if bits v.toNat 5 0 ≤ 8 then { s.start with msixArmed := putBit s.start.msixArmed (bits v.toNat 5 0) true }
      else s.start.errCount P.ports)))

/-- R112–R117, R119: control port B. A frame the port takes is one whose CRC is right; WRITE queues, READ answers or waits, FETCH gives the word
kept, and the width commands set the width. A frame cut short is counted; the queue's first write is applied as port B's register write
through tile 0; a read that waited is made and its word kept for FETCH; a frame with a wrong CRC is counted and shown as CRC_ERR. -/
def Obligations.PortBFrames : Prop :=
  (∀ (s : State) (addr : BitVec 24) (data : Word), s.start.cpb.usable = true →
    exec (.cpbWrite addr data (BitVec.ofNat 8 (crc8 (0x02#8 :: beBytes 3 addr.toNat ++ beBytes 4 data.toNat)))) s =
      .next (s.settled { s.start with cpb :=
        if 16 ≤ s.start.cpb.writes.length then { s.start.cpb with reject := true }
        else { s.start.cpb with writes := s.start.cpb.writes ++ [(addr.toNat, data)], wseq := (s.start.cpb.wseq + 1) % 8 } })) ∧
  (∀ (s : State) (addr : BitVec 24), s.start.cpb.usable = true → s.start.cpb.reading = none → s.start.cpb.writes = [] →
    s.start.cpb.addrErr = false → s.start.answers 0 = true → s.start.waits 0 addr.toNat = false → s.start.islandOf 0 = none →
    s.start.asleep (Mach.readField addr.toNat) (Mach.fieldPage addr.toNat) = false →
    s.start.target 0 (Mach.readField addr.toNat) (Mach.fieldPage addr.toNat) (Mach.fieldOff addr.toNat) = .page →
    Mach.fieldTile addr.toNat ≠ 15 →
    ∃ a : Mach, exec (.cpbRead addr (BitVec.ofNat 8 (crc8 (0x0B#8 :: beBytes 3 addr.toNat))) true false) s = .next (s.settled a) ∧
      (∃ stat : Byte, a.out = [.cpb (stat :: beBytes 4 (s.start.hostRead 1 0 addr.toNat).toNat ++
        [BitVec.ofNat 8 (crc8 (stat :: beBytes 4 (s.start.hostRead 1 0 addr.toNat).toNat))])] ∧
        stat.toNat = s.start.cpb.reject.toNat * 64 + s.start.cpb.crcErr.toNat * 32 + s.start.cpb.blocked.toNat * 8 + s.start.cpb.wseq % 8) ∧
      a.cpb.reading = none ∧ a.cpb.reject = false ∧ a.cpb.crcErr = false ∧ a.cpb.blocked = false ∧
      a.regs = s.start.regs ∧ a.dram = s.start.dram ∧ a.tiles = s.start.tiles) ∧
  (∀ (s : State), s.start.cpb.usable = true → s.start.cpb.reading = none →
    ∃ a : Mach, exec (.cpbFetch (BitVec.ofNat 8 (crc8 [0x0D#8, 0, 0, 0]))) s = .next (s.settled a) ∧
      (∃ stat : Byte, a.out = [.cpb (stat :: beBytes 4 (s.start.cpb.result.getD 0).toNat ++
        [BitVec.ofNat 8 (crc8 (stat :: beBytes 4 (s.start.cpb.result.getD 0).toNat))])] ∧ stat.toNat < 128) ∧
      a.regs = s.start.regs ∧ a.dram = s.start.dram ∧ a.tiles = s.start.tiles) ∧
  (∀ (s : State), s.start.cpb.usable = true →
    exec (.cpbSetQuad (BitVec.ofNat 8 (crc8 (0x38#8 :: List.replicate 7 0)))) s =
      .next (s.settled { s.start with cpb := { s.start.cpb with quad := true } })) ∧
  (∀ (s : State), s.start.cpb.usable = true →
    exec (.cpbSetSingle (BitVec.ofNat 8 (crc8 (0x3F#8 :: List.replicate 7 0)))) s =
      .next (s.settled { s.start with cpb := { s.start.cpb with quad := false } })) ∧
  (∀ (s : State), s.start.cpb.usable = true → s.start.islandOf 0 = none →
    exec .cpbFrameDiscard s = .next (s.settled ((s.start.inc P.ports F.PORTS_CPB_ERR_FRAME).raise P.ports 5))) ∧
  (∀ (s : State) (addr : Nat) (v : Word) (rest : List (Nat × Word)), s.start.cpb.writes = (addr, v) :: rest → s.start.cpb.reading = none →
    s.start.answers 0 = true → s.start.waits 0 addr = false →
    exec .cpbWriteApply s = .next (s.settled (Mach.hostWrite { s.start with cpb := { s.start.cpb with
      writes := rest, addrErr := s.start.cpb.addrErr || s.start.writeErr 0 addr,
      blocked := s.start.cpb.blocked || s.start.writeBlocked 1 0 addr } } 1 0 addr v))) ∧
  (∀ (s : State) (addr : Nat), s.start.cpb.reading = some (addr, 0) → s.start.answers 0 = true → s.start.waits 0 addr = false →
    s.start.islandOf 0 = none → s.start.asleep (Mach.readField addr) (Mach.fieldPage addr) = false →
    s.start.target 0 (Mach.readField addr) (Mach.fieldPage addr) (Mach.fieldOff addr) = .page →
    exec .cpbReadComplete s = .next (s.settled { s.start with cpb := { s.start.cpb with
      reading := none, result := some (s.start.hostRead 1 0 addr), addrErr := s.start.cpb.addrErr || s.start.addrErr 0 addr } })) ∧
  (∀ (s : State) (addr : BitVec 24) (data : Word) (crc : Byte), s.start.cpb.usable = true → s.start.islandOf 0 = none →
    crc.toNat ≠ crc8 (0x02#8 :: beBytes 3 addr.toNat ++ beBytes 4 data.toNat) →
    exec (.cpbWrite addr data crc) s =
      .next (s.settled { s.start.inc P.ports F.PORTS_CPB_ERR_CRC with cpb := { s.start.cpb with crcErr := true } }))

/-- R115: the worked figures of control port B's CRC, of the first read over the port: after each byte of the host phase 0x0B, 0xE0, 0x00, 0x40,
and of the answer STAT 0x00, DATA 0x5702B103; and the CRC of any frame is a byte. -/
def Obligations.PortBCrcWorkedExample : Prop :=
  crc8 [0x0B] = 0x64 ∧ crc8 [0x0B, 0xE0] = 0x5F ∧ crc8 [0x0B, 0xE0, 0x00] = 0xD2 ∧ crc8 [0x0B, 0xE0, 0x00, 0x40] = 0x13 ∧
  crc8 [0x00, 0x57, 0x02, 0xB1, 0x03] = 0xA5 ∧ ∀ l : List Byte, crc8 l < 256

/-! ### Reset, power, clocks, time base, test port (R40–R90) -/

/-- R55–R58: a common rail low for 2 µs and a long pulse on PKG_RST_N put every tile into reset with its cause, DRAM lost and no command port
usable, and the test logic in reset; shorter ones do nothing. -/
def Obligations.PowerOnAndPackageReset : Prop :=
  (∀ (s : State), ∃ a : Mach, exec (.railDip .common .long) s = .next (s.settled a) ∧
    (∀ t, t < 8 → (a.tile t).life = .por) ∧ (∀ t, t < s.start.nTiles → a.word (P.pwr t) 0x054 = 1) ∧ a.part = s.start.part ∧
    a.dram = [] ∧ a.arr = [] ∧ a.cpb.usable = false ∧ a.jtag = {} ∧ (∀ h, h < 16 → a.handState h = 0)) ∧
  (∀ (s : State), ∃ a : Mach, exec (.packageReset .long) s = .next (s.settled a) ∧
    (∀ t, t < 8 → (a.tile t).life = .por) ∧ (∀ t, t < s.start.nTiles → a.word (P.pwr t) 0x054 = 2) ∧ a.part = s.start.part ∧
    a.dram = [] ∧ a.arr = [] ∧ a.cpb.usable = false ∧ a.jtag = {} ∧ (∀ h, h < 16 → a.handState h = 0)) ∧
  (∀ (s : State) (r : Rail), exec (.railDip r .short) s = .next (s.settled s.start)) ∧
  (∀ (s : State), exec (.packageReset .short) s = .next (s.settled s.start))

/-- R42, R56, R58: the release samples the straps and starts every tile with its time base at zero, or with TEST_EN high holds the part; then
main PLL lock, self-test, and 2 ms on control port B usable and every tile's pages answering. -/
def Obligations.StartUpEvents : Prop :=
  (∀ (s : State) (boot : Fin 8) (hmode : Fin 4) (quad : Bool), (∀ t, t < 8 → (s.start.tile t).life = .por) →
    ∃ a : Mach, exec (.powerOnResetRelease boot hmode quad false) s = .next (s.settled a) ∧
      a.rd P.pkg F.PKG_STRAPS_BOOT = boot ∧ a.rd P.pkg F.PKG_STRAPS_HMODE = hmode ∧ a.flag P.pkg F.PKG_STRAPS_CPB_QUAD = quad ∧
      a.cpb = { quad := quad } ∧
      (∀ t, t < s.start.nTiles → (a.tile t).life = .starting ∧ (a.tile t).n = 0 ∧ (a.tile t).sub = 0) ∧
      a.dram = s.start.dram ∧ a.clus = s.start.clus) ∧
  (∀ (s : State) (boot : Fin 8) (hmode : Fin 4) (quad : Bool), (∀ t, t < 8 → (s.start.tile t).life = .por) →
    exec (.powerOnResetRelease boot hmode quad true) s = .next (s.settled { s.start with testHeld := true, jtag := {} })) ∧
  (∀ (s : State) (t : Fin 8), (s.start.tile t).life = .starting →
    exec (.mainPllLock t) s = .next (s.settled (s.start.wr (P.clk t) F.CLK_STAT_MAIN_LOCK 1))) ∧
  (∀ (s : State) (t : Fin 8) (pass : Bool), (s.start.tile t).life = .starting →
    exec (.selfTestDone t pass) s = .next (s.settled (s.start.modTile t fun ts => { ts with selfOk := pass }))) ∧
  (∀ (s : State), s.start.cpb.usable = false → (s.start.tile 0).life = .starting →
    ∃ a : Mach, exec .controlPortsUsable s = .next (s.settled a) ∧ a.cpb = { s.start.cpb with usable := true } ∧
      (∀ t, t < s.start.nTiles → (s.start.tile t).life = .starting → (a.tile t).life = .up) ∧
      a.dram = s.start.dram ∧ a.clus = s.start.clus)

/-- R500: with no tile in the declarer role and exactly one tile healthy once the maps are taken, the election makes that tile the declarer. -/
def Obligations.ElectionNamesTheHealthyTile : Prop :=
  ∀ (s : State) (d : Fin 8), (∀ t, t < 8 → s.start.awake t = true → s.start.role t % 2 = 0) → s.start.cpb.usable = false →
    (∀ t, t < 8 → s.start.takeMaps.healthy t = decide (t = d.val)) →
    s.start.takeMaps.ringLive d = true →
    (∀ t, t < 8 → s.start.takeMaps.ringLive t = true → bit (s.start.takeMaps.reach d) t = true) →
    ∃ a : Mach, exec .declarerElection s = .next (s.settled a) ∧ a.role d = 1 ∧ a.rd (P.decl d) F.DECL_ROLE_SUCC = 15 ∧
      a.dram = s.start.dram ∧ a.arr = s.start.arr ∧ a.clus = s.start.clus

/-- R62, R69, R83: TILE_RST with its key makes a tile reset due with cause TILE_CMD; the reset holds the tile with every switchable domain off; its
internal end adds the cause of a trigger that fell due meanwhile and powers what DOM_REQ requests; then its pages answer.
Model choices it rests on: log entry 114. -/
def Obligations.TileResetCommands : Prop :=
  (∀ (s : State) (p : Port) (t : Fin 8) (v : Word), s.start.writable p t 0x01 0x058 = true → bits v.toNat 31 16 = 0x5A1E →
    exec (.tileRstGo p t v) s = .next (s.settled (s.start.modTile t fun ts => { ts with rstDue := ts.rstDue ||| 4 }))) ∧
  (∀ (s : State) (p : Port) (t : Fin 8) (v : Word), s.start.writable p t 0x01 0x058 = true → bits v.toNat 31 16 ≠ 0x5A1E →
    exec (.tileRstGo p t v) s = .next (s.settled (s.start.errCount (P.pwr t)))) ∧
  (∀ (s : State) (t : Fin 8), s.start.present t = true → (s.start.tile t).life = .up → (s.start.tile t).rstDue ≠ 0 → s.start.serving t = none →
    ∃ a : Mach, exec (.tileReset t) s = .next (s.settled a) ∧ (a.tile t).life = .reset ∧ a.rd (P.pwr t) F.PWR_DOM_STAT_ON = 3 ∧
      (a.tile t).seq = none ∧ (a.tile t).sht0 = .off ∧ (a.tile t).sht1 = .off ∧ (a.tile t).dormant = false) ∧
  (∀ (s : State) (t : Fin 8), (s.start.tile t).life = .reset →
    exec (.tileResetRelease t) s = .next (s.settled
      (((s.start.setWord (P.pwr t) 0x054 (s.start.word (P.pwr t) 0x054 ||| BitVec.ofNat 32 (s.start.tile t).rstDue)).modTile t fun ts =>
        { ts with life := .released, rstDue := 0 }).seqKick t))) ∧
  (∀ (s : State) (t : Fin 8), (s.start.tile t).life = .released →
    exec (.tilePagesAnswer t) s = .next (s.settled (s.start.modTile t fun ts => { ts with life := .up })))

/-- R60, R61, R64: a domain that requires no other and is requested joins DOM_REQ, and the sequencer goes on; SHT_MODE takes a new mode of a
shading SRAM that is not ON; the end of a switch shows the domain on, or off. Model choices it rests on: log entry 22. -/
def Obligations.DomainCommands : Prop :=
  (∀ (s : State) (p : Port) (t : Fin 8) (d : Nat), s.start.writable p t 0x01 0x040 = true → d ∈ [3, 4, 6, 7, 8, 9, 16, 17, 18, 20] →
    s.start.requested t d = false →
    exec (.domReqWrite p t (s.start.word (P.pwr t) 0x040 ||| BitVec.ofNat 32 (2 ^ (d - 1)))) s =
      .next (s.settled ((s.start.setReq t d true).seqKick t))) ∧
  (∀ (s : State) (p : Port) (t : Fin 8) (x : Fin 3), s.start.writable p t 0x01 0x048 = true → s.start.shtReq t 0 ≠ 1 →
    x.val ≠ s.start.shtReq t 0 →
    exec (.shtModeWrite p t (BitVec.ofNat 32 (s.start.shtReq t 1 * 4 + x))) s =
      .next (s.settled (((s.start.wr (P.pwr t) F.PWR_SHT_MODE_SHT0 x).setReq t 14 (x.val = 1)).seqKick t))) ∧
  (∀ (s : State) (t : Fin 8) (d : Nat) (x : ShtMode), d ∈ [8, 9, 12, 13, 16] → s.start.awake t = true →
    (s.start.tile t).seq = some { dom := d, on := true, sht := x } →
    exec (.domainSwitched t) s =
      .next (s.settled (((s.start.setOn t d true).modTile t fun ts => { ts with seq := none }).seqKick t)))

/-- R74, R78–R81: REFCLK lost (shown with motion, lamps, ring and queues off): the clock conditions of every tile that is out of power-on
reset fall and its time base is degraded; its return shows the clocks and adds CLK_LOSS to the cause of a tile held in reset; without a
loss it is nothing. CAPTURE copies N and F; LOAD on the time master with every hand in READY waits for the next SYNC; an alarm whose
time has come is hit once; a PPS_IN edge copies tile 0's N. -/
def Obligations.RefclkCommands : Prop :=
  (∀ (s : State), s.start.refLost = false → s.start.viewOf = none →
    (∀ t, t < 8 → s.start.flag (P.ring t) F.RING_STAT_OUTSIDE = false ∧ s.start.domOn t D.mot = false ∧ s.start.domOn t D.lamp = false ∧
      s.start.domOn t D.ring = false ∧ s.start.domOn t D.dmaq = false) →
    ∃ a : Mach, exec .refclkLoss s = .next (s.settled a) ∧ a.refLost = true ∧
      (∀ t, t < s.start.nTiles → (s.start.tile t).life ≠ .por → bits (a.word (P.clk t) 0x040).toNat 15 0 = 0 ∧
        a.flag (P.tb t) F.TB_STAT_DEGRADED = true) ∧ a.dram = s.start.dram ∧ a.arr = s.start.arr ∧ a.clus = s.start.clus) ∧
  (∀ (s : State), s.start.refLost = true → (∀ t, t < s.start.nTiles → (s.start.tile t).life = .reset) →
    ∃ a : Mach, exec .refclkReturn s = .next (s.settled a) ∧ a.refLost = false ∧
      (∀ t, t < s.start.nTiles → a.flag (P.clk t) F.CLK_STAT_REF_OK = true ∧ a.flag (P.clk t) F.CLK_STAT_MAIN_LOCK = true ∧
        a.flag (P.tb t) F.TB_STAT_DEGRADED = false ∧ a.word (P.pwr t) 0x054 = s.start.word (P.pwr t) 0x054 ||| 0x20 ∧ (a.tile t).life = .reset) ∧ a.dram = s.start.dram) ∧
  (∀ (s : State), s.start.refLost = false → exec .refclkReturn s = .next (s.settled s.start)) ∧
  (∀ (s : State) (p : Port) (t : Fin 8) (v : Word), s.start.writable p t 0x03 0x040 = true → bit v.toNat 1 = false → bit v.toNat 2 = false →
    ∃ a : Mach, exec (.tbCapture p t v) s = .next (s.settled a) ∧
      a.rd2 (P.tb t) F.TB_CAP_LO_N_LO F.TB_CAP_HI_N_HI = s.start.now t % 2 ^ 64 ∧
      a.rd (P.tb t) F.TB_CAP_FRAC_F = s.start.fracF t % 16 ∧ a.tiles = s.start.tiles ∧ a.dram = s.start.dram ∧
      (∀ pk off, off < 4096 → pk ≠ P.tb t → a.word pk off = s.start.word pk off)) ∧
  (∀ (s : State) (p : Port) (t : Fin 8) (v : Word), s.start.writable p t 0x03 0x040 = true → bit v.toNat 0 = false → bit v.toNat 2 = false →
    s.start.flag (P.tb t) F.TB_STAT_MASTER = true → s.start.anyRunning = false →
    ∃ a : Mach, exec (.tbLoad p t v) s = .next (s.settled a) ∧ a.flag (P.tb t) F.TB_STAT_LOAD_PEND = true ∧
      a.flag (P.tb t) F.TB_CTRL_LOAD = true ∧ a.tiles = s.start.tiles ∧ a.dram = s.start.dram) ∧
  (∀ (s : State) (t : Fin 8), (s.start.tile t).life ≠ .por → (s.start.tile t).dormant = false → s.start.flag (P.tb t) F.TB_CTRL_ALARM_EN = true →
    s.start.flag (P.tb t) F.TB_STAT_ALARM_HIT = false → s.start.alarmAt t ≤ s.start.now t →
    exec (.tbAlarmFire t) s = .next (s.settled ((s.start.wr (P.tb t) F.TB_STAT_ALARM_HIT 1).raise (P.tb t) 0))) ∧
  (∀ (s : State) (n : BitVec 64), (s.start.tile 0).life = .up → n.toNat ≤ s.start.now 0 →
    exec (.ppsInEdge n) s =
      .next (s.settled ((s.start.wr2 (P.tb 0) F.TB_PPS_LO_N_LO F.TB_PPS_HI_N_HI (s.start.now 0)).raise (P.tb 0) 1)))

/-- R41, R44, R45, R47–R49, R62, R69: a bank or DDR rail that has ramped is shown; a TCK edge moves the TAP controller as IEEE 1149.1 does (the
model's choice, its log entry names it), captures the levels that the part drives into the chain, or 0 into the bypass
bit, whichever is selected, and TRST_N low resets the test logic. A
ball whose domain does not work holds its level after a power-on reset: DDR_RESET_N unless AON keeps the device in self-refresh; SPc_CS_N
and CK_C high, the other outputs of the model low. SPc_MCLK_N is low in CMOS mode and the complement of SPc_MCLK_P in LVDS mode while the
port drives. With LPDDR4X WCK0_C, WCK1_T, WCK1_C and CA6 are low. Model choices it rests on: log entries 90, 124. -/
def Obligations.RailAndTestPortCommands : Prop :=
  (∀ (s : State) (t : Fin 8) (v33 : Bool), s.start.present t = true →
    exec (.bankRailRamp (.vddq t) v33) s = .next (s.settled (s.start.wr (P.pwr t) F.PWR_RAIL_STAT_VDDQ_OK 1))) ∧
  (∀ (s : State) (t : Fin 8) (b : Fin 4), s.start.present t = true →
    ∃ a : Mach, exec (.bankRailRamp (.bank t b) false) s = .next (s.settled a) ∧
      bit (a.rd (P.pwr t) F.PWR_RAIL_STAT_BANK_OK) b = true ∧ bit (a.rd (P.pwr t) F.PWR_RAIL_STAT_BANK_33) b = false ∧
      (∀ pk off, off < 4096 → ¬ (pk = P.pwr t ∧ off = 0x060) → a.word pk off = s.start.word pk off) ∧
      a.tiles = s.start.tiles ∧ a.dram = s.start.dram) ∧
  (∀ (s : State) (tms tdi : Bool), s.start.testHeld = false → (s.start.tile 0).life ≠ .por → s.start.jtag.tap ∈ [Tap.reset, .idle, .selDr, .ex1Dr, .pauDr, .ex2Dr, .updDr,
      .selIr, .ex1Ir, .pauIr, .ex2Ir, .updIr] →
    exec (.jtagTckEdge true tms tdi false) s =
      .next (s.settled { s.start with jtag := { s.start.jtag with tap := Mach.Tap.next s.start.jtag.tap tms } })) ∧
  (∀ (s : State) (rising tms tdi : Bool), s.start.testHeld = false → (s.start.tile 0).life ≠ .por →
    exec (.jtagTckEdge rising tms tdi true) s = .next (s.settled { s.start with jtag := {} })) ∧
  (∀ (s : State) (tms tdi : Bool), s.start.testHeld = false → (s.start.tile 0).life ≠ .por → s.start.jtag.tap = .capDr →
    ∃ a : Mach, exec (.jtagTckEdge true tms tdi false) s = .next (s.settled a) ∧
      a.jtag.tap = Mach.Tap.next .capDr tms ∧
      (Mach.chainSelected s.start.jtag = false → a.jtag.bypass = false ∧ a.jtag.chain = s.start.jtag.chain) ∧
      (Mach.chainSelected s.start.jtag = true → a.jtag.chain.length = s.start.scanCells.length ∧
      ∀ k t p : Nat, k < s.start.scanCells.length → s.start.scanCells[k]? = some (some (t, p)) →
        (s.start.scanOut t p = some .high → a.jtag.chain[k]? = some true) ∧
        (s.start.scanOut t p = some .low → a.jtag.chain[k]? = some false)) ∧
      a.regs = s.start.regs ∧ a.tiles = s.start.tiles ∧ a.clus = s.start.clus ∧ a.dram = s.start.dram) ∧
  (∀ (m : Mach) (t p n : Nat), (∀ d, d < 21 → 3 ≤ d → m.live t d = false) → p < 315 → (p = 273 → (m.tile t).dramAon = none) →
    m.ballOut t p n = some (Mach.resetLevel p)) ∧
  (∀ p : Nat, p ∈ [51, 113, 263, 301] → Mach.resetLevel p = .high) ∧
  (∀ p : Nat, p ∈ [30, 31, 47, 48, 49, 53, 92, 93, 109, 110, 111, 115, 124, 125, 126, 134, 135, 138, 149, 152, 153, 160, 203, 204, 262, 273] →
    Mach.resetLevel p = .low) ∧
  (∀ p : Nat, p ∈ [50, 112, 127, 205, 206, 208, 212, 219, 220, 227, 312, 313, 314] → Mach.resetLevel p = .z) ∧
  (∀ (m : Mach) (t n : Nat) (c : Fin 2), m.live t (D.sport c) = true →
    (m.flag (P.sport (2 * t + c)) F.SPORT_MCLK_LVDS = false → m.ballOut t (62 * c + 31) n = some .low) ∧
    (m.flag (P.sport (2 * t + c)) F.SPORT_MCLK_LVDS = true → m.portDrives (2 * t + c) = true →
      m.ballOut t (62 * c + 31) n = some (if m.ballOut t (62 * c + 30) n = some .low then .high else .low))) ∧
  (∀ (m : Mach) (t n : Nat) (c : Fin 2) (q : Nat), q ∈ [23, 24, 25, 34] → m.rd (P.dram t) F.DRAM_CFG_TYPE = 2 →
    m.ballOut t (236 + 38 * c + q) n = some .low)

/-! ### Hands, their command queue, deals, triggers, tile modes (R131–R147, R169–R175) -/

/-- R134, R138: a HAND_CFG value that meets the conditions, written for a hand that is not formed, forms it in READY with the members named;
with every axis off nothing else changes than the words, the members' clusters and the hand's pace state on the tiles. -/
def Obligations.HandIsFormed : Prop :=
  (∀ (s : State) (p : Port) (h : Fin 16) (v : Word), s.start.writable p 14 0x03 (0x040 + 4 * h) = true →
    s.start.flag P.mode (F.MODE_HAND_CFG_VALID.nth h) = false → s.start.handCfgOk h v = true → bit v.toNat 31 = true →
    (∀ g, g < 16 → (s.start.clu g).cut = none) →
    ∃ a : Mach, exec (.handCfgWrite p h v) s = .next (s.settled a) ∧ a.handState h = 1 ∧
      a.flag P.mode (F.MODE_HAND_CFG_VALID.nth h) = true ∧ a.members h = (List.range 16).filter (fun g => bit v.toNat g)) ∧
  (∀ (s : State) (p : Port) (h : Fin 16) (v : Word), s.start.writable p 14 0x03 (0x040 + 4 * h) = true →
    s.start.flag P.mode (F.MODE_HAND_CFG_VALID.nth h) = false → s.start.handCfgOk h v = true → bit v.toNat 31 = true →
    (∀ g, g < 16 → (s.start.clu g).cut = none ∧ s.start.axLive g = false) →
    ∃ a : Mach, exec (.handCfgWrite p h v) s = .next (s.settled a) ∧ a.dram = s.start.dram ∧ a.arr = s.start.arr ∧ a.hands = s.start.hands ∧
      ∀ t, t < 8 → { a.tile t with pace := (s.start.tile t).pace } = s.start.tile t)

/-- R138–R140: each command code joins the hand's queue of four, shown in QUEUED, with the time base of the tile that serves; a full queue
refuses it (`c` is the entry of the code). The queue goes by time stamps: an entry follows those of earlier stamps, a host's command
those of its own stamp too, and a pin's or line count's entry goes before the host's commands of its stamp. HOLD_SET and HOLD_CLEAR act at once in SCAN and HOLD, and are refused in any other state. Model choices it rests on: log entry 29. -/
def Obligations.HandCommandsQueue : Prop :=
  (∀ (s : State) (p : Port) (h : Fin 16) (i : Instr) (c : HandCmd),
    (i, c) ∈ [(.arm p h, .arm), (.disarm p h, .disarm), (.toReady p h, .toReady), (.toCalibrate p h, .toCalibrate), (.toScan p h, .toScan),
      (.dealStart p h, .dealStart), (.dealEnd p h, .dealEnd)] →
    s.start.writable p 14 0x03 (0x0C0 + 4 * h) = true →
    exec i s = .next (s.settled (
      if 4 ≤ (s.start.hand h).queue.length then s.start.refuse P.mode 0
      else (s.start.modHand h fun x => { x with queue := Mach.joinQueue (s.start.now (s.start.declarer.getD 0)) c (s.start.hand h).queue }).wr
        P.mode (F.MODE_HAND_STAT_QUEUED.nth h) ((s.start.hand h).queue.length + 1)))) ∧
  (∀ (n : Nat) (c : HandCmd) (q : List (Nat × HandCmd)), (∀ e ∈ q, e.1 < n ∨ (e.1 = n ∧ Mach.fromHost c = true)) →
    Mach.joinQueue n c q = q ++ [(n, c)]) ∧
  (∀ (n : Nat) (c d : HandCmd) (q r : List (Nat × HandCmd)) (k : Nat), (∀ e ∈ q, e.1 < n) →
    (n < k ∨ (k = n ∧ Mach.fromHost c = false ∧ Mach.fromHost d = true)) →
    Mach.joinQueue n c (q ++ (k, d) :: r) = q ++ (n, c) :: (k, d) :: r) ∧
  (∀ (s : State) (p : Port) (h : Fin 16), s.start.writable p 14 0x03 (0x0C0 + 4 * h) = true →
    exec (.holdSet p h) s = .next (s.settled (
      if 3 ≤ s.start.handState h then s.start.wr P.mode (F.MODE_HAND_STAT_HOLD_HOST.nth h) 1 else s.start.refuse P.mode 0)) ∧
    exec (.holdClear p h) s = .next (s.settled (
      if 3 ≤ s.start.handState h then s.start.wr P.mode (F.MODE_HAND_STAT_HOLD_HOST.nth h) 0 else s.start.refuse P.mode 0)))

/-- R138, R140, R145: the command at the head of the queue leaves it once no command waits for its grid point and no drain runs: a refused one
only leaves; another becomes current from that instant. At its grid point TO_SCAN and TO_CALIBRATE change the state; a deal's end closes
it and opens the drain; its start numbers the deal before the members begin (R144). -/
def Obligations.HandTransitions : Prop :=
  (∀ (s : State) (h : Fin 16) (seg : Fin 8) (k : Nat) (c : HandCmd) (r : List (Nat × HandCmd)), s.start.islandOf seg = none →
    (s.start.hand h).queue = (k, c) :: r → (s.start.hand h).current = none → s.start.flag P.mode (F.MODE_HAND_STAT_DRAINING.nth h) = false →
    s.start.commandOk h c = true → (c = .dealStart → s.start.dealOpen h = false) →
    ∃ a : Mach, exec (.handCmdLeaveQueue h seg) s = .next (s.settled a) ∧ (a.hand h).queue = r ∧ (a.hand h).current = some c ∧
      (a.hand h).at_ = s.start.now (s.start.handTile h) ∧ a.rd P.mode (F.MODE_HAND_STAT_QUEUED.nth h) = r.length % 8 ∧
      a.handState h = s.start.handState h ∧ a.dram = s.start.dram ∧ a.tiles = s.start.tiles ∧ a.clus = s.start.clus) ∧
  (∀ (s : State) (h : Fin 16) (seg : Fin 8) (k : Nat) (c : HandCmd) (r : List (Nat × HandCmd)), s.start.islandOf seg = none →
    (s.start.hand h).queue = (k, c) :: r → (s.start.hand h).current = none → s.start.flag P.mode (F.MODE_HAND_STAT_DRAINING.nth h) = false →
    s.start.commandOk h c = false →
    exec (.handCmdLeaveQueue h seg) s = .next (s.settled
      (((s.start.modHand h fun x => { x with queue := r }).wr P.mode (F.MODE_HAND_STAT_QUEUED.nth h) r.length).refuse P.mode 0))) ∧
  (∀ (s : State) (h : Fin 16) (seg : Fin 8) (c : HandCmd), s.start.islandOf seg = none → (s.start.hand h).current = some c →
    c ∈ [HandCmd.toScan, .toCalibrate] → s.start.gridPoint h ((s.start.hand h).at_ + 4000) ≤ s.start.now (s.start.handTile h) →
    ∃ a : Mach, exec (.handTransition h seg) s = .next (s.settled a) ∧ (a.hand h).current = none ∧
      a.handState h = (if c = .toScan then 3 else 2) ∧ a.handArmed h = s.start.handArmed h ∧ a.dealOpen h = s.start.dealOpen h ∧
      a.dram = s.start.dram ∧ a.tiles = s.start.tiles ∧ a.clus = s.start.clus) ∧
  (∀ (s : State) (h : Fin 16) (seg : Fin 8), s.start.islandOf seg = none → (s.start.hand h).current = some .dealEnd →
    s.start.gridPoint h ((s.start.hand h).at_ + 4000) ≤ s.start.now (s.start.handTile h) →
    ∃ a : Mach, exec (.handTransition h seg) s = .next (s.settled a) ∧ (a.hand h).current = none ∧ a.dealOpen h = false ∧
      a.flag P.mode (F.MODE_HAND_STAT_DRAINING.nth h) = true ∧ (a.hand h).endTime = s.start.now (s.start.handTile h) ∧
      a.handState h = s.start.handState h ∧ a.dram = s.start.dram ∧ a.tiles = s.start.tiles) ∧
  (∀ (s : State) (h : Fin 16) (seg : Fin 8), s.start.islandOf seg = none → (s.start.hand h).current = some .dealStart →
    s.start.gridPoint h ((s.start.hand h).at_ + 4000) ≤ s.start.now (s.start.handTile h) →
    ∃ b : Mach, exec (.handTransition h seg) s = .next (s.settled ((b.active h).foldl (fun x g => x.startMember h g) b)) ∧
      b.rd P.mode (F.MODE_HAND_DEAL_DEAL.nth h) = s.start.rd P.mode (F.MODE_HAND_NEXT_NEXT.nth h) ∧
      b.rd P.mode (F.MODE_HAND_NEXT_NEXT.nth h) =
        (s.start.rd P.mode (F.MODE_HAND_NEXT_NEXT.nth h) + 1) % 2 ^ F.MODE_HAND_NEXT_NEXT.width ∧
      b.rd P.mode (F.MODE_HAND_LINES_LINES.nth h) = 0 ∧ b.dealOpen h = true ∧ b.flag P.mode (F.MODE_HAND_STAT_LEADIN.nth h) = true ∧
      b.dram = s.start.dram ∧ b.tiles = s.start.tiles ∧ b.clus = s.start.clus)

/-- R143–R145: the boundaries that the part makes itself. A pin edge of the selected polarity queues a start; MAX_LINES released queues an end,
stamped with the trigger time of the capture that released the last of them;
the lead-in ends with the first capture after it; the drain completes and its window ends, in a hand whose members have sent all.
Model choices it rests on: log entry 52. -/
def Obligations.DealBoundaryEvents : Prop :=
  (∀ (s : State) (h : Fin 16) (n : BitVec 64) (rising : Bool) (t : Nat), t = s.start.rd P.mode (F.MODE_HAND_DEALCFG_PIN_TILE.nth h) →
    s.start.islandOf t = none → s.start.viewOf = none → n.toNat ≤ s.start.now t → s.start.handState h ≠ 0 →
    s.start.rd P.mode (F.MODE_HAND_DEALCFG_PIN_SEL.nth h) < 4 → s.start.reachable t = true → s.start.live t D.aux = true →
    s.start.flag P.mode (F.MODE_HAND_DEALCFG_PIN_EDGE.nth h) ≠ rising → s.start.dealOpen h = false →
    s.start.flag P.mode (F.MODE_HAND_DEALCFG_START_PIN.nth h) = true → (s.start.hand h).queue.length < 4 →
    exec (.dealPinEdge h n rising) s = .next (s.settled (s.start.setQueue h (Mach.joinQueue (s.start.now t) .pinStart (s.start.hand h).queue)))) ∧
  (∀ (s : State) (h : Fin 16) (seg : Fin 8), s.start.islandOf seg = none → s.start.viewOf = none → s.start.dealOpen h = true →
    (s.start.hand h).linesDone = false → (s.start.hand h).maxLines ≠ 0 → (s.start.refCluster h).isSome = true →
    (s.start.hand h).maxLines ≤ s.start.rd P.mode (F.MODE_HAND_LINES_LINES.nth h) → (s.start.hand h).queue.length < 4 →
    ∃ a : Mach, exec (.maxLinesReached h seg) s = .next (s.settled a) ∧ (a.hand h).queue =
        Mach.joinQueue ((s.start.hand h).lineTime.getD (s.start.now (s.start.handTile h))) .linesEnd (s.start.hand h).queue ∧
      (a.hand h).linesDone = true ∧ a.rd P.mode (F.MODE_HAND_STAT_QUEUED.nth h) = (s.start.hand h).queue.length + 1 ∧
      a.dealOpen h = true ∧ a.dram = s.start.dram ∧ a.tiles = s.start.tiles ∧ a.clus = s.start.clus) ∧
  (∀ (s : State) (h : Fin 16) (seg : Fin 8) (g : Nat), s.start.islandOf seg = none → s.start.flag P.mode (F.MODE_HAND_STAT_LEADIN.nth h) = true →
    g ∈ s.start.active h → (s.start.hand h).leadInLen < (s.start.clu g).trigs →
    exec (.leadinDone h seg) s = .next (s.settled ((s.start.wr P.mode (F.MODE_HAND_STAT_LEADIN.nth h) 0).raise P.mode 4))) ∧
  (∀ (s : State) (h : Fin 16) (seg : Fin 8), s.start.islandOf seg = none → s.start.flag P.mode (F.MODE_HAND_STAT_DRAINING.nth h) = true →
    (s.start.hand h).drained = false → (∀ g, g ∈ s.start.active h → (s.start.clu g).recEnd = none ∧ s.start.pixelless g = true) →
    exec (.drainComplete h seg) s = .next (s.settled (s.start.modHand h fun x => { x with drained := true }))) ∧
  (∀ (s : State) (h : Fin 16) (seg : Fin 8), s.start.islandOf seg = none → s.start.flag P.mode (F.MODE_HAND_STAT_DRAINING.nth h) = true →
    (s.start.hand h).drained = true → (s.start.hand h).readyAfter = false →
    (∀ g, g ∈ s.start.active h → s.start.pixelless g = true ∨ s.start.streamsDone g = true) →
    s.start.drainFrom h + 128000 ≤ s.start.now (s.start.handTile h) →
    exec (.drainWindowEnd h seg) s = .next (s.settled ((s.start.wr P.mode (F.MODE_HAND_STAT_DRAINING.nth h) 0).raise P.mode 3)))

/-- R68, R90, R136, R137, R141: PREP marks the tile busy with preparation (shown with its other domains off); its end shows the outcome;
DORM puts a tile that may sleep into DORMANT; a wake source that is enabled wakes it with its cause. Model choices it rests on: log entry
107. -/
def Obligations.TileModeCommands : Prop :=
  (∀ (s : State) (p : Port) (t : Fin 8), s.start.writable p 14 0x03 0x2A0 = true → s.start.reachable t = true →
    (s.start.tile t).dormant = false → s.start.inIsland t = false → s.start.flag P.mode (F.MODE_TILE_MODE_PREP_BUSY.nth t) = false →
    s.start.tileArmed t = false → s.start.domOn t D.mon = false → s.start.domOn t (D.vc 0) = false → s.start.domOn t (D.vc 1) = false →
    s.start.domOn t D.lamp = false → s.start.twcBusy t = true → s.start.dramTrains t = false →
    exec (.prep p (BitVec.ofNat 8 (2 ^ t.val))) s = .next (s.settled
      ((((s.start.wr P.mode (F.MODE_TILE_MODE_PREP_BUSY.nth t) 1).wr P.mode (F.MODE_TILE_MODE_PREPARED.nth t) 0).wr P.mode
        (F.MODE_TILE_MODE_PREP_ERR.nth t) 0).modTile t fun ts =>
          { ts with prepInvalid := false, prepSteps := 0, prepConvs := s.start.vcCounts (2 * t) + s.start.vcCounts (2 * t + 1) * 64 }))) ∧
  (∀ (s : State) (t : Fin 8), s.start.islandOf t = none → s.start.flag P.mode (F.MODE_TILE_MODE_PREP_BUSY.nth t) = true →
    s.start.prepRuns t = false → s.start.prepErr t = 0 →
    ∃ a : Mach, exec (.prepComplete t) s = .next (s.settled a) ∧ a.flag P.mode (F.MODE_TILE_MODE_PREP_BUSY.nth t) = false ∧
      a.rd P.mode (F.MODE_TILE_MODE_PREP_ERR.nth t) = 0 ∧
      a.flag P.mode (F.MODE_TILE_MODE_PREPARED.nth t) = !(s.start.tile t).prepInvalid ∧
      (a.word P.mode 0x010).toNat.testBit 5 = true ∧ a.dram = s.start.dram ∧ a.tiles = s.start.tiles ∧ a.clus = s.start.clus) ∧
  (∀ (s : State) (p : Port) (t : Fin 8), s.start.writable p 14 0x03 0x2A0 = true → s.start.dormantOk t = true → s.start.reachable t = true →
    s.start.role t ≠ 2 → s.start.flag (P.pwr t) F.PWR_DORM_CFG_DRAM_SR = true →
    exec (.dormantRequest p (BitVec.ofNat 8 (2 ^ t.val))) s = .next (s.settled
      (((s.start.modTile t fun ts => { ts with dormant := true }).setWord (P.pwr t) 0x050 0).seqKick t))) ∧
  (∀ (s : State) (t : Fin 8) (gpio : BitVec 8) (alarm cp : Bool), (s.start.tile t).dormant = true →
    s.start.wakeSources t gpio.toNat alarm cp ≠ 0 →
    ∃ a : Mach, exec (.wake t gpio alarm cp) s = .next (s.settled a) ∧ (a.tile t).dormant = false ∧
      a.word (P.pwr t) 0x050 = s.start.word (P.pwr t) 0x050 ||| BitVec.ofNat 32 (s.start.wakeSources t gpio.toNat alarm cp) ∧
      a.dram = s.start.dram ∧ a.clus = s.start.clus)

/-- R148–R151, R170–R174: triggers. A grid point issues a capture of an armed member whose port is idle; an edge on an EXT_PHASE pin, held
for more samples than the filter asks, qualifies at its sample n + FILT and sets a new phase that begins 8 µs on, and its switch re-phases
the grid; a LEGACY_POS boundary reached issues a capture 2 ticks on. Model choices it rests on: log entries 31, 32, 34. -/
def Obligations.TriggerEvents : Prop :=
  (∀ (s : State) (g : Fin 16) (n : BitVec 64) (hr : List Nat) (h : Nat), s.start.islandOf (g.val / 2) = none → s.start.handOf g = some h →
    s.start.handSrc h < 2 → Mach.onGrid (s.start.handGrid h) n.toNat = true → (s.start.clu (s.start.leader h)).phaseSwitch = none →
    (∀ l, (s.start.clu g).lastTrig = some l → l < n.toNat) → n.toNat ≤ s.start.now (g.val / 2) →
    s.start.armed g = true → s.start.refLost = false → s.start.idleMember g = false → s.start.live (g.val / 2) (D.sport (g.val % 2)) = true →
    s.start.enabled (P.deal g) = true → (s.start.clu g).dropNext = false → s.start.portBusy g = false → s.start.pixelless g = false →
    ∃ a : Mach, exec (.captureTrigger g n hr) s = .next (s.settled a) ∧ ((a.clu g).reading.map fun c => c.n) = some n.toNat ∧
      Out.trigger g n.toNat ∈ a.out) ∧
  (∀ (s : State) (g : Fin 16) (n : BitVec 64) (hr : List Nat) (h : Nat), s.start.islandOf (g.val / 2) = none → s.start.handOf g = some h →
    s.start.handSrc h < 2 → Mach.onGrid (s.start.handGrid h) n.toNat = true → (s.start.clu (s.start.leader h)).phaseSwitch = none →
    (∀ l, (s.start.clu g).lastTrig = some l → l < n.toNat) → n.toNat ≤ s.start.now (g.val / 2) →
    s.start.armed g = true → s.start.refLost = false → s.start.idleMember g = false → s.start.live (g.val / 2) (D.sport (g.val % 2)) = true →
    s.start.enabled (P.deal g) = true → (s.start.clu g).dropNext = false → s.start.portBusy g = true → s.start.inDeal g = true →
    s.start.pixelless g = false →
    exec (.captureTrigger g n hr) s = .next (s.settled (((s.start.inc (P.deal g) F.DEAL_OVERRUN_COUNT).raise (P.deal g) 0).modClu g fun c =>
      { c with pendMissing := c.pendMissing ++ [n.toNat] }))) ∧
  (∀ (s : State) (t : Fin 8) (pin : Fin 4) (rising : Bool) (n : BitVec 64) (held filt : Nat) (hr : List (List Nat))
    (h : Fin 16), s.start.islandOf t = none → filt = s.start.rd (P.deal (s.start.leader h)) F.DEAL_TRIG_FILT_FILT → filt < held →
    n.toNat + filt ≤ s.start.now t → s.start.live t D.aux = true →
    (∀ j, j < 16 → j ≠ h.val → s.start.handArmed j = false) → s.start.handArmed h = true → s.start.leaderLost h = false →
    s.start.leader h < 16 → s.start.leader h / 2 = t → s.start.rd (P.deal (s.start.leader h)) F.DEAL_SRC_PIN = pin →
    s.start.flag (P.deal (s.start.leader h)) F.DEAL_SRC_POL ≠ rising →
    s.start.handSrc h = 1 → (s.start.clu (s.start.leader h)).lastEdge = none → (s.start.clu (s.start.leader h)).phaseSwitch = none →
    exec (.trigPinEdge t pin rising ⟨n, held⟩ hr) s = .next (s.settled
      ((s.start.modTile t fun ts => { ts with trig := putBit ts.trig pin rising }).modClu (s.start.leader h) fun c =>
        { c with lastEdge := some (n.toNat + filt), phaseSwitch := some (n.toNat + filt, s.start.gridPoint h (n.toNat + filt + 4000)) }))) ∧
  (∀ (s : State) (h : Fin 16) (seg : Fin 8) (e k per : Nat), s.start.islandOf seg = none →
    (s.start.clu (s.start.leader h)).phaseSwitch = some (e, k) → s.start.handArmed h = true → s.start.leaderLost h = false →
    per = max 1 (s.start.rd (P.deal (s.start.leader h)) F.DEAL_PERIOD_TICKS) →
    Mach.firstPoint (per, (e + s.start.rd (P.deal (s.start.leader h)) F.DEAL_EXT_OFS_TICKS) % per) (k + per / 2) ≤
      s.start.now (s.start.leader h / 2) →
    exec (.phaseSwitch h seg) s = .next (s.settled
      (((s.start.wr (P.deal (s.start.leader h)) F.DEAL_PHASE_ACT_TICKS ((e + s.start.rd (P.deal (s.start.leader h)) F.DEAL_EXT_OFS_TICKS) % per)).raise
        (P.deal (s.start.leader h)) 2).modClu (s.start.leader h) fun c => { c with phaseSwitch := c.phaseNext, phaseNext := none }))) ∧
  (∀ (s : State) (h : Fin 16) (seg : Fin 8) (n : BitVec 64) (hr : List (List Nat)) (g : Nat), s.start.islandOf seg = none → g < 16 →
    s.start.followers h = [g] → s.start.leader h = g → s.start.handArmed h = true → s.start.handSrc h = 3 → s.start.enabled (P.deal g) = true →
    s.start.rd P.mode (F.MODE_HAND_CFG_POS_KIND.nth h) = 0 → n.toNat + 2 ≤ s.start.now (g / 2) →
    (s.start.clu g).legacyOrg + ((s.start.clu g).legacyTop + 1) * s.start.rd (P.acc g) F.ACC_PITCH_PITCH ≤ s.start.legacyPos h →
    s.start.tooClose h n.toNat = false → s.start.armed g = true → s.start.refLost = false → s.start.idleMember g = false →
    s.start.live (g / 2) (D.sport (g % 2)) = true → (s.start.clu g).dropNext = false → s.start.portBusy g = false →
    s.start.pixelless g = false →
    ∃ a : Mach, exec (.positionCrossing h seg n hr) s = .next (s.settled a) ∧
      ((a.clu g).reading.map fun c => (c.n, c.legacy)) = some (n.toNat + 2, some ((s.start.clu g).legacyTop + 1)) ∧
      Out.trigger g (n.toNat + 2) ∈ a.out)

/-! ### Sensors, converters, accumulation, shading (R148–R266) -/

/-- R150, R152, R156, R157, R159–R161: readouts. A capture of an open deal completes at stage 1 into the slot of stage 3, its samples those of the
segment map from the line's conversion results or lane words (shown without the optical-black clamp); one outside a deal is discarded; a
digital line is complete only once its last phase has ended on every data lane, and one that breaks a condition of R161 is counted, raises
FRAME_ERR and leaves its trigger as a missing capture. In an open readout window a line start begins the next phase, or fails the line
when the one before has not ended; outside one it counts as UNSOLICITED and raises it; words that end with no line start are no event. The
window's time-out drops the line and makes its trigger a missing capture, unless the line had failed before. DLCK in its lock range is
shown; DLCK lost drops the deskew, raises LANE_LOCK_LOST and fails a line in progress.
Model choices it rests on: log entries 37, 38, 39, 53, 117. -/
def Obligations.ReadoutEvents : Prop :=
  (∀ (s : State) (g : Fin 16) (data : LineData) (c : Capture), (s.start.clu g).reading = some c →
    (s.start.kind g = 3 → s.start.windowOver g ((s.start.dataLanes g).map (s.start.laneLines g data.lanes)) = true ∧
      (s.start.clu g).failed = false ∧ s.start.lanesGood g ((s.start.dataLanes g).map (s.start.laneLines g data.lanes)) = true) →
    s.start.enabled (P.vc g) = true → s.start.domOn (g.val / 2) (D.vc (g.val % 2)) = true → c.counted = true →
    s.start.actFlag (P.sport g) F.SPORT_OBC_EN = false → (s.start.clu g).slot = none → (s.start.clu g).released = [] →
    ∃ a : Mach, exec (.lineComplete g data.inputs data.lanes) s = .next (s.settled a) ∧ (a.clu g).reading = none ∧
      (a.clu g).slot = some { cap := c, planes := (List.range (s.start.phases g)).map fun p =>
        (List.range (s.start.width g)).map fun x => s.start.stage1 g (s.start.lineValues g data) p x } ∧
      (a.clu g).capEnd = s.start.now (g.val / 2) ∧
      a.regs = s.start.regs ∧ a.arr = s.start.arr ∧ a.dram = s.start.dram ∧ a.tiles = s.start.tiles) ∧
  (∀ (s : State) (g : Fin 16) (data : LineData) (c : Capture), (s.start.clu g).reading = some c → s.start.kind g ≠ 3 →
    s.start.enabled (P.vc g) = true → s.start.domOn (g.val / 2) (D.vc (g.val % 2)) = true → c.counted = false →
    ∃ a : Mach, exec (.lineComplete g data.inputs data.lanes) s = .next (s.settled a) ∧ (a.clu g).reading = none ∧
      (a.clu g).slot = (s.start.clu g).slot ∧ (a.clu g).pendMissing = (s.start.clu g).pendMissing ∧
      a.regs = s.start.regs ∧ a.arr = s.start.arr ∧ a.dram = s.start.dram ∧ a.tiles = s.start.tiles) ∧
  (∀ (s : State) (g : Fin 16) (data : LineData), (s.start.clu g).reading.isSome = true → s.start.kind g = 3 →
    s.start.windowOver g ((s.start.dataLanes g).map (s.start.laneLines g data.lanes)) = false →
    exec (.lineComplete g data.inputs data.lanes) s = .next (s.settled s.start)) ∧
  (∀ (s : State) (g : Fin 16) (data : LineData) (c : Capture), (s.start.clu g).reading = some c → s.start.kind g = 3 →
    s.start.windowOver g ((s.start.dataLanes g).map (s.start.laneLines g data.lanes)) = true → (s.start.clu g).failed = false →
    s.start.lanesGood g ((s.start.dataLanes g).map (s.start.laneLines g data.lanes)) = false → c.counted = true →
    ∃ a : Mach, exec (.lineComplete g data.inputs data.lanes) s = .next (s.settled a) ∧ (a.clu g).reading = none ∧ (a.clu g).slot = (s.start.clu g).slot ∧
      (a.clu g).pendMissing = c.missing ++ [c.n] ++ (s.start.clu g).pendMissing ∧
      a.regs = ((s.start.inc (P.sport g) F.SPORT_FRAME_ERR_COUNT).raise (P.sport g) 0).regs ∧
      a.arr = s.start.arr ∧ a.dram = s.start.dram ∧ a.tiles = s.start.tiles) ∧
  (∀ (s : State) (g : Fin 16) (data : LineData), (s.start.clu g).reading = none →
    exec (.lineComplete g data.inputs data.lanes) s = .next (s.settled s.start)) ∧
  (∀ (s : State) (g : Fin 16) (n : BitVec 64) (words : List Nat), s.start.live (g.val / 2) (D.sport (g.val % 2)) = true →
    s.start.kind g = 3 → n.toNat ≤ s.start.now (g.val / 2) → s.start.startsNow g words = true →
    s.start.windowOpen g n.toNat (s.start.framingLines g words) = true → (s.start.framingLines g words).early = false →
    exec (.digitalLineStart g ⟨n, words⟩) s = .next (s.settled (s.start.modClu g fun c =>
      { c with started := min (s.start.framingLines g words).starts.length (s.start.phases g) }))) ∧
  (∀ (s : State) (g : Fin 16) (n : BitVec 64) (words : List Nat) (c : Capture), s.start.live (g.val / 2) (D.sport (g.val % 2)) = true →
    s.start.kind g = 3 → n.toNat ≤ s.start.now (g.val / 2) → s.start.startsNow g words = true →
    s.start.windowOpen g n.toNat (s.start.framingLines g words) = true → (s.start.framingLines g words).early = true →
    (s.start.clu g).reading = some c → c.counted = true → (s.start.clu g).failed = false →
    ∃ a : Mach, exec (.digitalLineStart g ⟨n, words⟩) s = .next (s.settled a) ∧ (a.clu g).failed = true ∧ (a.clu g).reading.isSome = true ∧
      (a.clu g).pendMissing = c.missing ++ [c.n] ++ (s.start.clu g).pendMissing ∧
      a.regs = ((s.start.inc (P.sport g) F.SPORT_FRAME_ERR_COUNT).raise (P.sport g) 0).regs ∧
      a.arr = s.start.arr ∧ a.dram = s.start.dram ∧ a.tiles = s.start.tiles) ∧
  (∀ (s : State) (g : Fin 16) (n : BitVec 64) (words : List Nat), s.start.live (g.val / 2) (D.sport (g.val % 2)) = true →
    s.start.kind g = 3 → n.toNat ≤ s.start.now (g.val / 2) → s.start.startsNow g words = true →
    s.start.windowOpen g n.toNat (s.start.framingLines g words) = false →
    exec (.digitalLineStart g ⟨n, words⟩) s = .next (s.settled ((s.start.inc (P.sport g) F.SPORT_UNSOLICITED_COUNT).raise (P.sport g) 6))) ∧
  (∀ (s : State) (g : Fin 16) (n : BitVec 64) (words : List Nat), n.toNat ≤ s.start.now (g.val / 2) → s.start.startsNow g words = false →
    exec (.digitalLineStart g ⟨n, words⟩) s = .next (s.settled s.start)) ∧
  (∀ (s : State) (g : Fin 16) (c : Capture), s.start.kind g = 3 → (s.start.clu g).reading = some c → c.counted = true →
    (s.start.clu g).failed = false → c.n + 32 + s.start.windowTicks g ≤ s.start.now (g.val / 2) →
    ∃ a : Mach, exec (.readoutTimeout g) s = .next (s.settled a) ∧ (a.clu g).reading = none ∧ (a.clu g).started = 0 ∧
      (a.clu g).pendMissing = c.missing ++ [c.n] ++ (s.start.clu g).pendMissing ∧
      a.regs = ((s.start.inc (P.sport g) F.SPORT_FRAME_ERR_COUNT).raise (P.sport g) 0).regs ∧
      a.arr = s.start.arr ∧ a.dram = s.start.dram ∧ a.tiles = s.start.tiles) ∧
  (∀ (s : State) (g : Fin 16) (c : Capture), s.start.kind g = 3 → (s.start.clu g).reading = some c → (s.start.clu g).failed = true →
    c.n + 32 + s.start.windowTicks g ≤ s.start.now (g.val / 2) →
    ∃ a : Mach, exec (.readoutTimeout g) s = .next (s.settled a) ∧ (a.clu g).reading = none ∧ (a.clu g).failed = false ∧
      (a.clu g).pendMissing = (s.start.clu g).pendMissing ∧
      a.regs = s.start.regs ∧ a.arr = s.start.arr ∧ a.dram = s.start.dram ∧ a.tiles = s.start.tiles) ∧
  (∀ (s : State) (g : Fin 16), exec (.laneLockGained g) s = .next (s.settled (s.start.modClu g fun c => { c with dlckIn := true }))) ∧
  (∀ (s : State) (g : Fin 16), (s.start.clu g).dlckIn = true → s.start.kind g = 3 → s.start.live (g.val / 2) (D.sport (g.val % 2)) = true →
    (s.start.clu g).reading = none →
    exec (.laneLockLost g) s = .next (s.settled
      (((s.start.modClu g fun c => { c with dlckIn := false }).wr (P.sport g) F.SPORT_DESKEW_STAT_DESKEWED 0).raise (P.sport g) 1))) ∧
  (∀ (s : State) (g : Fin 16) (c : Capture), (s.start.clu g).dlckIn = true → s.start.kind g = 3 →
    s.start.live (g.val / 2) (D.sport (g.val % 2)) = true → (s.start.clu g).reading = some c → c.counted = true →
    (s.start.clu g).failed = false →
    ∃ a : Mach, exec (.laneLockLost g) s = .next (s.settled a) ∧ (a.clu g).dlckIn = false ∧ (a.clu g).failed = true ∧
      (a.clu g).pendMissing = c.missing ++ [c.n] ++ (s.start.clu g).pendMissing ∧
      a.flag (P.sport g) F.SPORT_DESKEW_STAT_DESKEWED = false ∧ (a.word (P.sport g) 0x010).toNat.testBit 0 = true ∧
      (a.word (P.sport g) 0x010).toNat.testBit 1 = true ∧ a.arr = s.start.arr ∧ a.dram = s.start.dram ∧ a.tiles = s.start.tiles) ∧
  (∀ (s : State) (g : Fin 16), ((s.start.clu g).dlckIn = false ∨ s.start.kind g ≠ 3 ∨ s.start.live (g.val / 2) (D.sport (g.val % 2)) = false) →
    exec (.laneLockLost g) s = .next (s.settled (s.start.modClu g fun c => { c with dlckIn := false })))

/-- R157, R178–R181: GO starts a deskew, whose end clears GO, shows in LANE_OK the enabled lanes that found TRAIN, by some bit slip, in a
window of at least four taps, and shows DESKEWED exactly when these are all enabled lanes. The sensor SPI queues a frame cut to its length,
starts it when idle, ends it into the RX FIFO; RXPOP drops the oldest received frame; FLUSH of an idle controller empties it. Model choices
it rests on: log entries 3, 27, 128. -/
def Obligations.DeskewAndSensorSpi : Prop :=
  (∀ (s : State) (p : Port) (g : Fin 16) (v : Word), s.start.writable p (g.val / 2) (0x08 + g.val % 2) 0x094 = true → s.start.running g = false →
    ∃ a : Mach, exec (.deskewGo p g v) s = .next (s.settled a) ∧ a.flag (P.sport g) F.SPORT_DESKEW_GO = true ∧
      a.rd (P.sport g) F.SPORT_DESKEW_TRAIN = bits v.toNat 31 16 ∧
      (∀ pk off, off < 4096 → ¬ (pk = P.sport g ∧ off = 0x094) → a.word pk off = s.start.word pk off) ∧
      a.arr = s.start.arr ∧ a.dram = s.start.dram ∧ a.tiles = s.start.tiles ∧ a.clus = s.start.clus) ∧
  (∀ (s : State) (g : Fin 16) (lanes : List LaneFind), s.start.flag (P.sport g) F.SPORT_DESKEW_GO = true →
    ∃ a : Mach, exec (.deskewComplete g lanes) s = .next (s.settled a) ∧ a.flag (P.sport g) F.SPORT_DESKEW_GO = false ∧
      (∀ i, i < 8 → bit (a.rd (P.sport g) F.SPORT_DESKEW_STAT_LANE_OK) i =
        (bit (s.start.rd (P.sport g) F.SPORT_CFG_LANE_EN) i &&
          decide (4 ≤ ((Mach.widest (lanes.getD i default).taps.toNat).map Prod.snd).headD 0) &&
          (s.start.slipOf g (lanes.getD i default).word).isSome)) ∧
      a.flag (P.sport g) F.SPORT_DESKEW_STAT_DESKEWED =
        decide (a.rd (P.sport g) F.SPORT_DESKEW_STAT_LANE_OK = s.start.rd (P.sport g) F.SPORT_CFG_LANE_EN) ∧
      (∀ pk off, off < 4096 → pk ≠ P.sport g → a.word pk off = s.start.word pk off) ∧
      a.arr = s.start.arr ∧ a.dram = s.start.dram ∧ a.tiles = s.start.tiles ∧
      { a.clu g with laneSkew := (s.start.clu g).laneSkew } = s.start.clu g ∧ ∀ j, j < 16 → j ≠ g.val → a.clu j = s.start.clu j) ∧
  (∀ (s : State) (p : Port) (g : Fin 16) (v : Word), s.start.writable p (g.val / 2) 0x36 (0x048 + 0x40 * (g.val % 2)) = true →
    s.start.spiTxLvl g < 16 → (s.start.clu g).spi.shift.isSome = true →
    exec (.sspiTx p g v) s = .next (s.settled (s.start.modClu g fun c => { c with spi := { c.spi with
      tx := (s.start.clu g).spi.tx ++ [v.toNat % 2 ^ (s.start.rd (P.sspi (g.val / 2)) (F.SSPI_CFG_BITS.nth (g.val % 2)) + 1)] } }))) ∧
  (∀ (s : State) (p : Port) (g : Fin 16) (v : Word), s.start.writable p (g.val / 2) 0x36 (0x048 + 0x40 * (g.val % 2)) = true →
    (s.start.clu g).spi.tx = [] → (s.start.clu g).spi.shift = none → s.start.spiGated g = false →
    ∃ a : Mach, exec (.sspiTx p g v) s = .next (s.settled a) ∧ (a.clu g).spi.tx = [] ∧
      (a.clu g).spi.shift = some (v.toNat % 2 ^ (s.start.rd (P.sspi (g.val / 2)) (F.SSPI_CFG_BITS.nth (g.val % 2)) + 1)) ∧
      (a.clu g).spi.rx = (s.start.clu g).spi.rx ∧
      Out.spi g (s.start.now (g.val / 2)) (s.start.spiMode g) (s.start.spiHalf g) (s.start.frameBits g
        (v.toNat % 2 ^ (s.start.rd (P.sspi (g.val / 2)) (F.SSPI_CFG_BITS.nth (g.val % 2)) + 1))) false ∈ a.out ∧ a.regs = s.start.regs ∧ a.arr = s.start.arr ∧ a.dram = s.start.dram ∧
      a.tiles = s.start.tiles) ∧
  (∀ (s : State) (p : Port) (g : Fin 16) (v : Word), s.start.writable p (g.val / 2) 0x36 (0x050 + 0x40 * (g.val % 2)) = true →
    bit v.toNat 1 = false →
    exec (.sspiRxpop p g v) s = .next (s.settled (s.start.modClu g fun c => { c with spi := { c.spi with rx := c.spi.rx.tail } }))) ∧
  (∀ (s : State) (p : Port) (g : Fin 16) (v : Word), s.start.writable p (g.val / 2) 0x36 (0x050 + 0x40 * (g.val % 2)) = true →
    bit v.toNat 0 = false → (s.start.clu g).spi.shift = none →
    exec (.sspiFlush p g v) s = .next (s.settled (s.start.modClu g fun c => { c with spi := {} }))) ∧
  (∀ (s : State) (g : Fin 16) (miso : Word), (s.start.clu g).spi.shift.isSome = true → (s.start.clu g).spi.rx.length < 16 →
    (s.start.clu g).spi.flush = false → (s.start.clu g).spi.tx = [] →
    exec (.sspiFrameDone g miso) s = .next (s.settled ((s.start.modClu g fun c => { c with spi := { c.spi with
      shift := none, rx := c.spi.rx ++ [if s.start.spiLsb g then Mach.revBits (s.start.spiBits g) miso.toNat
        else miso.toNat % 2 ^ s.start.spiBits g] } }).raise
        (P.sspi (g.val / 2)) (8 * (g.val % 2)))))

/-- R188, R189, R192–R194: converters. A full calibration starts and its end shows which converters are not FAILED; a shadow step with all
its pairs, within its limits, leaves its factors waiting, gain fitted from a standard deviation of 1,024 LSB on and skew from a slope of 64
LSB per ns on; the handover gives the position, in rotation, to the dummy with these factors and makes the slice it replaces the dummy; a
step that times out with 256 pairs or more ends with its offset only, and with fewer is abandoned and counted. Model choices it rests on:
log entries 27, 118. -/
def Obligations.ConverterCalibration : Prop :=
  (∀ (s : State) (p : Port) (g : Fin 16) (v : Word), s.start.writable p (g.val / 2) (0x0C + g.val % 2) 0x05C = true → s.start.armed g = false →
    s.start.flag (P.vc g) F.VC_STAT_CAL_BUSY = false →
    exec (.vcFullCal p g v) s = .next (s.settled
      (((s.start.modClu g fun c => { c with calStart := s.start.now (g.val / 2), calHost := true }).wr (P.vc g) F.VC_CAL_CMD_FULL 1).wr
        (P.vc g) F.VC_STAT_CAL_BUSY 1))) ∧
  (∀ (s : State) (g : Fin 16) (meas : List (List SliceMeas)), s.start.flag (P.vc g) F.VC_STAT_CAL_BUSY = true →
    ∃ a : Mach, exec (.vcCalComplete g meas) s = .next (s.settled a) ∧ a.flag (P.vc g) F.VC_STAT_CAL_BUSY = false ∧
      a.flag (P.vc g) F.VC_CAL_CMD_FULL = false ∧ (a.word (P.vc g) 0x010).toNat.testBit 0 = true ∧
      (∀ v, v < 6 → bit (a.rd (P.vc g) F.VC_STAT_CAL_OK) v = !a.flag (P.vc g) (F.VC_CONV_MAP_FAILED.nth v)) ∧ a.dram = s.start.dram) ∧
  (∀ (s : State) (g : Fin 16) (v : Fin 6) (fit : StepEnd) (w : Nat), s.start.stepRuns g v = true → (s.start.conv g v).bridge = false →
    2 ^ s.start.act (P.vc g) F.VC_BGCAL_SHADOW_LOG2 ≤ fit.pairs → fit.res ≤ s.start.act (P.vc g) F.VC_LIM_RES_LSB →
    w = Mach.factorWord fit.ofs (if 1024 ≤ fit.sd then fit.gain else Mach.fGain (s.start.factors g v (s.start.dummySlice g v)))
      (if 64 ≤ fit.slope then fit.skew else Mach.fSkew (s.start.factors g v (s.start.dummySlice g v))) fit.res →
    s.start.drifted g v w = false →
    exec (.shadowStepComplete g v fit) s = .next (s.settled
      ((((s.start.incW (P.vc g) (F.VC_CONV_BG_STEPS.nth v)).wrb (P.vc g) (F.VC_CONV_BG_G_SKIP.nth v) (decide (fit.sd < 1024))).wrb (P.vc g)
        (F.VC_CONV_BG_S_SKIP.nth v) (decide (fit.slope < 64))).modConv g v fun c => { c with since := c.since + 1, pend := some w }))) ∧
  (∀ (s : State) (g : Fin 16) (v : Fin 6) (phase : Fin 6) (w : Nat), (s.start.conv g v).pend = some w → s.start.bridges g v = false →
    s.start.shadowPos g v < 4 →
    ∃ a : Mach, exec (.handover g v phase) s = .next (s.settled a) ∧ (a.conv g v).pend = none ∧
      a.posSlice g v (s.start.shadowPos g v) = s.start.dummySlice g v ∧
      a.dummySlice g v = s.start.posSlice g v (s.start.shadowPos g v) ∧ a.factors g v (s.start.dummySlice g v) = w ∧
      a.shadowPos g v = (s.start.shadowPos g v + 1) % 4 ∧ a.dram = s.start.dram ∧ a.tiles = s.start.tiles) ∧
  (∀ (s : State) (g : Fin 16) (v : Fin 6) (pairs : Nat) (fit : StepFit) (w : Nat), s.start.stepRuns g v = true → (s.start.conv g v).bridge = false →
    256 ≤ pairs → fit.res ≤ s.start.act (P.vc g) F.VC_LIM_RES_LSB →
    w = Mach.factorWord fit.ofs (Mach.fGain (s.start.factors g v (s.start.dummySlice g v)))
      (Mach.fSkew (s.start.factors g v (s.start.dummySlice g v))) fit.res →
    s.start.drifted g v w = false →
    exec (.bgStepTimeout g v pairs fit) s = .next (s.settled
      ((((s.start.incW (P.vc g) (F.VC_CONV_BG_STEPS.nth v)).wrb (P.vc g) (F.VC_CONV_BG_G_SKIP.nth v) true).wrb (P.vc g)
        (F.VC_CONV_BG_S_SKIP.nth v) true).modConv g v fun c => { c with since := c.since + 1, pend := some w }))) ∧
  (∀ (s : State) (g : Fin 16) (v : Fin 6) (pairs : Nat) (fit : StepFit), s.start.stepRuns g v = true → pairs < 256 →
    exec (.bgStepTimeout g v pairs fit) s = .next (s.settled ((s.start.inc (P.vc g) F.VC_BG_STALL_COUNT).raise (P.vc g) 4)))

/-- R25, R212, R218, R242: a newer position sample of the hand joins those of an armed member it reaches; a wait that ends marks the line; a
line in the slot that has no position yet leaves it as a missing capture to be placed, one of the lead-in only moves the centroids, any
other one is accumulated; a host temperature is delivered to the shading, and 100 ms without one marks it stale. Model choices it rests on:
log entries 43, 46. -/
def Obligations.PositionsAndTemperatures : Prop :=
  (∀ (s : State) (g : Fin 16) (h n : Nat) (x : Int), s.start.islandOf (g.val / 2) = none → s.start.handOf g = some h →
    (s.start.hand h).sample = some (n, x) → (∀ e, e ∈ (s.start.accSt g).samples → e.1 < n) → s.start.armed g = true →
    s.start.reaches (s.start.rd P.mode (F.MODE_HAND_CFG_POS_CLUSTER.nth h) / 2) (g.val / 2) = true →
    exec (.positionSample g) s = .next (s.settled (s.start.modAcc g fun a => { a with samples := a.samples ++ [(n, x)] }))) ∧
  (∀ (s : State) (g : Fin 16), (s.start.clu g).slot.isSome = true → s.start.slotReady g = false →
    exec (.positionTimeout g) s = .next (s.settled (s.start.modAcc g fun a => { a with waitOver := true }))) ∧
  (∀ (s : State) (g : Fin 16) (errs : List Upset) (l : Line), (s.start.clu g).slot = some l → s.start.slotReady g = true →
    s.start.enabled (P.acc g) = true → (s.start.accSt g).dead = false → l.cap.legacy = none → s.start.place g (16 * l.cap.n) = none →
    exec (.accumulate g errs) s = .next (s.settled ((s.start.modClu g fun c => { c with slot := none }).modAcc g fun a =>
      { a with orphans := a.orphans ++ l.cap.missing ++ [l.cap.n], waitOver := false }))) ∧
  (∀ (s : State) (g : Fin 16) (errs : List Upset) (l : Line), (s.start.clu g).slot = some l → s.start.slotReady g = true →
    s.start.enabled (P.acc g) = true → (s.start.accSt g).dead = false → (s.start.place g (16 * l.cap.n)).isSome = true →
    s.start.placed g l.cap = true → l.cap.leadIn = true → l.cap.missing = [] → (s.start.accSt g).orphans = [] →
    s.start.enabled (P.shd g) = false →
    exec (.accumulate g errs) s = .next (s.settled ((s.start.modClu g fun c => { c with slot := none, upsets := c.upsets ++ errs }).modAcc g fun a =>
      { a with orphans := [], est := false, waitOver := false,
               cprev := l.cap.cents.map fun x => ((s.start.place g x).map fun q : Int × Bool => q.1 + s.start.along g).getD 0 }))) ∧
  (∀ (s : State) (g : Fin 16) (errs : List Upset) (l : Line), (s.start.clu g).slot = some l → s.start.slotReady g = true →
    s.start.enabled (P.acc g) = true → (s.start.accSt g).dead = false → (s.start.place g (16 * l.cap.n)).isSome = true →
    exec (.accumulate g errs) s = .next (s.settled ((s.start.modClu g fun c => { c with slot := none }).accumulateLine g l errs))) ∧
  (∀ (s : State) (p : Port) (g : Fin 16) (v : Word), s.start.writable p (g.val / 2) (0x12 + g.val % 2) 0x04C = true →
    s.start.shdTempSrc g = 7 → s.start.enabled (P.shd g) = true →
    ∃ a : Mach, exec (.tHostWrite p g false v) s = .next (s.settled a) ∧ a.flag (P.shd g) F.SHD_T_NOW_VALID = true ∧
      a.flag (P.shd g) F.SHD_T_NOW_STALE = false ∧ a.rd (P.shd g) F.SHD_T_NOW_T = v.toNat % 65536 ∧
      (∀ pk off, off < 4096 → ¬ (pk = P.shd g ∧ (off = 0x04C ∨ off = 0x0B0)) → a.word pk off = s.start.word pk off) ∧
      a.arr = s.start.arr ∧ a.dram = s.start.dram ∧ a.tiles = s.start.tiles ∧ a.clus = s.start.clus) ∧
  (∀ (s : State) (g : Fin 16), s.start.flag (P.shd g) F.SHD_T_NOW_VALID = true → s.start.flag (P.shd g) F.SHD_T_NOW_STALE = false →
    exec (.tempStale g .shd) s = .next (s.settled ((s.start.wr (P.shd g) F.SHD_T_NOW_STALE 1).raise (P.shd g) 6)))

/-- R257, R258: a table build starts once sums are valid, no deal is open and no build runs; the DARK build, shown on a table without bit errors, writes
into every entry that has samples the rounded mean of its sums, at most 32,767, takes over the geometry of the sums and raises DONE. -/
def Obligations.TableBuilds : Prop :=
  (∀ (s : State) (p : Port) (g : Fin 16) (v : Word) (i : Instr) (c : Nat), s.start.writable p (g.val / 2) (0x14 + g.val % 2) 0x054 = true →
    v.toNat % 8 = 0 → (i, c) ∈ [(.buildDark p g v, 1), (.buildGain p g v, 2), (.buildDefect p g v, 4)] →
    s.start.flag (P.cal g) F.CAL_STAT_SUMS_VALID = true → s.start.tableLocked g = false → s.start.flag (P.cal g) F.CAL_STAT_BUSY = false →
    exec i s = .next (s.settled (((((((s.start.setWord (P.cal g) 0x054 (BitVec.ofNat 32 c)).wr (P.cal g) F.CAL_STAT_BUSY 1).wr (P.cal g)
      F.CAL_STAT_ABORTED 0).wr (P.cal g) F.CAL_BUILD_POS_E 0).wr (P.cal g) F.CAL_NOSAMP_COUNT 0).wr (P.cal g) F.CAL_GAIN_CLAMP_COUNT 0).wr
        (P.cal g) F.CAL_DEF_MARKED_COUNT 0))) ∧
  (∀ (s : State) (g : Fin 16), s.start.flag (P.cal g) F.CAL_STAT_BUSY = true → s.start.word (P.cal g) 0x054 = 1 →
    (∀ e, s.start.ecc g e = 0) →
    ∃ a : Mach, exec (.buildComplete g) s = .next (s.settled a) ∧ a.flag (P.cal g) F.CAL_STAT_BUSY = false ∧ a.word (P.cal g) 0x054 = 0 ∧
      (a.word (P.cal g) 0x010).toNat.testBit 0 = true ∧
      a.rd (P.shd g) F.SHD_TBL_GEOM_W = s.start.rd (P.cal g) F.CAL_SUMS_GEOM_W ∧
      a.rd (P.shd g) F.SHD_TBL_GEOM_P = s.start.rd (P.cal g) F.CAL_SUMS_GEOM_P ∧ a.dram = s.start.dram ∧ a.clus = s.start.clus ∧
      a.tiles = s.start.tiles ∧
      (∀ pk off, off < 4096 → pk ≠ P.cal g → ¬ (pk = P.shd g ∧ off = 0x104) → a.word pk off = s.start.word pk off) ∧
      (∀ e, e < s.start.rd (P.cal g) F.CAL_SUMS_GEOM_W * s.start.rd (P.cal g) F.CAL_SUMS_GEOM_P →
        0 < bits (s.start.el (P.cal g) 0 e) 23 0 →
        a.entry g e = putBits (s.start.entry g e) 15 0 (min ((2 * bits (s.start.el (P.cal g) 0 e) 63 24 +
          bits (s.start.el (P.cal g) 0 e) 23 0) / (2 * bits (s.start.el (P.cal g) 0 e) 23 0)) 32767) % 2 ^ 74))

/-! ### Output and check lane (R267–R297) -/

/-- The side of a segment that an operand `right` names. -/
def sideOf (right : Bool) : Mach.Side := if right then .right else .left

/-- R267, R274, R275, R278, R286, R288, R291, R292: stage 7 takes the next released line and waits for the samples of a seam it owns; arriving
samples are stored in their slot of the owner's meld buffer and nothing else in DRAM changes, or over a degraded seam, or where the slot
holds a line not yet used, are discarded and counted; the time-out forms the line that waits, late (shown with no DRAM word in error); the
sender's notice is noted; the last trick that waits in stage 9 is written once its queue has room, and the line has left the stage; CHK.POP drops the oldest record; INJECT.ONCE arms.
Model choices it rests on: log entries 35, 49–51. -/
def Obligations.OutputStages : Prop :=
  (∀ (s : State) (g : Fin 16) (l : OutLine) (r : List OutLine), (s.start.clu g).released = l :: r → (s.start.clu g).inMeld = none →
    (s.start.clu g).outTricks = [] → s.start.outputOn (g.val / 2) = true → l.records = false → s.start.hasSeam g .left = false →
    s.start.ownsSeam g .right = true → l.degR = false → s.start.degraded g .right = false → (s.start.seam g .right).buf = [] →
    (s.start.seam g .right).ovf = none → (s.start.seam g .right).notice = false →
    exec (.meldTakeLine g) s = .next (s.settled (s.start.modClu g fun c => { c with released := r, inMeld := some l, stage7 := true }))) ∧
  (∀ (s : State) (g : Fin 16) (right : Bool) (x : Overlap) (r : List Overlap), (s.start.seam g (sideOf right)).flight = x :: r →
    s.start.degraded g (sideOf right) = false → s.start.wasPassed g x.k = false → s.start.inBuffer g (sideOf right) = [] →
    (s.start.clu g).inMeld = none →
    exec (.overlapArrival g right) s = .next (s.settled
      (({ (s.start.modSeam g (sideOf right) fun y => { y with flight := r }).dramWrite (g.val / 2)
        (s.start.slotAddr g (sideOf right) x.k) (s.start.slotFill g (sideOf right)) with free := s.start.free + 1 } : Mach).modSeam g (sideOf right)
        fun y => { y with buf := y.buf ++ [{ x with raw := s.start.slotFill g (sideOf right) }] })) ∧
    ∀ k, (∀ j, j < s.start.slotBytes g (sideOf right) → k ≠ s.start.dramKey (g.val / 2) (s.start.slotAddr g (sideOf right) x.k + j)) →
      Store.get 0 (s.start.dramWrite (g.val / 2) (s.start.slotAddr g (sideOf right) x.k) (s.start.slotFill g (sideOf right))).dram k =
        Store.get 0 s.start.dram k) ∧
  (∀ (s : State) (g : Fin 16) (right : Bool) (x : Overlap) (r : List Overlap), (s.start.seam g (sideOf right)).flight = x :: r →
    s.start.degraded g (sideOf right) = false → s.start.wasPassed g x.k = false → (s.start.clu g).inMeld = none →
    ((s.start.inBuffer g (sideOf right)).any fun y =>
      decide (y.k % s.start.ringLines (g.val / 2) = x.k % s.start.ringLines (g.val / 2))) = true →
    exec (.overlapArrival g right) s = .next (s.settled
      ((((s.start.modSeam g (sideOf right) fun y => { y with flight := r }).inc (P.meld (g.val / 2))
        (F.MELD_OVF_COUNT.nth (g.val % 2))).raise (P.meld (g.val / 2)) 2).modSeam g (sideOf right) fun y => { y with ovf := some x.k }))) ∧
  (∀ (s : State) (g : Fin 16) (right : Bool) (x : Overlap) (r : List Overlap), (s.start.seam g (sideOf right)).flight = x :: r →
    s.start.degraded g (sideOf right) = true →
    exec (.overlapArrival g right) s = .next (s.settled
      (((s.start.modSeam g (sideOf right) fun y => { y with flight := r }).inc (P.meld (g.val / 2))
        (F.MELD_LATE_DISCARD_COUNT.nth (g.val % 2))).raise (P.meld (g.val / 2)) 3))) ∧
  (∀ (s : State) (g : Fin 16) (l : OutLine), (s.start.clu g).inMeld = some l → (s.start.clu g).stage7 = true →
    s.start.seamReady g l.k .right l.degR false = 0 → (s.start.clu g).eodDue = false → s.start.dramMark = [] →
    (s.start.clu g).dropped = none →
    ∃ a : Mach, exec (.meldTimeout g) s = .next (s.settled a) ∧ (a.clu g).passed = some (max l.k ((s.start.clu g).passed.getD 0)) ∧
      (a.clu g).stage7 = false ∧ a.rd (P.meld (g.val / 2)) (F.MELD_LATE_COUNT.nth (g.val % 2)) =
        min (s.start.rd (P.meld (g.val / 2)) (F.MELD_LATE_COUNT.nth (g.val % 2)) + 1) (2 ^ F.MELD_LATE_COUNT.width - 1) ∧
      a.dram = s.start.dram) ∧
  (∀ (s : State) (g : Fin 16) (right : Bool), s.start.ownsSeam g (sideOf right) = true →
    (s.start.clu (s.start.partner g (sideOf right))).drained = true → (s.start.clu (s.start.partner g (sideOf right))).released = [] →
    (s.start.clu (s.start.partner g (sideOf right))).stage7 = false → (s.start.seam g (sideOf right)).flight = [] →
    (s.start.clu g).inMeld = none →
    exec (.endOfDealNotice g right) s = .next (s.settled (s.start.modSeam g (sideOf right) fun y => { y with notice := true }))) ∧
  (∀ (s : State) (g : Fin 16) (x : OutTrick), (s.start.clu g).outTricks = [x] → (s.start.clu g).stage7 = false →
    (s.start.clu g).eodDue = false → s.start.sound (g.val / 2) x.n = true →
    Mach.mostCells x.trick (!x.eod) ≤ s.start.queFree (g.val / 2) x.n → (s.start.queue (g.val / 2) x.n).opened = none →
    exec (.stage9CreditResume g) s = .next (s.settled (((s.start.writeTrick (g.val / 2) (s.start.clu g).dealId x).modClu g fun c =>
      { c with outTricks := [] }).modClu g fun c => { c with inMeld := none, creditWait := false }))) ∧
  (∀ (s : State) (p : Port) (t : Fin 8) (v : Word), s.start.writable p t 0x18 0x088 = true →
    exec (.chkPop p t v) s = .next (s.settled (s.start.modTile t fun ts => { ts with chkFifo := ts.chkFifo.tail }))) ∧
  (∀ (s : State) (p : Port) (t : Fin 8) (v : Word), s.start.writable p t 0x18 0x044 = true →
    exec (.checkInject p t v) s = .next (s.settled (s.start.wr (P.chk t) F.CHK_INJECT_ONCE 1)))

/-- R273, R282, R283: the arithmetic of stages 7 and 9. A blend weight lies in 0–256 and does not fall along the overlap; a blended sample lies
between the two it is made of; a formatted sample fits its output width; the pieces of a plane follow each other without a gap, none
longer than a full trick, and count every sample once. -/
def Obligations.BlendAndFormatArithmetic : Prop :=
  (∀ (ovl bw j : Nat), Mach.blendWeight ovl bw j ≤ 256 ∧ Mach.blendWeight ovl bw j ≤ Mach.blendWeight ovl bw (j + 1)) ∧
  (∀ (w : Nat) (l r : Px), w ≤ 256 → min l.v r.v ≤ (Mach.blend w l r).v ∧ (Mach.blend w l r).v ≤ max l.v r.v) ∧
  (∀ (f v : Nat), v < 65536 → Mach.fmtSample (Mach.fmtBits f) v < 2 ^ Mach.fmtBits f) ∧
  (∀ (fmt p x0 : Nat) (pix : List (List Px)), fmt < 16 → bit fmt 3 = false →
    ((Mach.pieces fmt [p] pix x0).map fun q => q.count).sum = (pix.getD p []).length ∧
    ∀ i, i < (Mach.pieces fmt [p] pix x0).length →
      ((Mach.pieces fmt [p] pix x0).getD i default).plane = p ∧
      ((Mach.pieces fmt [p] pix x0).getD i default).segofs = x0 + i * Mach.unitsPerTrick fmt 1 ∧
      ((Mach.pieces fmt [p] pix x0).getD i default).count ≤ Mach.unitsPerTrick fmt 1)

/-! ### Queues and kitties (R298–R327) -/

/-- R302, R304, R306, R314, R432: a held trick opens once FREE allows it (shown on a chain): its cells are reserved, leaving FREE, and an
unfilled header joins the queue; closing writes its data, fills the header and gives back what is left of the reservation; a delivery into a
host ring takes the trick from the head of the queue in turn and counts it, a replay takes it from the spill list. Model choices it rests
on: log entries 35, 48. -/
def Obligations.TricksMove : Prop :=
  (∀ (s : State) (t : Fin 8) (q : Fin 32) (tr : Trick) (r : List Trick),
    Store.get [] (s.start.tile t).held (s.start.rd (P.que t) (F.QUE_Q_CFG_PROD.nth q)) = tr :: r → s.start.isPool t q = false →
    s.start.sound t q = true → (s.start.queue t q).opened = none → 1 + dataCells tr.payload ≤ s.start.queFree t q →
    (∀ c, c < 16 → (s.start.dmaCh t c).recs = []) →
    ∃ a : Mach, exec (.trickOpen t q) s = .next (s.settled a) ∧
      (a.queue t q).cells.length = (s.start.queue t q).cells.length + 1 ∧
      a.queFree t q + (1 + dataCells tr.payload) = s.start.queFree t q ∧
      (a.queue t q).cells.take (s.start.queue t q).cells.length = (s.start.queue t q).cells ∧
      (a.queue t q).opened = some
        { reserved := dataCells tr.payload, trick := tr, rest := tr.payload, prod := s.start.rd (P.que t) (F.QUE_Q_CFG_PROD.nth q) } ∧
      Store.get [] (a.tile t).held (s.start.rd (P.que t) (F.QUE_Q_CFG_PROD.nth q)) = r ∧
      (∀ q', q' < 32 → q' ≠ q.val → a.queue t q' = s.start.queue t q') ∧
      a.regs = s.start.regs ∧ a.arr = s.start.arr ∧ a.dram = s.start.dram ∧ a.clus = s.start.clus) ∧
  (∀ (s : State) (t : Fin 8) (q : Fin 32) (o : OpenTrick), (s.start.queue t q).opened = some o →
    s.start.sound t q = true → s.start.isPool t q = false →
    ∃ a : Mach, exec (.trickClose t q) s = .next (s.settled a) ∧ (a.queue t q).opened = none ∧
      (a.queue t q).cells = Mach.fillHeader (bytesToWords o.trick.hdr) (dataCells o.trick.payload) ((s.start.queue t q).cells ++
        (List.range (dataCells o.rest)).map fun i => mkCell 0 0 false false true 0 (bytesToWords ((o.rest.drop (32 * i)).take 32))) ∧
      (∀ q', q' < 32 → q' ≠ q.val → a.queue t q' = s.start.queue t q') ∧
      a.regs = s.start.regs ∧ a.arr = s.start.arr ∧ a.dram = s.start.dram ∧ a.clus = s.start.clus) ∧
  (∀ (s : State) (t : Fin 8) (q : Nat) (cs : List Cell), s.start.served t = some q → (s.start.queue t q).spill = [] →
    s.start.checkQueue t q false = none → s.start.hostMode t = 1 → s.start.headTrick t q = some cs →
    ∃ a : Mach, exec (.trickDelivery t) s = .next (s.settled a) ∧ (a.queue t q).cells = (s.start.queue t q).cells.drop cs.length ∧
      a.rd (P.pcie t) (F.PCIE_Q_DELIVERED_COUNT.nth q) = (s.start.rd (P.pcie t) (F.PCIE_Q_DELIVERED_COUNT.nth q) + 1) % 2 ^ 32 ∧
      a.arr = s.start.arr ∧ a.dram = s.start.dram ∧ a.clus = s.start.clus ∧ a.hands = s.start.hands) ∧
  (∀ (s : State) (t : Fin 8) (q : Nat) (cs : List Cell), s.start.served t = some q → (s.start.queue t q).spill ≠ [] →
    s.start.dramMark = [] → s.start.checkQueue t q false = none → s.start.hostMode t = 1 → s.start.spillTrick t q = some cs →
    ∃ a : Mach, exec (.replayTrick t) s = .next (s.settled a) ∧ (a.queue t q).cells = (s.start.queue t q).cells ∧
      (a.queue t q).spillTricks = (s.start.queue t q).spillTricks - 1 ∧
      a.rd (P.pcie t) (F.PCIE_Q_DELIVERED_COUNT.nth q) = (s.start.rd (P.pcie t) (F.PCIE_Q_DELIVERED_COUNT.nth q) + 1) % 2 ^ 32 ∧
      a.arr = s.start.arr ∧ a.dram = s.start.dram ∧ a.clus = s.start.clus ∧ a.hands = s.start.hands)

/-- R305, R318–R320, R324: FETCH shows the head cell; POP frees the shown head cell; DISCARD frees it with the rest of its trick and is
counted; either is ignored and counted as an error where the other port took the cell in the same cycle; RESET empties the queue (shown
where the queue is not the fault log's own) and raises; the reaper then hands the cells back and raises. Model choices it rests on: log
entries 104, 129. -/
def Obligations.RegisterConsumerAndReset : Prop :=
  (∀ (s : State) (p : Port) (t : Fin 8) (q : Fin 32) (c : Cell) (r : List Cell), s.start.writable p t 0x1C 0x040 = true →
    s.start.checkQueue t q false = none → (s.start.queue t q).cells = c :: r → (c.hdr = true → c.filled = true) →
    s.start.rd (P.que t) (F.QUE_Q_CFG_CONS.nth q) ≠ 1 →
    exec (.queFetch p t q) s = .next (s.settled (s.start.modKit t fun k => { k with shown := some c, shownQueue := q }))) ∧
  (∀ (s : State) (p : Port) (t : Fin 8) (q : Fin 32), s.start.writable p t 0x1C 0x040 = true → s.start.checkQueue t q false = none →
    s.start.rd (P.que t) (F.QUE_Q_CFG_CONS.nth q) = 1 → s.start.shownIsHead t q = true →
    ∃ a : Mach, exec (.quePop p t ⟨q, false⟩) s = .next (s.settled a) ∧ (a.queue t q).cells = (s.start.queue t q).cells.tail ∧
      (a.queue t q).consIn = decide (0 < Mach.remainOf (s.start.queue t q).cells) ∧ (a.kit t).shownQueue = q.val ∧
      a.arr = s.start.arr ∧ a.dram = s.start.dram ∧ a.clus = s.start.clus ∧ a.hands = s.start.hands) ∧
  (∀ (s : State) (p : Port) (t : Fin 8) (q : Fin 32), s.start.writable p t 0x1C 0x040 = true → s.start.checkQueue t q false = none →
    s.start.rd (P.que t) (F.QUE_Q_CFG_CONS.nth q) = 1 → s.start.shownIsHead t q = true →
    ∃ a : Mach, exec (.queDiscard p t ⟨q, false⟩) s = .next (s.settled a) ∧
      (a.queue t q).cells = (s.start.queue t q).cells.drop (1 + Mach.remainOf (s.start.queue t q).cells) ∧ (a.queue t q).consIn = false ∧
      a.rd (P.que t) (F.QUE_Q_ERRS_DISCARDS.nth q) =
        min (s.start.rd (P.que t) (F.QUE_Q_ERRS_DISCARDS.nth q) + 1) (2 ^ F.QUE_Q_ERRS_DISCARDS.width - 1) ∧
      a.arr = s.start.arr ∧ a.dram = s.start.dram ∧ a.clus = s.start.clus ∧ a.hands = s.start.hands) ∧
  (∀ (s : State) (p : Port) (t : Fin 8) (q : Fin 32), s.start.writable p t 0x1C 0x040 = true → s.start.queueOfProd t 0x0A ≠ some q.val →
    s.start.fallingAsleep t = false →
    ∃ a : Mach, exec (.queReset p t q) s = .next (s.settled a) ∧ (a.queue t q).cells = [] ∧ (a.queue t q).opened = none ∧
      (a.queue t q).spill = [] ∧ (a.queue t q).spillTricks = 0 ∧ (a.queue t q).dcred = (s.start.queue t q).dcred ∧
      (a.word (P.que t) 0x010).toNat.testBit 1 = true ∧
      s.start.word (P.que t) (0x100 + 0x20 * q) = a.word (P.que t) (0x100 + 0x20 * q) ∧ a.dram = s.start.dram ∧ a.clus = s.start.clus) ∧
  (∀ (s : State) (t : Fin 8) (q : Fin 32), s.start.reaping t q = true → s.start.dramMark = [] →
    Mach.Pool.ok (s.start.kit t).sram = true → Mach.Pool.ok (s.start.kit t).dram = true →
    ∃ a : Mach, exec (.reapDone t q) s = .next (s.settled a) ∧ a.reaping t q = false ∧
      (a.queue t q).cells = (s.start.queue t q).cells ∧ (a.queue t q).leaked = (s.start.queue t q).leaked +
        ((s.start.queue t q).reapSramCount - ((s.start.queue t q).reapSram.takeWhile fun i => decide (i < 32768)).length) ∧
      (a.word (P.kitty t) 0x010).toNat.testBit 3 = true ∧ a.dram = s.start.dram ∧ a.clus = s.start.clus) ∧
  (∀ (s : State) (p : Port) (t : Fin 8) (q : Fin 32) (i : Instr), s.start.writable p t 0x1C 0x040 = true →
    i ∈ [Instr.quePop p t ⟨q, true⟩, .queDiscard p t ⟨q, true⟩] → exec i s = .next (s.settled (s.start.queCmdErr t)))

/-- R308, R311–R315, R327: the spill writer moves the head trick of a queue to its spill list, or waits, the DRAM kitty shown full, where no
cell is free; SRAM_INIT makes the pool new; DRAM_INIT makes the DRAM kitty ready with all its cells free; DRAM_RELEASE ends that; the
self-test runs and, passed, leaves the pool new and ready; failed, it leaves the pool not ready and names the cell. Model choices it rests
on: log entries 103, 105. -/
def Obligations.SpillAndKittyCommands : Prop :=
  (∀ (s : State) (t : Fin 8) (q : Fin 32) (cs : List Cell), s.start.flag (P.que t) (F.QUE_Q_CFG_SPILL_OK.nth q) = true →
    s.start.rd (P.que t) (F.QUE_Q_CFG_CONS.nth q) = 0 → (s.start.kit t).dramReady = true → (s.start.kit t).spilling = true →
    s.start.checkQueue t q true = none → s.start.headTrick t q = some cs → (s.start.queue t q).spillPart = 0 →
    cs.length ≤ s.start.dramFree t →
    ∃ a : Mach, exec (.spillWrite t q) s = .next (s.settled a) ∧ (a.queue t q).cells = (s.start.queue t q).cells.drop cs.length ∧
      (a.queue t q).spillTricks = (s.start.queue t q).spillTricks + 1 ∧
      (a.queue t q).spill.length = (s.start.queue t q).spill.length + cs.length ∧ (a.queue t q).opened = (s.start.queue t q).opened ∧
      a.arr = s.start.arr ∧ a.clus = s.start.clus ∧ a.hands = s.start.hands) ∧
  (∀ (s : State) (p : Port) (t : Fin 8) (v : Word), s.start.writable p t 0x1D 0x060 = true → bits v.toNat 3 1 = 0 →
    s.start.poolBusy t false = false →
    exec (.sramReinit p t v) s = .next (s.settled (s.start.reinitSram t)) ∧ ((s.start.reinitSram t).kit t).sram = {} ∧
    ∀ q, q < 32 → ((s.start.reinitSram t).queue t q).leaked = 0 ∧ ((s.start.reinitSram t).queue t q).cells = (s.start.queue t q).cells) ∧
  (∀ (s : State) (p : Port) (t : Fin 8) (v : Word), s.start.writable p t 0x1D 0x060 = true → bit v.toNat 0 = false → bits v.toNat 3 2 = 0 →
    s.start.dramInitOk t = true →
    ∃ a : Mach, exec (.dramInit p t v) s = .next (s.settled a) ∧ (a.kit t).dramReady = true ∧ (a.kit t).dram = {} ∧
      (a.kit t).sram = (s.start.kit t).sram ∧ a.dramFree t = s.start.dramCells t ∧
      (∀ pk off, off < 4096 → ¬ (pk = P.kitty t ∧ off = 0x010) → a.word pk off = s.start.word pk off) ∧
      a.arr = s.start.arr ∧ a.dram = s.start.dram ∧ a.clus = s.start.clus) ∧
  (∀ (s : State) (p : Port) (t : Fin 8) (v : Word), s.start.writable p t 0x1D 0x060 = true → bits v.toNat 1 0 = 0 → bit v.toNat 3 = false →
    s.start.spillBusy t = false →
    exec (.dramRelease p t v) s = .next (s.settled (s.start.modKit t fun k =>
      { k with dramReady := false, nearFull := false, dramFull := false }))) ∧
  (∀ (s : State) (p : Port) (t : Fin 8) (v : Word), s.start.writable p t 0x1D 0x060 = true → bits v.toNat 2 0 = 0 →
    s.start.poolBusy t true = false → (s.start.kit t).testing = false →
    exec (.selftest p t v) s = .next (s.settled (((s.start.modKit t fun k => { k with testing := true }).wr (P.kitty t) F.KITTY_STAT_ST_PASS 0).wr
      (P.kitty t) F.KITTY_STAT_ST_FAIL 0))) ∧
  (∀ (s : State) (t : Fin 8), (s.start.kit t).testing = true →
    exec (.selftestDone t none) s = .next (s.settled (((((s.start.reinitSram t).modKit t fun k =>
      { k with testing := false, sramReady := true }).wr (P.kitty t) F.KITTY_STAT_ST_PASS 1).setWord (P.kitty t) 0x06C 0).raise (P.kitty t) 4))) ∧
  (∀ (s : State) (t : Fin 8) (c : Fin 32768), (s.start.kit t).testing = true →
    ∃ a : Mach, exec (.selftestDone t (some c)) s = .next (s.settled a) ∧ (a.kit t).testing = false ∧ (a.kit t).sramReady = false ∧
      a.rd (P.kitty t) F.KITTY_STAT_ST_FAIL = 1 ∧ a.word (P.kitty t) 0x06C = BitVec.ofNat 32 (2 ^ 31 + c.val) ∧
      (a.word (P.kitty t) 0x010).toNat.testBit 4 = true ∧ a.dram = s.start.dram ∧ a.clus = s.start.clus) ∧
  (∀ (s : State) (t : Fin 8) (q : Fin 32), s.start.wantsSpill t q = true → (s.start.kit t).dramReady = true →
    s.start.checkQueue t q true = none → s.start.dramFree t = 0 →
    (∀ cs, s.start.headTrick t q = some cs → (s.start.queue t q).spillPart < cs.length) →
    ∃ a : Mach, exec (.spillWrite t q) s = .next (s.settled a) ∧ a.queue t q = s.start.queue t q ∧ (a.kit t).dramFull = true ∧
      a.arr = s.start.arr ∧ a.dram = s.start.dram ∧ a.clus = s.start.clus)

/-! ### Motion and pace (R328–R364) -/

/-- R335, R337, R340, R342, R345, R350, R352, R343: a write of AXIS.CTRL with one action bit: DRV_EN is taken as written, then the action is judged. GO and
HOME_GO are taken where nothing refuses or blocks them, STOP waits for the next tick, ESTOP of a cruising axis brakes it at EDEC from
now on, FORGET clears the position of an axis that stands without drive, CHAT_CLR clears every chatter whose input is quiet, SNAP
latches time, position, velocity and encoder together. Model choices it rests on: log entry 89. -/
def Obligations.AxisCommands : Prop :=
  ∀ (s : State) (p : Port) (g : Fin 16) (v : Word) (b : Mach), s.start.writable p (g.val / 2) (0x28 + g.val % 2) 0x044 = true →
    bits v.toNat 7 1 = 0 → (s.start.flag (P.axis g) F.AXIS_CTRL_DRV_EN = true → bit v.toNat 0 = false → s.start.moving g = false) →
    b = s.start.wrb (P.axis g) F.AXIS_CTRL_DRV_EN (bit v.toNat 0) →
    (b.goOk g = true → b.tripped g 0 = false → b.tripped g 1 = false →
      exec (.axisGo p g v) s = .next (s.settled ((((b.wr (P.axis g) F.AXIS_STAT_AT_TARGET 0).wr (P.axis g) F.AXIS_STAT_ESTOPPED 0).wr (P.axis g)
        F.AXIS_STAT_DECEL_RAISED 0).modAxS g fun x => { x with pendGo := true, pendStop := false, raised := false }))) ∧
    (b.goOk g = false → exec (.axisGo p g v) s = .next (s.settled ((b.inc (P.axis g) F.AXIS_REFUSED_COUNT).raise (P.axis g) 11))) ∧
    (b.homePhase g = 0 → (b.axS g).mode ≠ .edec →
      exec (.axisStop p g v) s = .next (s.settled (b.modAxS g fun x => { x with pendStop := true, pendGo := false }))) ∧
    (b.homePhase g = 0 → b.mayMove g = true → (b.axS g).mode = .vel → (b.axS g).v ≠ 0 → (b.axS g).a = 0 → (b.axS g).te = none →
      ∃ a : Mach, exec (.axisEstop p g v) s = .next (s.settled a) ∧ (a.axS g).mode = .edec ∧ (a.axS g).cause = 1 ∧
        (a.axS g).v = (b.axS g).v ∧ (a.axS g).t0 = s.start.now (g.val / 2) ∧
        (a.axS g).a = (if (b.axS g).v < 0 then 1 else -1) * ((max 1 (s.start.rd (P.axis g) F.AXIS_EDEC_A) : Nat) : Int) * 65536 ∧
        a.tiles = s.start.tiles ∧ a.hands = s.start.hands ∧ a.arr = s.start.arr ∧ a.dram = s.start.dram) ∧
    (b.goOk g = true → b.tripped g 0 = false → b.tripped g 1 = false → b.tripped g 2 = false →
      exec (.homeGo p g v) s = .next (s.settled ((((b.wr (P.axis g) F.AXIS_STAT_ESTOPPED 0).wr (P.axis g) F.AXIS_STAT_HOME_PHASE 1).modAxA g
        fun x => { x with homed := false }).modAxS g fun x =>
          { x with mode := .home, pendGo := false, pendStop := false, homeFrom := (b.axA g).pos, raised := false }))) ∧
    (bit v.toNat 0 = false → b.moving g = false →
      exec (.forget p g v) s = .next (s.settled ((b.modClu g fun c => { c with axisAon := {} }).modAxS g fun x => { x with tgt := 0 }))) ∧
    ((∀ i, i < 3 → bit (b.axS g).noisy i = false) →
      ∃ a : Mach, exec (.chatClr p g v) s = .next (s.settled a) ∧ (∀ i, i < 3 → a.chatter g i = false) ∧
        (∀ pk off, off < 4096 → ¬ (pk = P.axis g ∧ (off = 0x044 ∨ off = 0x0A0)) → a.word pk off = s.start.word pk off) ∧
        a.clus = s.start.clus ∧ a.tiles = s.start.tiles ∧ a.arr = s.start.arr ∧ a.dram = s.start.dram) ∧
    (∃ a : Mach, exec (.axisSnap p g v) s = .next (s.settled a) ∧
      a.rd2 (P.axis g) F.AXIS_SNAP_T_LO_N F.AXIS_SNAP_T_HI_N = s.start.now (g.val / 2) % 2 ^ 64 ∧
      a.rd2 (P.axis g) F.AXIS_SNAP_POS_LO_POS F.AXIS_SNAP_POS_HI_POS = ofS 48 (a.axA g).pos ∧
      a.rd2 (P.axis g) F.AXIS_SNAP_VEL_LO_VEL F.AXIS_SNAP_VEL_HI_VEL = ofS 48 (a.axS g).v ∧
      a.rd2 (P.axis g) F.AXIS_SNAP_ENC_LO_ENC F.AXIS_SNAP_ENC_HI_ENC = ofS 48 (a.axA g).enc ∧ a.dram = s.start.dram)

/-- R330, R333, R334, R340, R342–R344, R347, R349: DRV_EN written alone is taken; microstep events bring a cruising axis to its instant, the position
a whole microstep behind at most; the encoder counts, and Z latches it; a limit that trips in the direction of motion brakes at EDEC and is counted; a driver
fault makes the position uncertain; SEEK that has gone HOME_MAX without HOME ends homing in a fault; HOLD_DLY gone without an event lowers the
current.
Model choices it rests on: log entry 20. -/
def Obligations.AxisEvents : Prop :=
  (∀ (s : State) (p : Port) (g : Fin 16) (en : Bool), s.start.writable p (g.val / 2) (0x28 + g.val % 2) 0x044 = true →
    (en = true ∨ s.start.moving g = false) →
    exec (.axisDrvEnWrite p g en) s = .next (s.settled (s.start.wrb (P.axis g) F.AXIS_CTRL_DRV_EN en))) ∧
  (∀ (s : State) (p : Port) (g : Fin 16), s.start.writable p (g.val / 2) (0x28 + g.val % 2) 0x044 = true →
    s.start.flag (P.axis g) F.AXIS_CTRL_DRV_EN = true → s.start.moving g = true →
    exec (.axisDrvEnWrite p g false) s = .next (s.settled (s.start.refuse (P.axis g) 12))) ∧
  (∀ (s : State) (g : Fin 16) (n : BitVec 64) (x : AxisSt) (p pos q : Int), n.toNat ≤ s.start.now (g.val / 2) → s.start.mayMove g = true →
    x = s.start.axS g → p = (s.start.axA g).p → pos = (s.start.axA g).pos → x.mode = .vel → x.te = none →
    q = Mach.glide p x.v x.a (s.start.now (g.val / 2) - x.t0) → pos.natAbs < 2 ^ 46 → q.natAbs < 2 ^ 78 →
    ∃ a : Mach, exec (.microstepEvent g n) s = .next (s.settled a) ∧ (a.axA g).p = q ∧ (a.axA g).enc = (s.start.axA g).enc ∧
      (0 < x.v → x.a = 0 → x.dirAt = none → x.dir = s.start.flag (P.axis g) F.AXIS_CFG_DIR_INV → pos * 2 ^ 32 ≤ p → p < (pos + 1) * 2 ^ 32 →
        (a.axA g).pos = q / 2 ^ 32) ∧
      (x.v < 0 → x.a = 0 → x.dirAt = none → x.dir = !s.start.flag (P.axis g) F.AXIS_CFG_DIR_INV → (pos - 1) * 2 ^ 32 < p → p ≤ pos * 2 ^ 32 →
        (a.axA g).pos = -(-q / 2 ^ 32)) ∧
      a.tiles = s.start.tiles ∧ a.hands = s.start.hands ∧ a.arr = s.start.arr ∧ a.dram = s.start.dram) ∧
  (∀ (s : State) (g : Fin 16) (up : Bool), s.start.encCounts g = true →
    exec (.encoderEdge g (if up then .up else .down)) s = .next (s.settled (s.start.modAxA g fun x =>
      { x with enc := toS 48 (ofS 48 (x.enc + if up = s.start.flag (P.axis g) F.AXIS_CFG_ENC_INV then -1 else 1)) }))) ∧
  (∀ (s : State) (g : Fin 16), s.start.encCounts g = true →
    exec (.encoderEdge g .index) s = .next (s.settled
      (s.start.wr2 (P.axis g) F.AXIS_ZLATCH_LO_ENC F.AXIS_ZLATCH_HI_ENC (ofS 48 (s.start.axA g).enc)))) ∧
  (∀ (s : State) (g : Fin 16) (level : Bool), s.start.mayMove g = true → (s.start.axS g).mode = .vel → 0 < (s.start.axS g).v →
    (s.start.axS g).a = 0 → (s.start.axS g).te = none → s.start.homePhase g = 0 → s.start.tripped g 1 = false →
    level ≠ s.start.flag (P.axis g) F.AXIS_CFG_LIM_POS_POL →
    ∃ a : Mach, exec (.limitInputChange g 1 (.level level)) s = .next (s.settled a) ∧ bit (a.axS g).lim 1 = level ∧
      (a.axS g).mode = .edec ∧ (a.axS g).cause = 2 ∧
      (a.axS g).a = -((max 1 (s.start.rd (P.axis g) F.AXIS_EDEC_A) : Nat) : Int) * 65536 ∧
      a.rd (P.axis g) F.AXIS_LIM_TRIPS_COUNT = min (s.start.rd (P.axis g) F.AXIS_LIM_TRIPS_COUNT + 1) 65535 ∧
      a.tiles = s.start.tiles ∧ a.hands = s.start.hands ∧ a.arr = s.start.arr ∧ a.dram = s.start.dram) ∧
  (∀ (s : State) (g : Fin 16), (s.start.axS g).drvFault = false → s.start.axLive g = true →
    s.start.flag (P.axis g) F.AXIS_CFG_DRV_FAULT_EN = true → s.start.homePhase g = 0 → (s.start.axS g).v = 0 → (s.start.axS g).a = 0 →
    (s.start.axS g).te = none → (s.start.axS g).mode = .idle → (s.start.axS g).pendGo = false →
    ∃ a : Mach, exec (.drvFault g true) s = .next (s.settled a) ∧ (a.axS g).drvFault = true ∧ (a.axA g).uncertain = true ∧
      (a.word (P.axis g) 0x010).toNat.testBit 7 = true ∧ a.dram = s.start.dram ∧ a.hands = s.start.hands) ∧
  (∀ (s : State) (g : Fin 16) (pos : Int), s.start.mayMove g = true → s.start.homePhase g = 1 → s.start.rd (P.axis g) F.AXIS_HOME_MAX_D ≠ 0 →
    (s.start.axS g).mode = .home → (s.start.axS g).v ≠ 0 → (s.start.axS g).a = 0 → (s.start.axS g).te = none →
    (s.start.axS g).t0 = s.start.now (g.val / 2) → pos = (s.start.axA g).pos → pos.natAbs < 2 ^ 46 →
    (pos - 1) * 2 ^ 32 < (s.start.axA g).p → (s.start.axA g).p < (pos + 1) * 2 ^ 32 →
    s.start.rd (P.axis g) F.AXIS_HOME_MAX_D ≤ (pos - (s.start.axS g).homeFrom).natAbs →
    ∃ a : Mach, exec (.homingNotFound g) s = .next (s.settled a) ∧ a.rd (P.axis g) F.AXIS_LAST_CAUSE_HOMING = 3 ∧ a.homePhase g = 0 ∧
      (a.axA g).homed = false ∧ (a.axS g).mode = .edec ∧ (a.axS g).cause = 5 ∧ a.dram = s.start.dram ∧ a.hands = s.start.hands) ∧
  (∀ (s : State) (g : Fin 16) (pos : Int), s.start.axLive g = true → s.start.moving g = false → (s.start.axS g).mode = .idle →
    (s.start.axS g).te = none → pos = (s.start.axA g).pos → pos.natAbs < 2 ^ 46 → (pos - 1) * 2 ^ 32 < (s.start.axA g).p →
    (s.start.axA g).p < (pos + 1) * 2 ^ 32 →
    (s.start.axS g).lastEv + s.start.rd (P.axis g) F.AXIS_IREF_LVL_HOLD_DLY * 500000 ≤ s.start.now (g.val / 2) →
    exec (.irefHoldTimeout g) s = .next (s.settled ((s.start.modAxS g fun x => { x with t0 := s.start.now (g.val / 2) }).wr
      (P.axis g) F.AXIS_STAT_HOLD_CUR 1)))

/-- R329, R335, R356: the planner's tick brings the part to the next multiple of 2,000, where every axis plans: where no hand is formed, no
lamp works and no other axis may move, a standing axis whose GO waits takes its velocity target and begins to accelerate at ACC, linearly;
the trapezoidal rule never asks for more than the larger of ACC and DEC nor beyond the wanted velocity; a member tile whose factors were
missing for three ticks is left out. Model choices it rests on: log entries 6, 20, 99. -/
def Obligations.PlannerAndPace : Prop :=
  (∀ (s : State) (leds : List (List Nat)) (t0 : Nat), (List.range 8).find? s.start.awake = some t0 → s.start.islandDeclarers = [] →
    (∀ h, h < 16 → s.start.formed h = false) →
    (∀ g, g < 16 → s.start.armed g = false ∧ (s.start.axS g).paced = none ∧ s.start.axLive g = false ∧ s.start.domOn (g / 2) D.lamp = false) →
    exec (.plannerTick leds) s = .next (s.settled (s.start.advance t0 ((s.start.now t0 / 2000 + 1) * 2000)))) ∧
  (∀ (s : State) (leds : List (List Nat)), exec (.plannerTick leds) s = .next (s.settled
    ((List.range 16).foldl (fun m g => m.lampTick g (leds.getD g [])) s.start.plannerTick))) ∧
  (∀ (s : State) (leds : List (List Nat)) (t0 : Nat) (g : Fin 16) (b : Mach) (v : Int), (List.range 8).find? s.start.awake = some t0 →
    b = s.start.advance t0 ((s.start.now t0 / 2000 + 1) * 2000) → s.start.islandDeclarers = [] →
    (∀ h, h < 16 → s.start.formed h = false) →
    (∀ k, k < 16 → s.start.armed k = false ∧ (s.start.axS k).paced = none ∧ (k ≠ g.val → s.start.axLive k = false ∨
      s.start.mayMove k = false ∧ s.start.moving k = false ∧ (s.start.axS k).mode = .idle) ∧
      s.start.domOn (k / 2) D.lamp = false) →
    s.start.mayMove g = true → (s.start.axS g).mode = .idle → s.start.moving g = false → (s.start.axS g).te = none →
    (s.start.axS g).pendGo = true → (s.start.axS g).pendStop = false → (s.start.axA g).pos.natAbs < 2 ^ 46 →
    ((s.start.axA g).pos - 1) * 2 ^ 32 < (s.start.axA g).p → (s.start.axA g).p < ((s.start.axA g).pos + 1) * 2 ^ 32 →
    s.start.flag (P.axis g) F.AXIS_MODE_VEL = true → s.start.flag (P.axis g) F.AXIS_CFG_PROFILE = false →
    v = clampI (-(s.start.rd (P.axis g) F.AXIS_VMAX_V * 65536 : Int)) (s.start.rd (P.axis g) F.AXIS_VMAX_V * 65536 : Int)
      (s.start.rdS48 (P.axis g) F.AXIS_VTARGET_LO_VTARGET F.AXIS_VTARGET_HI_VTARGET) →
    s.start.blocked g v = false →
    ∃ a : Mach, exec (.plannerTick leds) s = .next (s.settled a) ∧ (a.axS g).mode = .vel ∧ (a.axS g).pendGo = false ∧ (a.axS g).v = 0 ∧
      (a.axS g).a = Mach.trapezoid 0 v (max 1 (s.start.rd (P.axis g) F.AXIS_ACC_A)) (max 1 (s.start.rd (P.axis g) F.AXIS_DEC_A)) ∧
      (a.axS g).t0 = b.now (g.val / 2) ∧ (a.axS g).te = none ∧ a.axA g = s.start.axA g ∧ a.regs = b.regs ∧ a.tiles = b.tiles ∧
      a.hands = b.hands ∧ a.arr = b.arr ∧ a.dram = b.dram ∧ ∀ k, k < 16 → k / 2 ≠ g.val / 2 → a.clu k = b.clu k) ∧
  (∀ (v vd : Int) (acc dec : Nat), (Mach.trapezoid v vd acc dec).natAbs ≤ max acc dec * 65536 ∧
    (v ≤ vd → 0 ≤ v * vd → 0 ≤ Mach.trapezoid v vd acc dec ∧ Mach.trapezoid v vd acc dec ≤ (vd - v) * 250000)) ∧
  (∀ (s : State) (t u : Fin 8) (h : Nat), h < 16 → (∀ j, j < h → s.start.formed j = false) → s.start.formed h = true →
    t.val ∈ s.start.memberTiles h → u.val ∈ s.start.memberTiles h → 3 ≤ Store.get 0 (s.start.paceHand t h).miss u →
    s.start.paceLive t = true → bit (s.start.rd (P.pace t) F.PACE_LEFT_OUT_TILES) u = false →
    ∃ a : Mach, exec (.levelLost t u) s = .next (s.settled a) ∧ bit (a.rd (P.pace t) F.PACE_LEFT_OUT_TILES) u = true ∧
      (∀ w, w < 8 → w ≠ u.val → bit (a.rd (P.pace t) F.PACE_LEFT_OUT_TILES) w = bit (s.start.rd (P.pace t) F.PACE_LEFT_OUT_TILES) w) ∧
      (a.word (P.pace t) 0x010).toNat.testBit 3 = true ∧ a.clus = s.start.clus ∧ a.hands = s.start.hands ∧ a.dram = s.start.dram)

/-! ### Illumination (R365–R392) -/

/-- R366, R374–R376, R379, R385, R386, R388–R390: BST_EN starts the boost at VMIN; DIRECT drives the enabled strings; SHUT_CLR, once no cause holds, ends a
shutdown; an accepted binning record is taken over string by string; LCHAIN.GO sends the first frame of the sweep, whose last frame ends
it; START and STOP wait for the engine tick, which enters step 0; a change of the boost's output is shown while it runs. -/
def Obligations.LightCommands : Prop :=
  (∀ (s : State) (p : Port) (g : Fin 16) (v : Word), s.start.writable p (g.val / 2) (0x2C + g.val % 2) 0x0CC = true →
    bits v.toNat 3 1 = 1 → s.start.lampOn g = true → s.start.flag (P.lamp g) F.LAMP_STAT_SHUT = false →
    s.start.flag (P.lamp g) F.LAMP_STAT_BST_RUN = false →
    ∃ a : Mach, exec (.bstEnWrite p g v) s = .next (s.settled a) ∧ a.flag (P.lamp g) F.LAMP_CTRL_BST_EN = true ∧
      a.flag (P.lamp g) F.LAMP_CTRL_DIRECT = false ∧ a.flag (P.lamp g) F.LAMP_STAT_BST_RUN = true ∧
      a.rd (P.lamp g) F.LAMP_STAT_VSET = s.start.rd (P.lamp g) F.LAMP_BST_V_VMIN ∧
      (∀ pk off, off < 4096 → ¬ (pk = P.lamp g ∧ (off = 0x0CC ∨ off = 0x0D0)) → a.word pk off = s.start.word pk off) ∧
      a.arr = s.start.arr ∧ a.dram = s.start.dram ∧ a.tiles = s.start.tiles) ∧
  (∀ (s : State) (p : Port) (g : Fin 16) (v : Word), s.start.writable p (g.val / 2) (0x2C + g.val % 2) 0x0CC = true →
    bits v.toNat 3 1 = 3 → s.start.handOf g = none → s.start.lampOn g = true → s.start.flag (P.lamp g) F.LAMP_STAT_BIN_VALID = true →
    s.start.flag (P.lamp g) F.LAMP_STAT_BST_OK = true → s.start.flag (P.lamp g) F.LAMP_STAT_BST_RUN = true →
    s.start.flag (P.lamp g) F.LAMP_STAT_SHUT = false → s.start.flag (P.lamp g) F.LAMP_CTRL_DIRECT = false →
    ∃ a : Mach, exec (.lampDirect p g v) s = .next (s.settled a) ∧ a.flag (P.lamp g) F.LAMP_CTRL_DIRECT = true ∧
      (a.lampS g).measured = (List.range 6).filter (fun n => s.start.strEn g n && decide (0 < s.start.onOf g 0 n)) ∧
      a.arr = s.start.arr ∧ a.dram = s.start.dram ∧ a.tiles = s.start.tiles) ∧
  (∀ (s : State) (p : Port) (g : Fin 16) (v : Word), s.start.writable p (g.val / 2) (0x2C + g.val % 2) 0x0CC = true →
    bit v.toNat 2 = false → s.start.flag (P.lamp g) F.LAMP_STAT_SHUT = true → s.start.shutHolds g = false →
    ∃ a : Mach, exec (.shutClr p g v) s = .next (s.settled a) ∧ a.flag (P.lamp g) F.LAMP_STAT_SHUT = false ∧
      a.rd (P.lamp g) F.LAMP_STAT_SHUT_CAUSE = 0 ∧ (a.word (P.lamp g) 0x010).toNat.testBit 1 = true ∧ a.dram = s.start.dram) ∧
  (∀ (s : State) (g : Fin 16) (b : List Byte), s.start.live (g.val / 2) D.aux = true → s.start.live (g.val / 2) D.lamp = true →
    s.start.flag (P.twc (g.val / 2)) F.TWC_STAT_BUSY = true → s.start.twcOwner (g.val / 2) = 2 + g.val % 2 →
    (s.start.lampS g).reading = true → Mach.binFault (some b) = 0 →
    ∃ a : Mach, exec (.binningReadComplete g (some b)) s = .next (s.settled a) ∧ a.flag (P.lamp g) F.LAMP_STAT_BIN_VALID = true ∧
      (a.lampS g).reading = false ∧ a.rd (P.twc (g.val / 2)) F.TWC_STAT_RESULT = 1 ∧ a.rd (P.twc (g.val / 2)) F.TWC_STAT_DONE = 64 ∧
      (∀ n, n < 6 → n < (b.getD 3 0).toNat → a.binScale g n = (b.getD (8 + 8 * n) 0).toNat + 256 * (b.getD (9 + 8 * n) 0).toNat) ∧
      a.dram = s.start.dram) ∧
  (∀ (s : State) (p : Port) (t : Fin 8) (v : Word), s.start.writable p t 0x2E 0x044 = true → (s.start.tile t).sweep = none →
    ∃ a : Mach, exec (.lchainGo p t v) s = .next (s.settled a) ∧
      (a.tile t).sweep = some { bank := (bit v.toNat 1).toNat, noLatch := bit v.toNat 2, frame := 0, start := s.start.now t } ∧
      a.out = [.lchain t (if 0 < s.start.rd (P.lchain t) F.LCHAIN_CFG_NODES then
        Mach.chainFrame 0 0 (s.start.el (P.lchain t) (bit v.toNat 1).toNat 0) else Mach.chainFrame 127 1 0)] ∧
      (∀ pk off, off < 4096 → ¬ (pk = P.lchain t ∧ off = 0x044) → a.word pk off = s.start.word pk off) ∧
      a.arr = s.start.arr ∧ a.dram = s.start.dram ∧ a.clus = s.start.clus) ∧
  (∀ (s : State) (t : Fin 8) (x : Sweep), (s.start.tile t).sweep = some x → s.start.live t D.lamp = true →
    s.start.sweepLen t x ≤ x.frame + 1 →
    exec (.lchainFrameDone t) s = .next (s.settled (((s.start.incW (P.lchain t) F.LCHAIN_FRAMES_COUNT).modTile t fun ts =>
      { ts with sweep := none }).raise (P.lchain t) 0))) ∧
  (∀ (s : State) (t0 : Nat) (t : Fin 8) (e : Fin 4), (List.range 8).find? s.start.awake = some t0 → s.start.live t D.lamp = true →
    (s.start.eng t e).start = true → 1 < Mach.stepTime (s.start.el (P.patt t) e 0) →
    ∃ a : Mach, exec .patternTick s = .next (s.settled a) ∧ a.flag (P.patt t) (F.PATT_ENG_STAT_RUNNING.nth e) = true ∧
      a.rd (P.patt t) (F.PATT_ENG_STAT_STEP.nth e) = 0 ∧ a.rd (P.patt t) (F.PATT_ENG_STAT_RUNS.nth e) = 0 ∧ (a.eng t e).k = 1 ∧
      (a.eng t e).start = false ∧ (a.eng t e).elem = s.start.el (P.patt t) e 0 ∧ a.arr = s.start.arr ∧ a.dram = s.start.dram ∧
      a.clus = s.start.clus) ∧
  (∀ (s : State) (p : Port) (t : Fin 8) (mask : BitVec 4), s.start.writable p t 0x2F 0x080 = true →
    (∃ a : Mach, exec (.pattStart p t mask) s = .next (s.settled a) ∧
      (∀ e, e < 4 → a.eng t e = if bit mask.toNat e then { s.start.eng t e with start := true, stop := false } else s.start.eng t e) ∧
      a.regs = s.start.regs ∧ a.arr = s.start.arr ∧ a.dram = s.start.dram ∧ a.clus = s.start.clus) ∧
    (∃ a : Mach, exec (.pattStop p t mask) s = .next (s.settled a) ∧
      (∀ e, e < 4 → a.eng t e = if bit mask.toNat e then { s.start.eng t e with start := false, stop := true } else s.start.eng t e) ∧
      a.regs = s.start.regs ∧ a.arr = s.start.arr ∧ a.dram = s.start.dram ∧ a.clus = s.start.clus)) ∧
  (∀ (s : State) (g : Fin 16) (ok : Bool), s.start.live (g.val / 2) D.lamp = true → s.start.flag (P.lamp g) F.LAMP_STAT_BST_RUN = true →
    exec (.bstOkChange g ok) s = .next (s.settled (s.start.wrb (P.lamp g) F.LAMP_STAT_BST_OK ok)))

/-! ### Measurement (R393–R425) -/

/-- R395, R398, R399, R401, R405, R410, R413, R421: a slot serves a waiting trump first, and enters the result of the slot before into its record;
CMD.CAL asks for self-calibration, whose factors, when inside their limits, are taken over; a trump is taken while the converter is
calibrated and none waits; snapshots are requested by command and by period, and a completed copy becomes the window's; the front end's
second half starts PERIOD/2 after the first; an overrun abandons what is due; the failsafe time-out acts.
Model choices it rests on: log entries 97, 98, 132. -/
def Obligations.MeasurementCommands : Prop :=
  (∀ (s : State) (t : Fin 8) (raw : BitVec 16) (ch : Nat) (after : Bool), s.start.monOn t = true → (s.start.monS t).cur = none →
    (s.start.monS t).snapReq = false → (s.start.monS t).calRun = false → (s.start.monS t).calPend = false → s.start.calValid t = true →
    (s.start.monS t).trump = some (ch, after) →
    ∃ a : Mach, exec (.monSlot t raw) s = .next (s.settled a) ∧ (a.monS t).cur = some (.trump ch after) ∧ (a.monS t).trump = none ∧
      a.rd2 (P.mon t) F.MON_TRUMP_T_LO_N F.MON_TRUMP_T_HI_N =
        (s.start.advance t ((s.start.now t / 250 + 1) * 250)).now t % 2 ^ 64 ∧
      (a.monS t).recs = (s.start.monS t).recs ∧
      (∀ pk off, off < 4096 → ¬ (pk = P.mon t ∧ (off = 0x054 ∨ off = 0x058)) → a.word pk off = s.start.word pk off) ∧
      a.arr = s.start.arr ∧ a.dram = s.start.dram ∧ a.clus = s.start.clus) ∧
  (∀ (s : State) (t : Fin 8) (raw : BitVec 16) (ch : Nat), s.start.monOn t = true → (s.start.monS t).cur = some (.seq ch) → ch < 64 →
    (s.start.monS t).snapReq = false → (s.start.feS t).due = [] →
    ∃ a : Mach, exec (.monSlot t raw) s = .next (s.settled a) ∧
      vget (a.monS t).recs ch = Mach.recAdd (vget (s.start.monS t).recs ch)
        ((s.start.advance t ((s.start.now t / 250 + 1) * 250)).codeOf t ch raw.toNat) false ∧
      (∀ c, c < 64 → c ≠ ch → vget (a.monS t).recs c = vget (s.start.monS t).recs c) ∧ a.arr = s.start.arr ∧ a.dram = s.start.dram) ∧
  (∀ (s : State) (p : Port) (t : Fin 8) (v : Word), s.start.writable p t 0x30 0x048 = true → bit v.toNat 1 = false →
    (s.start.monS t).calRun = false →
    exec (.monCal p t v) s = .next (s.settled (s.start.modMon t fun x => { x with calPend := true }))) ∧
  (∀ (s : State) (t : Fin 8) (ofs : Int) (gain : Nat) (lin : List Int), s.start.live t D.mon = true → (s.start.monS t).calRun = true →
    -4096 ≤ ofs → ofs ≤ 4096 → 32113 ≤ gain → gain ≤ 33423 → (∀ x, x ∈ lin → -127 ≤ x ∧ x ≤ 127) →
    ∃ a : Mach, exec (.monCalDone t ofs gain lin) s = .next (s.settled a) ∧ a.calValid t = true ∧
      a.flag (P.mon t) F.MON_STAT_CAL_FAIL = false ∧ a.rdS (P.mon t) F.MON_CAL_OFS_OFS = ofs ∧ a.rd (P.mon t) F.MON_CAL_GAIN_GAIN = gain ∧
      (∀ k, k < 8 → a.monLin t k = lin.getD k 0) ∧ (a.monS t).calRun = false ∧ (a.word (P.mon t) 0x010).toNat.testBit 0 = true ∧
      a.arr = s.start.arr ∧ a.dram = s.start.dram ∧ a.clus = s.start.clus) ∧
  (∀ (s : State) (p : Port) (t : Fin 8) (v : Word), s.start.writable p t 0x30 0x04C = true → Mach.seqChannel (bits v.toNat 5 0) = true →
    (s.start.monS t).calPend = false → (s.start.monS t).calRun = false → s.start.calValid t = true → (s.start.monS t).trump = none →
    exec (.trump p t v) s = .next (s.settled (s.start.modMon t fun x => { x with trump := some (bits v.toNat 5 0, bit v.toNat 8) }))) ∧
  (∀ (s : State) (p : Port) (t : Fin 8) (v : Word), s.start.writable p t 0x30 0x048 = true → bit v.toNat 0 = false →
    s.start.monOn t = true → (s.start.monS t).snap = none →
    exec (.monSnap p t v) s = .next (s.settled (s.start.modMon t fun x => { x with snapReq := true }))) ∧
  (∀ (s : State) (t : Fin 8), s.start.rd (P.mon t) F.MON_CFG_SNAP_MS ≠ 0 → s.start.monOn t = true → (s.start.monS t).snap = none →
    exec (.snapPeriod t) s = .next (s.settled (s.start.modMon t fun x => { x with snapReq := true }))) ∧
  (∀ (s : State) (t : Fin 8) (n : Nat) (ws : List Nat), (s.start.monS t).snap = some (n, ws) → ws.length ≤ 64 → s.start.live t D.mon = true →
    s.start.flag (P.mon t) F.MON_CFG_DELIVER = false →
    ∃ a : Mach, exec (.snapshotComplete t) s = .next (s.settled a) ∧ (a.monS t).snap = none ∧
      (∀ e, e < ws.length → a.el (P.mon t) 0 e = ws.getD e 0) ∧ a.flag (P.mon t) F.MON_SNAP_STAT_READY = true ∧
      a.rd (P.mon t) F.MON_SNAP_SEQ_SEQ = (s.start.rd (P.mon t) F.MON_SNAP_SEQ_SEQ + 1) % 2 ^ 32 ∧
      a.rd2 (P.mon t) F.MON_SNAP_T_LO_N F.MON_SNAP_T_HI_N = n % 2 ^ 64 ∧ (a.word (P.mon t) 0x010).toNat.testBit 4 = true ∧
      a.dram = s.start.dram ∧ a.clus = s.start.clus) ∧
  (∀ (s : State) (t : Fin 8), s.start.feMayRun t = true → (s.start.feS t).run = true → (s.start.feS t).due = [] →
    (s.start.feS t).negHalf = false →
    ∃ a : Mach, exec (.feHalfStart t 0) s = .next (s.settled a) ∧ (a.feS t).negHalf = true ∧ a.flag (P.fe t) F.FE_STAT_NEG = true ∧
      (a.feS t).start = (s.start.feS t).start + 250 * bits (s.start.feS t).cfg 19 0 ∧
      (a.feS t).due = s.start.feVisits t ((s.start.feS t).start + 250 * bits (s.start.feS t).cfg 19 0) ∧
      (∀ pk off, off < 4096 → ¬ (pk = P.fe t ∧ off = 0x04C) → a.word pk off = s.start.word pk off) ∧
      a.arr = s.start.arr ∧ a.dram = s.start.dram ∧ a.clus = s.start.clus) ∧
  (∀ (s : State) (t : Fin 8), (s.start.feS t).due ≠ [] →
    ∃ a : Mach, exec (.feOverrun t) s = .next (s.settled a) ∧ (a.feS t).due = [] ∧
      a.rd (P.fe t) F.FE_OVERRUN_COUNT = min (s.start.rd (P.fe t) F.FE_OVERRUN_COUNT + 1) 65535 ∧
      (a.word (P.fe t) 0x010).toNat.testBit 4 = true ∧ a.arr = s.start.arr ∧ a.dram = s.start.dram ∧ a.clus = s.start.clus) ∧
  (∀ (s : State) (t : Fin 8) (o : Fin 2), s.start.live t D.aux = true → s.start.enabled (P.meas t) = true →
    s.start.flag (P.meas t) (F.MEAS_OUT_CFG_EN.nth o) = true → s.start.flag (P.meas t) (F.MEAS_OUT_STAT_FAILSAFE.nth o) = false →
    exec (.measFailsafeTimeout t o) s = .next (s.settled
      ((((s.start.measSettle t o).modMeas t o fun x => { x with next := none }).wr (P.meas t) (F.MEAS_OUT_STAT_FAILSAFE.nth o) 1).raise
        (P.meas t) o)))

/-! ### Host ports (R426–R461) -/

/-- R427–R430, R437: RESTART takes HOSTP.CFG into force with a reset of cause 6; a link comes up, or fails to, once; each loss resets the port with
its cause and leaves the link down; silence takes an Ethernet link down without a reset; HP_PERST_N released starts training.
Model choices it rests on: log entries 54, 64. -/
def Obligations.HostLinks : Prop :=
  (∀ (s : State) (p : Port) (t : Fin 8) (v : Word), s.start.writable p t 0x20 0x044 = true → s.start.live t D.hostphy = true → s.start.fallingAsleep t = false →
    s.start.islandOf t = none → bits (s.start.word (P.hostp t) 0x040).toNat 1 0 = 1 →
    1 ≤ bits (s.start.word (P.hostp t) 0x040).toNat 10 8 → bits (s.start.word (P.hostp t) 0x040).toNat 10 8 ≤ 5 →
    ∃ a : Mach, exec (.hostRestart p t v) s = .next (s.settled a) ∧ (a.host t).cfg = (s.start.word (P.hostp t) 0x040).toNat ∧
      a.rd (P.hostp t) F.HOSTP_STAT_DOWN_CAUSE = 6 ∧ a.linkUp t = false ∧ (a.word (P.hostp t) 0x010).toNat.testBit 1 = true ∧
      a.dram = s.start.dram ∧ a.clus = s.start.clus) ∧
  (∀ (s : State) (t : Fin 8) (i : Instr) (c : Nat), (i, c) ∈ [(.hotReset t, 2), (.dlDown t, 3), (.flr t, 4)] → s.start.phyUp t = true →
    s.start.hostMode t = 1 → s.start.islandOf t = none → s.start.fallingAsleep t = false →
    ∃ a : Mach, exec i s = .next (s.settled a) ∧ a.rd (P.hostp t) F.HOSTP_STAT_DOWN_CAUSE = c ∧ a.linkUp t = false ∧ a.phyUp t = false ∧
      (a.word (P.hostp t) 0x010).toNat.testBit 1 = true ∧ (a.host t).cfg = (s.start.host t).cfg ∧ a.dram = s.start.dram ∧
      a.clus = s.start.clus) ∧
  (∀ (s : State) (t : Fin 8), s.start.phyUp t = true → s.start.hostMode t = 2 → s.start.islandOf t = none →
    s.start.fallingAsleep t = false →
    ∃ a : Mach, exec (.pcsLoss t) s = .next (s.settled a) ∧ a.rd (P.hostp t) F.HOSTP_STAT_DOWN_CAUSE = 5 ∧ a.linkUp t = false ∧
      (a.word (P.hostp t) 0x010).toNat.testBit 1 = true ∧ (a.host t).cfg = (s.start.host t).cfg ∧ a.dram = s.start.dram ∧
      a.clus = s.start.clus) ∧
  (∀ (s : State) (t : Fin 8), (s.start.host t).perstLow = false → s.start.hostPower t = true → s.start.hostMode t = 1 →
    s.start.islandOf t = none → s.start.fallingAsleep t = false →
    ∃ a : Mach, exec (.perst t) s = .next (s.settled a) ∧ (a.host t).perstLow = true ∧ a.rd (P.hostp t) F.HOSTP_STAT_DOWN_CAUSE = 1 ∧
      a.linkUp t = false ∧ a.flag (P.hostp t) F.HOSTP_STAT_TRAINING = false ∧ a.dram = s.start.dram ∧ a.clus = s.start.clus) ∧
  (∀ (s : State) (t : Fin 8), (s.start.host t).perstLow = true → s.start.hostPower t = true → s.start.hostMode t = 1 →
    exec (.perstRelease t) s = .next (s.settled ((s.start.modHost t fun h => { h with perstLow := false, failShown := false, restart := false }).wrb (P.hostp t)
      F.HOSTP_STAT_TRAINING true))) ∧
  (∀ (s : State) (t gen width : Fin 8), s.start.hostPower t = true → s.start.flag (P.hostp t) F.HOSTP_STAT_TRAINING = true →
    s.start.refLost = false →
    ∃ a : Mach, exec (.linkUp t gen width) s = .next (s.settled a) ∧ a.linkUp t = true ∧ a.phyUp t = true ∧
      a.flag (P.hostp t) F.HOSTP_STAT_TRAINING = false ∧
      a.rd (P.hostp t) F.HOSTP_STAT_RATE_NOW = (if s.start.hostMode t = 1 then max 1 (min (bits (s.start.host t).cfg 10 8) gen)
        else bits (s.start.host t).cfg 10 8) ∧
      (a.word (P.hostp t) 0x010).toNat.testBit 0 = true ∧
      (∀ pk off, off < 4096 → pk ≠ P.hostp t → ¬ (pk = P.pcie t ∧ off = 0x044) → a.word pk off = s.start.word pk off) ∧
      a.arr = s.start.arr ∧ a.dram = s.start.dram ∧ a.tiles = s.start.tiles ∧ a.clus = s.start.clus) ∧
  (∀ (s : State) (t : Fin 8), s.start.hostPower t = true → s.start.flag (P.hostp t) F.HOSTP_STAT_TRAINING = true →
    (s.start.host t).failShown = false →
    exec (.trainFail t) s = .next (s.settled ((s.start.modHost t fun h => { h with failShown := true }).raise (P.hostp t) 4))) ∧
  (∀ (s : State) (t : Fin 8), s.start.linkUp t = true → s.start.hostMode t = 2 → s.start.rd (P.thaig t) F.THAIG_LIVE_MS ≠ 0 →
    exec (.hostSilent t) s = .next (s.settled (((((s.start.wr (P.hostp t) F.HOSTP_STAT_LINK 0).wr (P.hostp t) F.HOSTP_STAT_SILENT 1).wr
      (P.hostp t) F.HOSTP_STAT_DOWN_CAUSE 8).raise (P.hostp t) 1).raise (P.hostp t) 2)))

/-- R433–R435, R439–R441: a doorbell that returns no more than was delivered sets CONSUMED and arms the queue's vector (shown where nothing remains
delivered), one beyond is counted; configuration requests answer the IDs, set the payload sizes and take BAR0's address; a word of the
MSI-X table goes to its part of the vector (shown with MSI-X disabled). Model choices it rests on: log entry 55. -/
def Obligations.PcieRequests : Prop :=
  (∀ (s : State) (t : Fin 8) (q : Fin 32) (v : Word), s.start.wireUp t = true → s.start.hostMode t = 1 → s.start.memServed t = true →
    s.start.flag (P.pcie t) (F.PCIE_Q_RING_CFG_EN.nth q) = true →
    s.start.rd (P.pcie t) (F.PCIE_Q_DELIVERED_COUNT.nth q) = v.toNat →
    exec (.doorbell t q v true false) s = .next (s.settled
      (((s.start.wr (P.pcie t) (F.PCIE_Q_CONSUMED_COUNT.nth q) v.toNat).modQueue t q fun x =>
        { x with dcred := 2 ^ s.start.rd (P.pcie t) (F.PCIE_Q_RING_CFG_SLOTS_LOG2.nth q) }).modHost t fun h =>
          { h with armed := putBit h.armed q true }))) ∧
  (∀ (s : State) (t : Fin 8) (q : Fin 32) (v : Word), s.start.wireUp t = true → s.start.hostMode t = 1 → s.start.memServed t = true →
    (s.start.rd (P.pcie t) (F.PCIE_Q_DELIVERED_COUNT.nth q) + 2 ^ 32 - s.start.rd (P.pcie t) (F.PCIE_Q_CONSUMED_COUNT.nth q)) % 2 ^ 32 <
      (v.toNat + 2 ^ 32 - s.start.rd (P.pcie t) (F.PCIE_Q_CONSUMED_COUNT.nth q)) % 2 ^ 32 →
    exec (.doorbell t q v true false) s = .next (s.settled ((s.start.inc (P.pcie t) F.PCIE_DB_ERR_COUNT).raise (P.pcie t) 0))) ∧
  (∀ (s : State) (t : Fin 8), s.start.wireUp t = true → s.start.hostMode t = 1 → s.start.part = .p8 →
    exec (.configRequest t .ids true) s = .next (s.settled ((s.start.modHost t fun h => { h with cfgDone := true }).emitOut
      (.completion t [0x01081FC7, 0x048000B1, 0x01081FC7])))) ∧
  (∀ (s : State) (t mps mrrs : Fin 8), s.start.wireUp t = true → s.start.hostMode t = 1 → mps.val ≤ 2 → mrrs.val ≤ 5 →
    exec (.configRequest t (.devctl mps mrrs) true) s = .next (s.settled (((s.start.modHost t fun h => { h with cfgDone := true }).wr (P.pcie t)
      F.PCIE_STAT_MPS mps).wr (P.pcie t) F.PCIE_STAT_MRRS mrrs))) ∧
  (∀ (s : State) (t : Fin 8) (x : BitVec 64), s.start.wireUp t = true → s.start.hostMode t = 1 →
    exec (.configRequest t (.bar0 x) true) s = .next (s.settled (s.start.modHost t fun h =>
      { h with cfgDone := true, bar0 := x.toNat / 2 ^ 24 * 2 ^ 24 }))) ∧
  (∀ (s : State) (t : Fin 8) (d : Fin 256) (v : Word), s.start.wireUp t = true → s.start.hostMode t = 1 → s.start.memServed t = true →
    s.start.flag (P.pcie t) F.PCIE_STAT_MSIX_EN = false →
    ∃ a : Mach, exec (.msixTableWrite t d v false) s = .next (s.settled a) ∧
      vget (a.host t).vecs (d / 4) = (match d.val % 4 with
        | 0 => { vget (s.start.host t).vecs (d / 4) with addr := putBits (vget (s.start.host t).vecs (d / 4)).addr 31 0 v.toNat }
        | 1 => { vget (s.start.host t).vecs (d / 4) with addr := putBits (vget (s.start.host t).vecs (d / 4)).addr 63 32 v.toNat }
        | 2 => { vget (s.start.host t).vecs (d / 4) with data := v.toNat }
        | _ => { vget (s.start.host t).vecs (d / 4) with masked := bit v.toNat 0 }) ∧
      (∀ w, w < 64 → w ≠ d.val / 4 → vget (a.host t).vecs w = vget (s.start.host t).vecs w) ∧
      a.regs = s.start.regs ∧ a.arr = s.start.arr ∧ a.dram = s.start.dram ∧ a.clus = s.start.clus)

/-- R443–R446, R451, R452, R455: a PTP frame is stored with its timestamp while a slot is free; RX_POP frees the oldest; TX_GO queues a frame, whose
sending latches its timestamp; SLEW_RATE and SLEW_OFS discipline the time base, and are ignored and counted in an island segment (R499); an accepted, well-formed control request in sequence, of reads,
is answered and raises the expected number; a grant within its rules sets the limit; an EVENT that is due goes out, and repeats.
Model choices it rests on: log entries 61, 63, 66. -/
def Obligations.EthernetAndThaig : Prop :=
  (∀ (s : State) (t : Fin 8) (f : Frame) (bs : List Byte), s.start.etherUp t = true → s.start.frameOk t f = true → f.body = .ptp bs →
    s.start.flag (P.eth t) F.ETH_PTP_CFG_EN = true → s.start.rd (P.eth t) F.ETH_PTP_RX_LVL < 8 →
    ∃ a : Mach, exec (.ethFrameReceived t f) s = .next (s.settled a) ∧
      a.rd (P.eth t) F.ETH_PTP_RX_LVL = s.start.rd (P.eth t) F.ETH_PTP_RX_LVL + 1 ∧
      a.el (P.eth t) 0 (40 * ((s.start.rd (P.eth t) F.ETH_PTP_RX_HEAD + s.start.rd (P.eth t) F.ETH_PTP_RX_LVL) % 8)) =
        2 ^ 31 + min bs.length 4095 ∧
      a.el (P.eth t) 0 (40 * ((s.start.rd (P.eth t) F.ETH_PTP_RX_HEAD + s.start.rd (P.eth t) F.ETH_PTP_RX_LVL) % 8) + 1) =
        s.start.now t % 2 ^ 32 ∧
      a.rd (P.eth t) F.ETH_RX_FRAMES_COUNT = (s.start.rd (P.eth t) F.ETH_RX_FRAMES_COUNT + 1) % 2 ^ 32 ∧
      (a.word (P.eth t) 0x010).toNat.testBit 0 = true ∧ a.dram = s.start.dram ∧ a.tiles = s.start.tiles ∧ a.clus = s.start.clus) ∧
  (∀ (s : State) (t : Fin 8) (f : Frame), s.start.etherUp t = true → s.start.frameOk t f = false →
    exec (.ethFrameReceived t f) s = .next (s.settled ((s.start.countRx t f.corr f.uncorr).inc (P.eth t)
      (if f.csumOk then F.ETH_RX_DROP_FILTER else F.ETH_RX_DROP_CSUM)))) ∧
  (∀ (s : State) (p : Port) (t : Fin 8) (v : Word), s.start.writable p t 0x22 0x08C = true → bit v.toNat 1 = false →
    s.start.rd (P.eth t) F.ETH_PTP_RX_LVL ≠ 0 →
    exec (.ptpRxPop p t v) s = .next (s.settled (((s.start.setEl (P.eth t) 0 (40 * s.start.rd (P.eth t) F.ETH_PTP_RX_HEAD) 0).wr (P.eth t)
      F.ETH_PTP_RX_LVL (s.start.rd (P.eth t) F.ETH_PTP_RX_LVL - 1)).wr (P.eth t) F.ETH_PTP_RX_HEAD
        ((s.start.rd (P.eth t) F.ETH_PTP_RX_HEAD + 1) % 8)))) ∧
  (∀ (s : State) (p : Port) (t : Fin 8) (v : Word), s.start.writable p t 0x22 0x08C = true → bit v.toNat 0 = false →
    (s.start.host t).ptpPend = false →
    exec (.ptpTxGo p t v) s = .next (s.settled ((s.start.modHost t fun h => { h with ptpPend := true }).wr (P.eth t)
      F.ETH_PTP_TX_TSF_VALID 0))) ∧
  (∀ (s : State) (t : Fin 8), s.start.etherUp t = true → (s.start.host t).ptpPend = true →
    ∃ a : Mach, exec (.ptpTxDone t) s = .next (s.settled a) ∧ (a.host t).ptpPend = false ∧
      a.rd2 (P.eth t) F.ETH_PTP_TX_TS_LO_N F.ETH_PTP_TX_TS_HI_N = s.start.now t % 2 ^ 64 ∧
      a.rd (P.eth t) F.ETH_PTP_TX_TSF_F = s.start.fracF t % 16 ∧ a.flag (P.eth t) F.ETH_PTP_TX_TSF_VALID = true ∧
      (a.word (P.eth t) 0x010).toNat.testBit 2 = true ∧
      (∀ pk off, off < 4096 → pk ≠ P.eth t → a.word pk off = s.start.word pk off) ∧ a.arr = s.start.arr ∧ a.dram = s.start.dram ∧
      a.clus = s.start.clus) ∧
  (∀ (s : State) (p : Port) (t : Fin 8) (v : Word), s.start.writable p t 0x22 0x0A0 = true →
    (s.start.flag (P.ring t) F.RING_STAT_OUTSIDE = true → exec (.slewRateWrite p t v) s = .next (s.settled (s.start.errCount (P.eth t)))) ∧
    (s.start.flag (P.ring t) F.RING_STAT_OUTSIDE = false → (toS 32 v.toNat).natAbs ≤ 858993 →
    exec (.slewRateWrite p t v) s = .next (s.settled { s.start.setWord (P.eth t) 0x0A0 v with slewRate := toS 32 v.toNat }))) ∧
  (∀ (s : State) (p : Port) (t : Fin 8) (v : Word), s.start.writable p t 0x22 0x0A4 = true →
    (s.start.flag (P.ring t) F.RING_STAT_OUTSIDE = true → exec (.slewOfsWrite p t v) s = .next (s.settled (s.start.errCount (P.eth t)))) ∧
    (s.start.flag (P.ring t) F.RING_STAT_OUTSIDE = false → -(2 ^ 31) ≤ s.start.slewRemain + toS 32 v.toNat → s.start.slewRemain + toS 32 v.toNat < 2 ^ 31 →
    exec (.slewOfsWrite p t v) s = .next (s.settled { s.start with slewRemain := s.start.slewRemain + toS 32 v.toNat }))) ∧
  (∀ (s : State) (t : Fin 8) (src : NetSrc) (body : List Byte) (bs : List Byte) (d : Nat), bs = 0xC2 :: body → s.start.etherUp t = true →
    s.start.admitting t src.ip.toNat = some d → Mach.dgram bs 4 4 = s.start.rd (P.thaig t) F.THAIG_SESSION_TAG →
    s.start.flag (P.thaig t) (F.THAIG_DEST_CFG_ANY.nth d) = false → s.start.flag (P.hostp t) F.HOSTP_STAT_SILENT = false →
    s.start.ctrlCapable t = true → Mach.reqFormOk bs = true → s.start.islandOf t = none → s.start.attachedAt t = true →
    s.start.heldAcc = [] → Mach.dgram bs 8 4 = s.start.rd (P.thaig t) F.THAIG_SEQ_EXPECT →
    (∀ i, i < Mach.dgram bs 2 1 → (Mach.opAt bs i).1 = 1 ∧ s.start.waits t (Mach.opAt bs i).2.1 = false) →
    ∃ a : Mach, exec (.controlReq t src body) s = .next (s.settled a) ∧
      a.rd (P.thaig t) F.THAIG_SEQ_EXPECT = (Mach.dgram bs 8 4 + 1) % 2 ^ 32 ∧ a.flag (P.thaig t) F.THAIG_SEQ_STAT_SYNCED = true ∧
      (a.host t).peer = (src.mac.toNat, src.ip.toNat, src.port.toNat) ∧ (a.host t).resp.length = 16 + 8 * Mach.dgram bs 2 1 ∧
      a.out = [.frame t (a.vlanTag t) (a.rd (P.thaig t) F.THAIG_CFG_SRC_PORT) src.mac.toNat src.ip.toNat src.port.toNat (a.host t).resp] ∧
      a.arr = s.start.arr ∧ a.dram = s.start.dram ∧ a.clus = s.start.clus) ∧
  (∀ (s : State) (t : Fin 8) (src : NetSrc) (session : Word) (q : Byte) (limit : Word) (d : Nat), s.start.etherUp t = true →
    s.start.admitting t src.ip.toNat = some d → session.toNat = s.start.rd (P.thaig t) F.THAIG_SESSION_TAG →
    s.start.flag (P.thaig t) (F.THAIG_DEST_CFG_ANY.nth d) = false → s.start.flag (P.hostp t) F.HOSTP_STAT_SILENT = false → q.toNat < 32 →
    s.start.flag (P.thaig t) (F.THAIG_Q_CFG_EN.nth q.toNat) = true →
    0 ≤ toS 32 (limit.toNat + 2 ^ 32 - s.start.rd (P.thaig t) (F.THAIG_Q_LIMIT_LIMIT.nth q.toNat)) →
    exec (.creditGrant t src session q limit true) s = .next (s.settled
      ((s.start.wr (P.thaig t) (F.THAIG_Q_LIMIT_LIMIT.nth q.toNat) limit.toNat).modQueue t q.toNat fun x =>
        { x with dcred := satN 65535 (toS 32 (limit.toNat + 2 ^ 32 - s.start.rd (P.thaig t) (F.THAIG_Q_SENT_COUNT.nth q.toNat))) }))) ∧
  (∀ (s : State) (t : Fin 8) (i : Instr), i ∈ [.thaigEvent t, .eventRepeat t] → s.start.evtOn t = true → (s.start.host t).evtDue = true →
    s.start.rd (P.thaig t) F.THAIG_EVT_REPEAT_MS ≠ 0 → (s.start.host t).evtPair ≠ (0, 0) →
    ∃ (a : Mach) (bs : List Byte), exec i s = .next (s.settled a) ∧
      a.out = [.frame t (s.start.vlanTag t) (s.start.rd (P.thaig t) F.THAIG_CFG_SRC_PORT) (s.start.host t).peer.1 (s.start.host t).peer.2.1 (s.start.host t).peer.2.2 bs] ∧ bs.length = 32 ∧
      bs.head? = some 0xC5 ∧ (a.host t).evtDue = decide (i = .eventRepeat t) ∧
      a.rd (P.thaig t) F.THAIG_EVT_SEQ_SEQ = (s.start.rd (P.thaig t) F.THAIG_EVT_SEQ_SEQ + 1) % 2 ^ 32 ∧
      (∀ pk off, off < 4096 → ¬ (pk = P.thaig t ∧ off = 0x068) → ¬ (pk = P.eth t ∧ off = 0x068) → a.word pk off = s.start.word pk off) ∧
      a.arr = s.start.arr ∧ a.dram = s.start.dram ∧ a.clus = s.start.clus)

/-! ### DMA and the DRAM controller (R462–R492) -/

/-- R465–R470, R472: GO on an idle channel fetches the descriptor at START, with HOPS 1 and BYTES 0, and is refused while the channel runs; STOP lets
what is outstanding complete, ends the chain at once where nothing is, and does nothing to a channel that does not run; RESUME after a
temporary cause goes on at OFS, and is refused otherwise; a silent transaction halts its channel. Shown with descriptors in DRAM,
and where nothing R317 compares is wrong with the queue of the records. -/
def Obligations.DmaChannelCommands : Prop :=
  (∀ (s : State) (p : Port) (t : Fin 8) (c : Fin 16) (A : Nat), s.start.writable p t 0x1E (0x10C + 64 * c) = true →
    s.start.dmaBusy t c = false →
    A = s.start.rd (P.dma t) (F.DMA_CH_START_LO_ADDR.nth c) * 32 + s.start.rd (P.dma t) (F.DMA_CH_START_HI_ADDR.nth c) * 2 ^ 32 →
    A + 32 ≤ s.start.dramCap t → s.start.flag (P.dram t) F.DRAM_STAT_TRAINED = true →
    ∃ a : Mach, exec (.dmaGo p t c) s = .next (s.settled a) ∧ a.dmaState t c = 1 ∧ a.dmaDesc t c = A ∧
      a.rd (P.dma t) (F.DMA_CH_HOPS_COUNT.nth c) = 1 ∧
      a.rd2 (P.dma t) (F.DMA_CH_BYTES_LO_COUNT.nth c) (F.DMA_CH_BYTES_HI_COUNT.nth c) = 0 ∧
      (s.start.roomFor t c false = true → (a.dmaCh t c).outs = (s.start.dmaCh t c).outs ++ [{ fetch := true, dram := true }]) ∧
      (s.start.roomFor t c false = false → (a.dmaCh t c).outs = (s.start.dmaCh t c).outs ∧
        (a.dmaCh t c).wait = some { fetch := true, dram := true }) ∧ (a.dmaCh t c).ready = false ∧
      (∀ pk off, off < 4096 → pk ≠ P.dma t → a.word pk off = s.start.word pk off) ∧
      (∀ k, k < 16 → k ≠ c.val → a.dmaCh t k = s.start.dmaCh t k) ∧ a.arr = s.start.arr ∧ a.dram = s.start.dram ∧
      a.clus = s.start.clus ∧ a.hands = s.start.hands) ∧
  (∀ (s : State) (p : Port) (t : Fin 8) (c : Fin 16), s.start.writable p t 0x1E (0x10C + 64 * c) = true → s.start.dmaBusy t c = true →
    exec (.dmaGo p t c) s = .next (s.settled (s.start.refuse (P.dma t) 4))) ∧
  (∀ (s : State) (p : Port) (t : Fin 8) (c : Fin 16), s.start.writable p t 0x1E (0x10C + 64 * c) = true → s.start.dmaState t c = 1 →
    Mach.liveOuts (s.start.dmaCh t c) ≠ [] → exec (.dmaStop p t c) s = .next (s.settled (s.start.setDmaState t c 3))) ∧
  (∀ (s : State) (p : Port) (t : Fin 8) (c : Fin 16), s.start.writable p t 0x1E (0x10C + 64 * c) = true →
    s.start.dmaState t c = 1 ∧ Mach.liveOuts (s.start.dmaCh t c) = [] ∨ s.start.dmaState t c = 2 →
    (s.start.queueOfProd t 0x09).all (s.start.sound t) = true →
    ∃ a : Mach, exec (.dmaStop p t c) s = .next (s.settled a) ∧ a.dmaState t c = 4 ∧
      a.rd (P.dma t) (F.DMA_CH_STAT_CAUSE.nth c) = 13 ∧ (a.word (P.dma t) 0x010).toNat.testBit 3 = true ∧ a.arr = s.start.arr ∧ a.dram = s.start.dram ∧
      a.clus = s.start.clus ∧ a.hands = s.start.hands ∧ ∀ pk off, off < 4096 → pk ≠ P.dma t → a.word pk off = s.start.word pk off) ∧
  (∀ (s : State) (p : Port) (t : Fin 8) (c : Fin 16), s.start.writable p t 0x1E (0x10C + 64 * c) = true →
    s.start.dmaState t c = 0 ∨ 3 ≤ s.start.dmaState t c → exec (.dmaStop p t c) s = .next (s.settled s.start)) ∧
  (∀ (s : State) (p : Port) (t : Fin 8) (c : Fin 16), s.start.writable p t 0x1E (0x10C + 64 * c) = true → 4 ≤ s.start.dmaState t c →
    6 < s.start.rd (P.dma t) (F.DMA_CH_STAT_CAUSE.nth c) → (s.start.dmaCh t c).ready = true → (s.start.dmaCh t c).done = false →
    s.start.rd (P.dma t) (F.DMA_CH_OFS_OFS.nth c) < Mach.descLen (s.start.dmaCh t c).ctrl →
    exec (.dmaResume p t c) s = .next (s.settled ((s.start.modDma t c fun x =>
      { x with issued := s.start.rd (P.dma t) (F.DMA_CH_OFS_OFS.nth c), burstEnd := 0, dramLost := false }).setDmaState t c 1))) ∧
  (∀ (s : State) (p : Port) (t : Fin 8) (c : Fin 16), s.start.writable p t 0x1E (0x10C + 64 * c) = true →
    s.start.dmaState t c < 4 ∨ s.start.rd (P.dma t) (F.DMA_CH_STAT_CAUSE.nth c) ≤ 6 →
    exec (.dmaResume p t c) s = .next (s.settled (s.start.refuse (P.dma t) 4))) ∧
  (∀ (s : State) (t : Fin 8) (c : Fin 16), s.start.dmaBusy t c = true → Mach.liveOuts (s.start.dmaCh t c) ≠ [] →
    (s.start.queueOfProd t 0x09).all (s.start.sound t) = true →
    ∃ a : Mach, exec (.dmaTimeout t c) s = .next (s.settled a) ∧ a.dmaState t c = 5 ∧
      a.rd (P.dma t) (F.DMA_CH_STAT_CAUSE.nth c) = 7 ∧ (a.word (P.dma t) 0x010).toNat.testBit 2 = true ∧
      Mach.liveOuts (a.dmaCh t c) = [] ∧ a.arr = s.start.arr ∧ a.dram = s.start.dram ∧ a.clus = s.start.clus ∧ a.hands = s.start.hands ∧
      ∀ pk off, off < 4096 → pk ≠ P.dma t → a.word pk off = s.start.word pk off)

/-- R465–R469, R471: a valid descriptor in order makes its channel ready to move; one that is not valid sets it waiting, where WAIT_VALID says so; a
poll fetches it again; a burst of a move within DRAM issues the bytes up to the burst's end; data that arrives stands at the destination
and nowhere else, and the last of a LAST descriptor without write-back, event or barrier ends the chain. `D` is the descriptor as read,
from DRAM (shown with no word in error) or from host memory. Model choices it rests on: log entry 68. -/
def Obligations.DmaMovesData : Prop :=
  (∀ (s : State) (t : Fin 8) (c : Fin 16) (cpl : Cpl) (i A : Nat) (D : List Byte), A = s.start.dmaDesc t c →
    (∀ k, k < 16 → (s.start.dmaCh t k).wait = none) →
    (s.start.dmaCh t c).outs.findIdx? (fun x => x.fetch) = some i → ((s.start.dmaCh t c).outs.getD i {}).dead = false →
    (A + 32 ≤ s.start.dramCap t ∧ s.start.dramMark = [] ∧ D = s.start.dramRead t A 32) ∨
      (2 ^ 63 ≤ A ∧ A + 32 ≤ 2 ^ 64 ∧ cpl = .ok (Mach.cplBytes cpl) ∧
        D = (List.range 32).map fun j => (Mach.cplBytes cpl).getD j 0) →
    (bit (ofLe (D.take 4)) 0 = false → s.start.flag (P.dma t) (F.DMA_CH_CFG_WAIT_VALID.nth c) = true → s.start.dmaState t c ≠ 3 →
      exec (.descFetched t c cpl) s = .next (s.settled ((s.start.modDma t c fun x =>
        { x with outs := x.outs.eraseIdx i, ctrl := ofLe (D.take 4), src := ofLe ((D.drop 4).take 8), dst := ofLe ((D.drop 12).take 8),
                 next := ofLe ((D.drop 20).take 8), tag := ofLe ((D.drop 28).take 4) }).setDmaState t c 2))) ∧
    (bit (ofLe (D.take 4)) 0 = true → s.start.dmaState t c ≠ 3 → 0 < bits (ofLe (D.take 4)) 31 8 →
      s.start.rangeCause t c (ofLe ((D.drop 4).take 8)) (bits (ofLe (D.take 4)) 31 8) = none →
      s.start.rangeCause t c (ofLe ((D.drop 12).take 8)) (bits (ofLe (D.take 4)) 31 8) = none →
      (ofLe ((D.drop 4).take 8) + bits (ofLe (D.take 4)) 31 8 ≤ ofLe ((D.drop 12).take 8) ∨
        ofLe ((D.drop 12).take 8) + bits (ofLe (D.take 4)) 31 8 ≤ ofLe ((D.drop 4).take 8)) →
      (bit (ofLe (D.take 4)) 1 = true ∨ ofLe ((D.drop 20).take 8) % 32 = 0 ∧ (bit (ofLe (D.take 4)) 4 = true ∨
        ofLe ((D.drop 20).take 8) ∉ (A :: (s.start.dmaCh t c).recent).take 8)) →
      exec (.descFetched t c cpl) s = .next (s.settled (((if bit (ofLe (D.take 4)) 4 = true then
          s.start.wr (P.dma t) (F.DMA_CH_HOPS_COUNT.nth c) 0 else s.start).modDma t c fun x =>
        { x with outs := x.outs.eraseIdx i, ctrl := ofLe (D.take 4), src := ofLe ((D.drop 4).take 8), dst := ofLe ((D.drop 12).take 8),
                 next := ofLe ((D.drop 20).take 8), tag := ofLe ((D.drop 28).take 4), recent := (A :: x.recent).take 8,
                 ready := true }).setDmaState t c 1)))) ∧
  (∀ (s : State) (t : Fin 8) (c : Fin 16), s.start.dmaState t c = 2 → (∀ x ∈ (s.start.dmaCh t c).outs, x.fetch = false ∨ x.dead = true) →
    (s.start.dmaCh t c).wait = none → s.start.roomFor t c false = true → s.start.dmaDesc t c % 32 = 0 → s.start.dmaDesc t c + 32 ≤ s.start.dramCap t → s.start.flag (P.dram t) F.DRAM_STAT_TRAINED = true →
    ∃ a : Mach, exec (.descPoll t c) s = .next (s.settled a) ∧ a.dmaState t c = 2 ∧ a.dmaDesc t c = s.start.dmaDesc t c ∧
      a.rd (P.dma t) (F.DMA_CH_HOPS_COUNT.nth c) = s.start.rd (P.dma t) (F.DMA_CH_HOPS_COUNT.nth c) ∧
      (a.dmaCh t c).outs = (s.start.dmaCh t c).outs ++ [{ fetch := true, dram := true }] ∧
      (∀ pk off, off < 4096 → pk ≠ P.dma t → a.word pk off = s.start.word pk off) ∧ a.arr = s.start.arr ∧ a.dram = s.start.dram ∧
      a.clus = s.start.clus ∧ a.hands = s.start.hands) ∧
  (∀ (s : State) (t : Fin 8) (c : Fin 16) (e : Nat), s.start.dmaState t c = 1 → (s.start.dmaCh t c).ready = true →
    (s.start.dmaCh t c).done = false → (s.start.dmaCh t c).issued < Mach.descLen (s.start.dmaCh t c).ctrl →
    (s.start.dmaCh t c).src < 2 ^ 63 → (s.start.dmaCh t c).dst + Mach.descLen (s.start.dmaCh t c).ctrl ≤ s.start.dramCap t →
    s.start.roomFor t c false = true →
    e = (if (s.start.dmaCh t c).burstEnd ≤ (s.start.dmaCh t c).issued then s.start.burstStop t c (s.start.dmaCh t c).issued
      else (s.start.dmaCh t c).burstEnd) →
    exec (.dmaBurst t c) s = .next (s.settled (s.start.modDma t c fun x =>
      { x with burstEnd := e, issued := e, outs := x.outs ++ [({ ofs := x.issued, len := e - x.issued, dram := true } : DmaTr)] }))) ∧
  (∀ (s : State) (t : Fin 8) (c : Fin 16) (i : Fin 256) (cpl : Cpl) (x : DmaTr) (S T : Nat), (s.start.dmaCh t c).outs[i.val]? = some x →
    (∀ k, k < 16 → (s.start.dmaCh t k).wait = none) →
    x.fetch = false → x.dead = false → x.bar = false → S = (s.start.dmaCh t c).src + x.ofs → T = (s.start.dmaCh t c).dst + x.ofs →
    S + x.len ≤ s.start.dramCap t → T + x.len ≤ s.start.dramCap t → s.start.dramMark = [] →
    s.start.flag (P.dram t) F.DRAM_STAT_TRAINED = true → s.start.dmaState t c = 1 →
    ((s.start.dmaCh t c).issued < Mach.descLen (s.start.dmaCh t c).ctrl ∨
      ((s.start.dmaCh t c).outs = [x] ∧ (s.start.dmaCh t c).issued = Mach.descLen (s.start.dmaCh t c).ctrl ∧
        (s.start.dmaCh t c).recs = [] ∧ Mach.descBarrier (s.start.dmaCh t c).ctrl = false ∧ Mach.descIrq (s.start.dmaCh t c).ctrl = false ∧
        Mach.descLast (s.start.dmaCh t c).ctrl = true ∧ s.start.flag (P.dma t) (F.DMA_CH_CFG_WB.nth c) = false)) →
    ∃ a : Mach, exec (.dmaTransactionDone t c i cpl) s = .next (s.settled a) ∧ a.dramRead t T x.len = s.start.dramRead t S x.len ∧
      (∀ k, (∀ j, j < x.len → k ≠ s.start.dramKey t (T + j)) → Store.get 0 a.dram k = Store.get 0 s.start.dram k) ∧
      (a.dmaCh t c).outs = (s.start.dmaCh t c).outs.eraseIdx i ∧
      a.rd2 (P.dma t) (F.DMA_CH_BYTES_LO_COUNT.nth c) (F.DMA_CH_BYTES_HI_COUNT.nth c) =
        (s.start.rd2 (P.dma t) (F.DMA_CH_BYTES_LO_COUNT.nth c) (F.DMA_CH_BYTES_HI_COUNT.nth c) + x.len) % 2 ^ 64 ∧
      a.dmaState t c = (if (s.start.dmaCh t c).issued < Mach.descLen (s.start.dmaCh t c).ctrl then 1 else 0) ∧
      a.rd (P.dma t) (F.DMA_CH_DONE_COUNT.nth c) = (if (s.start.dmaCh t c).issued < Mach.descLen (s.start.dmaCh t c).ctrl then
        s.start.rd (P.dma t) (F.DMA_CH_DONE_COUNT.nth c) else (s.start.rd (P.dma t) (F.DMA_CH_DONE_COUNT.nth c) + 1) % 2 ^ 32) ∧
      (∀ pk off, off < 4096 → pk ≠ P.dma t → a.word pk off = s.start.word pk off) ∧ a.arr = s.start.arr ∧ a.clus = s.start.clus ∧
      a.hands = s.start.hands)

/-- R482–R489: training ends trained, or names the step that failed, the map first; MR4 shows the rate and the temperature; a retraining is counted
while it is enabled; in panic a refresh is owed, or forced with eight owed, and outside panic with none owed it is issued; the fill at its
thresholds begins and ends panic, the end repaying one owed refresh at once. Model choices it rests on: log entries 72, 73. -/
def Obligations.DramControllerEvents : Prop :=
  (∀ (s : State) (t : Fin 8), s.start.live t D.dram = true → s.start.flag (P.dram t) F.DRAM_STAT_TRAINING = true → s.start.mapOk t = true →
    ∃ a : Mach, exec (.dramTrainingDone t none) s = .next (s.settled a) ∧ a.flag (P.dram t) F.DRAM_STAT_TRAINING = false ∧
      a.flag (P.dram t) F.DRAM_STAT_TRAINED = true ∧ a.flag (P.dram t) F.DRAM_STAT_KEPT = (s.start.tile t).dramKept ∧
      (a.tile t).dramAon = none ∧ (a.word (P.dram t) 0x010).toNat.testBit 0 = true ∧
      (∀ pk off, off < 4096 → ¬ (pk = P.dram t ∧ (off = 0x010 ∨ off = 0x0A0)) → a.word pk off = s.start.word pk off) ∧
      a.arr = s.start.arr ∧ a.dram = s.start.dram ∧ a.clus = s.start.clus ∧ a.hands = s.start.hands) ∧
  (∀ (s : State) (t : Fin 8) (f : Option (Fin 16)), s.start.live t D.dram = true → s.start.flag (P.dram t) F.DRAM_STAT_TRAINING = true →
    (s.start.mapOk t = true → f.isSome = true) →
    ∃ a : Mach, exec (.dramTrainingDone t f) s = .next (s.settled a) ∧ a.flag (P.dram t) F.DRAM_STAT_TRAINING = false ∧
      a.rd (P.dram t) F.DRAM_STAT_TRAIN_STEP = (if s.start.mapOk t = true then (f.getD 0).val else 8) ∧
      a.flag (P.dram t) F.DRAM_STAT_TRAINED = s.start.flag (P.dram t) F.DRAM_STAT_TRAINED ∧
      (a.word (P.dram t) 0x010).toNat.testBit 1 = true ∧ a.arr = s.start.arr ∧ a.dram = s.start.dram ∧ a.clus = s.start.clus) ∧
  (∀ (s : State) (t : Fin 8) (code : Byte) (hot above : Bool), s.start.dramTrained t = true → s.start.dramPanic t = false →
    ∃ a : Mach, exec (.mr4Read t code hot above) s = .next (s.settled a) ∧ a.rd (P.dram t) F.DRAM_MR4_VALUE = code.toNat ∧
      a.flag (P.dram t) F.DRAM_STAT_HOT_RATE = (hot || above) ∧ a.flag (P.dram t) F.DRAM_STAT_DEV_HOT = above ∧
      (a.word (P.dram t) 0x010).toNat.testBit 7 = ((s.start.word (P.dram t) 0x010).toNat.testBit 7 ||
        (above && !s.start.flag (P.dram t) F.DRAM_STAT_DEV_HOT)) ∧ a.arr = s.start.arr ∧ a.dram = s.start.dram ∧ a.clus = s.start.clus) ∧
  (∀ (s : State) (t : Fin 8), s.start.dramTrained t = true → s.start.dramPanic t = false → s.start.rd (P.dram t) F.DRAM_RETRAIN_MS ≠ 0 →
    exec (.dramRetrain t) s = .next (s.settled (s.start.wr (P.dram t) F.DRAM_RETRAINS_COUNT
      (min (s.start.rd (P.dram t) F.DRAM_RETRAINS_COUNT + 1) 65535)))) ∧
  (∀ (s : State) (t : Fin 8) (n : BitVec 64), s.start.dramTrained t = true → s.start.dramPanic t = true →
    ∃ a : Mach, exec (.refreshDue t n) s = .next (s.settled a) ∧
      (s.start.rd (P.dram t) F.DRAM_REF_OWED_NOW < 8 → a.rd (P.dram t) F.DRAM_REF_OWED_NOW = s.start.rd (P.dram t) F.DRAM_REF_OWED_NOW + 1 ∧
        a.rd (P.dram t) F.DRAM_REF_OWED_MAX =
          max (s.start.rd (P.dram t) F.DRAM_REF_OWED_NOW + 1) (s.start.rd (P.dram t) F.DRAM_REF_OWED_MAX)) ∧
      (8 ≤ s.start.rd (P.dram t) F.DRAM_REF_OWED_NOW → a.rd (P.dram t) F.DRAM_REF_OWED_NOW = s.start.rd (P.dram t) F.DRAM_REF_OWED_NOW ∧
        a.rd (P.dram t) F.DRAM_REF_FORCED_COUNT = min (s.start.rd (P.dram t) F.DRAM_REF_FORCED_COUNT + 1) 65535 ∧
        (a.word (P.dram t) 0x010).toNat.testBit 4 = true) ∧
      (∀ pk off, off < 4096 → pk ≠ P.dram t → a.word pk off = s.start.word pk off) ∧ a.arr = s.start.arr ∧ a.dram = s.start.dram ∧
      a.clus = s.start.clus ∧ a.hands = s.start.hands) ∧
  (∀ (s : State) (t : Fin 8) (n : BitVec 64), s.start.dramTrained t = true → s.start.dramPanic t = false →
    s.start.rd (P.dram t) F.DRAM_REF_OWED_NOW = 0 → exec (.refreshDue t n) s = .next (s.settled (s.start.advance t n.toNat))) ∧
  (∀ (s : State) (t : Fin 8) (n : BitVec 64) (fill : Nat) (full : Bool), s.start.dramTrained t = true → s.start.dramPanic t = false →
    fill ≤ 512 → 512 * s.start.rd (P.dram t) F.DRAM_RT_PANIC_PCT ≤ 100 * fill →
    ∃ a : Mach, exec (.panicOn t n fill full) s = .next (s.settled a) ∧ a.dramPanic t = true ∧
      a.rd (P.dram t) F.DRAM_PANICS_COUNT = min (s.start.rd (P.dram t) F.DRAM_PANICS_COUNT + 1) 65535 ∧
      a.rd (P.dram t) F.DRAM_RT_FILL_NOW = fill ∧
      a.rd (P.dram t) F.DRAM_RT_FILL_PEAK = max fill (s.start.rd (P.dram t) F.DRAM_RT_FILL_PEAK) ∧
      (a.word (P.dram t) 0x010).toNat.testBit 2 = true ∧
      (∀ pk off, off < 4096 → pk ≠ P.dram t → a.word pk off = s.start.word pk off) ∧ a.arr = s.start.arr ∧ a.dram = s.start.dram ∧
      a.clus = s.start.clus ∧ a.hands = s.start.hands) ∧
  (∀ (s : State) (t : Fin 8) (n : BitVec 64) (fill : Nat), s.start.dramTrained t = true → s.start.dramPanic t = true →
    fill ≤ 512 * s.start.rd (P.dram t) F.DRAM_RT_CLEAR_PCT / 100 →
    ∃ a : Mach, exec (.panicOff t n fill) s = .next (s.settled a) ∧ a.dramPanic t = false ∧
      a.rd (P.dram t) F.DRAM_RT_FILL_NOW = fill % 1024 ∧
      a.rd (P.dram t) F.DRAM_REF_OWED_NOW = s.start.rd (P.dram t) F.DRAM_REF_OWED_NOW - 1 ∧
      (a.word (P.dram t) 0x010).toNat.testBit 3 = true ∧
      (∀ pk off, off < 4096 → pk ≠ P.dram t → a.word pk off = s.start.word pk off) ∧ a.arr = s.start.arr ∧ a.dram = s.start.dram ∧
      a.clus = s.start.clus ∧ a.hands = s.start.hands)

/-! ### The tile ring (R493–R526) -/

/-- R493–R499, R516, R523, R525: a link goes down, and comes up, at both its ends, the frames retried on it counted; maps that no change of links alters settle with nothing lost; a time master
sends its time base at the next 5,000 ticks, a waiting LOAD first; a tile out of SYNC takes that time base, one within 1/2 tick moves by
1/16 tick; without messages it falls out of SYNC; a cut member that was idle is reconciled at its grid point; spill levels are shown.
Model choices it rests on: log entries 78, 86, 133. -/
def Obligations.RingLinksAndSync : Prop :=
  (∀ (s : State) (t : Fin 8) (ru rl : BitVec 16), s.start.present t = true →
    ∃ a : Mach, exec (.ringLinkDown ⟨t, ru, rl⟩) s = .next (s.settled a) ∧ a.flag (P.ring t) F.RING_STAT_U_UP = false ∧
      a.flag (P.ring (s.start.upOf t)) F.RING_STAT_L_UP = false ∧
      (s.start.flag (P.ring t) F.RING_STAT_U_UP = true → (a.word (P.ring t) 0x010).toNat.testBit 0 = true ∧
        a.rd (P.ring t) F.RING_ERR_U_DOWNS = min (s.start.rd (P.ring t) F.RING_ERR_U_DOWNS + 1) 65535) ∧
      (s.start.linkUUp t = true →
        a.rd (P.ring t) F.RING_ERR_U_RETRIES = min (s.start.rd (P.ring t) F.RING_ERR_U_RETRIES + ru.toNat) 65535 ∧
        a.rd (P.ring (s.start.upOf t)) F.RING_ERR_L_RETRIES =
          min (s.start.rd (P.ring (s.start.upOf t)) F.RING_ERR_L_RETRIES + rl.toNat) 65535) ∧
      (∀ u, u < 8 → s.start.ringLive u = true → a.flag (P.ring u) F.RING_STAT_SETTLED = false) ∧
      (∀ pk off, off < 4096 → (∀ u, u < 8 → pk ≠ P.ring u) → a.word pk off = s.start.word pk off) ∧ a.arr = s.start.arr ∧
      a.dram = s.start.dram ∧ a.tiles = s.start.tiles ∧ a.clus = s.start.clus ∧ a.hands = s.start.hands) ∧
  (∀ (s : State) (t : Fin 8) (u : Nat) (du dl : BitVec 16), u = s.start.upOf t → s.start.present t = true → s.start.linkUUp t = false →
    s.start.ringLive t = true → s.start.ringLive u = true → s.start.flag (P.ring t) F.RING_CFG_U_EN = true →
    s.start.flag (P.ring u) F.RING_CFG_L_EN = true →
    ∃ a : Mach, exec (.ringLinkUp t du dl) s = .next (s.settled a) ∧ a.linkUUp t = true ∧
      a.rd (P.ring t) F.RING_DELAY_U_DELAY = du.toNat ∧ a.rd (P.ring u) F.RING_DELAY_L_DELAY = dl.toNat ∧
      (a.word (P.ring t) 0x010).toNat.testBit 1 = true ∧ (a.word (P.ring u) 0x010).toNat.testBit 1 = true ∧
      (∀ u, u < 8 → s.start.ringLive u = true → a.flag (P.ring u) F.RING_STAT_SETTLED = false) ∧
      (∀ pk off, off < 4096 → (∀ u, u < 8 → pk ≠ P.ring u) → a.word pk off = s.start.word pk off) ∧ a.arr = s.start.arr ∧
      a.dram = s.start.dram ∧ a.tiles = s.start.tiles ∧ a.clus = s.start.clus ∧ a.hands = s.start.hands) ∧
  (∀ (s : State) (R : Nat), oneSegment s.start = true → s.start.joining = 0 → R < 256 →
    (∀ t, t < 8 → s.start.ringLive t = bit R t) →
    (∀ t, t < 8 → s.start.ringLive t = true → s.start.reach t = R ∧ s.start.component t = R ∧ (s.start.ringS t).recov ≠ some 2) →
    (∀ t, t < 8 → s.start.ringLive t = false → (s.start.ringS t).recov ≠ some 2) →
    (∀ t, t < 8 → ∀ u, u < 8 → s.start.role t = 1 → s.start.role u = 1 → t = u) →
    ∃ a : Mach, exec .reachSettle s = .next (s.settled a) ∧
      (∀ t, t < 8 → s.start.ringLive t = true → a.reach t = R ∧ (s.start.flag (P.ring t) F.RING_STAT_SETTLED = true ∨
        a.flag (P.ring t) F.RING_STAT_SETTLED = true)) ∧
      (∀ t, t < 8 → a.role t = s.start.role t) ∧
      (∀ pk off, off < 4096 → (∀ u, u < 8 → pk ≠ P.ring u ∧ pk ≠ P.decl u ∧ pk ≠ P.tb u) → a.word pk off = s.start.word pk off) ∧
      a.arr = s.start.arr ∧ a.dram = s.start.dram ∧ a.tiles = s.start.tiles ∧ a.clus = s.start.clus ∧ a.hands = s.start.hands) ∧
  (∀ (s : State) (t : Fin 8) (k : Nat), s.start.ringLive t = true → s.start.role t % 2 = 1 →
    s.start.flag (P.tb t) F.TB_STAT_MASTER = true → s.start.flag (P.tb t) F.TB_STAT_LOAD_PEND = false → s.start.slewRate = 0 →
    s.start.slewRemain = 0 → (s.start.tile t).ring.rate = none → (s.start.tile t).sub < 2 ^ 32 →
    k = (s.start.now t / 5000 + 1) * 5000 → k < 2 ^ 64 →
    ∃ a : Mach, exec (.syncSend t) s = .next (s.settled a) ∧ a.now t = k ∧ (a.tile t).sub = (s.start.tile t).sub ∧
      a.out = [.ring t 1 [k, s.start.fracF t]] ∧ a.regs = s.start.regs ∧ a.arr = s.start.arr ∧ a.dram = s.start.dram ∧
      a.clus = s.start.clus ∧ a.hands = s.start.hands) ∧
  (∀ (s : State) (t : Fin 8), s.start.ringLive t = true → s.start.role t % 2 = 1 → s.start.flag (P.tb t) F.TB_STAT_MASTER = true →
    s.start.flag (P.tb t) F.TB_STAT_LOAD_PEND = true →
    ∃ a : Mach, exec (.syncSend t) s = .next (s.settled a) ∧ a.now t = s.start.rd2 (P.tb t) F.TB_LOAD_LO_N_LO F.TB_LOAD_HI_N_HI ∧
      (a.tile t).sub = 0 ∧ a.flag (P.tb t) F.TB_STAT_LOAD_PEND = false ∧ a.slewRemain = 0 ∧
      Out.ring t 1 [s.start.rd2 (P.tb t) F.TB_LOAD_LO_N_LO F.TB_LOAD_HI_N_HI, 0] ∈ a.out ∧ a.arr = s.start.arr ∧
      a.dram = s.start.dram ∧ a.hands = s.start.hands ∧ ∀ k, k < 16 → k / 2 ≠ t.val → a.clu k = s.start.clu k) ∧
  (∀ (s : State) (t : Fin 8) (d : Nat), s.start.serving t = some d → t.val ≠ d → s.start.ringLive t = true → s.start.ringLive d = true →
    s.start.reaches d t = true → s.start.role d % 2 = 1 → (s.start.ringS t).recov ≠ some 4 →
    s.start.flag (P.tb t) F.TB_STAT_SYNCED = false →
    ∃ a : Mach, exec (.syncReceive t) s = .next (s.settled a) ∧ a.now t = s.start.now d ∧ (a.tile t).sub = (s.start.tile d).sub ∧
      a.flag (P.tb t) F.TB_STAT_SYNCED = true ∧
      a.rd (P.ring t) F.RING_SYNC_STEPS = min (s.start.rd (P.ring t) F.RING_SYNC_STEPS + 1) 65535 ∧ a.dram = s.start.dram) ∧
  (∀ (s : State) (t : Fin 8) (d : Nat) (e : Int), s.start.serving t = some d → t.val ≠ d → s.start.ringLive t = true →
    s.start.ringLive d = true → s.start.reaches d t = true → s.start.role d % 2 = 1 → (s.start.ringS t).recov ≠ some 4 →
    s.start.flag (P.tb t) F.TB_STAT_SYNCED = true → (s.start.ringS t).stepDue = false →
    e = ((s.start.time32 d : Int) - s.start.time32 t) / 2 ^ 28 → e.natAbs ≤ 8 → (s.start.tile t).sub < 2 ^ 32 →
    2 ^ 28 ≤ s.start.time32 t → s.start.time32 t + 2 ^ 28 < 2 ^ 96 →
    ∃ a : Mach, exec (.syncReceive t) s = .next (s.settled a) ∧ (a.time32 t : Int) = s.start.time32 t + e.sign * 2 ^ 28 ∧
      a.rdS (P.ring t) F.RING_SYNC_ERR = e ∧
      a.flag (P.tb t) F.TB_STAT_SYNCED = decide ((((s.start.time32 d : Int) - a.time32 t) / 2 ^ 28).natAbs ≤ 2) ∧
      (∀ pk off, off < 4096 → pk ≠ P.ring t → pk ≠ P.tb t → a.word pk off = s.start.word pk off) ∧ a.arr = s.start.arr ∧
      a.dram = s.start.dram ∧ a.clus = s.start.clus ∧ a.hands = s.start.hands) ∧
  (∀ (s : State) (t : Fin 8), s.start.flag (P.tb t) F.TB_STAT_MASTER = false →
    exec (.syncLost t) s = .next (s.settled (if s.start.flag (P.tb t) F.TB_STAT_SYNCED = true then
      (s.start.wr (P.tb t) F.TB_STAT_SYNCED 0).raise (P.tb t) 2 else s.start))) ∧
  (∀ (s : State) (g : Fin 16) (c : CutView) (n : Nat), (s.start.clu g).cut = some c → c.stepped = some n → c.dealOpen = false →
    c.armed = false → s.start.joining = 0 → s.start.flag (P.ring (g / 2)) F.RING_STAT_OUTSIDE = false →
    ∃ a : Mach, exec (.reconcile g) s = .next (s.settled a) ∧ (a.clu g).cut = none ∧
      (a.clu g).recEnd = some (s.start.gridPoint c.hand (n + 4000), c.deal, c.cause) ∧
      (∀ k, k < 16 → k ≠ g.val → a.clu k = s.start.clu k) ∧ a.regs = s.start.regs ∧ a.arr = s.start.arr ∧ a.dram = s.start.dram ∧
      a.hands = s.start.hands) ∧
  (∀ (s : State) (t : Fin 8) (d : Nat), s.start.serving t = some d → s.start.islandOf t = none → s.start.answers t = true →
    s.start.reaches d t = true →
    exec (.spillLevelReport t) s = .next (s.settled (s.start.wr P.island (F.ISLAND_SPILL_CELLS.nth t)
      ((List.range 32).map fun q => s.start.spillCells t q).sum)))

/-- R500–R508, R521, R524: heartbeats go out at the next 25,000 ticks; a miss is counted, the third in a row of a reachable tile judges it lost and
commands its reset; the heir of a declarer without power takes the role at its third missed beat; a completed mirror names the successor;
the watchdog counts failures in a row and resets the tile at LIMIT; a recovery step that runs out is tried again up to RETRY attempts,
after which the tile is FAILED; a tile that answers is synchronised next; RECOVER releases a FAILED tile only; ageing keeps the largest
share. Model choices it rests on: log entries 79, 83. -/
def Obligations.HeartbeatsAndRecovery : Prop :=
  (∀ (s : State) (d : Fin 8) (k : Nat), s.start.ringLive d = true → s.start.role d % 2 = 1 → s.start.slewRate = 0 →
    s.start.slewRemain = 0 → (s.start.tile d).ring.rate = none → (s.start.tile d).sub < 2 ^ 32 →
    k = (s.start.now d / 25000 + 1) * 25000 → k < 2 ^ 64 →
    ∃ a : Mach, exec (.heartbeatSend d) s = .next (s.settled a) ∧ a.now d = k ∧ a.out = [.ring d 2 [k]] ∧
      (∀ t, t < 8 → bit (s.start.reach d) t = true → (a.ringS t).beats = 0 ∧ (a.ringS t).missNow = false ∧
        (a.ringS t).missed = (if (s.start.ringS t).missNow = true then (s.start.ringS t).missed else 0)) ∧
      a.regs = s.start.regs ∧ a.arr = s.start.arr ∧ a.dram = s.start.dram ∧ a.clus = s.start.clus ∧ a.hands = s.start.hands) ∧
  (∀ (s : State) (x : Fin 8) (d : Nat), s.start.serving x = some d → x.val ≠ d → (s.start.tile x).dormant = false →
    (s.start.ringS x).recov = none → (s.start.tile x).life ≠ .failed → (s.start.tile x).life ≠ .por →
    ((s.start.ringS x).missed < 2 ∨ s.start.reaches d x = false) →
    exec (.heartbeatMiss x false) s = .next (s.settled ((s.start.inc (P.decl d) F.DECL_HB_MISS_COUNT).modRing x fun r =>
      { r with missed := r.missed + 1, missNow := true }))) ∧
  (∀ (s : State) (x : Fin 8) (d : Nat), s.start.serving x = some d → x.val ≠ d → (s.start.tile x).dormant = false →
    (s.start.ringS x).recov = none → s.start.awake x = true → s.start.islandOf x = none → s.start.islandOf d = none →
    2 ≤ (s.start.ringS x).missed → s.start.reaches d x = true → (s.start.ringS x).backAt = none →
    ∃ a : Mach, exec (.heartbeatMiss x false) s = .next (s.settled a) ∧ (a.ringS x).recov = some 2 ∧ (a.ringS x).missed = 0 ∧
      bit (a.tile x).rstDue 3 = true ∧ (a.word (P.decl d) 0x010).toNat.testBit 2 = true ∧
      a.rd (P.decl d) F.DECL_HB_MISS_COUNT = min (s.start.rd (P.decl d) F.DECL_HB_MISS_COUNT + 1) 65535 ∧ a.dram = s.start.dram) ∧
  (∀ (s : State) (x : Fin 8), s.start.ringLive x = true → s.start.role x % 2 = 0 →
    s.start.flag (P.ring x) F.RING_STAT_OUTSIDE = false → (s.start.ringS x).beats < 2 →
    exec (.heartbeatMiss x true) s = .next (s.settled ((s.start.inc (P.decl x) F.DECL_HB_MISS_COUNT).modRing x fun r =>
      { r with beats := r.beats + 1 }))) ∧
  (∀ (s : State) (x : Fin 8), s.start.ringLive x = true → s.start.role x % 2 = 0 →
    s.start.flag (P.ring x) F.RING_STAT_OUTSIDE = false → 2 ≤ (s.start.ringS x).beats →
    s.start.heirOf x (s.start.rd (P.decl x) F.DECL_ROLE_DECL) = some x.val →
    (s.start.tile (s.start.rd (P.decl x) F.DECL_ROLE_DECL)).life = .por →
    ∃ a : Mach, exec (.heartbeatMiss x true) s = .next (s.settled a) ∧ a.role x = 1 ∧
      a.rd (P.decl x) F.DECL_SUCCESSIONS_COUNT = min (s.start.rd (P.decl x) F.DECL_SUCCESSIONS_COUNT + 1) 65535 ∧
      (a.word (P.decl x) 0x010).toNat.testBit 1 = true ∧ a.dram = s.start.dram ∧
      (∀ g, g < 16 → s.start.axLive g = false → a.clu g = s.start.clu g)) ∧
  (∀ (s : State) (d x : Nat), s.start.declarer = some d → s.start.copying = some x → x < 8 → s.start.healthy x = true →
    s.start.reaches d x = true →
    ∃ a : Mach, exec .mirrorCopyDone s = .next (s.settled a) ∧ a.role x = 2 ∧ a.copying = none ∧
      (∀ t, t < 8 → bit (s.start.reach d) t = true → s.start.awake t = true → a.rd (P.decl t) F.DECL_ROLE_SUCC = x) ∧
      (∀ pk off, off < 4096 → (∀ u, u < 8 → pk ≠ P.decl u) → a.word pk off = s.start.word pk off) ∧ a.arr = s.start.arr ∧
      a.dram = s.start.dram ∧ a.tiles = s.start.tiles ∧ a.clus = s.start.clus ∧ a.hands = s.start.hands) ∧
  (∀ (s : State) (t : Fin 8) (pass : Bool), s.start.answers t = true → s.start.flag (P.decl t) F.DECL_WDOG_EN = true →
    (pass = true ∨ (s.start.ringS t).wdFails + 1 < s.start.rd (P.decl t) F.DECL_WDOG_LIMIT) →
    exec (.watchdogCheck t pass) s = .next (s.settled (s.start.modRing t fun r =>
      { r with wdFails := if pass = true then 0 else r.wdFails + 1 }))) ∧
  (∀ (s : State) (t : Fin 8), s.start.answers t = true → s.start.flag (P.decl t) F.DECL_WDOG_EN = true →
    s.start.rd (P.decl t) F.DECL_WDOG_LIMIT ≤ (s.start.ringS t).wdFails + 1 → (s.start.ringS t).backAt = none →
    ∃ a : Mach, exec (.watchdogCheck t false) s = .next (s.settled a) ∧ (a.tile t).life = .reset ∧
      (a.word (P.pwr t) 0x054).toNat.testBit 4 = true) ∧
  (∀ (s : State) (x : Fin 8) (d r : Nat), s.start.recoverer x = some d → (s.start.ringS x).recov = some r → (r = 2 ∨ r = 3) →
    (s.start.ringS x).fails + 1 < max 1 (s.start.rd (P.decl d) F.DECL_RECOV_RETRY) →
    exec (.recoveryTimeout x) s = .next (s.settled (s.start.modTile x fun ts =>
      { ts with rstDue := if s.start.reaches d x = true ∧ s.start.awake x = true then ts.rstDue ||| 8 else ts.rstDue,
                ring := { ts.ring with fails := ts.ring.fails + 1, recov := some 2 } }))) ∧
  (∀ (s : State) (x : Fin 8) (d r : Nat), s.start.recoverer x = some d → (s.start.ringS x).recov = some r → (r = 2 ∨ r = 3) →
    max 1 (s.start.rd (P.decl d) F.DECL_RECOV_RETRY) ≤ (s.start.ringS x).fails + 1 → s.start.islandOf d = none → d ≠ x.val →
    ∃ a : Mach, exec (.recoveryTimeout x) s = .next (s.settled a) ∧ (a.tile x).life = .failed ∧ (a.ringS x).recov = none ∧
      (a.word (P.decl d) 0x010).toNat.testBit 4 = true) ∧
  (∀ (s : State) (x : Fin 8) (d : Nat), s.start.serving x = some d → (s.start.ringS x).recov = some 3 → s.start.answers x = true →
    s.start.reaches d x = true → s.start.islandOf d = none → s.start.flag (P.tb x) F.TB_STAT_SYNCED = false →
    ∃ a : Mach, exec (.tileAnswers x) s = .next (s.settled a) ∧ (a.ringS x).recov = some 4 ∧
      (∀ pk off, off < 4096 → pk ≠ P.faultlog → a.word pk off = s.start.word pk off) ∧
      (∀ t, t < 8 → t ≠ x.val → a.tile t = s.start.tile t) ∧ a.arr = s.start.arr ∧ a.dram = s.start.dram ∧
      a.clus = s.start.clus ∧ a.hands = s.start.hands) ∧
  (∀ (s : State) (p : Port) (t x : Fin 8), s.start.writable p t 0x05 0x050 = true → (s.start.tile x).life ≠ .failed →
    exec (.recover p t (BitVec.ofNat 8 (2 ^ x.val))) s = .next (s.settled (s.start.errCount (P.decl t)))) ∧
  (∀ (s : State) (p : Port) (t x : Fin 8), s.start.writable p t 0x05 0x050 = true → (s.start.tile x).life = .failed →
    ∃ a : Mach, exec (.recover p t (BitVec.ofNat 8 (2 ^ x.val))) s = .next (s.settled a) ∧ (a.tile x).life = .released ∧
      (a.ringS x).recov = some 3 ∧ (a.ringS x).fails = 0 ∧ (∀ u, u < 8 → u ≠ x.val → a.tile u = s.start.tile u)) ∧
  (∀ (s : State) (t : Fin 8) (mon : Fin 256) (life : Fin 65536), s.start.answers t = true →
    ∃ a : Mach, exec (.ageing t mon life) s = .next (s.settled a) ∧
      a.rd (P.decl t) F.DECL_AGE_LIFE = max (s.start.rd (P.decl t) F.DECL_AGE_LIFE) life.val ∧ a.arr = s.start.arr ∧
      a.dram = s.start.dram ∧ a.clus = s.start.clus ∧ a.hands = s.start.hands)

/-! ### DRAM contents and window elements (R480, R481) -/

/-- Bytes stored within a tile's capacity are read there, every other byte of DRAM reads as before, none of the words written stays marked as in
error, and the stored form stays canonical. -/
def Obligations.DramReadsWhatWasWritten : Prop :=
  ∀ (m : Mach) (t f : Nat) (bs : List Byte), f + bs.length ≤ m.dramCap t →
    (m.dramWrite t f bs).dramRead t f bs.length = bs ∧
    (∀ k, (∀ j, j < bs.length → k ≠ m.dramKey t (f + j)) → Store.get 0 (m.dramWrite t f bs).dram k = Store.get 0 m.dram k) ∧
    (∀ j, j < bs.length → Store.get 0 (m.dramWrite t f bs).dramMark (m.dramKey t (f + j) / 8) = 0) ∧
    (Store.wf (fun _ => 0) m.dram = true → Store.wf (fun _ => 0) (m.dramWrite t f bs).dram = true) ∧
    (m.dramWrite t f bs).regs = m.regs ∧ (m.dramWrite t f bs).arr = m.arr ∧ (m.dramWrite t f bs).tiles = m.tiles ∧
    (m.dramWrite t f bs).clus = m.clus

/-! ### Two-wire controller and GPIO (R527–R543, R575, R576) -/

/-- R529, R530, R532–R538, R576: GO of a free controller starts the host's transfer, of a busy one waits; ABORT marks a host transfer; CLEAR
starts a bus clear; an alert-response read joins those that wait, and so does a falling edge of ALERT_N under ALERT_AUTO; a retry of a
binning read restarts it and is counted; a complete host transfer leaves its result, its count and the bytes it read; the two timeouts of an
idle bus are counted and raised; a bus clear ends with the bus free, or stuck. An edge of a GPIO input of a tile that is not dormant raises
its event where EDGE enables it (shown with no hand formed). Model choices it rests on: log entries 31, 87, 88. -/
def Obligations.TwoWireCommands : Prop :=
  (∀ (s : State) (p : Port) (t : Fin 8) (v : Word), s.start.writable p t 0x34 0x054 = true → bits v.toNat 3 1 = 0 →
    s.start.enabled (P.twc t) = true → s.start.twcHostHeld t = false → s.start.flag (P.twc t) F.TWC_STAT_SDA_STUCK = false →
    8 ≤ s.start.rd (P.twc t) F.TWC_XFER_ADDR → s.start.rd (P.twc t) F.TWC_XFER_ADDR < 0x78 →
    (s.start.rd (P.twc t) F.TWC_XFER_KIND < 2 ∨ s.start.rd (P.twc t) F.TWC_XFER_PTR_W ∈ [1, 2]) →
    (s.start.twcBusy t = true →
      exec (.twcGo p t v) s = .next (s.settled ((s.start.wr (P.twc t) F.TWC_CMD_GO 1).wr (P.twc t) F.TWC_STAT_PEND 1))) ∧
    (s.start.twcBusy t = false → s.start.live t D.aux = true → s.start.binWaits t 0 = false → s.start.binWaits t 1 = false →
      (s.start.twcS t).alerts = 0 →
      ∃ a : Mach, exec (.twcGo p t v) s = .next (s.settled a) ∧ a.flag (P.twc t) F.TWC_CMD_GO = true ∧ a.twcOwner t = 1 ∧
        a.flag (P.twc t) F.TWC_STAT_BUSY = true ∧ a.flag (P.twc t) F.TWC_STAT_PEND = false ∧ (a.twcS t).piece = 0 ∧ (a.twcS t).tries = 0 ∧
        a.out = (s.start.twcPieces t).map (fun x => Out.bus t (s.start.twcSent t x)) ∧
        (∀ pk off, off < 4096 → ¬ (pk = P.twc t ∧ (off = 0x054 ∨ off = 0x058)) → a.word pk off = s.start.word pk off) ∧
        a.arr = s.start.arr ∧ a.dram = s.start.dram ∧ a.clus = s.start.clus)) ∧
  (∀ (s : State) (p : Port) (t : Fin 8) (v : Word), s.start.writable p t 0x34 0x054 = true → bit v.toNat 0 = false → bits v.toNat 3 2 = 0 →
    s.start.twcOwner t = 1 →
    exec (.twcAbort p t v) s = .next (s.settled (s.start.modTwc t fun x => { x with abort := true }))) ∧
  (∀ (s : State) (p : Port) (t : Fin 8) (v : Word), s.start.writable p t 0x34 0x054 = true → bits v.toNat 2 0 = 0 →
    s.start.twcBusy t = false →
    exec (.twcClear p t v) s = .next (s.settled ((s.start.wr (P.twc t) F.TWC_STAT_CLEARING 1).wr (P.twc t) F.TWC_CMD_CLEAR 1))) ∧
  (∀ (s : State) (p : Port) (t : Fin 8) (v : Word), s.start.writable p t 0x34 0x054 = true → bits v.toNat 1 0 = 0 → bit v.toNat 3 = false →
    s.start.enabled (P.twc t) = true → s.start.flag (P.twc t) F.TWC_STAT_SDA_STUCK = false → s.start.twcBusy t = true →
    exec (.alertRead p t v) s = .next (s.settled (s.start.modTwc t fun x => { x with alerts := x.alerts + 1 }))) ∧
  (∀ (s : State) (t : Fin 8),
    exec (.alertEdge t false) s = .next (s.settled (s.start.modTwc t fun x => { x with alertLow := false }))) ∧
  (∀ (s : State) (t : Fin 8), (s.start.twcS t).alertLow = false → s.start.live t D.aux = true → s.start.enabled (P.twc t) = true →
    s.start.flag (P.twc t) F.TWC_CFG_ALERT_AUTO = true → s.start.twcBusy t = true →
    exec (.alertEdge t true) s = .next (s.settled (s.start.modTwc t fun x => { x with alertLow := true, alerts := x.alerts + 1 }))) ∧
  (∀ (s : State) (t : Fin 8), s.start.live t D.aux = true → s.start.flag (P.twc t) F.TWC_STAT_BUSY = true → s.start.twcOwner t = 2 →
    (s.start.twcS t).piece = 0 → (s.start.twcS t).abort = false → (s.start.twcS t).tries < s.start.rd (P.twc t) F.TWC_CFG_RETRY_N →
    exec (.twcRetryGap t 0) s = .next (s.settled (((s.start.modTwc t fun x => { x with tries := x.tries + 1 }).inc (P.twc t)
      F.TWC_NACKS_COUNT).emitOut (.bus t (s.start.twcBinSent t 0))))) ∧
  (∀ (s : State) (t : Fin 8) (done : Fin 257) (data : List Byte), s.start.live t D.aux = true →
    s.start.flag (P.twc t) F.TWC_STAT_BUSY = true → s.start.twcOwner t = 1 → (s.start.twcS t).abort = false →
    done.val = s.start.twcLen t → s.start.twcDataOk t done data = true →
    ∃ a : Mach, exec (.twcTransferEnd t .complete done data) s = .next (s.settled a) ∧ a.rd (P.twc t) F.TWC_STAT_RESULT = 1 ∧
      a.rd (P.twc t) F.TWC_STAT_DONE = done ∧ a.flag (P.twc t) F.TWC_CMD_GO = false ∧ (a.word (P.twc t) 0x010).toNat.testBit 0 = true ∧
      (∀ i, i < data.length → a.el (P.twc t) 0 i = (data.getD i 0).toNat) ∧ a.dram = s.start.dram) ∧
  (∀ (s : State) (t : Fin 8) (cont : Bool) (done : Fin 257) (data : List Byte), s.start.live t D.aux = true →
    s.start.enabled (P.twc t) = true → s.start.twcBusy t = false →
    exec (.sclLowTimeout t cont done data) s = .next (s.settled (((s.start.modTwc t fun x => { x with scl := false }).raise (P.twc t) 3).inc
      (P.twc t) F.TWC_TMO_SCL)) ∧
    exec (.sdaLowTimeout t cont done data) s = .next (s.settled (((s.start.modTwc t fun x => { x with sda := false }).raise (P.twc t) 4).inc
      (P.twc t) F.TWC_TMO_SDA))) ∧
  (∀ (s : State) (t : Fin 8), s.start.live t D.aux = true → s.start.enabled (P.twc t) = true →
    s.start.flag (P.twc t) F.TWC_STAT_CLEARING = true → s.start.binWaits t 0 = false → s.start.binWaits t 1 = false →
    (s.start.twcS t).alerts = 0 → s.start.twcHostHeld t = false →
    exec (.busClearEnd t true) s = .next (s.settled ((((s.start.modTwc t fun x => { x with scl := true, sda := true }).wr (P.twc t)
      F.TWC_STAT_CLEARING 0).wr (P.twc t) F.TWC_CMD_CLEAR 0).wr (P.twc t) F.TWC_STAT_SDA_STUCK 0)) ∧
    exec (.busClearEnd t false) s = .next (s.settled (((((s.start.modTwc t fun x => { x with scl := true, sda := false }).wr (P.twc t)
      F.TWC_STAT_CLEARING 0).wr (P.twc t) F.TWC_CMD_CLEAR 0).wr (P.twc t) F.TWC_STAT_SDA_STUCK 1).raise (P.twc t) 5))) ∧
  (∀ (s : State) (t pin : Fin 8) (rising : Bool) (n : BitVec 64), s.start.islandOf t = none → n.toNat ≤ s.start.now t →
    s.start.live t D.aux = true → s.start.enabled (P.gpio t) = true → bit (s.start.rd (P.gpio t) F.GPIO_DIR_OE) pin = false →
    bit (s.start.tile t).gpioIn pin = !rising → (s.start.tile t).dormant = false → (∀ h, h < 16 → s.start.handState h = 0) →
    bit (s.start.rd (P.gpio t) (if rising then F.GPIO_EDGE_RISE else F.GPIO_EDGE_FALL)) pin = true →
    exec (.gpioEdge t pin rising n) s = .next (s.settled
      ((s.start.modTile t fun ts => { ts with gpioIn := putBit ts.gpioIn pin rising }).raise (P.gpio t) pin)))
end

