-- ==== Sys2Proof/Laws/State.lean ====
section
/-!
SUPPORT. Laws of `Mach`: what each shared update leaves as it was, one equation a field, and what it gives where it acts.
-/

namespace Sys2Proof.Machine.Mach

/-! An update of `regs` alone. -/

theorem with_regs_part (m : Mach) (u : Store Word) : ({ m with regs := u } : Mach).part = m.part := rfl
theorem with_regs_arr (m : Mach) (u : Store Word) : ({ m with regs := u } : Mach).arr = m.arr := rfl
theorem with_regs_winAsm (m : Mach) (u : Store Word) : ({ m with regs := u } : Mach).winAsm = m.winAsm := rfl
theorem with_regs_dram (m : Mach) (u : Store Word) : ({ m with regs := u } : Mach).dram = m.dram := rfl
theorem with_regs_dramMark (m : Mach) (u : Store Word) : ({ m with regs := u } : Mach).dramMark = m.dramMark := rfl
theorem with_regs_tiles (m : Mach) (u : Store Word) : ({ m with regs := u } : Mach).tiles = m.tiles := rfl
theorem with_regs_clus (m : Mach) (u : Store Word) : ({ m with regs := u } : Mach).clus = m.clus := rfl
theorem with_regs_hands (m : Mach) (u : Store Word) : ({ m with regs := u } : Mach).hands = m.hands := rfl
theorem with_regs_cpb (m : Mach) (u : Store Word) : ({ m with regs := u } : Mach).cpb = m.cpb := rfl
theorem with_regs_pinA (m : Mach) (u : Store Word) : ({ m with regs := u } : Mach).pinA = m.pinA := rfl
theorem with_regs_pinB (m : Mach) (u : Store Word) : ({ m with regs := u } : Mach).pinB = m.pinB := rfl
theorem with_regs_msixArmed (m : Mach) (u : Store Word) : ({ m with regs := u } : Mach).msixArmed = m.msixArmed := rfl
theorem with_regs_kaWinA (m : Mach) (u : Store Word) : ({ m with regs := u } : Mach).kaWinA = m.kaWinA := rfl
theorem with_regs_kaWinB (m : Mach) (u : Store Word) : ({ m with regs := u } : Mach).kaWinB = m.kaWinB := rfl
theorem with_regs_kaClock (m : Mach) (u : Store Word) : ({ m with regs := u } : Mach).kaClock = m.kaClock := rfl
theorem with_regs_testHeld (m : Mach) (u : Store Word) : ({ m with regs := u } : Mach).testHeld = m.testHeld := rfl
theorem with_regs_refLost (m : Mach) (u : Store Word) : ({ m with regs := u } : Mach).refLost = m.refLost := rfl
theorem with_regs_pkgLog (m : Mach) (u : Store Word) : ({ m with regs := u } : Mach).pkgLog = m.pkgLog := rfl
theorem with_regs_free (m : Mach) (u : Store Word) : ({ m with regs := u } : Mach).free = m.free := rfl
theorem with_regs_out (m : Mach) (u : Store Word) : ({ m with regs := u } : Mach).out = m.out := rfl
theorem with_regs_slewRate (m : Mach) (u : Store Word) : ({ m with regs := u } : Mach).slewRate = m.slewRate := rfl
theorem with_regs_slewRemain (m : Mach) (u : Store Word) : ({ m with regs := u } : Mach).slewRemain = m.slewRemain := rfl
theorem with_regs_slewCount (m : Mach) (u : Store Word) : ({ m with regs := u } : Mach).slewCount = m.slewCount := rfl
theorem with_regs_declStamp (m : Mach) (u : Store Word) : ({ m with regs := u } : Mach).declStamp = m.declStamp := rfl
theorem with_regs_copying (m : Mach) (u : Store Word) : ({ m with regs := u } : Mach).copying = m.copying := rfl
theorem with_regs_viewOf (m : Mach) (u : Store Word) : ({ m with regs := u } : Mach).viewOf = m.viewOf := rfl
theorem with_regs_joining (m : Mach) (u : Store Word) : ({ m with regs := u } : Mach).joining = m.joining := rfl
theorem with_regs_jtag (m : Mach) (u : Store Word) : ({ m with regs := u } : Mach).jtag = m.jtag := rfl
theorem with_regs_heldAcc (m : Mach) (u : Store Word) : ({ m with regs := u } : Mach).heldAcc = m.heldAcc := rfl
theorem with_regs_tile (m : Mach) (u : Store Word) (x : Nat) : ({ m with regs := u } : Mach).tile x = m.tile x := rfl
theorem with_regs_clu (m : Mach) (u : Store Word) (x : Nat) : ({ m with regs := u } : Mach).clu x = m.clu x := rfl
theorem with_regs_hand (m : Mach) (u : Store Word) (x : Nat) : ({ m with regs := u } : Mach).hand x = m.hand x := rfl
theorem with_regs_el (m : Mach) (u : Store Word) (k a' i' : Nat) : ({ m with regs := u } : Mach).el k a' i' = m.el k a' i' := rfl
theorem with_regs_present (m : Mach) (u : Store Word) (x : Nat) : ({ m with regs := u } : Mach).present x = m.present x := rfl
theorem with_regs_answers (m : Mach) (u : Store Word) (x : Nat) : ({ m with regs := u } : Mach).answers x = m.answers x := rfl
theorem with_regs_awake (m : Mach) (u : Store Word) (x : Nat) : ({ m with regs := u } : Mach).awake x = m.awake x := rfl
theorem with_regs_now (m : Mach) (u : Store Word) (x : Nat) : ({ m with regs := u } : Mach).now x = m.now x := rfl
theorem with_regs_nTiles (m : Mach) (u : Store Word)  : ({ m with regs := u } : Mach).nTiles  = m.nTiles  := rfl

/-! An update of `arr` alone. -/

theorem with_arr_part (m : Mach) (u : Store Nat) : ({ m with arr := u } : Mach).part = m.part := rfl
theorem with_arr_winAsm (m : Mach) (u : Store Nat) : ({ m with arr := u } : Mach).winAsm = m.winAsm := rfl
theorem with_arr_dram (m : Mach) (u : Store Nat) : ({ m with arr := u } : Mach).dram = m.dram := rfl
theorem with_arr_dramMark (m : Mach) (u : Store Nat) : ({ m with arr := u } : Mach).dramMark = m.dramMark := rfl
theorem with_arr_tiles (m : Mach) (u : Store Nat) : ({ m with arr := u } : Mach).tiles = m.tiles := rfl
theorem with_arr_clus (m : Mach) (u : Store Nat) : ({ m with arr := u } : Mach).clus = m.clus := rfl
theorem with_arr_hands (m : Mach) (u : Store Nat) : ({ m with arr := u } : Mach).hands = m.hands := rfl
theorem with_arr_cpb (m : Mach) (u : Store Nat) : ({ m with arr := u } : Mach).cpb = m.cpb := rfl
theorem with_arr_pinA (m : Mach) (u : Store Nat) : ({ m with arr := u } : Mach).pinA = m.pinA := rfl
theorem with_arr_pinB (m : Mach) (u : Store Nat) : ({ m with arr := u } : Mach).pinB = m.pinB := rfl
theorem with_arr_msixArmed (m : Mach) (u : Store Nat) : ({ m with arr := u } : Mach).msixArmed = m.msixArmed := rfl
theorem with_arr_kaWinA (m : Mach) (u : Store Nat) : ({ m with arr := u } : Mach).kaWinA = m.kaWinA := rfl
theorem with_arr_kaWinB (m : Mach) (u : Store Nat) : ({ m with arr := u } : Mach).kaWinB = m.kaWinB := rfl
theorem with_arr_kaClock (m : Mach) (u : Store Nat) : ({ m with arr := u } : Mach).kaClock = m.kaClock := rfl
theorem with_arr_testHeld (m : Mach) (u : Store Nat) : ({ m with arr := u } : Mach).testHeld = m.testHeld := rfl
theorem with_arr_refLost (m : Mach) (u : Store Nat) : ({ m with arr := u } : Mach).refLost = m.refLost := rfl
theorem with_arr_pkgLog (m : Mach) (u : Store Nat) : ({ m with arr := u } : Mach).pkgLog = m.pkgLog := rfl
theorem with_arr_free (m : Mach) (u : Store Nat) : ({ m with arr := u } : Mach).free = m.free := rfl
theorem with_arr_out (m : Mach) (u : Store Nat) : ({ m with arr := u } : Mach).out = m.out := rfl
theorem with_arr_slewRate (m : Mach) (u : Store Nat) : ({ m with arr := u } : Mach).slewRate = m.slewRate := rfl
theorem with_arr_slewRemain (m : Mach) (u : Store Nat) : ({ m with arr := u } : Mach).slewRemain = m.slewRemain := rfl
theorem with_arr_slewCount (m : Mach) (u : Store Nat) : ({ m with arr := u } : Mach).slewCount = m.slewCount := rfl
theorem with_arr_declStamp (m : Mach) (u : Store Nat) : ({ m with arr := u } : Mach).declStamp = m.declStamp := rfl
theorem with_arr_copying (m : Mach) (u : Store Nat) : ({ m with arr := u } : Mach).copying = m.copying := rfl
theorem with_arr_viewOf (m : Mach) (u : Store Nat) : ({ m with arr := u } : Mach).viewOf = m.viewOf := rfl
theorem with_arr_joining (m : Mach) (u : Store Nat) : ({ m with arr := u } : Mach).joining = m.joining := rfl
theorem with_arr_jtag (m : Mach) (u : Store Nat) : ({ m with arr := u } : Mach).jtag = m.jtag := rfl
theorem with_arr_heldAcc (m : Mach) (u : Store Nat) : ({ m with arr := u } : Mach).heldAcc = m.heldAcc := rfl
theorem with_arr_regs (m : Mach) (u : Store Nat) : ({ m with arr := u } : Mach).regs = m.regs := rfl
theorem with_arr_tile (m : Mach) (u : Store Nat) (x : Nat) : ({ m with arr := u } : Mach).tile x = m.tile x := rfl
theorem with_arr_clu (m : Mach) (u : Store Nat) (x : Nat) : ({ m with arr := u } : Mach).clu x = m.clu x := rfl
theorem with_arr_hand (m : Mach) (u : Store Nat) (x : Nat) : ({ m with arr := u } : Mach).hand x = m.hand x := rfl
theorem with_arr_word (m : Mach) (u : Store Nat) (k o : Nat) : ({ m with arr := u } : Mach).word k o = m.word k o := rfl
theorem with_arr_rd (m : Mach) (u : Store Nat) (k : Nat) (x : Field) : ({ m with arr := u } : Mach).rd k x = m.rd k x := rfl
theorem with_arr_flag (m : Mach) (u : Store Nat) (k : Nat) (x : Field) : ({ m with arr := u } : Mach).flag k x = m.flag k x := rfl
theorem with_arr_present (m : Mach) (u : Store Nat) (x : Nat) : ({ m with arr := u } : Mach).present x = m.present x := rfl
theorem with_arr_answers (m : Mach) (u : Store Nat) (x : Nat) : ({ m with arr := u } : Mach).answers x = m.answers x := rfl
theorem with_arr_awake (m : Mach) (u : Store Nat) (x : Nat) : ({ m with arr := u } : Mach).awake x = m.awake x := rfl
theorem with_arr_now (m : Mach) (u : Store Nat) (x : Nat) : ({ m with arr := u } : Mach).now x = m.now x := rfl
theorem with_arr_nTiles (m : Mach) (u : Store Nat)  : ({ m with arr := u } : Mach).nTiles  = m.nTiles  := rfl

/-! An update of `tiles` alone. -/

theorem with_tiles_part (m : Mach) (u : Vector TileSt 8) : ({ m with tiles := u } : Mach).part = m.part := rfl
theorem with_tiles_arr (m : Mach) (u : Vector TileSt 8) : ({ m with tiles := u } : Mach).arr = m.arr := rfl
theorem with_tiles_winAsm (m : Mach) (u : Vector TileSt 8) : ({ m with tiles := u } : Mach).winAsm = m.winAsm := rfl
theorem with_tiles_dram (m : Mach) (u : Vector TileSt 8) : ({ m with tiles := u } : Mach).dram = m.dram := rfl
theorem with_tiles_dramMark (m : Mach) (u : Vector TileSt 8) : ({ m with tiles := u } : Mach).dramMark = m.dramMark := rfl
theorem with_tiles_clus (m : Mach) (u : Vector TileSt 8) : ({ m with tiles := u } : Mach).clus = m.clus := rfl
theorem with_tiles_hands (m : Mach) (u : Vector TileSt 8) : ({ m with tiles := u } : Mach).hands = m.hands := rfl
theorem with_tiles_cpb (m : Mach) (u : Vector TileSt 8) : ({ m with tiles := u } : Mach).cpb = m.cpb := rfl
theorem with_tiles_pinA (m : Mach) (u : Vector TileSt 8) : ({ m with tiles := u } : Mach).pinA = m.pinA := rfl
theorem with_tiles_pinB (m : Mach) (u : Vector TileSt 8) : ({ m with tiles := u } : Mach).pinB = m.pinB := rfl
theorem with_tiles_msixArmed (m : Mach) (u : Vector TileSt 8) : ({ m with tiles := u } : Mach).msixArmed = m.msixArmed := rfl
theorem with_tiles_kaWinA (m : Mach) (u : Vector TileSt 8) : ({ m with tiles := u } : Mach).kaWinA = m.kaWinA := rfl
theorem with_tiles_kaWinB (m : Mach) (u : Vector TileSt 8) : ({ m with tiles := u } : Mach).kaWinB = m.kaWinB := rfl
theorem with_tiles_kaClock (m : Mach) (u : Vector TileSt 8) : ({ m with tiles := u } : Mach).kaClock = m.kaClock := rfl
theorem with_tiles_testHeld (m : Mach) (u : Vector TileSt 8) : ({ m with tiles := u } : Mach).testHeld = m.testHeld := rfl
theorem with_tiles_refLost (m : Mach) (u : Vector TileSt 8) : ({ m with tiles := u } : Mach).refLost = m.refLost := rfl
theorem with_tiles_pkgLog (m : Mach) (u : Vector TileSt 8) : ({ m with tiles := u } : Mach).pkgLog = m.pkgLog := rfl
theorem with_tiles_free (m : Mach) (u : Vector TileSt 8) : ({ m with tiles := u } : Mach).free = m.free := rfl
theorem with_tiles_out (m : Mach) (u : Vector TileSt 8) : ({ m with tiles := u } : Mach).out = m.out := rfl
theorem with_tiles_slewRate (m : Mach) (u : Vector TileSt 8) : ({ m with tiles := u } : Mach).slewRate = m.slewRate := rfl
theorem with_tiles_slewRemain (m : Mach) (u : Vector TileSt 8) : ({ m with tiles := u } : Mach).slewRemain = m.slewRemain := rfl
theorem with_tiles_slewCount (m : Mach) (u : Vector TileSt 8) : ({ m with tiles := u } : Mach).slewCount = m.slewCount := rfl
theorem with_tiles_declStamp (m : Mach) (u : Vector TileSt 8) : ({ m with tiles := u } : Mach).declStamp = m.declStamp := rfl
theorem with_tiles_copying (m : Mach) (u : Vector TileSt 8) : ({ m with tiles := u } : Mach).copying = m.copying := rfl
theorem with_tiles_viewOf (m : Mach) (u : Vector TileSt 8) : ({ m with tiles := u } : Mach).viewOf = m.viewOf := rfl
theorem with_tiles_joining (m : Mach) (u : Vector TileSt 8) : ({ m with tiles := u } : Mach).joining = m.joining := rfl
theorem with_tiles_jtag (m : Mach) (u : Vector TileSt 8) : ({ m with tiles := u } : Mach).jtag = m.jtag := rfl
theorem with_tiles_heldAcc (m : Mach) (u : Vector TileSt 8) : ({ m with tiles := u } : Mach).heldAcc = m.heldAcc := rfl
theorem with_tiles_regs (m : Mach) (u : Vector TileSt 8) : ({ m with tiles := u } : Mach).regs = m.regs := rfl
theorem with_tiles_clu (m : Mach) (u : Vector TileSt 8) (x : Nat) : ({ m with tiles := u } : Mach).clu x = m.clu x := rfl
theorem with_tiles_hand (m : Mach) (u : Vector TileSt 8) (x : Nat) : ({ m with tiles := u } : Mach).hand x = m.hand x := rfl
theorem with_tiles_word (m : Mach) (u : Vector TileSt 8) (k o : Nat) : ({ m with tiles := u } : Mach).word k o = m.word k o := rfl
theorem with_tiles_rd (m : Mach) (u : Vector TileSt 8) (k : Nat) (x : Field) : ({ m with tiles := u } : Mach).rd k x = m.rd k x := rfl
theorem with_tiles_flag (m : Mach) (u : Vector TileSt 8) (k : Nat) (x : Field) : ({ m with tiles := u } : Mach).flag k x = m.flag k x := rfl
theorem with_tiles_el (m : Mach) (u : Vector TileSt 8) (k a' i' : Nat) : ({ m with tiles := u } : Mach).el k a' i' = m.el k a' i' := rfl
theorem with_tiles_nTiles (m : Mach) (u : Vector TileSt 8)  : ({ m with tiles := u } : Mach).nTiles  = m.nTiles  := rfl

/-! An update of `clus` alone. -/

theorem with_clus_part (m : Mach) (u : Vector Cluster 16) : ({ m with clus := u } : Mach).part = m.part := rfl
theorem with_clus_arr (m : Mach) (u : Vector Cluster 16) : ({ m with clus := u } : Mach).arr = m.arr := rfl
theorem with_clus_winAsm (m : Mach) (u : Vector Cluster 16) : ({ m with clus := u } : Mach).winAsm = m.winAsm := rfl
theorem with_clus_dram (m : Mach) (u : Vector Cluster 16) : ({ m with clus := u } : Mach).dram = m.dram := rfl
theorem with_clus_dramMark (m : Mach) (u : Vector Cluster 16) : ({ m with clus := u } : Mach).dramMark = m.dramMark := rfl
theorem with_clus_tiles (m : Mach) (u : Vector Cluster 16) : ({ m with clus := u } : Mach).tiles = m.tiles := rfl
theorem with_clus_hands (m : Mach) (u : Vector Cluster 16) : ({ m with clus := u } : Mach).hands = m.hands := rfl
theorem with_clus_cpb (m : Mach) (u : Vector Cluster 16) : ({ m with clus := u } : Mach).cpb = m.cpb := rfl
theorem with_clus_pinA (m : Mach) (u : Vector Cluster 16) : ({ m with clus := u } : Mach).pinA = m.pinA := rfl
theorem with_clus_pinB (m : Mach) (u : Vector Cluster 16) : ({ m with clus := u } : Mach).pinB = m.pinB := rfl
theorem with_clus_msixArmed (m : Mach) (u : Vector Cluster 16) : ({ m with clus := u } : Mach).msixArmed = m.msixArmed := rfl
theorem with_clus_kaWinA (m : Mach) (u : Vector Cluster 16) : ({ m with clus := u } : Mach).kaWinA = m.kaWinA := rfl
theorem with_clus_kaWinB (m : Mach) (u : Vector Cluster 16) : ({ m with clus := u } : Mach).kaWinB = m.kaWinB := rfl
theorem with_clus_kaClock (m : Mach) (u : Vector Cluster 16) : ({ m with clus := u } : Mach).kaClock = m.kaClock := rfl
theorem with_clus_testHeld (m : Mach) (u : Vector Cluster 16) : ({ m with clus := u } : Mach).testHeld = m.testHeld := rfl
theorem with_clus_refLost (m : Mach) (u : Vector Cluster 16) : ({ m with clus := u } : Mach).refLost = m.refLost := rfl
theorem with_clus_pkgLog (m : Mach) (u : Vector Cluster 16) : ({ m with clus := u } : Mach).pkgLog = m.pkgLog := rfl
theorem with_clus_free (m : Mach) (u : Vector Cluster 16) : ({ m with clus := u } : Mach).free = m.free := rfl
theorem with_clus_out (m : Mach) (u : Vector Cluster 16) : ({ m with clus := u } : Mach).out = m.out := rfl
theorem with_clus_slewRate (m : Mach) (u : Vector Cluster 16) : ({ m with clus := u } : Mach).slewRate = m.slewRate := rfl
theorem with_clus_slewRemain (m : Mach) (u : Vector Cluster 16) : ({ m with clus := u } : Mach).slewRemain = m.slewRemain := rfl
theorem with_clus_slewCount (m : Mach) (u : Vector Cluster 16) : ({ m with clus := u } : Mach).slewCount = m.slewCount := rfl
theorem with_clus_declStamp (m : Mach) (u : Vector Cluster 16) : ({ m with clus := u } : Mach).declStamp = m.declStamp := rfl
theorem with_clus_copying (m : Mach) (u : Vector Cluster 16) : ({ m with clus := u } : Mach).copying = m.copying := rfl
theorem with_clus_viewOf (m : Mach) (u : Vector Cluster 16) : ({ m with clus := u } : Mach).viewOf = m.viewOf := rfl
theorem with_clus_joining (m : Mach) (u : Vector Cluster 16) : ({ m with clus := u } : Mach).joining = m.joining := rfl
theorem with_clus_jtag (m : Mach) (u : Vector Cluster 16) : ({ m with clus := u } : Mach).jtag = m.jtag := rfl
theorem with_clus_heldAcc (m : Mach) (u : Vector Cluster 16) : ({ m with clus := u } : Mach).heldAcc = m.heldAcc := rfl
theorem with_clus_regs (m : Mach) (u : Vector Cluster 16) : ({ m with clus := u } : Mach).regs = m.regs := rfl
theorem with_clus_tile (m : Mach) (u : Vector Cluster 16) (x : Nat) : ({ m with clus := u } : Mach).tile x = m.tile x := rfl
theorem with_clus_hand (m : Mach) (u : Vector Cluster 16) (x : Nat) : ({ m with clus := u } : Mach).hand x = m.hand x := rfl
theorem with_clus_word (m : Mach) (u : Vector Cluster 16) (k o : Nat) : ({ m with clus := u } : Mach).word k o = m.word k o := rfl
theorem with_clus_rd (m : Mach) (u : Vector Cluster 16) (k : Nat) (x : Field) : ({ m with clus := u } : Mach).rd k x = m.rd k x := rfl
theorem with_clus_flag (m : Mach) (u : Vector Cluster 16) (k : Nat) (x : Field) : ({ m with clus := u } : Mach).flag k x = m.flag k x := rfl
theorem with_clus_el (m : Mach) (u : Vector Cluster 16) (k a' i' : Nat) : ({ m with clus := u } : Mach).el k a' i' = m.el k a' i' := rfl
theorem with_clus_present (m : Mach) (u : Vector Cluster 16) (x : Nat) : ({ m with clus := u } : Mach).present x = m.present x := rfl
theorem with_clus_answers (m : Mach) (u : Vector Cluster 16) (x : Nat) : ({ m with clus := u } : Mach).answers x = m.answers x := rfl
theorem with_clus_awake (m : Mach) (u : Vector Cluster 16) (x : Nat) : ({ m with clus := u } : Mach).awake x = m.awake x := rfl
theorem with_clus_now (m : Mach) (u : Vector Cluster 16) (x : Nat) : ({ m with clus := u } : Mach).now x = m.now x := rfl
theorem with_clus_nTiles (m : Mach) (u : Vector Cluster 16)  : ({ m with clus := u } : Mach).nTiles  = m.nTiles  := rfl

/-! An update of `hands` alone. -/

theorem with_hands_part (m : Mach) (u : Vector Hand 16) : ({ m with hands := u } : Mach).part = m.part := rfl
theorem with_hands_arr (m : Mach) (u : Vector Hand 16) : ({ m with hands := u } : Mach).arr = m.arr := rfl
theorem with_hands_winAsm (m : Mach) (u : Vector Hand 16) : ({ m with hands := u } : Mach).winAsm = m.winAsm := rfl
theorem with_hands_dram (m : Mach) (u : Vector Hand 16) : ({ m with hands := u } : Mach).dram = m.dram := rfl
theorem with_hands_dramMark (m : Mach) (u : Vector Hand 16) : ({ m with hands := u } : Mach).dramMark = m.dramMark := rfl
theorem with_hands_tiles (m : Mach) (u : Vector Hand 16) : ({ m with hands := u } : Mach).tiles = m.tiles := rfl
theorem with_hands_clus (m : Mach) (u : Vector Hand 16) : ({ m with hands := u } : Mach).clus = m.clus := rfl
theorem with_hands_cpb (m : Mach) (u : Vector Hand 16) : ({ m with hands := u } : Mach).cpb = m.cpb := rfl
theorem with_hands_pinA (m : Mach) (u : Vector Hand 16) : ({ m with hands := u } : Mach).pinA = m.pinA := rfl
theorem with_hands_pinB (m : Mach) (u : Vector Hand 16) : ({ m with hands := u } : Mach).pinB = m.pinB := rfl
theorem with_hands_msixArmed (m : Mach) (u : Vector Hand 16) : ({ m with hands := u } : Mach).msixArmed = m.msixArmed := rfl
theorem with_hands_kaWinA (m : Mach) (u : Vector Hand 16) : ({ m with hands := u } : Mach).kaWinA = m.kaWinA := rfl
theorem with_hands_kaWinB (m : Mach) (u : Vector Hand 16) : ({ m with hands := u } : Mach).kaWinB = m.kaWinB := rfl
theorem with_hands_kaClock (m : Mach) (u : Vector Hand 16) : ({ m with hands := u } : Mach).kaClock = m.kaClock := rfl
theorem with_hands_testHeld (m : Mach) (u : Vector Hand 16) : ({ m with hands := u } : Mach).testHeld = m.testHeld := rfl
theorem with_hands_refLost (m : Mach) (u : Vector Hand 16) : ({ m with hands := u } : Mach).refLost = m.refLost := rfl
theorem with_hands_pkgLog (m : Mach) (u : Vector Hand 16) : ({ m with hands := u } : Mach).pkgLog = m.pkgLog := rfl
theorem with_hands_free (m : Mach) (u : Vector Hand 16) : ({ m with hands := u } : Mach).free = m.free := rfl
theorem with_hands_out (m : Mach) (u : Vector Hand 16) : ({ m with hands := u } : Mach).out = m.out := rfl
theorem with_hands_slewRate (m : Mach) (u : Vector Hand 16) : ({ m with hands := u } : Mach).slewRate = m.slewRate := rfl
theorem with_hands_slewRemain (m : Mach) (u : Vector Hand 16) : ({ m with hands := u } : Mach).slewRemain = m.slewRemain := rfl
theorem with_hands_slewCount (m : Mach) (u : Vector Hand 16) : ({ m with hands := u } : Mach).slewCount = m.slewCount := rfl
theorem with_hands_declStamp (m : Mach) (u : Vector Hand 16) : ({ m with hands := u } : Mach).declStamp = m.declStamp := rfl
theorem with_hands_copying (m : Mach) (u : Vector Hand 16) : ({ m with hands := u } : Mach).copying = m.copying := rfl
theorem with_hands_viewOf (m : Mach) (u : Vector Hand 16) : ({ m with hands := u } : Mach).viewOf = m.viewOf := rfl
theorem with_hands_joining (m : Mach) (u : Vector Hand 16) : ({ m with hands := u } : Mach).joining = m.joining := rfl
theorem with_hands_jtag (m : Mach) (u : Vector Hand 16) : ({ m with hands := u } : Mach).jtag = m.jtag := rfl
theorem with_hands_heldAcc (m : Mach) (u : Vector Hand 16) : ({ m with hands := u } : Mach).heldAcc = m.heldAcc := rfl
theorem with_hands_regs (m : Mach) (u : Vector Hand 16) : ({ m with hands := u } : Mach).regs = m.regs := rfl
theorem with_hands_tile (m : Mach) (u : Vector Hand 16) (x : Nat) : ({ m with hands := u } : Mach).tile x = m.tile x := rfl
theorem with_hands_clu (m : Mach) (u : Vector Hand 16) (x : Nat) : ({ m with hands := u } : Mach).clu x = m.clu x := rfl
theorem with_hands_word (m : Mach) (u : Vector Hand 16) (k o : Nat) : ({ m with hands := u } : Mach).word k o = m.word k o := rfl
theorem with_hands_rd (m : Mach) (u : Vector Hand 16) (k : Nat) (x : Field) : ({ m with hands := u } : Mach).rd k x = m.rd k x := rfl
theorem with_hands_flag (m : Mach) (u : Vector Hand 16) (k : Nat) (x : Field) : ({ m with hands := u } : Mach).flag k x = m.flag k x := rfl
theorem with_hands_el (m : Mach) (u : Vector Hand 16) (k a' i' : Nat) : ({ m with hands := u } : Mach).el k a' i' = m.el k a' i' := rfl
theorem with_hands_present (m : Mach) (u : Vector Hand 16) (x : Nat) : ({ m with hands := u } : Mach).present x = m.present x := rfl
theorem with_hands_answers (m : Mach) (u : Vector Hand 16) (x : Nat) : ({ m with hands := u } : Mach).answers x = m.answers x := rfl
theorem with_hands_awake (m : Mach) (u : Vector Hand 16) (x : Nat) : ({ m with hands := u } : Mach).awake x = m.awake x := rfl
theorem with_hands_now (m : Mach) (u : Vector Hand 16) (x : Nat) : ({ m with hands := u } : Mach).now x = m.now x := rfl
theorem with_hands_nTiles (m : Mach) (u : Vector Hand 16)  : ({ m with hands := u } : Mach).nTiles  = m.nTiles  := rfl

/-! An update of `out` alone. -/

theorem with_out_part (m : Mach) (u : List Out) : ({ m with out := u } : Mach).part = m.part := rfl
theorem with_out_arr (m : Mach) (u : List Out) : ({ m with out := u } : Mach).arr = m.arr := rfl
theorem with_out_winAsm (m : Mach) (u : List Out) : ({ m with out := u } : Mach).winAsm = m.winAsm := rfl
theorem with_out_dram (m : Mach) (u : List Out) : ({ m with out := u } : Mach).dram = m.dram := rfl
theorem with_out_dramMark (m : Mach) (u : List Out) : ({ m with out := u } : Mach).dramMark = m.dramMark := rfl
theorem with_out_tiles (m : Mach) (u : List Out) : ({ m with out := u } : Mach).tiles = m.tiles := rfl
theorem with_out_clus (m : Mach) (u : List Out) : ({ m with out := u } : Mach).clus = m.clus := rfl
theorem with_out_hands (m : Mach) (u : List Out) : ({ m with out := u } : Mach).hands = m.hands := rfl
theorem with_out_cpb (m : Mach) (u : List Out) : ({ m with out := u } : Mach).cpb = m.cpb := rfl
theorem with_out_pinA (m : Mach) (u : List Out) : ({ m with out := u } : Mach).pinA = m.pinA := rfl
theorem with_out_pinB (m : Mach) (u : List Out) : ({ m with out := u } : Mach).pinB = m.pinB := rfl
theorem with_out_msixArmed (m : Mach) (u : List Out) : ({ m with out := u } : Mach).msixArmed = m.msixArmed := rfl
theorem with_out_kaWinA (m : Mach) (u : List Out) : ({ m with out := u } : Mach).kaWinA = m.kaWinA := rfl
theorem with_out_kaWinB (m : Mach) (u : List Out) : ({ m with out := u } : Mach).kaWinB = m.kaWinB := rfl
theorem with_out_kaClock (m : Mach) (u : List Out) : ({ m with out := u } : Mach).kaClock = m.kaClock := rfl
theorem with_out_testHeld (m : Mach) (u : List Out) : ({ m with out := u } : Mach).testHeld = m.testHeld := rfl
theorem with_out_refLost (m : Mach) (u : List Out) : ({ m with out := u } : Mach).refLost = m.refLost := rfl
theorem with_out_pkgLog (m : Mach) (u : List Out) : ({ m with out := u } : Mach).pkgLog = m.pkgLog := rfl
theorem with_out_free (m : Mach) (u : List Out) : ({ m with out := u } : Mach).free = m.free := rfl
theorem with_out_slewRate (m : Mach) (u : List Out) : ({ m with out := u } : Mach).slewRate = m.slewRate := rfl
theorem with_out_slewRemain (m : Mach) (u : List Out) : ({ m with out := u } : Mach).slewRemain = m.slewRemain := rfl
theorem with_out_slewCount (m : Mach) (u : List Out) : ({ m with out := u } : Mach).slewCount = m.slewCount := rfl
theorem with_out_declStamp (m : Mach) (u : List Out) : ({ m with out := u } : Mach).declStamp = m.declStamp := rfl
theorem with_out_copying (m : Mach) (u : List Out) : ({ m with out := u } : Mach).copying = m.copying := rfl
theorem with_out_viewOf (m : Mach) (u : List Out) : ({ m with out := u } : Mach).viewOf = m.viewOf := rfl
theorem with_out_joining (m : Mach) (u : List Out) : ({ m with out := u } : Mach).joining = m.joining := rfl
theorem with_out_jtag (m : Mach) (u : List Out) : ({ m with out := u } : Mach).jtag = m.jtag := rfl
theorem with_out_heldAcc (m : Mach) (u : List Out) : ({ m with out := u } : Mach).heldAcc = m.heldAcc := rfl
theorem with_out_regs (m : Mach) (u : List Out) : ({ m with out := u } : Mach).regs = m.regs := rfl
theorem with_out_tile (m : Mach) (u : List Out) (x : Nat) : ({ m with out := u } : Mach).tile x = m.tile x := rfl
theorem with_out_clu (m : Mach) (u : List Out) (x : Nat) : ({ m with out := u } : Mach).clu x = m.clu x := rfl
theorem with_out_hand (m : Mach) (u : List Out) (x : Nat) : ({ m with out := u } : Mach).hand x = m.hand x := rfl
theorem with_out_word (m : Mach) (u : List Out) (k o : Nat) : ({ m with out := u } : Mach).word k o = m.word k o := rfl
theorem with_out_rd (m : Mach) (u : List Out) (k : Nat) (x : Field) : ({ m with out := u } : Mach).rd k x = m.rd k x := rfl
theorem with_out_flag (m : Mach) (u : List Out) (k : Nat) (x : Field) : ({ m with out := u } : Mach).flag k x = m.flag k x := rfl
theorem with_out_el (m : Mach) (u : List Out) (k a' i' : Nat) : ({ m with out := u } : Mach).el k a' i' = m.el k a' i' := rfl
theorem with_out_present (m : Mach) (u : List Out) (x : Nat) : ({ m with out := u } : Mach).present x = m.present x := rfl
theorem with_out_answers (m : Mach) (u : List Out) (x : Nat) : ({ m with out := u } : Mach).answers x = m.answers x := rfl
theorem with_out_awake (m : Mach) (u : List Out) (x : Nat) : ({ m with out := u } : Mach).awake x = m.awake x := rfl
theorem with_out_now (m : Mach) (u : List Out) (x : Nat) : ({ m with out := u } : Mach).now x = m.now x := rfl
theorem with_out_nTiles (m : Mach) (u : List Out)  : ({ m with out := u } : Mach).nTiles  = m.nTiles  := rfl

/-! `setWord` -/

@[simp] theorem setWord_part (m : Mach) (pk off : Nat) (w : Word) : (m.setWord pk off w).part = m.part := with_regs_part m (Store.set (resetWord (pk * 4096 + off)) m.regs (pk * 4096 + off) w)
@[simp] theorem setWord_arr (m : Mach) (pk off : Nat) (w : Word) : (m.setWord pk off w).arr = m.arr := with_regs_arr m (Store.set (resetWord (pk * 4096 + off)) m.regs (pk * 4096 + off) w)
@[simp] theorem setWord_winAsm (m : Mach) (pk off : Nat) (w : Word) : (m.setWord pk off w).winAsm = m.winAsm := with_regs_winAsm m (Store.set (resetWord (pk * 4096 + off)) m.regs (pk * 4096 + off) w)
@[simp] theorem setWord_dram (m : Mach) (pk off : Nat) (w : Word) : (m.setWord pk off w).dram = m.dram := with_regs_dram m (Store.set (resetWord (pk * 4096 + off)) m.regs (pk * 4096 + off) w)
@[simp] theorem setWord_dramMark (m : Mach) (pk off : Nat) (w : Word) : (m.setWord pk off w).dramMark = m.dramMark := with_regs_dramMark m (Store.set (resetWord (pk * 4096 + off)) m.regs (pk * 4096 + off) w)
@[simp] theorem setWord_tiles (m : Mach) (pk off : Nat) (w : Word) : (m.setWord pk off w).tiles = m.tiles := with_regs_tiles m (Store.set (resetWord (pk * 4096 + off)) m.regs (pk * 4096 + off) w)
@[simp] theorem setWord_clus (m : Mach) (pk off : Nat) (w : Word) : (m.setWord pk off w).clus = m.clus := with_regs_clus m (Store.set (resetWord (pk * 4096 + off)) m.regs (pk * 4096 + off) w)
@[simp] theorem setWord_hands (m : Mach) (pk off : Nat) (w : Word) : (m.setWord pk off w).hands = m.hands := with_regs_hands m (Store.set (resetWord (pk * 4096 + off)) m.regs (pk * 4096 + off) w)
@[simp] theorem setWord_cpb (m : Mach) (pk off : Nat) (w : Word) : (m.setWord pk off w).cpb = m.cpb := with_regs_cpb m (Store.set (resetWord (pk * 4096 + off)) m.regs (pk * 4096 + off) w)
@[simp] theorem setWord_pinA (m : Mach) (pk off : Nat) (w : Word) : (m.setWord pk off w).pinA = m.pinA := with_regs_pinA m (Store.set (resetWord (pk * 4096 + off)) m.regs (pk * 4096 + off) w)
@[simp] theorem setWord_pinB (m : Mach) (pk off : Nat) (w : Word) : (m.setWord pk off w).pinB = m.pinB := with_regs_pinB m (Store.set (resetWord (pk * 4096 + off)) m.regs (pk * 4096 + off) w)
@[simp] theorem setWord_msixArmed (m : Mach) (pk off : Nat) (w : Word) : (m.setWord pk off w).msixArmed = m.msixArmed := with_regs_msixArmed m (Store.set (resetWord (pk * 4096 + off)) m.regs (pk * 4096 + off) w)
@[simp] theorem setWord_kaWinA (m : Mach) (pk off : Nat) (w : Word) : (m.setWord pk off w).kaWinA = m.kaWinA := with_regs_kaWinA m (Store.set (resetWord (pk * 4096 + off)) m.regs (pk * 4096 + off) w)
@[simp] theorem setWord_kaWinB (m : Mach) (pk off : Nat) (w : Word) : (m.setWord pk off w).kaWinB = m.kaWinB := with_regs_kaWinB m (Store.set (resetWord (pk * 4096 + off)) m.regs (pk * 4096 + off) w)
@[simp] theorem setWord_kaClock (m : Mach) (pk off : Nat) (w : Word) : (m.setWord pk off w).kaClock = m.kaClock := with_regs_kaClock m (Store.set (resetWord (pk * 4096 + off)) m.regs (pk * 4096 + off) w)
@[simp] theorem setWord_testHeld (m : Mach) (pk off : Nat) (w : Word) : (m.setWord pk off w).testHeld = m.testHeld := with_regs_testHeld m (Store.set (resetWord (pk * 4096 + off)) m.regs (pk * 4096 + off) w)
@[simp] theorem setWord_refLost (m : Mach) (pk off : Nat) (w : Word) : (m.setWord pk off w).refLost = m.refLost := with_regs_refLost m (Store.set (resetWord (pk * 4096 + off)) m.regs (pk * 4096 + off) w)
@[simp] theorem setWord_pkgLog (m : Mach) (pk off : Nat) (w : Word) : (m.setWord pk off w).pkgLog = m.pkgLog := with_regs_pkgLog m (Store.set (resetWord (pk * 4096 + off)) m.regs (pk * 4096 + off) w)
@[simp] theorem setWord_free (m : Mach) (pk off : Nat) (w : Word) : (m.setWord pk off w).free = m.free := with_regs_free m (Store.set (resetWord (pk * 4096 + off)) m.regs (pk * 4096 + off) w)
@[simp] theorem setWord_out (m : Mach) (pk off : Nat) (w : Word) : (m.setWord pk off w).out = m.out := with_regs_out m (Store.set (resetWord (pk * 4096 + off)) m.regs (pk * 4096 + off) w)
@[simp] theorem setWord_slewRate (m : Mach) (pk off : Nat) (w : Word) : (m.setWord pk off w).slewRate = m.slewRate := with_regs_slewRate m (Store.set (resetWord (pk * 4096 + off)) m.regs (pk * 4096 + off) w)
@[simp] theorem setWord_slewRemain (m : Mach) (pk off : Nat) (w : Word) : (m.setWord pk off w).slewRemain = m.slewRemain := with_regs_slewRemain m (Store.set (resetWord (pk * 4096 + off)) m.regs (pk * 4096 + off) w)
@[simp] theorem setWord_slewCount (m : Mach) (pk off : Nat) (w : Word) : (m.setWord pk off w).slewCount = m.slewCount := with_regs_slewCount m (Store.set (resetWord (pk * 4096 + off)) m.regs (pk * 4096 + off) w)
@[simp] theorem setWord_declStamp (m : Mach) (pk off : Nat) (w : Word) : (m.setWord pk off w).declStamp = m.declStamp := with_regs_declStamp m (Store.set (resetWord (pk * 4096 + off)) m.regs (pk * 4096 + off) w)
@[simp] theorem setWord_copying (m : Mach) (pk off : Nat) (w : Word) : (m.setWord pk off w).copying = m.copying := with_regs_copying m (Store.set (resetWord (pk * 4096 + off)) m.regs (pk * 4096 + off) w)
@[simp] theorem setWord_viewOf (m : Mach) (pk off : Nat) (w : Word) : (m.setWord pk off w).viewOf = m.viewOf := with_regs_viewOf m (Store.set (resetWord (pk * 4096 + off)) m.regs (pk * 4096 + off) w)
@[simp] theorem setWord_joining (m : Mach) (pk off : Nat) (w : Word) : (m.setWord pk off w).joining = m.joining := with_regs_joining m (Store.set (resetWord (pk * 4096 + off)) m.regs (pk * 4096 + off) w)
@[simp] theorem setWord_jtag (m : Mach) (pk off : Nat) (w : Word) : (m.setWord pk off w).jtag = m.jtag := with_regs_jtag m (Store.set (resetWord (pk * 4096 + off)) m.regs (pk * 4096 + off) w)
@[simp] theorem setWord_heldAcc (m : Mach) (pk off : Nat) (w : Word) : (m.setWord pk off w).heldAcc = m.heldAcc := with_regs_heldAcc m (Store.set (resetWord (pk * 4096 + off)) m.regs (pk * 4096 + off) w)
@[simp] theorem setWord_tile (m : Mach) (pk off : Nat) (w : Word) (x : Nat) : (m.setWord pk off w).tile x = m.tile x := with_regs_tile m (Store.set (resetWord (pk * 4096 + off)) m.regs (pk * 4096 + off) w) x
@[simp] theorem setWord_clu (m : Mach) (pk off : Nat) (w : Word) (x : Nat) : (m.setWord pk off w).clu x = m.clu x := with_regs_clu m (Store.set (resetWord (pk * 4096 + off)) m.regs (pk * 4096 + off) w) x
@[simp] theorem setWord_hand (m : Mach) (pk off : Nat) (w : Word) (x : Nat) : (m.setWord pk off w).hand x = m.hand x := with_regs_hand m (Store.set (resetWord (pk * 4096 + off)) m.regs (pk * 4096 + off) w) x
@[simp] theorem setWord_el (m : Mach) (pk off : Nat) (w : Word) (k a' i' : Nat) : (m.setWord pk off w).el k a' i' = m.el k a' i' := with_regs_el m (Store.set (resetWord (pk * 4096 + off)) m.regs (pk * 4096 + off) w) k a' i'
@[simp] theorem setWord_present (m : Mach) (pk off : Nat) (w : Word) (x : Nat) : (m.setWord pk off w).present x = m.present x := with_regs_present m (Store.set (resetWord (pk * 4096 + off)) m.regs (pk * 4096 + off) w) x
@[simp] theorem setWord_answers (m : Mach) (pk off : Nat) (w : Word) (x : Nat) : (m.setWord pk off w).answers x = m.answers x := with_regs_answers m (Store.set (resetWord (pk * 4096 + off)) m.regs (pk * 4096 + off) w) x
@[simp] theorem setWord_awake (m : Mach) (pk off : Nat) (w : Word) (x : Nat) : (m.setWord pk off w).awake x = m.awake x := with_regs_awake m (Store.set (resetWord (pk * 4096 + off)) m.regs (pk * 4096 + off) w) x
@[simp] theorem setWord_now (m : Mach) (pk off : Nat) (w : Word) (x : Nat) : (m.setWord pk off w).now x = m.now x := with_regs_now m (Store.set (resetWord (pk * 4096 + off)) m.regs (pk * 4096 + off) w) x
@[simp] theorem setWord_nTiles (m : Mach) (pk off : Nat) (w : Word)  : (m.setWord pk off w).nTiles  = m.nTiles  := with_regs_nTiles m (Store.set (resetWord (pk * 4096 + off)) m.regs (pk * 4096 + off) w)

/-! `wr` -/

@[simp] theorem wr_part (m : Mach) (pk : Nat) (f : Field) (v : Nat) : (m.wr pk f v).part = m.part := setWord_part m _ _ _
@[simp] theorem wr_arr (m : Mach) (pk : Nat) (f : Field) (v : Nat) : (m.wr pk f v).arr = m.arr := setWord_arr m _ _ _
@[simp] theorem wr_winAsm (m : Mach) (pk : Nat) (f : Field) (v : Nat) : (m.wr pk f v).winAsm = m.winAsm := setWord_winAsm m _ _ _
@[simp] theorem wr_dram (m : Mach) (pk : Nat) (f : Field) (v : Nat) : (m.wr pk f v).dram = m.dram := setWord_dram m _ _ _
@[simp] theorem wr_dramMark (m : Mach) (pk : Nat) (f : Field) (v : Nat) : (m.wr pk f v).dramMark = m.dramMark := setWord_dramMark m _ _ _
@[simp] theorem wr_tiles (m : Mach) (pk : Nat) (f : Field) (v : Nat) : (m.wr pk f v).tiles = m.tiles := setWord_tiles m _ _ _
@[simp] theorem wr_clus (m : Mach) (pk : Nat) (f : Field) (v : Nat) : (m.wr pk f v).clus = m.clus := setWord_clus m _ _ _
@[simp] theorem wr_hands (m : Mach) (pk : Nat) (f : Field) (v : Nat) : (m.wr pk f v).hands = m.hands := setWord_hands m _ _ _
@[simp] theorem wr_cpb (m : Mach) (pk : Nat) (f : Field) (v : Nat) : (m.wr pk f v).cpb = m.cpb := setWord_cpb m _ _ _
@[simp] theorem wr_pinA (m : Mach) (pk : Nat) (f : Field) (v : Nat) : (m.wr pk f v).pinA = m.pinA := setWord_pinA m _ _ _
@[simp] theorem wr_pinB (m : Mach) (pk : Nat) (f : Field) (v : Nat) : (m.wr pk f v).pinB = m.pinB := setWord_pinB m _ _ _
@[simp] theorem wr_msixArmed (m : Mach) (pk : Nat) (f : Field) (v : Nat) : (m.wr pk f v).msixArmed = m.msixArmed := setWord_msixArmed m _ _ _
@[simp] theorem wr_kaWinA (m : Mach) (pk : Nat) (f : Field) (v : Nat) : (m.wr pk f v).kaWinA = m.kaWinA := setWord_kaWinA m _ _ _
@[simp] theorem wr_kaWinB (m : Mach) (pk : Nat) (f : Field) (v : Nat) : (m.wr pk f v).kaWinB = m.kaWinB := setWord_kaWinB m _ _ _
@[simp] theorem wr_kaClock (m : Mach) (pk : Nat) (f : Field) (v : Nat) : (m.wr pk f v).kaClock = m.kaClock := setWord_kaClock m _ _ _
@[simp] theorem wr_testHeld (m : Mach) (pk : Nat) (f : Field) (v : Nat) : (m.wr pk f v).testHeld = m.testHeld := setWord_testHeld m _ _ _
@[simp] theorem wr_refLost (m : Mach) (pk : Nat) (f : Field) (v : Nat) : (m.wr pk f v).refLost = m.refLost := setWord_refLost m _ _ _
@[simp] theorem wr_pkgLog (m : Mach) (pk : Nat) (f : Field) (v : Nat) : (m.wr pk f v).pkgLog = m.pkgLog := setWord_pkgLog m _ _ _
@[simp] theorem wr_free (m : Mach) (pk : Nat) (f : Field) (v : Nat) : (m.wr pk f v).free = m.free := setWord_free m _ _ _
@[simp] theorem wr_out (m : Mach) (pk : Nat) (f : Field) (v : Nat) : (m.wr pk f v).out = m.out := setWord_out m _ _ _
@[simp] theorem wr_slewRate (m : Mach) (pk : Nat) (f : Field) (v : Nat) : (m.wr pk f v).slewRate = m.slewRate := setWord_slewRate m _ _ _
@[simp] theorem wr_slewRemain (m : Mach) (pk : Nat) (f : Field) (v : Nat) : (m.wr pk f v).slewRemain = m.slewRemain := setWord_slewRemain m _ _ _
@[simp] theorem wr_slewCount (m : Mach) (pk : Nat) (f : Field) (v : Nat) : (m.wr pk f v).slewCount = m.slewCount := setWord_slewCount m _ _ _
@[simp] theorem wr_declStamp (m : Mach) (pk : Nat) (f : Field) (v : Nat) : (m.wr pk f v).declStamp = m.declStamp := setWord_declStamp m _ _ _
@[simp] theorem wr_copying (m : Mach) (pk : Nat) (f : Field) (v : Nat) : (m.wr pk f v).copying = m.copying := setWord_copying m _ _ _
@[simp] theorem wr_viewOf (m : Mach) (pk : Nat) (f : Field) (v : Nat) : (m.wr pk f v).viewOf = m.viewOf := setWord_viewOf m _ _ _
@[simp] theorem wr_joining (m : Mach) (pk : Nat) (f : Field) (v : Nat) : (m.wr pk f v).joining = m.joining := setWord_joining m _ _ _
@[simp] theorem wr_jtag (m : Mach) (pk : Nat) (f : Field) (v : Nat) : (m.wr pk f v).jtag = m.jtag := setWord_jtag m _ _ _
@[simp] theorem wr_heldAcc (m : Mach) (pk : Nat) (f : Field) (v : Nat) : (m.wr pk f v).heldAcc = m.heldAcc := setWord_heldAcc m _ _ _
@[simp] theorem wr_tile (m : Mach) (pk : Nat) (f : Field) (v : Nat) (x : Nat) : (m.wr pk f v).tile x = m.tile x := setWord_tile m _ _ _ x
@[simp] theorem wr_clu (m : Mach) (pk : Nat) (f : Field) (v : Nat) (x : Nat) : (m.wr pk f v).clu x = m.clu x := setWord_clu m _ _ _ x
@[simp] theorem wr_hand (m : Mach) (pk : Nat) (f : Field) (v : Nat) (x : Nat) : (m.wr pk f v).hand x = m.hand x := setWord_hand m _ _ _ x
@[simp] theorem wr_el (m : Mach) (pk : Nat) (f : Field) (v : Nat) (k a' i' : Nat) : (m.wr pk f v).el k a' i' = m.el k a' i' := setWord_el m _ _ _ k a' i'
@[simp] theorem wr_present (m : Mach) (pk : Nat) (f : Field) (v : Nat) (x : Nat) : (m.wr pk f v).present x = m.present x := setWord_present m _ _ _ x
@[simp] theorem wr_answers (m : Mach) (pk : Nat) (f : Field) (v : Nat) (x : Nat) : (m.wr pk f v).answers x = m.answers x := setWord_answers m _ _ _ x
@[simp] theorem wr_awake (m : Mach) (pk : Nat) (f : Field) (v : Nat) (x : Nat) : (m.wr pk f v).awake x = m.awake x := setWord_awake m _ _ _ x
@[simp] theorem wr_now (m : Mach) (pk : Nat) (f : Field) (v : Nat) (x : Nat) : (m.wr pk f v).now x = m.now x := setWord_now m _ _ _ x
@[simp] theorem wr_nTiles (m : Mach) (pk : Nat) (f : Field) (v : Nat)  : (m.wr pk f v).nTiles  = m.nTiles  := setWord_nTiles m _ _ _

/-! `raise` -/

@[simp] theorem raise_part (m : Mach) (pk b : Nat) : (m.raise pk b).part = m.part := setWord_part m _ _ _
@[simp] theorem raise_arr (m : Mach) (pk b : Nat) : (m.raise pk b).arr = m.arr := setWord_arr m _ _ _
@[simp] theorem raise_winAsm (m : Mach) (pk b : Nat) : (m.raise pk b).winAsm = m.winAsm := setWord_winAsm m _ _ _
@[simp] theorem raise_dram (m : Mach) (pk b : Nat) : (m.raise pk b).dram = m.dram := setWord_dram m _ _ _
@[simp] theorem raise_dramMark (m : Mach) (pk b : Nat) : (m.raise pk b).dramMark = m.dramMark := setWord_dramMark m _ _ _
@[simp] theorem raise_tiles (m : Mach) (pk b : Nat) : (m.raise pk b).tiles = m.tiles := setWord_tiles m _ _ _
@[simp] theorem raise_clus (m : Mach) (pk b : Nat) : (m.raise pk b).clus = m.clus := setWord_clus m _ _ _
@[simp] theorem raise_hands (m : Mach) (pk b : Nat) : (m.raise pk b).hands = m.hands := setWord_hands m _ _ _
@[simp] theorem raise_cpb (m : Mach) (pk b : Nat) : (m.raise pk b).cpb = m.cpb := setWord_cpb m _ _ _
@[simp] theorem raise_pinA (m : Mach) (pk b : Nat) : (m.raise pk b).pinA = m.pinA := setWord_pinA m _ _ _
@[simp] theorem raise_pinB (m : Mach) (pk b : Nat) : (m.raise pk b).pinB = m.pinB := setWord_pinB m _ _ _
@[simp] theorem raise_msixArmed (m : Mach) (pk b : Nat) : (m.raise pk b).msixArmed = m.msixArmed := setWord_msixArmed m _ _ _
@[simp] theorem raise_kaWinA (m : Mach) (pk b : Nat) : (m.raise pk b).kaWinA = m.kaWinA := setWord_kaWinA m _ _ _
@[simp] theorem raise_kaWinB (m : Mach) (pk b : Nat) : (m.raise pk b).kaWinB = m.kaWinB := setWord_kaWinB m _ _ _
@[simp] theorem raise_kaClock (m : Mach) (pk b : Nat) : (m.raise pk b).kaClock = m.kaClock := setWord_kaClock m _ _ _
@[simp] theorem raise_testHeld (m : Mach) (pk b : Nat) : (m.raise pk b).testHeld = m.testHeld := setWord_testHeld m _ _ _
@[simp] theorem raise_refLost (m : Mach) (pk b : Nat) : (m.raise pk b).refLost = m.refLost := setWord_refLost m _ _ _
@[simp] theorem raise_pkgLog (m : Mach) (pk b : Nat) : (m.raise pk b).pkgLog = m.pkgLog := setWord_pkgLog m _ _ _
@[simp] theorem raise_free (m : Mach) (pk b : Nat) : (m.raise pk b).free = m.free := setWord_free m _ _ _
@[simp] theorem raise_out (m : Mach) (pk b : Nat) : (m.raise pk b).out = m.out := setWord_out m _ _ _
@[simp] theorem raise_slewRate (m : Mach) (pk b : Nat) : (m.raise pk b).slewRate = m.slewRate := setWord_slewRate m _ _ _
@[simp] theorem raise_slewRemain (m : Mach) (pk b : Nat) : (m.raise pk b).slewRemain = m.slewRemain := setWord_slewRemain m _ _ _
@[simp] theorem raise_slewCount (m : Mach) (pk b : Nat) : (m.raise pk b).slewCount = m.slewCount := setWord_slewCount m _ _ _
@[simp] theorem raise_declStamp (m : Mach) (pk b : Nat) : (m.raise pk b).declStamp = m.declStamp := setWord_declStamp m _ _ _
@[simp] theorem raise_copying (m : Mach) (pk b : Nat) : (m.raise pk b).copying = m.copying := setWord_copying m _ _ _
@[simp] theorem raise_viewOf (m : Mach) (pk b : Nat) : (m.raise pk b).viewOf = m.viewOf := setWord_viewOf m _ _ _
@[simp] theorem raise_joining (m : Mach) (pk b : Nat) : (m.raise pk b).joining = m.joining := setWord_joining m _ _ _
@[simp] theorem raise_jtag (m : Mach) (pk b : Nat) : (m.raise pk b).jtag = m.jtag := setWord_jtag m _ _ _
@[simp] theorem raise_heldAcc (m : Mach) (pk b : Nat) : (m.raise pk b).heldAcc = m.heldAcc := setWord_heldAcc m _ _ _
@[simp] theorem raise_tile (m : Mach) (pk b : Nat) (x : Nat) : (m.raise pk b).tile x = m.tile x := setWord_tile m _ _ _ x
@[simp] theorem raise_clu (m : Mach) (pk b : Nat) (x : Nat) : (m.raise pk b).clu x = m.clu x := setWord_clu m _ _ _ x
@[simp] theorem raise_hand (m : Mach) (pk b : Nat) (x : Nat) : (m.raise pk b).hand x = m.hand x := setWord_hand m _ _ _ x
@[simp] theorem raise_el (m : Mach) (pk b : Nat) (k a' i' : Nat) : (m.raise pk b).el k a' i' = m.el k a' i' := setWord_el m _ _ _ k a' i'
@[simp] theorem raise_present (m : Mach) (pk b : Nat) (x : Nat) : (m.raise pk b).present x = m.present x := setWord_present m _ _ _ x
@[simp] theorem raise_answers (m : Mach) (pk b : Nat) (x : Nat) : (m.raise pk b).answers x = m.answers x := setWord_answers m _ _ _ x
@[simp] theorem raise_awake (m : Mach) (pk b : Nat) (x : Nat) : (m.raise pk b).awake x = m.awake x := setWord_awake m _ _ _ x
@[simp] theorem raise_now (m : Mach) (pk b : Nat) (x : Nat) : (m.raise pk b).now x = m.now x := setWord_now m _ _ _ x
@[simp] theorem raise_nTiles (m : Mach) (pk b : Nat)  : (m.raise pk b).nTiles  = m.nTiles  := setWord_nTiles m _ _ _

/-! `wrb` -/

@[simp] theorem wrb_part (m : Mach) (pk : Nat) (f : Field) (b : Bool) : (m.wrb pk f b).part = m.part := wr_part m _ _ _
@[simp] theorem wrb_arr (m : Mach) (pk : Nat) (f : Field) (b : Bool) : (m.wrb pk f b).arr = m.arr := wr_arr m _ _ _
@[simp] theorem wrb_winAsm (m : Mach) (pk : Nat) (f : Field) (b : Bool) : (m.wrb pk f b).winAsm = m.winAsm := wr_winAsm m _ _ _
@[simp] theorem wrb_dram (m : Mach) (pk : Nat) (f : Field) (b : Bool) : (m.wrb pk f b).dram = m.dram := wr_dram m _ _ _
@[simp] theorem wrb_dramMark (m : Mach) (pk : Nat) (f : Field) (b : Bool) : (m.wrb pk f b).dramMark = m.dramMark := wr_dramMark m _ _ _
@[simp] theorem wrb_tiles (m : Mach) (pk : Nat) (f : Field) (b : Bool) : (m.wrb pk f b).tiles = m.tiles := wr_tiles m _ _ _
@[simp] theorem wrb_clus (m : Mach) (pk : Nat) (f : Field) (b : Bool) : (m.wrb pk f b).clus = m.clus := wr_clus m _ _ _
@[simp] theorem wrb_hands (m : Mach) (pk : Nat) (f : Field) (b : Bool) : (m.wrb pk f b).hands = m.hands := wr_hands m _ _ _
@[simp] theorem wrb_cpb (m : Mach) (pk : Nat) (f : Field) (b : Bool) : (m.wrb pk f b).cpb = m.cpb := wr_cpb m _ _ _
@[simp] theorem wrb_pinA (m : Mach) (pk : Nat) (f : Field) (b : Bool) : (m.wrb pk f b).pinA = m.pinA := wr_pinA m _ _ _
@[simp] theorem wrb_pinB (m : Mach) (pk : Nat) (f : Field) (b : Bool) : (m.wrb pk f b).pinB = m.pinB := wr_pinB m _ _ _
@[simp] theorem wrb_msixArmed (m : Mach) (pk : Nat) (f : Field) (b : Bool) : (m.wrb pk f b).msixArmed = m.msixArmed := wr_msixArmed m _ _ _
@[simp] theorem wrb_kaWinA (m : Mach) (pk : Nat) (f : Field) (b : Bool) : (m.wrb pk f b).kaWinA = m.kaWinA := wr_kaWinA m _ _ _
@[simp] theorem wrb_kaWinB (m : Mach) (pk : Nat) (f : Field) (b : Bool) : (m.wrb pk f b).kaWinB = m.kaWinB := wr_kaWinB m _ _ _
@[simp] theorem wrb_kaClock (m : Mach) (pk : Nat) (f : Field) (b : Bool) : (m.wrb pk f b).kaClock = m.kaClock := wr_kaClock m _ _ _
@[simp] theorem wrb_testHeld (m : Mach) (pk : Nat) (f : Field) (b : Bool) : (m.wrb pk f b).testHeld = m.testHeld := wr_testHeld m _ _ _
@[simp] theorem wrb_refLost (m : Mach) (pk : Nat) (f : Field) (b : Bool) : (m.wrb pk f b).refLost = m.refLost := wr_refLost m _ _ _
@[simp] theorem wrb_pkgLog (m : Mach) (pk : Nat) (f : Field) (b : Bool) : (m.wrb pk f b).pkgLog = m.pkgLog := wr_pkgLog m _ _ _
@[simp] theorem wrb_free (m : Mach) (pk : Nat) (f : Field) (b : Bool) : (m.wrb pk f b).free = m.free := wr_free m _ _ _
@[simp] theorem wrb_out (m : Mach) (pk : Nat) (f : Field) (b : Bool) : (m.wrb pk f b).out = m.out := wr_out m _ _ _
@[simp] theorem wrb_slewRate (m : Mach) (pk : Nat) (f : Field) (b : Bool) : (m.wrb pk f b).slewRate = m.slewRate := wr_slewRate m _ _ _
@[simp] theorem wrb_slewRemain (m : Mach) (pk : Nat) (f : Field) (b : Bool) : (m.wrb pk f b).slewRemain = m.slewRemain := wr_slewRemain m _ _ _
@[simp] theorem wrb_slewCount (m : Mach) (pk : Nat) (f : Field) (b : Bool) : (m.wrb pk f b).slewCount = m.slewCount := wr_slewCount m _ _ _
@[simp] theorem wrb_declStamp (m : Mach) (pk : Nat) (f : Field) (b : Bool) : (m.wrb pk f b).declStamp = m.declStamp := wr_declStamp m _ _ _
@[simp] theorem wrb_copying (m : Mach) (pk : Nat) (f : Field) (b : Bool) : (m.wrb pk f b).copying = m.copying := wr_copying m _ _ _
@[simp] theorem wrb_viewOf (m : Mach) (pk : Nat) (f : Field) (b : Bool) : (m.wrb pk f b).viewOf = m.viewOf := wr_viewOf m _ _ _
@[simp] theorem wrb_joining (m : Mach) (pk : Nat) (f : Field) (b : Bool) : (m.wrb pk f b).joining = m.joining := wr_joining m _ _ _
@[simp] theorem wrb_jtag (m : Mach) (pk : Nat) (f : Field) (b : Bool) : (m.wrb pk f b).jtag = m.jtag := wr_jtag m _ _ _
@[simp] theorem wrb_heldAcc (m : Mach) (pk : Nat) (f : Field) (b : Bool) : (m.wrb pk f b).heldAcc = m.heldAcc := wr_heldAcc m _ _ _
@[simp] theorem wrb_tile (m : Mach) (pk : Nat) (f : Field) (b : Bool) (x : Nat) : (m.wrb pk f b).tile x = m.tile x := wr_tile m _ _ _ x
@[simp] theorem wrb_clu (m : Mach) (pk : Nat) (f : Field) (b : Bool) (x : Nat) : (m.wrb pk f b).clu x = m.clu x := wr_clu m _ _ _ x
@[simp] theorem wrb_hand (m : Mach) (pk : Nat) (f : Field) (b : Bool) (x : Nat) : (m.wrb pk f b).hand x = m.hand x := wr_hand m _ _ _ x
@[simp] theorem wrb_el (m : Mach) (pk : Nat) (f : Field) (b : Bool) (k a' i' : Nat) : (m.wrb pk f b).el k a' i' = m.el k a' i' := wr_el m _ _ _ k a' i'
@[simp] theorem wrb_present (m : Mach) (pk : Nat) (f : Field) (b : Bool) (x : Nat) : (m.wrb pk f b).present x = m.present x := wr_present m _ _ _ x
@[simp] theorem wrb_answers (m : Mach) (pk : Nat) (f : Field) (b : Bool) (x : Nat) : (m.wrb pk f b).answers x = m.answers x := wr_answers m _ _ _ x
@[simp] theorem wrb_awake (m : Mach) (pk : Nat) (f : Field) (b : Bool) (x : Nat) : (m.wrb pk f b).awake x = m.awake x := wr_awake m _ _ _ x
@[simp] theorem wrb_now (m : Mach) (pk : Nat) (f : Field) (b : Bool) (x : Nat) : (m.wrb pk f b).now x = m.now x := wr_now m _ _ _ x
@[simp] theorem wrb_nTiles (m : Mach) (pk : Nat) (f : Field) (b : Bool)  : (m.wrb pk f b).nTiles  = m.nTiles  := wr_nTiles m _ _ _

/-! `incBy` -/

@[simp] theorem incBy_part (m : Mach) (pk : Nat) (f : Field) (k : Nat) : (m.incBy pk f k).part = m.part := wr_part m _ _ _
@[simp] theorem incBy_arr (m : Mach) (pk : Nat) (f : Field) (k : Nat) : (m.incBy pk f k).arr = m.arr := wr_arr m _ _ _
@[simp] theorem incBy_winAsm (m : Mach) (pk : Nat) (f : Field) (k : Nat) : (m.incBy pk f k).winAsm = m.winAsm := wr_winAsm m _ _ _
@[simp] theorem incBy_dram (m : Mach) (pk : Nat) (f : Field) (k : Nat) : (m.incBy pk f k).dram = m.dram := wr_dram m _ _ _
@[simp] theorem incBy_dramMark (m : Mach) (pk : Nat) (f : Field) (k : Nat) : (m.incBy pk f k).dramMark = m.dramMark := wr_dramMark m _ _ _
@[simp] theorem incBy_tiles (m : Mach) (pk : Nat) (f : Field) (k : Nat) : (m.incBy pk f k).tiles = m.tiles := wr_tiles m _ _ _
@[simp] theorem incBy_clus (m : Mach) (pk : Nat) (f : Field) (k : Nat) : (m.incBy pk f k).clus = m.clus := wr_clus m _ _ _
@[simp] theorem incBy_hands (m : Mach) (pk : Nat) (f : Field) (k : Nat) : (m.incBy pk f k).hands = m.hands := wr_hands m _ _ _
@[simp] theorem incBy_cpb (m : Mach) (pk : Nat) (f : Field) (k : Nat) : (m.incBy pk f k).cpb = m.cpb := wr_cpb m _ _ _
@[simp] theorem incBy_pinA (m : Mach) (pk : Nat) (f : Field) (k : Nat) : (m.incBy pk f k).pinA = m.pinA := wr_pinA m _ _ _
@[simp] theorem incBy_pinB (m : Mach) (pk : Nat) (f : Field) (k : Nat) : (m.incBy pk f k).pinB = m.pinB := wr_pinB m _ _ _
@[simp] theorem incBy_msixArmed (m : Mach) (pk : Nat) (f : Field) (k : Nat) : (m.incBy pk f k).msixArmed = m.msixArmed := wr_msixArmed m _ _ _
@[simp] theorem incBy_kaWinA (m : Mach) (pk : Nat) (f : Field) (k : Nat) : (m.incBy pk f k).kaWinA = m.kaWinA := wr_kaWinA m _ _ _
@[simp] theorem incBy_kaWinB (m : Mach) (pk : Nat) (f : Field) (k : Nat) : (m.incBy pk f k).kaWinB = m.kaWinB := wr_kaWinB m _ _ _
@[simp] theorem incBy_kaClock (m : Mach) (pk : Nat) (f : Field) (k : Nat) : (m.incBy pk f k).kaClock = m.kaClock := wr_kaClock m _ _ _
@[simp] theorem incBy_testHeld (m : Mach) (pk : Nat) (f : Field) (k : Nat) : (m.incBy pk f k).testHeld = m.testHeld := wr_testHeld m _ _ _
@[simp] theorem incBy_refLost (m : Mach) (pk : Nat) (f : Field) (k : Nat) : (m.incBy pk f k).refLost = m.refLost := wr_refLost m _ _ _
@[simp] theorem incBy_pkgLog (m : Mach) (pk : Nat) (f : Field) (k : Nat) : (m.incBy pk f k).pkgLog = m.pkgLog := wr_pkgLog m _ _ _
@[simp] theorem incBy_free (m : Mach) (pk : Nat) (f : Field) (k : Nat) : (m.incBy pk f k).free = m.free := wr_free m _ _ _
@[simp] theorem incBy_out (m : Mach) (pk : Nat) (f : Field) (k : Nat) : (m.incBy pk f k).out = m.out := wr_out m _ _ _
@[simp] theorem incBy_slewRate (m : Mach) (pk : Nat) (f : Field) (k : Nat) : (m.incBy pk f k).slewRate = m.slewRate := wr_slewRate m _ _ _
@[simp] theorem incBy_slewRemain (m : Mach) (pk : Nat) (f : Field) (k : Nat) : (m.incBy pk f k).slewRemain = m.slewRemain := wr_slewRemain m _ _ _
@[simp] theorem incBy_slewCount (m : Mach) (pk : Nat) (f : Field) (k : Nat) : (m.incBy pk f k).slewCount = m.slewCount := wr_slewCount m _ _ _
@[simp] theorem incBy_declStamp (m : Mach) (pk : Nat) (f : Field) (k : Nat) : (m.incBy pk f k).declStamp = m.declStamp := wr_declStamp m _ _ _
@[simp] theorem incBy_copying (m : Mach) (pk : Nat) (f : Field) (k : Nat) : (m.incBy pk f k).copying = m.copying := wr_copying m _ _ _
@[simp] theorem incBy_viewOf (m : Mach) (pk : Nat) (f : Field) (k : Nat) : (m.incBy pk f k).viewOf = m.viewOf := wr_viewOf m _ _ _
@[simp] theorem incBy_joining (m : Mach) (pk : Nat) (f : Field) (k : Nat) : (m.incBy pk f k).joining = m.joining := wr_joining m _ _ _
@[simp] theorem incBy_jtag (m : Mach) (pk : Nat) (f : Field) (k : Nat) : (m.incBy pk f k).jtag = m.jtag := wr_jtag m _ _ _
@[simp] theorem incBy_heldAcc (m : Mach) (pk : Nat) (f : Field) (k : Nat) : (m.incBy pk f k).heldAcc = m.heldAcc := wr_heldAcc m _ _ _
@[simp] theorem incBy_tile (m : Mach) (pk : Nat) (f : Field) (k : Nat) (x : Nat) : (m.incBy pk f k).tile x = m.tile x := wr_tile m _ _ _ x
@[simp] theorem incBy_clu (m : Mach) (pk : Nat) (f : Field) (k : Nat) (x : Nat) : (m.incBy pk f k).clu x = m.clu x := wr_clu m _ _ _ x
@[simp] theorem incBy_hand (m : Mach) (pk : Nat) (f : Field) (k : Nat) (x : Nat) : (m.incBy pk f k).hand x = m.hand x := wr_hand m _ _ _ x
@[simp] theorem incBy_el (m : Mach) (pk : Nat) (f : Field) (k : Nat) (k a' i' : Nat) : (m.incBy pk f k).el k a' i' = m.el k a' i' := wr_el m _ _ _ k a' i'
@[simp] theorem incBy_present (m : Mach) (pk : Nat) (f : Field) (k : Nat) (x : Nat) : (m.incBy pk f k).present x = m.present x := wr_present m _ _ _ x
@[simp] theorem incBy_answers (m : Mach) (pk : Nat) (f : Field) (k : Nat) (x : Nat) : (m.incBy pk f k).answers x = m.answers x := wr_answers m _ _ _ x
@[simp] theorem incBy_awake (m : Mach) (pk : Nat) (f : Field) (k : Nat) (x : Nat) : (m.incBy pk f k).awake x = m.awake x := wr_awake m _ _ _ x
@[simp] theorem incBy_now (m : Mach) (pk : Nat) (f : Field) (k : Nat) (x : Nat) : (m.incBy pk f k).now x = m.now x := wr_now m _ _ _ x
@[simp] theorem incBy_nTiles (m : Mach) (pk : Nat) (f : Field) (k : Nat)  : (m.incBy pk f k).nTiles  = m.nTiles  := wr_nTiles m _ _ _

/-! `inc` -/

@[simp] theorem inc_part (m : Mach) (pk : Nat) (f : Field) : (m.inc pk f).part = m.part := wr_part m _ _ _
@[simp] theorem inc_arr (m : Mach) (pk : Nat) (f : Field) : (m.inc pk f).arr = m.arr := wr_arr m _ _ _
@[simp] theorem inc_winAsm (m : Mach) (pk : Nat) (f : Field) : (m.inc pk f).winAsm = m.winAsm := wr_winAsm m _ _ _
@[simp] theorem inc_dram (m : Mach) (pk : Nat) (f : Field) : (m.inc pk f).dram = m.dram := wr_dram m _ _ _
@[simp] theorem inc_dramMark (m : Mach) (pk : Nat) (f : Field) : (m.inc pk f).dramMark = m.dramMark := wr_dramMark m _ _ _
@[simp] theorem inc_tiles (m : Mach) (pk : Nat) (f : Field) : (m.inc pk f).tiles = m.tiles := wr_tiles m _ _ _
@[simp] theorem inc_clus (m : Mach) (pk : Nat) (f : Field) : (m.inc pk f).clus = m.clus := wr_clus m _ _ _
@[simp] theorem inc_hands (m : Mach) (pk : Nat) (f : Field) : (m.inc pk f).hands = m.hands := wr_hands m _ _ _
@[simp] theorem inc_cpb (m : Mach) (pk : Nat) (f : Field) : (m.inc pk f).cpb = m.cpb := wr_cpb m _ _ _
@[simp] theorem inc_pinA (m : Mach) (pk : Nat) (f : Field) : (m.inc pk f).pinA = m.pinA := wr_pinA m _ _ _
@[simp] theorem inc_pinB (m : Mach) (pk : Nat) (f : Field) : (m.inc pk f).pinB = m.pinB := wr_pinB m _ _ _
@[simp] theorem inc_msixArmed (m : Mach) (pk : Nat) (f : Field) : (m.inc pk f).msixArmed = m.msixArmed := wr_msixArmed m _ _ _
@[simp] theorem inc_kaWinA (m : Mach) (pk : Nat) (f : Field) : (m.inc pk f).kaWinA = m.kaWinA := wr_kaWinA m _ _ _
@[simp] theorem inc_kaWinB (m : Mach) (pk : Nat) (f : Field) : (m.inc pk f).kaWinB = m.kaWinB := wr_kaWinB m _ _ _
@[simp] theorem inc_kaClock (m : Mach) (pk : Nat) (f : Field) : (m.inc pk f).kaClock = m.kaClock := wr_kaClock m _ _ _
@[simp] theorem inc_testHeld (m : Mach) (pk : Nat) (f : Field) : (m.inc pk f).testHeld = m.testHeld := wr_testHeld m _ _ _
@[simp] theorem inc_refLost (m : Mach) (pk : Nat) (f : Field) : (m.inc pk f).refLost = m.refLost := wr_refLost m _ _ _
@[simp] theorem inc_pkgLog (m : Mach) (pk : Nat) (f : Field) : (m.inc pk f).pkgLog = m.pkgLog := wr_pkgLog m _ _ _
@[simp] theorem inc_free (m : Mach) (pk : Nat) (f : Field) : (m.inc pk f).free = m.free := wr_free m _ _ _
@[simp] theorem inc_out (m : Mach) (pk : Nat) (f : Field) : (m.inc pk f).out = m.out := wr_out m _ _ _
@[simp] theorem inc_slewRate (m : Mach) (pk : Nat) (f : Field) : (m.inc pk f).slewRate = m.slewRate := wr_slewRate m _ _ _
@[simp] theorem inc_slewRemain (m : Mach) (pk : Nat) (f : Field) : (m.inc pk f).slewRemain = m.slewRemain := wr_slewRemain m _ _ _
@[simp] theorem inc_slewCount (m : Mach) (pk : Nat) (f : Field) : (m.inc pk f).slewCount = m.slewCount := wr_slewCount m _ _ _
@[simp] theorem inc_declStamp (m : Mach) (pk : Nat) (f : Field) : (m.inc pk f).declStamp = m.declStamp := wr_declStamp m _ _ _
@[simp] theorem inc_copying (m : Mach) (pk : Nat) (f : Field) : (m.inc pk f).copying = m.copying := wr_copying m _ _ _
@[simp] theorem inc_viewOf (m : Mach) (pk : Nat) (f : Field) : (m.inc pk f).viewOf = m.viewOf := wr_viewOf m _ _ _
@[simp] theorem inc_joining (m : Mach) (pk : Nat) (f : Field) : (m.inc pk f).joining = m.joining := wr_joining m _ _ _
@[simp] theorem inc_jtag (m : Mach) (pk : Nat) (f : Field) : (m.inc pk f).jtag = m.jtag := wr_jtag m _ _ _
@[simp] theorem inc_heldAcc (m : Mach) (pk : Nat) (f : Field) : (m.inc pk f).heldAcc = m.heldAcc := wr_heldAcc m _ _ _
@[simp] theorem inc_tile (m : Mach) (pk : Nat) (f : Field) (x : Nat) : (m.inc pk f).tile x = m.tile x := wr_tile m _ _ _ x
@[simp] theorem inc_clu (m : Mach) (pk : Nat) (f : Field) (x : Nat) : (m.inc pk f).clu x = m.clu x := wr_clu m _ _ _ x
@[simp] theorem inc_hand (m : Mach) (pk : Nat) (f : Field) (x : Nat) : (m.inc pk f).hand x = m.hand x := wr_hand m _ _ _ x
@[simp] theorem inc_el (m : Mach) (pk : Nat) (f : Field) (k a' i' : Nat) : (m.inc pk f).el k a' i' = m.el k a' i' := wr_el m _ _ _ k a' i'
@[simp] theorem inc_present (m : Mach) (pk : Nat) (f : Field) (x : Nat) : (m.inc pk f).present x = m.present x := wr_present m _ _ _ x
@[simp] theorem inc_answers (m : Mach) (pk : Nat) (f : Field) (x : Nat) : (m.inc pk f).answers x = m.answers x := wr_answers m _ _ _ x
@[simp] theorem inc_awake (m : Mach) (pk : Nat) (f : Field) (x : Nat) : (m.inc pk f).awake x = m.awake x := wr_awake m _ _ _ x
@[simp] theorem inc_now (m : Mach) (pk : Nat) (f : Field) (x : Nat) : (m.inc pk f).now x = m.now x := wr_now m _ _ _ x
@[simp] theorem inc_nTiles (m : Mach) (pk : Nat) (f : Field)  : (m.inc pk f).nTiles  = m.nTiles  := wr_nTiles m _ _ _

/-! `errCount` -/

@[simp] theorem errCount_part (m : Mach) (pk : Nat) : (m.errCount pk).part = m.part := inc_part m _ _
@[simp] theorem errCount_arr (m : Mach) (pk : Nat) : (m.errCount pk).arr = m.arr := inc_arr m _ _
@[simp] theorem errCount_winAsm (m : Mach) (pk : Nat) : (m.errCount pk).winAsm = m.winAsm := inc_winAsm m _ _
@[simp] theorem errCount_dram (m : Mach) (pk : Nat) : (m.errCount pk).dram = m.dram := inc_dram m _ _
@[simp] theorem errCount_dramMark (m : Mach) (pk : Nat) : (m.errCount pk).dramMark = m.dramMark := inc_dramMark m _ _
@[simp] theorem errCount_tiles (m : Mach) (pk : Nat) : (m.errCount pk).tiles = m.tiles := inc_tiles m _ _
@[simp] theorem errCount_clus (m : Mach) (pk : Nat) : (m.errCount pk).clus = m.clus := inc_clus m _ _
@[simp] theorem errCount_hands (m : Mach) (pk : Nat) : (m.errCount pk).hands = m.hands := inc_hands m _ _
@[simp] theorem errCount_cpb (m : Mach) (pk : Nat) : (m.errCount pk).cpb = m.cpb := inc_cpb m _ _
@[simp] theorem errCount_pinA (m : Mach) (pk : Nat) : (m.errCount pk).pinA = m.pinA := inc_pinA m _ _
@[simp] theorem errCount_pinB (m : Mach) (pk : Nat) : (m.errCount pk).pinB = m.pinB := inc_pinB m _ _
@[simp] theorem errCount_msixArmed (m : Mach) (pk : Nat) : (m.errCount pk).msixArmed = m.msixArmed := inc_msixArmed m _ _
@[simp] theorem errCount_kaWinA (m : Mach) (pk : Nat) : (m.errCount pk).kaWinA = m.kaWinA := inc_kaWinA m _ _
@[simp] theorem errCount_kaWinB (m : Mach) (pk : Nat) : (m.errCount pk).kaWinB = m.kaWinB := inc_kaWinB m _ _
@[simp] theorem errCount_kaClock (m : Mach) (pk : Nat) : (m.errCount pk).kaClock = m.kaClock := inc_kaClock m _ _
@[simp] theorem errCount_testHeld (m : Mach) (pk : Nat) : (m.errCount pk).testHeld = m.testHeld := inc_testHeld m _ _
@[simp] theorem errCount_refLost (m : Mach) (pk : Nat) : (m.errCount pk).refLost = m.refLost := inc_refLost m _ _
@[simp] theorem errCount_pkgLog (m : Mach) (pk : Nat) : (m.errCount pk).pkgLog = m.pkgLog := inc_pkgLog m _ _
@[simp] theorem errCount_free (m : Mach) (pk : Nat) : (m.errCount pk).free = m.free := inc_free m _ _
@[simp] theorem errCount_out (m : Mach) (pk : Nat) : (m.errCount pk).out = m.out := inc_out m _ _
@[simp] theorem errCount_slewRate (m : Mach) (pk : Nat) : (m.errCount pk).slewRate = m.slewRate := inc_slewRate m _ _
@[simp] theorem errCount_slewRemain (m : Mach) (pk : Nat) : (m.errCount pk).slewRemain = m.slewRemain := inc_slewRemain m _ _
@[simp] theorem errCount_slewCount (m : Mach) (pk : Nat) : (m.errCount pk).slewCount = m.slewCount := inc_slewCount m _ _
@[simp] theorem errCount_declStamp (m : Mach) (pk : Nat) : (m.errCount pk).declStamp = m.declStamp := inc_declStamp m _ _
@[simp] theorem errCount_copying (m : Mach) (pk : Nat) : (m.errCount pk).copying = m.copying := inc_copying m _ _
@[simp] theorem errCount_viewOf (m : Mach) (pk : Nat) : (m.errCount pk).viewOf = m.viewOf := inc_viewOf m _ _
@[simp] theorem errCount_joining (m : Mach) (pk : Nat) : (m.errCount pk).joining = m.joining := inc_joining m _ _
@[simp] theorem errCount_jtag (m : Mach) (pk : Nat) : (m.errCount pk).jtag = m.jtag := inc_jtag m _ _
@[simp] theorem errCount_heldAcc (m : Mach) (pk : Nat) : (m.errCount pk).heldAcc = m.heldAcc := inc_heldAcc m _ _
@[simp] theorem errCount_tile (m : Mach) (pk : Nat) (x : Nat) : (m.errCount pk).tile x = m.tile x := inc_tile m _ _ x
@[simp] theorem errCount_clu (m : Mach) (pk : Nat) (x : Nat) : (m.errCount pk).clu x = m.clu x := inc_clu m _ _ x
@[simp] theorem errCount_hand (m : Mach) (pk : Nat) (x : Nat) : (m.errCount pk).hand x = m.hand x := inc_hand m _ _ x
@[simp] theorem errCount_el (m : Mach) (pk : Nat) (k a' i' : Nat) : (m.errCount pk).el k a' i' = m.el k a' i' := inc_el m _ _ k a' i'
@[simp] theorem errCount_present (m : Mach) (pk : Nat) (x : Nat) : (m.errCount pk).present x = m.present x := inc_present m _ _ x
@[simp] theorem errCount_answers (m : Mach) (pk : Nat) (x : Nat) : (m.errCount pk).answers x = m.answers x := inc_answers m _ _ x
@[simp] theorem errCount_awake (m : Mach) (pk : Nat) (x : Nat) : (m.errCount pk).awake x = m.awake x := inc_awake m _ _ x
@[simp] theorem errCount_now (m : Mach) (pk : Nat) (x : Nat) : (m.errCount pk).now x = m.now x := inc_now m _ _ x
@[simp] theorem errCount_nTiles (m : Mach) (pk : Nat)  : (m.errCount pk).nTiles  = m.nTiles  := inc_nTiles m _ _

/-! `setEl` -/

@[simp] theorem setEl_part (m : Mach) (pk a i v : Nat) : (m.setEl pk a i v).part = m.part := with_arr_part m (Store.set 0 m.arr (elKey pk a i) v)
@[simp] theorem setEl_winAsm (m : Mach) (pk a i v : Nat) : (m.setEl pk a i v).winAsm = m.winAsm := with_arr_winAsm m (Store.set 0 m.arr (elKey pk a i) v)
@[simp] theorem setEl_dram (m : Mach) (pk a i v : Nat) : (m.setEl pk a i v).dram = m.dram := with_arr_dram m (Store.set 0 m.arr (elKey pk a i) v)
@[simp] theorem setEl_dramMark (m : Mach) (pk a i v : Nat) : (m.setEl pk a i v).dramMark = m.dramMark := with_arr_dramMark m (Store.set 0 m.arr (elKey pk a i) v)
@[simp] theorem setEl_tiles (m : Mach) (pk a i v : Nat) : (m.setEl pk a i v).tiles = m.tiles := with_arr_tiles m (Store.set 0 m.arr (elKey pk a i) v)
@[simp] theorem setEl_clus (m : Mach) (pk a i v : Nat) : (m.setEl pk a i v).clus = m.clus := with_arr_clus m (Store.set 0 m.arr (elKey pk a i) v)
@[simp] theorem setEl_hands (m : Mach) (pk a i v : Nat) : (m.setEl pk a i v).hands = m.hands := with_arr_hands m (Store.set 0 m.arr (elKey pk a i) v)
@[simp] theorem setEl_cpb (m : Mach) (pk a i v : Nat) : (m.setEl pk a i v).cpb = m.cpb := with_arr_cpb m (Store.set 0 m.arr (elKey pk a i) v)
@[simp] theorem setEl_pinA (m : Mach) (pk a i v : Nat) : (m.setEl pk a i v).pinA = m.pinA := with_arr_pinA m (Store.set 0 m.arr (elKey pk a i) v)
@[simp] theorem setEl_pinB (m : Mach) (pk a i v : Nat) : (m.setEl pk a i v).pinB = m.pinB := with_arr_pinB m (Store.set 0 m.arr (elKey pk a i) v)
@[simp] theorem setEl_msixArmed (m : Mach) (pk a i v : Nat) : (m.setEl pk a i v).msixArmed = m.msixArmed := with_arr_msixArmed m (Store.set 0 m.arr (elKey pk a i) v)
@[simp] theorem setEl_kaWinA (m : Mach) (pk a i v : Nat) : (m.setEl pk a i v).kaWinA = m.kaWinA := with_arr_kaWinA m (Store.set 0 m.arr (elKey pk a i) v)
@[simp] theorem setEl_kaWinB (m : Mach) (pk a i v : Nat) : (m.setEl pk a i v).kaWinB = m.kaWinB := with_arr_kaWinB m (Store.set 0 m.arr (elKey pk a i) v)
@[simp] theorem setEl_kaClock (m : Mach) (pk a i v : Nat) : (m.setEl pk a i v).kaClock = m.kaClock := with_arr_kaClock m (Store.set 0 m.arr (elKey pk a i) v)
@[simp] theorem setEl_testHeld (m : Mach) (pk a i v : Nat) : (m.setEl pk a i v).testHeld = m.testHeld := with_arr_testHeld m (Store.set 0 m.arr (elKey pk a i) v)
@[simp] theorem setEl_refLost (m : Mach) (pk a i v : Nat) : (m.setEl pk a i v).refLost = m.refLost := with_arr_refLost m (Store.set 0 m.arr (elKey pk a i) v)
@[simp] theorem setEl_pkgLog (m : Mach) (pk a i v : Nat) : (m.setEl pk a i v).pkgLog = m.pkgLog := with_arr_pkgLog m (Store.set 0 m.arr (elKey pk a i) v)
@[simp] theorem setEl_free (m : Mach) (pk a i v : Nat) : (m.setEl pk a i v).free = m.free := with_arr_free m (Store.set 0 m.arr (elKey pk a i) v)
@[simp] theorem setEl_out (m : Mach) (pk a i v : Nat) : (m.setEl pk a i v).out = m.out := with_arr_out m (Store.set 0 m.arr (elKey pk a i) v)
@[simp] theorem setEl_slewRate (m : Mach) (pk a i v : Nat) : (m.setEl pk a i v).slewRate = m.slewRate := with_arr_slewRate m (Store.set 0 m.arr (elKey pk a i) v)
@[simp] theorem setEl_slewRemain (m : Mach) (pk a i v : Nat) : (m.setEl pk a i v).slewRemain = m.slewRemain := with_arr_slewRemain m (Store.set 0 m.arr (elKey pk a i) v)
@[simp] theorem setEl_slewCount (m : Mach) (pk a i v : Nat) : (m.setEl pk a i v).slewCount = m.slewCount := with_arr_slewCount m (Store.set 0 m.arr (elKey pk a i) v)
@[simp] theorem setEl_declStamp (m : Mach) (pk a i v : Nat) : (m.setEl pk a i v).declStamp = m.declStamp := with_arr_declStamp m (Store.set 0 m.arr (elKey pk a i) v)
@[simp] theorem setEl_copying (m : Mach) (pk a i v : Nat) : (m.setEl pk a i v).copying = m.copying := with_arr_copying m (Store.set 0 m.arr (elKey pk a i) v)
@[simp] theorem setEl_viewOf (m : Mach) (pk a i v : Nat) : (m.setEl pk a i v).viewOf = m.viewOf := with_arr_viewOf m (Store.set 0 m.arr (elKey pk a i) v)
@[simp] theorem setEl_joining (m : Mach) (pk a i v : Nat) : (m.setEl pk a i v).joining = m.joining := with_arr_joining m (Store.set 0 m.arr (elKey pk a i) v)
@[simp] theorem setEl_jtag (m : Mach) (pk a i v : Nat) : (m.setEl pk a i v).jtag = m.jtag := with_arr_jtag m (Store.set 0 m.arr (elKey pk a i) v)
@[simp] theorem setEl_heldAcc (m : Mach) (pk a i v : Nat) : (m.setEl pk a i v).heldAcc = m.heldAcc := with_arr_heldAcc m (Store.set 0 m.arr (elKey pk a i) v)
@[simp] theorem setEl_regs (m : Mach) (pk a i v : Nat) : (m.setEl pk a i v).regs = m.regs := with_arr_regs m (Store.set 0 m.arr (elKey pk a i) v)
@[simp] theorem setEl_tile (m : Mach) (pk a i v : Nat) (x : Nat) : (m.setEl pk a i v).tile x = m.tile x := with_arr_tile m (Store.set 0 m.arr (elKey pk a i) v) x
@[simp] theorem setEl_clu (m : Mach) (pk a i v : Nat) (x : Nat) : (m.setEl pk a i v).clu x = m.clu x := with_arr_clu m (Store.set 0 m.arr (elKey pk a i) v) x
@[simp] theorem setEl_hand (m : Mach) (pk a i v : Nat) (x : Nat) : (m.setEl pk a i v).hand x = m.hand x := with_arr_hand m (Store.set 0 m.arr (elKey pk a i) v) x
@[simp] theorem setEl_word (m : Mach) (pk a i v : Nat) (k o : Nat) : (m.setEl pk a i v).word k o = m.word k o := with_arr_word m (Store.set 0 m.arr (elKey pk a i) v) k o
@[simp] theorem setEl_rd (m : Mach) (pk a i v : Nat) (k : Nat) (x : Field) : (m.setEl pk a i v).rd k x = m.rd k x := with_arr_rd m (Store.set 0 m.arr (elKey pk a i) v) k x
@[simp] theorem setEl_flag (m : Mach) (pk a i v : Nat) (k : Nat) (x : Field) : (m.setEl pk a i v).flag k x = m.flag k x := with_arr_flag m (Store.set 0 m.arr (elKey pk a i) v) k x
@[simp] theorem setEl_present (m : Mach) (pk a i v : Nat) (x : Nat) : (m.setEl pk a i v).present x = m.present x := with_arr_present m (Store.set 0 m.arr (elKey pk a i) v) x
@[simp] theorem setEl_answers (m : Mach) (pk a i v : Nat) (x : Nat) : (m.setEl pk a i v).answers x = m.answers x := with_arr_answers m (Store.set 0 m.arr (elKey pk a i) v) x
@[simp] theorem setEl_awake (m : Mach) (pk a i v : Nat) (x : Nat) : (m.setEl pk a i v).awake x = m.awake x := with_arr_awake m (Store.set 0 m.arr (elKey pk a i) v) x
@[simp] theorem setEl_now (m : Mach) (pk a i v : Nat) (x : Nat) : (m.setEl pk a i v).now x = m.now x := with_arr_now m (Store.set 0 m.arr (elKey pk a i) v) x
@[simp] theorem setEl_nTiles (m : Mach) (pk a i v : Nat)  : (m.setEl pk a i v).nTiles  = m.nTiles  := with_arr_nTiles m (Store.set 0 m.arr (elKey pk a i) v)

/-! `modTile` -/

@[simp] theorem modTile_part (m : Mach) (t : Nat) (f : TileSt → TileSt) : (m.modTile t f).part = m.part := with_tiles_part m (vmod m.tiles t f)
@[simp] theorem modTile_arr (m : Mach) (t : Nat) (f : TileSt → TileSt) : (m.modTile t f).arr = m.arr := with_tiles_arr m (vmod m.tiles t f)
@[simp] theorem modTile_winAsm (m : Mach) (t : Nat) (f : TileSt → TileSt) : (m.modTile t f).winAsm = m.winAsm := with_tiles_winAsm m (vmod m.tiles t f)
@[simp] theorem modTile_dram (m : Mach) (t : Nat) (f : TileSt → TileSt) : (m.modTile t f).dram = m.dram := with_tiles_dram m (vmod m.tiles t f)
@[simp] theorem modTile_dramMark (m : Mach) (t : Nat) (f : TileSt → TileSt) : (m.modTile t f).dramMark = m.dramMark := with_tiles_dramMark m (vmod m.tiles t f)
@[simp] theorem modTile_clus (m : Mach) (t : Nat) (f : TileSt → TileSt) : (m.modTile t f).clus = m.clus := with_tiles_clus m (vmod m.tiles t f)
@[simp] theorem modTile_hands (m : Mach) (t : Nat) (f : TileSt → TileSt) : (m.modTile t f).hands = m.hands := with_tiles_hands m (vmod m.tiles t f)
@[simp] theorem modTile_cpb (m : Mach) (t : Nat) (f : TileSt → TileSt) : (m.modTile t f).cpb = m.cpb := with_tiles_cpb m (vmod m.tiles t f)
@[simp] theorem modTile_pinA (m : Mach) (t : Nat) (f : TileSt → TileSt) : (m.modTile t f).pinA = m.pinA := with_tiles_pinA m (vmod m.tiles t f)
@[simp] theorem modTile_pinB (m : Mach) (t : Nat) (f : TileSt → TileSt) : (m.modTile t f).pinB = m.pinB := with_tiles_pinB m (vmod m.tiles t f)
@[simp] theorem modTile_msixArmed (m : Mach) (t : Nat) (f : TileSt → TileSt) : (m.modTile t f).msixArmed = m.msixArmed := with_tiles_msixArmed m (vmod m.tiles t f)
@[simp] theorem modTile_kaWinA (m : Mach) (t : Nat) (f : TileSt → TileSt) : (m.modTile t f).kaWinA = m.kaWinA := with_tiles_kaWinA m (vmod m.tiles t f)
@[simp] theorem modTile_kaWinB (m : Mach) (t : Nat) (f : TileSt → TileSt) : (m.modTile t f).kaWinB = m.kaWinB := with_tiles_kaWinB m (vmod m.tiles t f)
@[simp] theorem modTile_kaClock (m : Mach) (t : Nat) (f : TileSt → TileSt) : (m.modTile t f).kaClock = m.kaClock := with_tiles_kaClock m (vmod m.tiles t f)
@[simp] theorem modTile_testHeld (m : Mach) (t : Nat) (f : TileSt → TileSt) : (m.modTile t f).testHeld = m.testHeld := with_tiles_testHeld m (vmod m.tiles t f)
@[simp] theorem modTile_refLost (m : Mach) (t : Nat) (f : TileSt → TileSt) : (m.modTile t f).refLost = m.refLost := with_tiles_refLost m (vmod m.tiles t f)
@[simp] theorem modTile_pkgLog (m : Mach) (t : Nat) (f : TileSt → TileSt) : (m.modTile t f).pkgLog = m.pkgLog := with_tiles_pkgLog m (vmod m.tiles t f)
@[simp] theorem modTile_free (m : Mach) (t : Nat) (f : TileSt → TileSt) : (m.modTile t f).free = m.free := with_tiles_free m (vmod m.tiles t f)
@[simp] theorem modTile_out (m : Mach) (t : Nat) (f : TileSt → TileSt) : (m.modTile t f).out = m.out := with_tiles_out m (vmod m.tiles t f)
@[simp] theorem modTile_slewRate (m : Mach) (t : Nat) (f : TileSt → TileSt) : (m.modTile t f).slewRate = m.slewRate := with_tiles_slewRate m (vmod m.tiles t f)
@[simp] theorem modTile_slewRemain (m : Mach) (t : Nat) (f : TileSt → TileSt) : (m.modTile t f).slewRemain = m.slewRemain := with_tiles_slewRemain m (vmod m.tiles t f)
@[simp] theorem modTile_slewCount (m : Mach) (t : Nat) (f : TileSt → TileSt) : (m.modTile t f).slewCount = m.slewCount := with_tiles_slewCount m (vmod m.tiles t f)
@[simp] theorem modTile_declStamp (m : Mach) (t : Nat) (f : TileSt → TileSt) : (m.modTile t f).declStamp = m.declStamp := with_tiles_declStamp m (vmod m.tiles t f)
@[simp] theorem modTile_copying (m : Mach) (t : Nat) (f : TileSt → TileSt) : (m.modTile t f).copying = m.copying := with_tiles_copying m (vmod m.tiles t f)
@[simp] theorem modTile_viewOf (m : Mach) (t : Nat) (f : TileSt → TileSt) : (m.modTile t f).viewOf = m.viewOf := with_tiles_viewOf m (vmod m.tiles t f)
@[simp] theorem modTile_joining (m : Mach) (t : Nat) (f : TileSt → TileSt) : (m.modTile t f).joining = m.joining := with_tiles_joining m (vmod m.tiles t f)
@[simp] theorem modTile_jtag (m : Mach) (t : Nat) (f : TileSt → TileSt) : (m.modTile t f).jtag = m.jtag := with_tiles_jtag m (vmod m.tiles t f)
@[simp] theorem modTile_heldAcc (m : Mach) (t : Nat) (f : TileSt → TileSt) : (m.modTile t f).heldAcc = m.heldAcc := with_tiles_heldAcc m (vmod m.tiles t f)
@[simp] theorem modTile_regs (m : Mach) (t : Nat) (f : TileSt → TileSt) : (m.modTile t f).regs = m.regs := with_tiles_regs m (vmod m.tiles t f)
@[simp] theorem modTile_clu (m : Mach) (t : Nat) (f : TileSt → TileSt) (x : Nat) : (m.modTile t f).clu x = m.clu x := with_tiles_clu m (vmod m.tiles t f) x
@[simp] theorem modTile_hand (m : Mach) (t : Nat) (f : TileSt → TileSt) (x : Nat) : (m.modTile t f).hand x = m.hand x := with_tiles_hand m (vmod m.tiles t f) x
@[simp] theorem modTile_word (m : Mach) (t : Nat) (f : TileSt → TileSt) (k o : Nat) : (m.modTile t f).word k o = m.word k o := with_tiles_word m (vmod m.tiles t f) k o
@[simp] theorem modTile_rd (m : Mach) (t : Nat) (f : TileSt → TileSt) (k : Nat) (x : Field) : (m.modTile t f).rd k x = m.rd k x := with_tiles_rd m (vmod m.tiles t f) k x
@[simp] theorem modTile_flag (m : Mach) (t : Nat) (f : TileSt → TileSt) (k : Nat) (x : Field) : (m.modTile t f).flag k x = m.flag k x := with_tiles_flag m (vmod m.tiles t f) k x
@[simp] theorem modTile_el (m : Mach) (t : Nat) (f : TileSt → TileSt) (k a' i' : Nat) : (m.modTile t f).el k a' i' = m.el k a' i' := with_tiles_el m (vmod m.tiles t f) k a' i'
@[simp] theorem modTile_nTiles (m : Mach) (t : Nat) (f : TileSt → TileSt)  : (m.modTile t f).nTiles  = m.nTiles  := with_tiles_nTiles m (vmod m.tiles t f)

/-! `modClu` -/

@[simp] theorem modClu_part (m : Mach) (g : Nat) (f : Cluster → Cluster) : (m.modClu g f).part = m.part := with_clus_part m (vmod m.clus g f)
@[simp] theorem modClu_arr (m : Mach) (g : Nat) (f : Cluster → Cluster) : (m.modClu g f).arr = m.arr := with_clus_arr m (vmod m.clus g f)
@[simp] theorem modClu_winAsm (m : Mach) (g : Nat) (f : Cluster → Cluster) : (m.modClu g f).winAsm = m.winAsm := with_clus_winAsm m (vmod m.clus g f)
@[simp] theorem modClu_dram (m : Mach) (g : Nat) (f : Cluster → Cluster) : (m.modClu g f).dram = m.dram := with_clus_dram m (vmod m.clus g f)
@[simp] theorem modClu_dramMark (m : Mach) (g : Nat) (f : Cluster → Cluster) : (m.modClu g f).dramMark = m.dramMark := with_clus_dramMark m (vmod m.clus g f)
@[simp] theorem modClu_tiles (m : Mach) (g : Nat) (f : Cluster → Cluster) : (m.modClu g f).tiles = m.tiles := with_clus_tiles m (vmod m.clus g f)
@[simp] theorem modClu_hands (m : Mach) (g : Nat) (f : Cluster → Cluster) : (m.modClu g f).hands = m.hands := with_clus_hands m (vmod m.clus g f)
@[simp] theorem modClu_cpb (m : Mach) (g : Nat) (f : Cluster → Cluster) : (m.modClu g f).cpb = m.cpb := with_clus_cpb m (vmod m.clus g f)
@[simp] theorem modClu_pinA (m : Mach) (g : Nat) (f : Cluster → Cluster) : (m.modClu g f).pinA = m.pinA := with_clus_pinA m (vmod m.clus g f)
@[simp] theorem modClu_pinB (m : Mach) (g : Nat) (f : Cluster → Cluster) : (m.modClu g f).pinB = m.pinB := with_clus_pinB m (vmod m.clus g f)
@[simp] theorem modClu_msixArmed (m : Mach) (g : Nat) (f : Cluster → Cluster) : (m.modClu g f).msixArmed = m.msixArmed := with_clus_msixArmed m (vmod m.clus g f)
@[simp] theorem modClu_kaWinA (m : Mach) (g : Nat) (f : Cluster → Cluster) : (m.modClu g f).kaWinA = m.kaWinA := with_clus_kaWinA m (vmod m.clus g f)
@[simp] theorem modClu_kaWinB (m : Mach) (g : Nat) (f : Cluster → Cluster) : (m.modClu g f).kaWinB = m.kaWinB := with_clus_kaWinB m (vmod m.clus g f)
@[simp] theorem modClu_kaClock (m : Mach) (g : Nat) (f : Cluster → Cluster) : (m.modClu g f).kaClock = m.kaClock := with_clus_kaClock m (vmod m.clus g f)
@[simp] theorem modClu_testHeld (m : Mach) (g : Nat) (f : Cluster → Cluster) : (m.modClu g f).testHeld = m.testHeld := with_clus_testHeld m (vmod m.clus g f)
@[simp] theorem modClu_refLost (m : Mach) (g : Nat) (f : Cluster → Cluster) : (m.modClu g f).refLost = m.refLost := with_clus_refLost m (vmod m.clus g f)
@[simp] theorem modClu_pkgLog (m : Mach) (g : Nat) (f : Cluster → Cluster) : (m.modClu g f).pkgLog = m.pkgLog := with_clus_pkgLog m (vmod m.clus g f)
@[simp] theorem modClu_free (m : Mach) (g : Nat) (f : Cluster → Cluster) : (m.modClu g f).free = m.free := with_clus_free m (vmod m.clus g f)
@[simp] theorem modClu_out (m : Mach) (g : Nat) (f : Cluster → Cluster) : (m.modClu g f).out = m.out := with_clus_out m (vmod m.clus g f)
@[simp] theorem modClu_slewRate (m : Mach) (g : Nat) (f : Cluster → Cluster) : (m.modClu g f).slewRate = m.slewRate := with_clus_slewRate m (vmod m.clus g f)
@[simp] theorem modClu_slewRemain (m : Mach) (g : Nat) (f : Cluster → Cluster) : (m.modClu g f).slewRemain = m.slewRemain := with_clus_slewRemain m (vmod m.clus g f)
@[simp] theorem modClu_slewCount (m : Mach) (g : Nat) (f : Cluster → Cluster) : (m.modClu g f).slewCount = m.slewCount := with_clus_slewCount m (vmod m.clus g f)
@[simp] theorem modClu_declStamp (m : Mach) (g : Nat) (f : Cluster → Cluster) : (m.modClu g f).declStamp = m.declStamp := with_clus_declStamp m (vmod m.clus g f)
@[simp] theorem modClu_copying (m : Mach) (g : Nat) (f : Cluster → Cluster) : (m.modClu g f).copying = m.copying := with_clus_copying m (vmod m.clus g f)
@[simp] theorem modClu_viewOf (m : Mach) (g : Nat) (f : Cluster → Cluster) : (m.modClu g f).viewOf = m.viewOf := with_clus_viewOf m (vmod m.clus g f)
@[simp] theorem modClu_joining (m : Mach) (g : Nat) (f : Cluster → Cluster) : (m.modClu g f).joining = m.joining := with_clus_joining m (vmod m.clus g f)
@[simp] theorem modClu_jtag (m : Mach) (g : Nat) (f : Cluster → Cluster) : (m.modClu g f).jtag = m.jtag := with_clus_jtag m (vmod m.clus g f)
@[simp] theorem modClu_heldAcc (m : Mach) (g : Nat) (f : Cluster → Cluster) : (m.modClu g f).heldAcc = m.heldAcc := with_clus_heldAcc m (vmod m.clus g f)
@[simp] theorem modClu_regs (m : Mach) (g : Nat) (f : Cluster → Cluster) : (m.modClu g f).regs = m.regs := with_clus_regs m (vmod m.clus g f)
@[simp] theorem modClu_tile (m : Mach) (g : Nat) (f : Cluster → Cluster) (x : Nat) : (m.modClu g f).tile x = m.tile x := with_clus_tile m (vmod m.clus g f) x
@[simp] theorem modClu_hand (m : Mach) (g : Nat) (f : Cluster → Cluster) (x : Nat) : (m.modClu g f).hand x = m.hand x := with_clus_hand m (vmod m.clus g f) x
@[simp] theorem modClu_word (m : Mach) (g : Nat) (f : Cluster → Cluster) (k o : Nat) : (m.modClu g f).word k o = m.word k o := with_clus_word m (vmod m.clus g f) k o
@[simp] theorem modClu_rd (m : Mach) (g : Nat) (f : Cluster → Cluster) (k : Nat) (x : Field) : (m.modClu g f).rd k x = m.rd k x := with_clus_rd m (vmod m.clus g f) k x
@[simp] theorem modClu_flag (m : Mach) (g : Nat) (f : Cluster → Cluster) (k : Nat) (x : Field) : (m.modClu g f).flag k x = m.flag k x := with_clus_flag m (vmod m.clus g f) k x
@[simp] theorem modClu_el (m : Mach) (g : Nat) (f : Cluster → Cluster) (k a' i' : Nat) : (m.modClu g f).el k a' i' = m.el k a' i' := with_clus_el m (vmod m.clus g f) k a' i'
@[simp] theorem modClu_present (m : Mach) (g : Nat) (f : Cluster → Cluster) (x : Nat) : (m.modClu g f).present x = m.present x := with_clus_present m (vmod m.clus g f) x
@[simp] theorem modClu_answers (m : Mach) (g : Nat) (f : Cluster → Cluster) (x : Nat) : (m.modClu g f).answers x = m.answers x := with_clus_answers m (vmod m.clus g f) x
@[simp] theorem modClu_awake (m : Mach) (g : Nat) (f : Cluster → Cluster) (x : Nat) : (m.modClu g f).awake x = m.awake x := with_clus_awake m (vmod m.clus g f) x
@[simp] theorem modClu_now (m : Mach) (g : Nat) (f : Cluster → Cluster) (x : Nat) : (m.modClu g f).now x = m.now x := with_clus_now m (vmod m.clus g f) x
@[simp] theorem modClu_nTiles (m : Mach) (g : Nat) (f : Cluster → Cluster)  : (m.modClu g f).nTiles  = m.nTiles  := with_clus_nTiles m (vmod m.clus g f)

/-! `modHand` -/

@[simp] theorem modHand_part (m : Mach) (h : Nat) (f : Hand → Hand) : (m.modHand h f).part = m.part := with_hands_part m (vmod m.hands h f)
@[simp] theorem modHand_arr (m : Mach) (h : Nat) (f : Hand → Hand) : (m.modHand h f).arr = m.arr := with_hands_arr m (vmod m.hands h f)
@[simp] theorem modHand_winAsm (m : Mach) (h : Nat) (f : Hand → Hand) : (m.modHand h f).winAsm = m.winAsm := with_hands_winAsm m (vmod m.hands h f)
@[simp] theorem modHand_dram (m : Mach) (h : Nat) (f : Hand → Hand) : (m.modHand h f).dram = m.dram := with_hands_dram m (vmod m.hands h f)
@[simp] theorem modHand_dramMark (m : Mach) (h : Nat) (f : Hand → Hand) : (m.modHand h f).dramMark = m.dramMark := with_hands_dramMark m (vmod m.hands h f)
@[simp] theorem modHand_tiles (m : Mach) (h : Nat) (f : Hand → Hand) : (m.modHand h f).tiles = m.tiles := with_hands_tiles m (vmod m.hands h f)
@[simp] theorem modHand_clus (m : Mach) (h : Nat) (f : Hand → Hand) : (m.modHand h f).clus = m.clus := with_hands_clus m (vmod m.hands h f)
@[simp] theorem modHand_cpb (m : Mach) (h : Nat) (f : Hand → Hand) : (m.modHand h f).cpb = m.cpb := with_hands_cpb m (vmod m.hands h f)
@[simp] theorem modHand_pinA (m : Mach) (h : Nat) (f : Hand → Hand) : (m.modHand h f).pinA = m.pinA := with_hands_pinA m (vmod m.hands h f)
@[simp] theorem modHand_pinB (m : Mach) (h : Nat) (f : Hand → Hand) : (m.modHand h f).pinB = m.pinB := with_hands_pinB m (vmod m.hands h f)
@[simp] theorem modHand_msixArmed (m : Mach) (h : Nat) (f : Hand → Hand) : (m.modHand h f).msixArmed = m.msixArmed := with_hands_msixArmed m (vmod m.hands h f)
@[simp] theorem modHand_kaWinA (m : Mach) (h : Nat) (f : Hand → Hand) : (m.modHand h f).kaWinA = m.kaWinA := with_hands_kaWinA m (vmod m.hands h f)
@[simp] theorem modHand_kaWinB (m : Mach) (h : Nat) (f : Hand → Hand) : (m.modHand h f).kaWinB = m.kaWinB := with_hands_kaWinB m (vmod m.hands h f)
@[simp] theorem modHand_kaClock (m : Mach) (h : Nat) (f : Hand → Hand) : (m.modHand h f).kaClock = m.kaClock := with_hands_kaClock m (vmod m.hands h f)
@[simp] theorem modHand_testHeld (m : Mach) (h : Nat) (f : Hand → Hand) : (m.modHand h f).testHeld = m.testHeld := with_hands_testHeld m (vmod m.hands h f)
@[simp] theorem modHand_refLost (m : Mach) (h : Nat) (f : Hand → Hand) : (m.modHand h f).refLost = m.refLost := with_hands_refLost m (vmod m.hands h f)
@[simp] theorem modHand_pkgLog (m : Mach) (h : Nat) (f : Hand → Hand) : (m.modHand h f).pkgLog = m.pkgLog := with_hands_pkgLog m (vmod m.hands h f)
@[simp] theorem modHand_free (m : Mach) (h : Nat) (f : Hand → Hand) : (m.modHand h f).free = m.free := with_hands_free m (vmod m.hands h f)
@[simp] theorem modHand_out (m : Mach) (h : Nat) (f : Hand → Hand) : (m.modHand h f).out = m.out := with_hands_out m (vmod m.hands h f)
@[simp] theorem modHand_slewRate (m : Mach) (h : Nat) (f : Hand → Hand) : (m.modHand h f).slewRate = m.slewRate := with_hands_slewRate m (vmod m.hands h f)
@[simp] theorem modHand_slewRemain (m : Mach) (h : Nat) (f : Hand → Hand) : (m.modHand h f).slewRemain = m.slewRemain := with_hands_slewRemain m (vmod m.hands h f)
@[simp] theorem modHand_slewCount (m : Mach) (h : Nat) (f : Hand → Hand) : (m.modHand h f).slewCount = m.slewCount := with_hands_slewCount m (vmod m.hands h f)
@[simp] theorem modHand_declStamp (m : Mach) (h : Nat) (f : Hand → Hand) : (m.modHand h f).declStamp = m.declStamp := with_hands_declStamp m (vmod m.hands h f)
@[simp] theorem modHand_copying (m : Mach) (h : Nat) (f : Hand → Hand) : (m.modHand h f).copying = m.copying := with_hands_copying m (vmod m.hands h f)
@[simp] theorem modHand_viewOf (m : Mach) (h : Nat) (f : Hand → Hand) : (m.modHand h f).viewOf = m.viewOf := with_hands_viewOf m (vmod m.hands h f)
@[simp] theorem modHand_joining (m : Mach) (h : Nat) (f : Hand → Hand) : (m.modHand h f).joining = m.joining := with_hands_joining m (vmod m.hands h f)
@[simp] theorem modHand_jtag (m : Mach) (h : Nat) (f : Hand → Hand) : (m.modHand h f).jtag = m.jtag := with_hands_jtag m (vmod m.hands h f)
@[simp] theorem modHand_heldAcc (m : Mach) (h : Nat) (f : Hand → Hand) : (m.modHand h f).heldAcc = m.heldAcc := with_hands_heldAcc m (vmod m.hands h f)
@[simp] theorem modHand_regs (m : Mach) (h : Nat) (f : Hand → Hand) : (m.modHand h f).regs = m.regs := with_hands_regs m (vmod m.hands h f)
@[simp] theorem modHand_tile (m : Mach) (h : Nat) (f : Hand → Hand) (x : Nat) : (m.modHand h f).tile x = m.tile x := with_hands_tile m (vmod m.hands h f) x
@[simp] theorem modHand_clu (m : Mach) (h : Nat) (f : Hand → Hand) (x : Nat) : (m.modHand h f).clu x = m.clu x := with_hands_clu m (vmod m.hands h f) x
@[simp] theorem modHand_word (m : Mach) (h : Nat) (f : Hand → Hand) (k o : Nat) : (m.modHand h f).word k o = m.word k o := with_hands_word m (vmod m.hands h f) k o
@[simp] theorem modHand_rd (m : Mach) (h : Nat) (f : Hand → Hand) (k : Nat) (x : Field) : (m.modHand h f).rd k x = m.rd k x := with_hands_rd m (vmod m.hands h f) k x
@[simp] theorem modHand_flag (m : Mach) (h : Nat) (f : Hand → Hand) (k : Nat) (x : Field) : (m.modHand h f).flag k x = m.flag k x := with_hands_flag m (vmod m.hands h f) k x
@[simp] theorem modHand_el (m : Mach) (h : Nat) (f : Hand → Hand) (k a' i' : Nat) : (m.modHand h f).el k a' i' = m.el k a' i' := with_hands_el m (vmod m.hands h f) k a' i'
@[simp] theorem modHand_present (m : Mach) (h : Nat) (f : Hand → Hand) (x : Nat) : (m.modHand h f).present x = m.present x := with_hands_present m (vmod m.hands h f) x
@[simp] theorem modHand_answers (m : Mach) (h : Nat) (f : Hand → Hand) (x : Nat) : (m.modHand h f).answers x = m.answers x := with_hands_answers m (vmod m.hands h f) x
@[simp] theorem modHand_awake (m : Mach) (h : Nat) (f : Hand → Hand) (x : Nat) : (m.modHand h f).awake x = m.awake x := with_hands_awake m (vmod m.hands h f) x
@[simp] theorem modHand_now (m : Mach) (h : Nat) (f : Hand → Hand) (x : Nat) : (m.modHand h f).now x = m.now x := with_hands_now m (vmod m.hands h f) x
@[simp] theorem modHand_nTiles (m : Mach) (h : Nat) (f : Hand → Hand)  : (m.modHand h f).nTiles  = m.nTiles  := with_hands_nTiles m (vmod m.hands h f)

/-! `emitOut` -/

@[simp] theorem emitOut_part (m : Mach) (o : Out) : (m.emitOut o).part = m.part := with_out_part m (m.out ++ [o])
@[simp] theorem emitOut_arr (m : Mach) (o : Out) : (m.emitOut o).arr = m.arr := with_out_arr m (m.out ++ [o])
@[simp] theorem emitOut_winAsm (m : Mach) (o : Out) : (m.emitOut o).winAsm = m.winAsm := with_out_winAsm m (m.out ++ [o])
@[simp] theorem emitOut_dram (m : Mach) (o : Out) : (m.emitOut o).dram = m.dram := with_out_dram m (m.out ++ [o])
@[simp] theorem emitOut_dramMark (m : Mach) (o : Out) : (m.emitOut o).dramMark = m.dramMark := with_out_dramMark m (m.out ++ [o])
@[simp] theorem emitOut_tiles (m : Mach) (o : Out) : (m.emitOut o).tiles = m.tiles := with_out_tiles m (m.out ++ [o])
@[simp] theorem emitOut_clus (m : Mach) (o : Out) : (m.emitOut o).clus = m.clus := with_out_clus m (m.out ++ [o])
@[simp] theorem emitOut_hands (m : Mach) (o : Out) : (m.emitOut o).hands = m.hands := with_out_hands m (m.out ++ [o])
@[simp] theorem emitOut_cpb (m : Mach) (o : Out) : (m.emitOut o).cpb = m.cpb := with_out_cpb m (m.out ++ [o])
@[simp] theorem emitOut_pinA (m : Mach) (o : Out) : (m.emitOut o).pinA = m.pinA := with_out_pinA m (m.out ++ [o])
@[simp] theorem emitOut_pinB (m : Mach) (o : Out) : (m.emitOut o).pinB = m.pinB := with_out_pinB m (m.out ++ [o])
@[simp] theorem emitOut_msixArmed (m : Mach) (o : Out) : (m.emitOut o).msixArmed = m.msixArmed := with_out_msixArmed m (m.out ++ [o])
@[simp] theorem emitOut_kaWinA (m : Mach) (o : Out) : (m.emitOut o).kaWinA = m.kaWinA := with_out_kaWinA m (m.out ++ [o])
@[simp] theorem emitOut_kaWinB (m : Mach) (o : Out) : (m.emitOut o).kaWinB = m.kaWinB := with_out_kaWinB m (m.out ++ [o])
@[simp] theorem emitOut_kaClock (m : Mach) (o : Out) : (m.emitOut o).kaClock = m.kaClock := with_out_kaClock m (m.out ++ [o])
@[simp] theorem emitOut_testHeld (m : Mach) (o : Out) : (m.emitOut o).testHeld = m.testHeld := with_out_testHeld m (m.out ++ [o])
@[simp] theorem emitOut_refLost (m : Mach) (o : Out) : (m.emitOut o).refLost = m.refLost := with_out_refLost m (m.out ++ [o])
@[simp] theorem emitOut_pkgLog (m : Mach) (o : Out) : (m.emitOut o).pkgLog = m.pkgLog := with_out_pkgLog m (m.out ++ [o])
@[simp] theorem emitOut_free (m : Mach) (o : Out) : (m.emitOut o).free = m.free := with_out_free m (m.out ++ [o])
@[simp] theorem emitOut_slewRate (m : Mach) (o : Out) : (m.emitOut o).slewRate = m.slewRate := with_out_slewRate m (m.out ++ [o])
@[simp] theorem emitOut_slewRemain (m : Mach) (o : Out) : (m.emitOut o).slewRemain = m.slewRemain := with_out_slewRemain m (m.out ++ [o])
@[simp] theorem emitOut_slewCount (m : Mach) (o : Out) : (m.emitOut o).slewCount = m.slewCount := with_out_slewCount m (m.out ++ [o])
@[simp] theorem emitOut_declStamp (m : Mach) (o : Out) : (m.emitOut o).declStamp = m.declStamp := with_out_declStamp m (m.out ++ [o])
@[simp] theorem emitOut_copying (m : Mach) (o : Out) : (m.emitOut o).copying = m.copying := with_out_copying m (m.out ++ [o])
@[simp] theorem emitOut_viewOf (m : Mach) (o : Out) : (m.emitOut o).viewOf = m.viewOf := with_out_viewOf m (m.out ++ [o])
@[simp] theorem emitOut_joining (m : Mach) (o : Out) : (m.emitOut o).joining = m.joining := with_out_joining m (m.out ++ [o])
@[simp] theorem emitOut_jtag (m : Mach) (o : Out) : (m.emitOut o).jtag = m.jtag := with_out_jtag m (m.out ++ [o])
@[simp] theorem emitOut_heldAcc (m : Mach) (o : Out) : (m.emitOut o).heldAcc = m.heldAcc := with_out_heldAcc m (m.out ++ [o])
@[simp] theorem emitOut_regs (m : Mach) (o : Out) : (m.emitOut o).regs = m.regs := with_out_regs m (m.out ++ [o])
@[simp] theorem emitOut_tile (m : Mach) (o : Out) (x : Nat) : (m.emitOut o).tile x = m.tile x := with_out_tile m (m.out ++ [o]) x
@[simp] theorem emitOut_clu (m : Mach) (o : Out) (x : Nat) : (m.emitOut o).clu x = m.clu x := with_out_clu m (m.out ++ [o]) x
@[simp] theorem emitOut_hand (m : Mach) (o : Out) (x : Nat) : (m.emitOut o).hand x = m.hand x := with_out_hand m (m.out ++ [o]) x
@[simp] theorem emitOut_word (m : Mach) (o : Out) (k o' : Nat) : (m.emitOut o).word k o' = m.word k o' := with_out_word m (m.out ++ [o]) k o'
@[simp] theorem emitOut_rd (m : Mach) (o : Out) (k : Nat) (x : Field) : (m.emitOut o).rd k x = m.rd k x := with_out_rd m (m.out ++ [o]) k x
@[simp] theorem emitOut_flag (m : Mach) (o : Out) (k : Nat) (x : Field) : (m.emitOut o).flag k x = m.flag k x := with_out_flag m (m.out ++ [o]) k x
@[simp] theorem emitOut_el (m : Mach) (o : Out) (k a' i' : Nat) : (m.emitOut o).el k a' i' = m.el k a' i' := with_out_el m (m.out ++ [o]) k a' i'
@[simp] theorem emitOut_present (m : Mach) (o : Out) (x : Nat) : (m.emitOut o).present x = m.present x := with_out_present m (m.out ++ [o]) x
@[simp] theorem emitOut_answers (m : Mach) (o : Out) (x : Nat) : (m.emitOut o).answers x = m.answers x := with_out_answers m (m.out ++ [o]) x
@[simp] theorem emitOut_awake (m : Mach) (o : Out) (x : Nat) : (m.emitOut o).awake x = m.awake x := with_out_awake m (m.out ++ [o]) x
@[simp] theorem emitOut_now (m : Mach) (o : Out) (x : Nat) : (m.emitOut o).now x = m.now x := with_out_now m (m.out ++ [o]) x
@[simp] theorem emitOut_nTiles (m : Mach) (o : Out)  : (m.emitOut o).nTiles  = m.nTiles  := with_out_nTiles m (m.out ++ [o])

end Sys2Proof.Machine.Mach
end

