-- ==== Sys2Proof/Laws/Store.lean ====
section
/-!
SUPPORT. Laws of the plain data: a store answers what was last put at a key and keeps every other key and its canonical form; a vector
answers what was last put at an index; bit fields put and read back.
-/

namespace Sys2Proof

namespace Store
variable {α : Type}

theorem get_put_same (d : α) (st : Store α) (k : Nat) (v : α) : get d (put st k v) k = v := by
  induction st with
  | nil => simp [put, get]
  | cons e r ih =>
    obtain ⟨a, x⟩ := e
    unfold put
    split
    · simp [get]
    · split
      · simp [get]
      · rename_i h1 h2
        simp [get, h2, ih]

theorem get_put_ne (d : α) (st : Store α) {k j : Nat} (v : α) (h : j ≠ k) : get d (put st k v) j = get d st j := by
  induction st with
  | nil => simp [put, get, Ne.symm h]
  | cons e r ih =>
    obtain ⟨a, x⟩ := e
    unfold put
    split
    · simp [get, Ne.symm h]
    · split
      · rename_i h1 h2
        subst h2
        simp [get, Ne.symm h]
      · simp [get, ih]

theorem get_erase_same (d : α) (st : Store α) (k : Nat) : get d (erase st k) k = d := by
  induction st with
  | nil => rfl
  | cons e r ih =>
    obtain ⟨a, x⟩ := e
    by_cases ha : a = k
    · simpa [erase, List.filter_cons, ha] using ih
    · simpa [erase, List.filter_cons, ha, get] using ih

theorem get_filter (d : α) (st : Store α) (p : Nat → Bool) {j : Nat} (h : p j = true) :
    get d (st.filter fun e => p e.1) j = get d st j := by
  induction st with
  | nil => rfl
  | cons e r ih =>
    obtain ⟨a, x⟩ := e
    by_cases ha : p a = true
    · simp only [List.filter_cons, ha, if_true, get, ih]
    · have : a ≠ j := fun e => ha (e ▸ h)
      simp only [List.filter_cons, ha, get, this, if_false]
      simpa using ih

theorem get_erase_ne (d : α) (st : Store α) {k j : Nat} (h : j ≠ k) : get d (erase st k) j = get d st j := by
  have := get_filter d st (fun x => decide (x ≠ k)) (j := j) (by simpa using h)
  simpa [erase] using this

variable [DecidableEq α]

/-- What was put at a key is read there. -/
theorem get_set_same (d : α) (st : Store α) (k : Nat) (v : α) : get d (set d st k v) k = v := by
  unfold set
  split
  · rename_i h; rw [h]; exact get_erase_same d st k
  · exact get_put_same d st k v

/-- Every other key reads as before. -/
theorem get_set_ne (d d' : α) (st : Store α) {k j : Nat} (v : α) (h : j ≠ k) : get d (set d' st k v) j = get d st j := by
  unfold set
  split
  · exact get_erase_ne d st h
  · exact get_put_ne d st v h

/-! Canonical form. -/

/-- Every key of the store is above `b`. -/
def above (b : Nat) (st : Store α) : Prop := ∀ e ∈ st, b < e.1

theorem wf_cons (d : Nat → α) (a : Nat) (v : α) (r : Store α) :
    wf d ((a, v) :: r) = true ↔ v ≠ d a ∧ above a r ∧ wf d r = true := by
  induction r generalizing a v with
  | nil => simp [wf, above]
  | cons e r ih =>
    obtain ⟨b, w⟩ := e
    have h1 : wf d ((a, v) :: (b, w) :: r) = (decide (v ≠ d a) && decide (a < b) && wf d ((b, w) :: r)) := rfl
    rw [h1]
    simp only [Bool.and_eq_true, decide_eq_true_eq]
    constructor
    · rintro ⟨⟨p, q⟩, w1⟩
      refine ⟨p, ?_, w1⟩
      intro e he
      rcases List.mem_cons.1 he with rfl | he
      · exact q
      · have := ((ih b w).1 w1).2.1 e he
        exact Nat.lt_trans q this
    · rintro ⟨p, q, w1⟩
      exact ⟨⟨p, q (b, w) (by simp)⟩, w1⟩

theorem wf_filter (d : Nat → α) (st : Store α) (p : Nat × α → Bool) (h : wf d st = true) : wf d (st.filter p) = true := by
  induction st with
  | nil => rfl
  | cons e r ih =>
    obtain ⟨a, v⟩ := e
    obtain ⟨h1, h2, h3⟩ := (wf_cons d a v r).1 h
    by_cases hp : p (a, v) = true
    · rw [List.filter_cons, if_pos hp]
      exact (wf_cons d a v _).2 ⟨h1, fun e he => h2 e (List.mem_filter.1 he).1, ih h3⟩
    · rw [List.filter_cons, if_neg hp]; exact ih h3

omit [DecidableEq α] in
theorem above_put {b k : Nat} {v : α} {st : Store α} (hb : b < k) (h : above b st) : above b (put st k v) := by
  induction st with
  | nil => intro e he; simp [put] at he; subst he; exact hb
  | cons e r ih =>
    obtain ⟨a, x⟩ := e
    have ha : b < a := h (a, x) (by simp)
    have hr : above b r := fun e he => h e (by simp [he])
    unfold put
    split
    · intro e he
      rcases List.mem_cons.1 he with rfl | he
      · exact hb
      · exact h e he
    · split
      · intro e he
        rcases List.mem_cons.1 he with rfl | he
        · exact hb
        · exact hr e he
      · intro e he
        rcases List.mem_cons.1 he with rfl | he
        · exact ha
        · exact ih hr e he

theorem wf_put (d : Nat → α) (st : Store α) (k : Nat) (v : α) (hv : v ≠ d k) (h : wf d st = true) : wf d (put st k v) = true := by
  induction st with
  | nil => simp [put, wf, hv]
  | cons e r ih =>
    obtain ⟨a, x⟩ := e
    obtain ⟨h1, h2, h3⟩ := (wf_cons d a x r).1 h
    unfold put
    split
    · rename_i hk
      refine (wf_cons d k v _).2 ⟨hv, ?_, h⟩
      intro e he
      rcases List.mem_cons.1 he with rfl | he
      · exact hk
      · exact Nat.lt_trans hk (h2 e he)
    · split
      · rename_i hk; subst hk
        exact (wf_cons d a v r).2 ⟨hv, h2, h3⟩
      · rename_i hk1 hk2
        exact (wf_cons d a x _).2 ⟨h1, above_put (by omega) h2, ih h3⟩

/-- A write keeps the canonical form. -/
theorem wf_set (d : Nat → α) (st : Store α) (k : Nat) (v : α) (h : wf d st = true) : wf d (set (d k) st k v) = true := by
  unfold set
  split
  · exact wf_filter d st _ h
  · rename_i hv; exact wf_put d st k v hv h

/-- Clearing a range of keys keeps the canonical form. -/
theorem wf_clear (d : Nat → α) (st : Store α) (lo hi : Nat) (h : wf d st = true) : wf d (clear st lo hi) = true := wf_filter d st _ h

end Store

/-! Vectors. -/

theorem vget_vmod_same {α : Type} [Inhabited α] {n : Nat} (v : Vector α n) (i : Nat) (f : α → α) (h : i < n) :
    vget (vmod v i f) i = f (vget v i) := by
  simp [vget, vmod, h]

theorem vget_vmod_ne {α : Type} [Inhabited α] {n : Nat} (v : Vector α n) {i j : Nat} (f : α → α) (h : j ≠ i) :
    vget (vmod v i f) j = vget v j := by
  unfold vget vmod
  split
  · by_cases hj : j < n
    · simp [hj, Ne.symm h]
    · simp [hj]
  · rfl

/-! Bit fields. -/

theorem bits_lt (n hi lo : Nat) : bits n hi lo < 2 ^ (hi + 1 - lo) := Nat.mod_lt _ (Nat.two_pow_pos _)

theorem bits_eq (n hi lo : Nat) : bits n hi lo = n / 2 ^ lo % 2 ^ (hi + 1 - lo) := by
  simp only [bits, Nat.shiftRight_eq_div_pow]

theorem putBits_split (n lo w v : Nat) (hw : 0 < w) :
    putBits n (lo + w - 1) lo v = 2 ^ lo * (2 ^ w * (n / 2 ^ (lo + w)) + v % 2 ^ w) + n % 2 ^ lo := by
  have e : lo + w - 1 + 1 - lo = w := by omega
  simp only [putBits, bits_eq, e]
  have h1 : n = 2 ^ lo * (n / 2 ^ lo) + n % 2 ^ lo := (Nat.div_add_mod n (2 ^ lo)).symm
  have h2 : n / 2 ^ lo = 2 ^ w * (n / 2 ^ lo / 2 ^ w) + n / 2 ^ lo % 2 ^ w := (Nat.div_add_mod _ _).symm
  have h3 : n / 2 ^ lo / 2 ^ w = n / 2 ^ (lo + w) := by rw [Nat.div_div_eq_div_mul, ← Nat.pow_add]
  rw [h3] at h2
  generalize n / 2 ^ (lo + w) = q at *
  generalize hb : n / 2 ^ lo % 2 ^ w = x at *
  generalize n % 2 ^ lo = r at *
  generalize n / 2 ^ lo = y at *
  have h4 : n = 2 ^ lo * (2 ^ w * q) + x * 2 ^ lo + r := by rw [h1, h2]; ring
  have h5 : n - x * 2 ^ lo = 2 ^ lo * (2 ^ w * q) + r := by omega
  rw [h5]; ring

theorem testBit_putBits (n v i : Nat) {hi lo : Nat} (h : lo ≤ hi) :
    (putBits n hi lo v).testBit i = if lo ≤ i ∧ i ≤ hi then v.testBit (i - lo) else n.testBit i := by
  obtain ⟨w, hw, rfl⟩ : ∃ w, 0 < w ∧ hi = lo + w - 1 := ⟨hi + 1 - lo, by omega, by omega⟩
  rw [putBits_split n lo w v hw, Nat.testBit_two_pow_mul_add _ (Nat.mod_lt _ (Nat.two_pow_pos _)),
    ]
  by_cases h1 : i < lo
  · have : ¬ (lo ≤ i ∧ i ≤ lo + w - 1) := by omega
    simp [h1, this, Nat.testBit_mod_two_pow]
  · rw [if_neg h1, Nat.testBit_two_pow_mul_add _ (Nat.mod_lt _ (Nat.two_pow_pos _))]
    by_cases h2 : i - lo < w
    · have : lo ≤ i ∧ i ≤ lo + w - 1 := by omega
      simp [h2, this, Nat.testBit_mod_two_pow]
    · have h3 : ¬ (lo ≤ i ∧ i ≤ lo + w - 1) := by omega
      rw [if_neg h2, if_neg h3, Nat.testBit_div_two_pow]
      congr 1; omega

theorem testBit_bits (n hi lo i : Nat) : (bits n hi lo).testBit i = (decide (i < hi + 1 - lo) && n.testBit (lo + i)) := by
  simp [bits, Nat.testBit_mod_two_pow, Nat.testBit_shiftRight]

/-- A field put is the field read. -/
theorem bits_putBits_same (n v : Nat) {hi lo : Nat} (h : lo ≤ hi) : bits (putBits n hi lo v) hi lo = v % 2 ^ (hi + 1 - lo) := by
  apply Nat.eq_of_testBit_eq
  intro i
  rw [testBit_bits, testBit_putBits _ _ _ h, Nat.testBit_mod_two_pow]
  by_cases hi' : i < hi + 1 - lo
  · have : lo ≤ lo + i ∧ lo + i ≤ hi := by omega
    simp [hi', this]
  · simp [hi']

/-- A field put leaves a field apart from it as it was. -/
theorem bits_putBits_ne (n v : Nat) {hi lo hi' lo' : Nat} (h : lo ≤ hi) (hd : hi' < lo ∨ hi < lo') :
    bits (putBits n hi lo v) hi' lo' = bits n hi' lo' := by
  apply Nat.eq_of_testBit_eq
  intro i
  rw [testBit_bits, testBit_bits, testBit_putBits _ _ _ h]
  by_cases hi2 : i < hi' + 1 - lo'
  · have : ¬ (lo ≤ lo' + i ∧ lo' + i ≤ hi) := by omega
    simp [hi2, this]
  · simp [hi2]

theorem putBits_lt (n v k : Nat) {hi lo : Nat} (h : lo ≤ hi) (hk : hi < k) (hn : n < 2 ^ k) : putBits n hi lo v < 2 ^ k := by
  apply Nat.lt_pow_two_of_testBit
  intro i hi'
  rw [testBit_putBits _ _ _ h, if_neg (by omega)]
  exact Nat.testBit_lt_two_pow (lt_of_lt_of_le hn (Nat.pow_le_pow_right (by decide) hi'))

end Sys2Proof
end

