-- ==== Sys2Proof/Laws/Words.lean ====
section
/-!
SUPPORT. Laws of register words and fields: what a write of one register or field is read as, there and elsewhere.
-/

namespace Sys2Proof.Machine.Mach

@[simp] theorem word_setWord_same (m : Mach) (pk off : Nat) (w : Word) : (m.setWord pk off w).word pk off = w :=
  Store.get_set_same _ _ _ _

/-- Another register keeps its word. -/
theorem word_setWord_ne (m : Mach) {pk off pk' off' : Nat} (w : Word) (h : pk' * 4096 + off' ≠ pk * 4096 + off) :
    (m.setWord pk off w).word pk' off' = m.word pk' off' :=
  Store.get_set_ne _ _ _ _ h

/-- A register of another page, or at another offset, lies at another address. -/
theorem addr_ne {pk off pk' off' : Nat} (h1 : off < 4096) (h2 : off' < 4096) (h : pk' ≠ pk ∨ off' ≠ off) :
    pk' * 4096 + off' ≠ pk * 4096 + off := by omega

theorem word_setWord_off (m : Mach) {pk off pk' off' : Nat} (w : Word) (h1 : off < 4096) (h2 : off' < 4096)
    (h : pk' ≠ pk ∨ off' ≠ off) : (m.setWord pk off w).word pk' off' = m.word pk' off' :=
  m.word_setWord_ne w (addr_ne h1 h2 h)

theorem word_wr_off (m : Mach) {pk pk' off' : Nat} {f : Field} (v : Nat) (h1 : f.off < 4096) (h2 : off' < 4096)
    (h : pk' ≠ pk ∨ off' ≠ f.off) : (m.wr pk f v).word pk' off' = m.word pk' off' := m.word_setWord_off _ h1 h2 h

theorem word_raise_off (m : Mach) {pk pk' off' b : Nat} (h2 : off' < 4096) (h : pk' ≠ pk ∨ off' ≠ 0x010) :
    (m.raise pk b).word pk' off' = m.word pk' off' := m.word_setWord_off _ (by decide) h2 h

/-- A field is read as it was written, cut to its width. -/
theorem rd_wr_same (m : Mach) (pk : Nat) {f : Field} (v : Nat) (h : f.lo ≤ f.hi) (hk : f.hi < 32) :
    (m.wr pk f v).rd pk f = v % 2 ^ f.width := by
  have hlt := putBits_lt (m.word pk f.off).toNat v 32 h hk (m.word pk f.off).isLt
  simp only [rd, wr, word_setWord_same, BitVec.toNat_ofNat, Nat.mod_eq_of_lt hlt, bits_putBits_same _ _ h, Field.width]

/-- A field apart from the one written keeps its value. -/
theorem rd_wr_apart (m : Mach) (pk : Nat) {f f' : Field} (v : Nat) (h : f.lo ≤ f.hi) (hk : f.hi < 32) (ho : f'.off = f.off)
    (hd : f'.hi < f.lo ∨ f.hi < f'.lo) : (m.wr pk f v).rd pk f' = m.rd pk f' := by
  have hlt := putBits_lt (m.word pk f.off).toNat v 32 h hk (m.word pk f.off).isLt
  simp only [rd, wr, ho, word_setWord_same, BitVec.toNat_ofNat, Nat.mod_eq_of_lt hlt, bits_putBits_ne _ _ h hd]

/-- A field of another register keeps its value. -/
theorem rd_wr_off (m : Mach) {pk pk' : Nat} {f f' : Field} (v : Nat) (h1 : f.off < 4096) (h2 : f'.off < 4096)
    (h : pk' ≠ pk ∨ f'.off ≠ f.off) : (m.wr pk f v).rd pk' f' = m.rd pk' f' := by
  simp only [rd, word_wr_off m v h1 h2 h]

theorem rd_setWord_off (m : Mach) {pk off pk' : Nat} {f' : Field} (w : Word) (h1 : off < 4096) (h2 : f'.off < 4096)
    (h : pk' ≠ pk ∨ f'.off ≠ off) : (m.setWord pk off w).rd pk' f' = m.rd pk' f' := by
  simp only [rd, m.word_setWord_off w h1 h2 h]

theorem rd_raise_off (m : Mach) {pk pk' b : Nat} {f' : Field} (h2 : f'.off < 4096) (h : pk' ≠ pk ∨ f'.off ≠ 0x010) :
    (m.raise pk b).rd pk' f' = m.rd pk' f' := by
  simp only [rd, m.word_raise_off h2 h]

/-- An event raised is shown in INT_RAW. -/
theorem raise_testBit (m : Mach) (pk : Nat) {b : Nat} (hb : b < 32) : ((m.raise pk b).word pk 0x010).toNat.testBit b = true := by
  have h : (m.raise pk b).word pk 0x010 = m.word pk 0x010 ||| BitVec.ofNat 32 (2 ^ b) := m.word_setWord_same _ _ _
  have hlt : (2 : Nat) ^ b < 2 ^ 32 := Nat.pow_lt_pow_right (by decide) hb
  rw [h, BitVec.toNat_or, BitVec.toNat_ofNat, Nat.mod_eq_of_lt hlt, Nat.testBit_or, Nat.testBit_two_pow_self, Bool.or_true]

theorem tile_modTile_same (m : Mach) {t : Nat} (f : TileSt → TileSt) (h : t < 8) : (m.modTile t f).tile t = f (m.tile t) :=
  vget_vmod_same m.tiles t f h

theorem tile_modTile_ne (m : Mach) {t u : Nat} (f : TileSt → TileSt) (h : u ≠ t) : (m.modTile t f).tile u = m.tile u :=
  vget_vmod_ne m.tiles f h

theorem clu_modClu_same (m : Mach) {g : Nat} (f : Cluster → Cluster) (h : g < 16) : (m.modClu g f).clu g = f (m.clu g) :=
  vget_vmod_same m.clus g f h

theorem clu_modClu_ne (m : Mach) {g j : Nat} (f : Cluster → Cluster) (h : j ≠ g) : (m.modClu g f).clu j = m.clu j :=
  vget_vmod_ne m.clus f h

theorem hand_modHand_same (m : Mach) {h : Nat} (f : Hand → Hand) (hh : h < 16) : (m.modHand h f).hand h = f (m.hand h) :=
  vget_vmod_same m.hands h f hh

theorem hand_modHand_ne (m : Mach) {h j : Nat} (f : Hand → Hand) (hj : j ≠ h) : (m.modHand h f).hand j = m.hand j :=
  vget_vmod_ne m.hands f hj

theorem el_setEl_same (m : Mach) (pk a i v : Nat) : (m.setEl pk a i v).el pk a i = v := Store.get_set_same _ _ _ _

/-! The register store, the window elements and the DRAM bytes keep their canonical form. -/

theorem wf_setWord (m : Mach) (pk off : Nat) (w : Word) (h : Store.wf resetWord m.regs = true) :
    Store.wf resetWord (m.setWord pk off w).regs = true := Store.wf_set _ _ _ _ h

theorem wf_resetPage (m : Mach) (pk : Nat) (h : Store.wf resetWord m.regs = true) :
    Store.wf resetWord (m.resetPage pk).regs = true := Store.wf_clear _ _ _ _ h

theorem wf_setEl (m : Mach) (pk a i v : Nat) (h : Store.wf (fun _ => 0) m.arr = true) :
    Store.wf (fun _ => 0) (m.setEl pk a i v).arr = true := Store.wf_set (fun _ => 0) _ _ _ h

theorem wf_dramWrite (m : Mach) (t f : Nat) (bs : List Byte) (h : Store.wf (fun _ => 0) m.dram = true) :
    Store.wf (fun _ => 0) (m.dramWrite t f bs).dram = true := by
  induction bs generalizing m f with
  | nil => exact h
  | cons b r ih => exact ih _ _ (Store.wf_set (fun _ => 0) _ _ _ h)

end Sys2Proof.Machine.Mach
end

