-- ==== Sys2Proof/Laws/Bus.lean ====
section
/-!
SUPPORT. Laws of the register space.
-/

namespace Sys2Proof.Machine

theorem tileOf_pageKey (tf : Nat) (pg : Nat) (h : pg < 256) : tileOf (pageKey tf pg) = tf := by
  simp only [tileOf, pageKey]; omega

theorem pageOf_pageKey (tf : Nat) (pg : Nat) (h : pg < 256) : pageOf (pageKey tf pg) = pg := by
  simp only [pageOf, pageKey]; omega

theorem fieldTile_regAddr {tf pg off : Nat} (ht : tf < 16) (hp : pg < 256) (ho : off < 4096) :
    Mach.fieldTile (regAddr tf pg off) = tf := by
  simp only [Mach.fieldTile, bits_eq, regAddr]; omega

theorem fieldPage_regAddr {tf pg off : Nat} (hp : pg < 256) (ho : off < 4096) :
    Mach.fieldPage (regAddr tf pg off) = pg := by
  simp only [Mach.fieldPage, bits_eq, regAddr]; omega

theorem fieldOff_regAddr {tf pg off : Nat} (ho : off < 4096) (h4 : off % 4 = 0) :
    Mach.fieldOff (regAddr tf pg off) = off := by
  simp only [Mach.fieldOff, bits_eq, regAddr]; omega

theorem any_false_of_isEmpty {α : Type} {l : List α} {f : α → Bool} (h : l.isEmpty = true) : l.any f = false := by
  cases l <;> simp_all

set_option linter.unusedSimpArgs false in
/-- An access to a page of a tile that is not DORMANT, or to one of the pages that never sleep, wakes nothing (R68). -/
theorem accessWake_awake {m : Mach} {tf pg : Nat} (h : m.asleep tf pg = false) : m.accessWake tf pg = m := by
  simp only [Mach.accessWake]
  split
  · rfl
  · rename_i hn
    have hd : (m.tile tf).dormant = false := by simp_all [Mach.asleep]
    simp [Mach.wakeUp, hd]

/-- A write that a page takes is the page's register write (R91–R98), after which the tile wakes if it sleeps (R68). -/
theorem portWrite_takes {m : Mach} {p : Port} {tf pg off : Nat} (v : Word) (ht : tf < 15) (hp : pg < 256) (ho : off < 4096)
    (h4 : off % 4 = 0) (h : m.takes p tf pg off = true) :
    m.portWrite p (regAddr tf pg off) v = (m.regWrite (portNo p) (pageKey tf pg) off v).accessWake tf pg := by
  have e1 := fieldTile_regAddr (tf := tf) (pg := pg) (off := off) (by omega) hp ho
  have e2 := fieldPage_regAddr (tf := tf) (pg := pg) (off := off) hp ho
  have e3 := fieldOff_regAddr (tf := tf) (pg := pg) (off := off) ho h4
  simp only [Mach.takes, Bool.and_eq_true, Bool.not_eq_true'] at h
  obtain ⟨⟨⟨⟨hh, _⟩, hv⟩, hg⟩, hm⟩ := h
  have key : m.portWrite p (regAddr tf pg off) v =
      match m.portEntry (portNo p) with
      | some e => m.accessWrite (portNo p) e (regAddr tf pg off) v
      | none => m := by cases p <;> rfl
  rw [key]
  split at hm
  · rename_i e he
    simp only [Bool.and_eq_true, Bool.not_eq_true', decide_eq_true_eq] at hm
    obtain ⟨⟨hw, hi⟩, htg⟩ := hm
    have hw' : m.portWaits (portNo p) = false := any_false_of_isEmpty hh
    have hi' : m.islandOf e = none := by simpa using hi
    have hn : tf ≠ 15 := by omega
    simp [he, Mach.accessWrite, hw, hw', Mach.hostWrite, Mach.inSeg, hi', Mach.busWrite, e1, Mach.writeOne, e2, e3, htg, hg, hn]
  · simp at hm

/-! ### What a command's effect becomes, and memory that keeps its form -/

/-- A command whose effect is `f` answers the next state of that effect. -/
theorem effect_eq (s : State) (f : Mach → Mach) : s.effect f = .next (s.settled (f s.start)) := rfl

theorem wf_loseDram (m : Mach) (t : Nat) (h : Store.wf (fun _ => 0) m.dram = true) :
    Store.wf (fun _ => 0) (m.loseDram t).dram = true := Store.wf_clear _ _ _ _ h

theorem wf_storeSlot (m : Mach) (g : Nat) (d : Mach.Side) (x : Overlap) (h : Store.wf (fun _ => 0) m.dram = true) :
    Store.wf (fun _ => 0) (m.storeSlot g d x).dram = true := Mach.wf_dramWrite _ _ _ _ h

/-- Storing a line writes its slot and nothing else of registers and DRAM (R274). -/
theorem storeSlot_regs (m : Mach) (g : Nat) (d : Mach.Side) (x : Overlap) :
    (m.storeSlot g d x).regs = (m.dramWrite (g / 2) (m.slotAddr g d x.k) (m.slotFill g d)).regs := rfl

theorem storeSlot_dram (m : Mach) (g : Nat) (d : Mach.Side) (x : Overlap) :
    (m.storeSlot g d x).dram = (m.dramWrite (g / 2) (m.slotAddr g d x.k) (m.slotFill g d)).dram := rfl

theorem wf_reset : Store.wf (fun _ => 0) State.reset.m.dram = true ∧ Store.wf resetWord State.reset.m.regs = true ∧
    Store.wf (fun _ => 0) State.reset.m.arr = true := ⟨rfl, rfl, rfl⟩

end Sys2Proof.Machine
end

