-- ==== Sys2Proof/WellFormed.lean ====
section
/-!
DEFINITION. Operands that a sender, the board or a sensor can present: lists no longer than what the manual's unit has, measured values
inside the width of the field that takes them. A command outside these bounds has a meaning too; the bounds say what the manual gives.
-/

namespace Sys2Proof

/-- At most `n` values below `b`. -/
def smallList (n b : Nat) (l : List Nat) : Bool := decide (l.length ≤ n) && l.all fun x => decide (x < b)

/-- At most `k` such lists. -/
def smallLists (k n b : Nat) (l : List (List Nat)) : Bool := decide (l.length ≤ k) && l.all (smallList n b)

/-- A BAR0 request of 1 to 16 words (R111). -/
def bar0Ok : Bar0Req → Bool
  | .read n => decide (1 ≤ n.val) && decide (n.val ≤ 16)
  | .write ws => decide (1 ≤ ws.length) && decide (ws.length ≤ 16)

/-- At most 6 inputs, their steps in order of time and 6 phases of 16,384 conversions, and 8 lanes of 16-bit words (R149, R152, R156, R168). -/
def lineOk (d : LineData) : Bool :=
  decide (d.inputs.length ≤ 6) && smallLists 8 1048576 65536 d.lanes &&
  d.inputs.all fun x => decide (x.wave.length ≤ 1048576) && (x.wave.zip x.wave.tail).all (fun e => decide (e.1.1 ≤ e.2.1)) &&
    decide (x.err.length ≤ 6) && x.err.all fun e => decide (e.length ≤ 16384)

/-- Findings of at most 8 lanes with 16-bit words (R157, R158). -/
def lanesOk (l : List LaneFind) : Bool :=
  decide (l.length ≤ 8) && l.all fun x => decide (x.word.getD 0 < 65536)

/-- Measured values that fit the factor word of R184. -/
def factorsOk (ofs : Int) (gain : Nat) (skew : Int) (res : Nat) : Bool :=
  decide (-32768 ≤ ofs) && decide (ofs < 32768) && decide (gain < 65536) && decide (-128 ≤ skew) && decide (skew < 128) &&
  decide (res < 256)

/-- Measurements of at most 6 converters of 5 slices. -/
def measOk (l : List (List SliceMeas)) : Bool :=
  decide (l.length ≤ 6) && l.all fun c => decide (c.length ≤ 5) && c.all fun x => factorsOk x.ofs x.gain x.skew x.res

/-- A fit whose values fit the factor word. -/
def fitOk (f : StepFit) : Bool :=
  factorsOk f.ofs f.gain f.skew f.res && factorsOk f.selfOfs f.selfGain 0 f.selfRes

/-- A completion of at most 4096 bytes. -/
def cplOk : Cpl → Bool
  | .ok b => decide (b.length ≤ 4096)
  | _ => true

/-- A frame of at most 9216 bytes (R442). -/
def frameWf (f : Frame) : Bool :=
  match f.body with
  | .icmp e => decide (e.length ≤ 9216)
  | .ptp b => decide (b.length ≤ 9216)
  | .udp _ _ p => decide (p.length ≤ 9216)
  | _ => true

/-- The operands lie within what the manual's units can present (log entry 2). -/
def WellFormed (i : Instr) : Bool :=
  match i with
  | .railDip _ _ => true
  | .powerOnResetRelease _ _ _ _ => true
  | .packageReset _ => true
  | .mainPllLock _ => true
  | .selfTestDone _ _ => true
  | .declarerElection => true
  | .tileRstGo _ _ _ => true
  | .tileReset _ => true
  | .tileResetRelease _ => true
  | .domReqWrite _ _ _ => true
  | .shtModeWrite _ _ _ => true
  | .domainSwitched _ => true
  | .refclkLoss => true
  | .refclkReturn => true
  | .tbCapture _ _ _ => true
  | .tbLoad _ _ _ => true
  | .tbAlarmFire _ => true
  | .ppsInEdge _ => true
  | .blockSoftReset _ _ _ _ => true
  | .pageEnableWrite _ _ _ _ => true
  | .pageLock _ _ _ _ => true
  | .intSet _ _ _ _ => true
  | .commitNow _ _ _ _ => true
  | .commitDeal _ _ _ _ => true
  | .commitLine _ _ _ _ => true
  | .winAddrWrite _ _ _ _ => true
  | .winStep _ _ _ _ => true
  | .winDataWrite _ _ _ _ _ => true
  | .registerWrite _ _ _ => true
  | .bar0Request _ _ req _ => bar0Ok req
  | .aDetach _ _ => true
  | .cpbWrite _ _ _ => true
  | .cpbRead _ _ _ _ => true
  | .cpbFetch _ => true
  | .cpbSetQuad _ => true
  | .cpbSetSingle _ => true
  | .cpbFrameDiscard => true
  | .cpbWriteApply => true
  | .cpbReadComplete => true
  | .semClaim _ _ _ => true
  | .keepalive _ _ => true
  | .keepaliveExpiry _ => true
  | .eoiA _ _ => true
  | .handCfgWrite _ _ _ => true
  | .arm _ _ => true
  | .disarm _ _ => true
  | .toReady _ _ => true
  | .toCalibrate _ _ => true
  | .toScan _ _ => true
  | .holdSet _ _ => true
  | .holdClear _ _ => true
  | .dealStart _ _ => true
  | .dealEnd _ _ => true
  | .handCmdLeaveQueue _ _ => true
  | .handTransition _ _ => true
  | .dealPinEdge _ _ _ => true
  | .maxLinesReached _ _ => true
  | .leadinDone _ _ => true
  | .drainComplete _ _ => true
  | .drainWindowEnd _ _ => true
  | .prep _ _ => true
  | .prepComplete _ => true
  | .dormantRequest _ _ => true
  | .wake _ _ _ _ => true
  | .captureTrigger _ _ hr => smallList 6 65536 hr
  | .trigPinEdge _ _ _ _ hr => smallLists 2 6 65536 hr
  | .phaseSwitch _ _ => true
  | .positionCrossing _ _ _ hr => smallLists 2 6 65536 hr
  | .lineComplete _ inputs lanes => lineOk ⟨inputs, lanes⟩
  | .digitalLineStart _ framing => smallList 1048576 65536 framing.words
  | .readoutTimeout _ => true
  | .laneLockLost _ => true
  | .deskewGo _ _ _ => true
  | .deskewComplete _ lanes => lanesOk lanes
  | .sspiTx _ _ _ => true
  | .sspiRxpop _ _ _ => true
  | .sspiFlush _ _ _ => true
  | .sspiFrameDone _ _ => true
  | .vcFullCal _ _ _ => true
  | .vcCalComplete _ meas => measOk meas
  | .shadowStepComplete _ _ fit => fitOk fit.toStepFit
  | .handover _ _ _ => true
  | .bgStepTimeout _ _ _ fit => fitOk fit
  | .positionSample _ => true
  | .positionTimeout _ => true
  | .accumulate _ errs => decide (errs.length ≤ 4096)
  | .tHostWrite _ _ _ _ => true
  | .tempStale _ _ => true
  | .buildDark _ _ _ => true
  | .buildGain _ _ _ => true
  | .buildDefect _ _ _ => true
  | .buildComplete _ => true
  | .meldTakeLine _ => true
  | .overlapArrival _ _ => true
  | .meldTimeout _ => true
  | .endOfDealNotice _ _ => true
  | .stage9CreditResume _ => true
  | .chkPop _ _ _ => true
  | .checkInject _ _ _ => true
  | .trickOpen _ _ => true
  | .trickClose _ _ => true
  | .trickDelivery _ => true
  | .queFetch _ _ _ => true
  | .quePop _ _ _ => true
  | .queDiscard _ _ _ => true
  | .queReset _ _ _ => true
  | .reapDone _ _ => true
  | .spillWrite _ _ => true
  | .replayTrick _ => true
  | .sramReinit _ _ _ => true
  | .dramInit _ _ _ => true
  | .dramRelease _ _ _ => true
  | .selftest _ _ _ => true
  | .selftestDone _ _ => true
  | .plannerTick leds => smallLists 16 6 65536 leds
  | .levelLost _ _ => true
  | .microstepEvent _ _ => true
  | .axisGo _ _ _ => true
  | .axisStop _ _ _ => true
  | .axisEstop _ _ _ => true
  | .homeGo _ _ _ => true
  | .forget _ _ _ => true
  | .chatClr _ _ _ => true
  | .axisSnap _ _ _ => true
  | .axisDrvEnWrite _ _ _ => true
  | .encoderEdge _ _ => true
  | .limitInputChange _ _ _ => true
  | .drvFault _ _ => true
  | .homingNotFound _ => true
  | .irefHoldTimeout _ => true
  | .bstEnWrite _ _ _ => true
  | .lampDirect _ _ _ => true
  | .shutClr _ _ _ => true
  | .binningReadComplete _ record => (match record with | some b => decide (b.length = 64) | none => true)
  | .lchainGo _ _ _ => true
  | .lchainFrameDone _ => true
  | .patternTick => true
  | .pattStart _ _ _ => true
  | .pattStop _ _ _ => true
  | .monSlot _ _ => true
  | .monCal _ _ _ => true
  | .monCalDone _ _ gain lin => (decide (gain < 65536) && decide (lin.length = 8))
  | .trump _ _ _ => true
  | .monSnap _ _ _ => true
  | .snapPeriod _ => true
  | .snapshotComplete _ => true
  | .feHalfStart _ _ => true
  | .feOverrun _ => true
  | .measFailsafeTimeout _ _ => true
  | .hostRestart _ _ _ => true
  | .linkUp _ _ _ => true
  | .trainFail _ => true
  | .perst _ => true
  | .hotReset _ => true
  | .dlDown _ => true
  | .flr _ => true
  | .pcsLoss _ => true
  | .hostSilent _ => true
  | .doorbell _ _ _ _ _ => true
  | .ethFrameReceived _ frame => frameWf frame
  | .ptpRxPop _ _ _ => true
  | .ptpTxGo _ _ _ => true
  | .ptpTxDone _ => true
  | .slewRateWrite _ _ _ => true
  | .slewOfsWrite _ _ _ => true
  | .controlReq _ _ body => decide (body.length < 9216)
  | .creditGrant _ _ _ _ _ _ => true
  | .thaigEvent _ => true
  | .eventRepeat _ => true
  | .dmaGo _ _ _ => true
  | .dmaStop _ _ _ => true
  | .dmaResume _ _ _ => true
  | .descFetched _ _ cpl => cplOk cpl
  | .descPoll _ _ => true
  | .dmaBurst _ _ => true
  | .dmaTransactionDone _ _ _ cpl => cplOk cpl
  | .dmaTimeout _ _ => true
  | .dramTrainingDone _ _ => true
  | .mr4Read _ _ _ _ => true
  | .dramRetrain _ => true
  | .refreshDue _ _ => true
  | .panicOn _ _ fill _ => decide (fill ≤ 100)
  | .panicOff _ _ fill => decide (fill ≤ 100)
  | .ringLinkDown _ => true
  | .ringLinkUp _ _ _ => true
  | .reachSettle => true
  | .reconcile _ => true
  | .syncSend _ => true
  | .syncReceive _ => true
  | .syncLost _ => true
  | .heartbeatSend _ => true
  | .heartbeatMiss _ _ => true
  | .mirrorCopyDone => true
  | .watchdogCheck _ _ => true
  | .recoveryTimeout _ => true
  | .tileAnswers _ => true
  | .recover _ _ _ => true
  | .ageing _ _ _ => true
  | .twcGo _ _ _ => true
  | .twcAbort _ _ _ => true
  | .twcClear _ _ _ => true
  | .alertRead _ _ _ => true
  | .alertEdge _ _ => true
  | .twcRetryGap _ _ => true
  | .twcTransferEnd _ _ _ data => decide (data.length ≤ 256)
  | .sclLowTimeout _ _ _ data => decide (data.length ≤ 256)
  | .sdaLowTimeout _ _ _ data => decide (data.length ≤ 256)
  | .busClearEnd _ _ => true
  | .gpioEdge _ _ _ _ => true
  | .controlPortsUsable => true
  | .tilePagesAnswer _ => true
  | .bankRailRamp _ _ => true
  | .laneLockGained _ => true
  | .perstRelease _ => true
  | .configRequest _ _ _ => true
  | .msixTableWrite _ _ _ _ => true
  | .bstOkChange _ _ => true
  | .jtagTckEdge _ _ _ _ => true
  | .spillLevelReport _ => true

end Sys2Proof
end

