-- ==== Sys2Proof/Tests/Slice0.lean ====
section
/-!
SUPPORT. Tests: an operand that `WellFormed` refuses for each of its checks; the manual's own worked numbers; and, for every statement
of `Certificates/Slice0/Obligations.lean` that has hypotheses, one theorem `<Name>_hypotheses_met` that shows for each of its clauses
a state and operands meeting all of that clause's hypotheses together.
-/

set_option maxRecDepth 10000
set_option Elab.async false

namespace Sys2Proof.Tests

open Sys2Proof.Machine Sys2Proof.Machine.Mach

/-! ### Ill-formed operands are refused -/

theorem test_bar0_of_17_words_refused :
    WellFormed (.bar0Request 0 0 (.read 0) false) = false ∧ WellFormed (.bar0Request 0 0 (.write (List.replicate 17 (0, true))) false) = false ∧
    WellFormed (.bar0Request 0 0 (.read 16) false) = true := by decide +kernel

theorem test_trigger_values_refused :
    WellFormed (.captureTrigger 0 0 [65536]) = false ∧ WellFormed (.captureTrigger 0 0 (List.replicate 7 0)) = false ∧
    WellFormed (.trigPinEdge 0 0 true ⟨0, 0⟩ (List.replicate 3 [])) = false ∧ WellFormed (.positionCrossing 0 0 0 [[65536]]) = false ∧
    WellFormed (.captureTrigger 0 0 [65535]) = true := by decide +kernel

theorem test_line_values_refused :
    WellFormed (.lineComplete 0 [] [[65536]]) = false ∧ WellFormed (.lineComplete 0 [] (List.replicate 9 [])) = false ∧
    WellFormed (.lineComplete 0 (List.replicate 7 {}) []) = false ∧
    WellFormed (.lineComplete 0 [{ wave := [(1, 0), (0, 0)] }] []) = false ∧
    WellFormed (.lineComplete 0 [{ err := List.replicate 7 [] }] []) = false ∧
    WellFormed (.lineComplete 0 [{ wave := [(0, 5), (8, -3)], err := [[1]] }] [[65535]]) = true ∧
    WellFormed (.digitalLineStart 0 ⟨0, [65536]⟩) = false ∧ WellFormed (.digitalLineStart 0 ⟨0, [65535]⟩) = true := by decide +kernel

theorem test_lane_findings_refused :
    WellFormed (.deskewComplete 0 (List.replicate 9 {})) = false ∧ WellFormed (.deskewComplete 0 [{ word := some 65536 }]) = false ∧
    WellFormed (.deskewComplete 0 [{ taps := 0xF0, word := some 65535, late := -3 }]) = true := by decide +kernel

theorem test_calibration_measurements_refused :
    WellFormed (.vcCalComplete 0 (List.replicate 7 [])) = false ∧ WellFormed (.vcCalComplete 0 [List.replicate 6 default]) = false ∧
    WellFormed (.vcCalComplete 0 [[⟨32768, 0, 0, 0⟩]]) = false ∧ WellFormed (.vcCalComplete 0 [[⟨0, 65536, 0, 0⟩]]) = false ∧
    WellFormed (.vcCalComplete 0 [[⟨0, 0, -129, 0⟩]]) = false ∧ WellFormed (.vcCalComplete 0 [[⟨0, 0, 0, 256⟩]]) = false ∧
    WellFormed (.vcCalComplete 0 [[⟨-32768, 65535, 127, 255⟩]]) = true := by decide +kernel

theorem test_fits_refused :
    WellFormed (.shadowStepComplete 0 0 { (default : StepEnd) with gain := 65536 }) = false ∧
    WellFormed (.shadowStepComplete 0 0 { (default : StepEnd) with res := 256 }) = false ∧
    WellFormed (.bgStepTimeout 0 0 0 { (default : StepFit) with selfOfs := 32768 }) = false ∧
    WellFormed (.shadowStepComplete 0 0 default) = true := by decide +kernel

theorem test_long_lists_refused :
    WellFormed (.accumulate 0 (List.replicate 4097 default)) = false ∧ WellFormed (.plannerTick (List.replicate 17 [])) = false ∧
    WellFormed (.binningReadComplete 0 (some (List.replicate 63 0))) = false ∧ WellFormed (.monCalDone 0 0 65536 (List.replicate 8 0)) = false ∧
    WellFormed (.monCalDone 0 0 0 (List.replicate 7 0)) = false ∧ WellFormed (.ethFrameReceived 0 ⟨.own, none, true, 0, 0, .icmp (List.replicate 9217 0)⟩) = false ∧
    WellFormed (.controlReq 0 ⟨0, 0, 0⟩ (List.replicate 9216 0)) = false ∧ WellFormed (.descFetched 0 0 (.ok (List.replicate 4097 0))) = false ∧
    WellFormed (.dmaTransactionDone 0 0 0 (.ok (List.replicate 4097 0))) = false ∧ WellFormed (.panicOn 0 0 101 true) = false ∧
    WellFormed (.panicOff 0 0 101) = false ∧ WellFormed (.twcTransferEnd 0 .complete 0 (List.replicate 257 0)) = false ∧
    WellFormed (.sclLowTimeout 0 false 0 (List.replicate 257 0)) = false ∧ WellFormed (.sdaLowTimeout 0 false 0 (List.replicate 257 0)) = false ∧
    WellFormed .declarerElection = true := by decide +kernel

/-! ### The manual's worked numbers -/

/-- Weights of the worked example of R273 (`spec/10_meld_and_output.md`): OVL 184, BW 64. -/
theorem test_blend_weights :
    [0, 59, 60, 91, 92, 123, 124, 183].map (blendWeight 184 64) = [0, 0, 2, 126, 130, 254, 256, 256] := by decide +kernel

/-- The resampled and blended sample at j = 91 of the same example. -/
theorem test_blended_sample :
    (blend 126 { v := 40160, flags := 0 } { v := 40020, flags := 0 }).v = 40091 := by decide +kernel

/-! ### States of the tests -/

/-- A tile in service. -/
def upTile : TileSt := { life := .up, selfOk := true }

/-- Words put into registers, by page, offset and value. -/
def regsOf (l : List (Nat × Nat × Nat)) (m : Mach) : Mach :=
  l.foldl (fun m e => m.setWord e.1 e.2.1 (BitVec.ofNat 32 e.2.2)) m

/-- Eight tiles in service, tile 0 the primary declarer, every switchable domain off. -/
def base : Mach := regsOf [(P.decl 0, 0x040, 1)] { tiles := Vector.replicate 8 upTile, cpb := { usable := true } }

/-- The domains of tile `t` on. -/
def on (t : Nat) (m : Mach) : Mach := m.setWord (P.pwr t) 0x044 0xFFFFF#32

/-- As `base`, with the domains of tile 0 on. -/
def b0 : Mach := on 0 base

/-- A part with no command waiting. -/
def st (m : Mach) : State := { m, pending := [] }

/-- Fields set, by page, field and value. -/
def ws (l : List (Nat × Field × Nat)) (m : Mach) : Mach := l.foldl (fun m e => m.wr e.1 e.2.1 e.2.2) m

/-! ### Hypotheses that are met -/

theorem StepRunsTheFrontCommand_hypotheses_met :
    ∃ (s : State) (c : Instr) (rest : List Instr), s.pending = c :: rest :=
  ⟨{ st b0 with pending := [.mirrorCopyDone] }, .mirrorCopyDone, [], by decide +kernel⟩

theorem IdleStepCountsOneTick_hypotheses_met :
    ∃ (s : State), s.pending = [] ∧ s.m.slewRate = 0 ∧ s.m.slewRemain = 0 :=
  ⟨st b0, by decide +kernel⟩

theorem SettlingKeepsTheRest_hypotheses_met :
    (∃ (m : Mach), m.heldAcc = []) ∧
    (∃ (m : Mach), m.heldAcc = [] ∧ oneSegment m = true) :=
  ⟨⟨b0, by decide +kernel⟩,
   ⟨b0, by decide +kernel⟩⟩

theorem AbsentPagesReadZeroAndIgnoreWrites_hypotheses_met :
    (∃ (s : State) (p : Port) (addr : BitVec 24) (e : Nat), s.start.heldAcc = [] ∧ s.start.portEntry (portNo p) = some e ∧
      s.start.islandOf e = none ∧ Mach.fieldTile addr.toNat ≠ 15 ∧
      ((pageExists (Mach.fieldTile addr.toNat) (Mach.fieldPage addr.toNat) = false ∨ (Mach.fieldTile addr.toNat ≠ 14 ∧
      s.start.nTiles ≤ Mach.fieldTile addr.toNat)))) ∧
    (∃ (s : State) (p : Port) (t : Fin 8) (pg : Fin 256) (k : Fin 1024) (e : Nat), s.start.heldAcc = [] ∧
      s.start.portEntry (portNo p) = some e ∧ s.start.islandOf e = none ∧ (s.start.tile t).dormant = false ∧
      s.start.target e t pg (4 * k) = .domOff) ∧
    (∃ (pg : Nat), pg ∈ [0x00, 0x01, 0x02, 0x03, 0x05]) :=
  ⟨⟨st b0, .b, 0x0F9040#24, 0, by decide +kernel⟩,
   ⟨st base, .b, 0, 0x30, 0x11, 0, by decide +kernel⟩,
   ⟨2, by decide +kernel⟩⟩

theorem LockedPagesIgnoreWrites_hypotheses_met :
    (∃ (s : State) (p : Port) (tf : Fin 15) (pg : Fin 256) (k : Fin 1024), s.start.takes p tf pg (4 * k) = true ∧
      s.start.flag (pageKey tf pg) F.PAGE_CTRL_LOCK = true ∧ 4 * k.val ≠ 0x004 ∧ 4 * k.val ≠ 0x010 ∧ 4 * k.val ≠ 0x030) ∧
    (∃ (s : State) (p : Port) (tf : Fin 15) (pg : Fin 256) (k : Fin 1024) (e : Nat), s.start.heldAcc = [] ∧
      s.start.portEntry (portNo p) = some e ∧ s.start.waits e (regAddr tf pg (4 * k)) = false ∧ s.start.islandOf e = none ∧
      s.start.asleep tf pg = false ∧ s.start.target e tf pg (4 * k) = .page ∧
      s.start.guardBlocks (portNo p) (pageKey tf pg) (4 * k) = true) ∧
    (∃ (pk : Nat), pk ∈ [P.sem, P.ports, P.guard]) :=
  ⟨⟨st (b0.wr (P.pwr 0) F.PAGE_CTRL_LOCK 1), .b, 0, 1, 0x20, by decide +kernel⟩,
   ⟨st (regsOf [(P.guard, 0x040, 0x80000000)] b0), .b, 0, 0, 0x10, 0, by decide +kernel⟩,
   ⟨P.sem, by decide +kernel⟩⟩

theorem WritesFollowTheAccessCodes_hypotheses_met :
    ∃ (s : State) (p : Port) (t : Fin 8) (pg : Fin 256) (k : Fin 1024) (v : Word) (r : RegRow), s.start.writable p t pg (4 * k) = true ∧
      0x040 ≤ 4 * k.val ∧ 4 * k.val < 0x800 ∧ rowOf (pageKey t pg) (4 * k) = some r ∧ (¬ (0x200 ≤ 4 * k.val ∧ 4 * k.val < 0x21C ∧
      hasWindow t pg = true)) ∧ s.start.blockWrite (pageKey t pg) (4 * k) v = none ∧ r.rw ||| r.rws ≠ 0 :=
  ⟨st b0, .b, 0, 0x10, 0x11, 0x12345678#32, (match rowOf (P.acc 0) 0x44 with | some r => r | none => ⟨0,0,0,0,0,0,0,0⟩),
    by decide +kernel⟩

theorem ActiveCopiesAreReadOnly_hypotheses_met :
    (∃ (off : Nat), 0x800 ≤ off) ∧
    (∃ (s : State) (p : Port) (tf : Fin 15) (pg : Fin 256) (k : Fin 1024), s.start.takes p tf pg (4 * k) = true ∧ 0x800 ≤ 4 * k.val) ∧
    (∃ (s : State) (p : Port) (t : Fin 8) (pg : Fin 256) (k : Fin 1024) (v : Word) (r : RegRow), s.start.writable p t pg (4 * k) = true ∧
      0x040 ≤ 4 * k.val ∧ 4 * k.val < 0x800 ∧ rowOf (pageKey t pg) (4 * k) = some r ∧ r.rws ≠ 0 ∧ (¬ (0x200 ≤ 4 * k.val ∧
      4 * k.val < 0x21C ∧ hasWindow t pg = true)) ∧ s.start.blockWrite (pageKey t pg) (4 * k) v = none) ∧
    (∃ (pk : Nat) (off : Nat), (rowOf pk off).isSome = true) :=
  ⟨⟨0x840, by decide +kernel⟩,
   ⟨st b0, .b, 0, 1, 0x210, by decide +kernel⟩,
   ⟨st b0, .b, 0, 0x14, 0x10, 5#32, (match rowOf (P.cal 0) 0x40 with | some r => r | none => ⟨0,0,0,0,0,0,0,0⟩), by decide +kernel⟩,
   ⟨P.acc 0, 0x44, by decide +kernel⟩⟩

theorem PageHeadersRead_hypotheses_met :
    ∃ (tf : Fin 15) (pg : Fin 256), pageExists tf pg = true :=
  ⟨0, 1, by decide +kernel⟩

theorem PageHeaderCommands_hypotheses_met :
    (∃ (s : State) (p : Port) (tf : Fin 15) (pg : Fin 256), s.start.takes p tf pg 0x004 = true ∧
      blockCode tf pg ∉ [0x56, 0x57, 0x5F, 0x68, 0x6C, 0x70, 0x71, 0x72, 0x74, 0x75]) ∧
    (∃ (s : State) (p : Port) (tf : Fin 15) (pg : Fin 256) (v : Word), s.start.takes p tf pg 0x004 = true ∧ bit v.toNat 1 = false ∧
      blockCode tf pg ∉ [0x56, 0x57, 0x5F, 0x68, 0x6C, 0x70, 0x71, 0x72, 0x74, 0x75]) ∧
    (∃ (s : State) (p : Port) (t : Fin 8) (v : Word), s.start.takes p t 0x00 0x004 = true ∧ bit v.toNat 2 = false ∧
      s.start.fallingAsleep t = false) ∧
    (∃ (s : State) (p : Port) (tf : Fin 15) (pg : Fin 256), s.start.writable p tf pg 0x01C = true) :=
  ⟨⟨st b0, .b, 0, 0, by decide +kernel⟩,
   ⟨st b0, .b, 0, 0, 1, by decide +kernel⟩,
   ⟨st (regsOf [(P.tile 0,0x010,3)] b0), .b, 0, 0, by decide +kernel⟩,
   ⟨st b0, .b, 0, 0, by decide +kernel⟩⟩

theorem CommitCommands_hypotheses_met :
    (∃ (s : State) (p : Port) (g : Fin 16) (v : Word), s.start.takes p (g.val / 2) (0x10 + g.val % 2) 0x030 = true ∧
      s.start.running g = false ∧ bits v.toNat 1 0 = 0) ∧
    (∃ (s : State) (p : Port) (g : Fin 16) (v : Word), s.start.takes p (g.val / 2) (0x10 + g.val % 2) 0x030 = true ∧
      s.start.running g = true ∧ bits v.toNat 2 1 = 0) ∧
    (∃ (s : State) (p : Port) (g : Fin 16) (v : Word), s.start.takes p (g.val / 2) (0x10 + g.val % 2) 0x030 = true ∧
      (s.start.handOf g).isSome = true ∧ bit v.toNat 0 = false ∧ bit v.toNat 2 = false) :=
  ⟨⟨st (regsOf [(P.acc 0,0x44,0x123)] b0), .b, 0, 0#32, by decide +kernel⟩,
   ⟨st (regsOf [(P.mode, 0x040, 0x84000003), (P.mode, 0x200, 3)] b0), .b, 0, 1, by decide +kernel⟩,
   ⟨st (regsOf [(P.mode, 0x040, 0x84000003), (P.mode, 0x200, 1)] b0), .b, 0, 2, by decide +kernel⟩⟩

theorem WindowCommands_hypotheses_met :
    (∃ (s : State) (p : Port) (t : Fin 8) (v : Word), s.start.writable p t 0x30 0x204 = true ∧ s.start.winSel (P.mon t) = 0 ∧
      v.toNat < 64) ∧
    (∃ (s : State) (p : Port) (t : Fin 8) (v : Word), s.start.writable p t 0x30 0x208 = true ∧ s.start.winSel (P.mon t) = 0 ∧
      s.start.winIndex (P.mon t) + 1 < 64 ∧ bit v.toNat 0 = false) ∧
    (∃ (s : State) (p : Port) (t : Fin 8) (v : Word), s.start.writable p t 0x2F 0x20C = true ∧ s.start.winSel (P.patt t) < 4 ∧
      s.start.winIndex (P.patt t) < 15 ∧ Mach.stepOkElem v.toNat = true) ∧
    (∃ (s : State) (p : Port) (g : Fin 16) (w : Fin 4), s.start.writable p (g.val / 2) (0x0C + g.val % 2) (0x20C + 4 * w.val) = true ∧
      s.start.winSel (P.vc g) = 0 ∧ w.val = 0) :=
  ⟨⟨st (b0.setEl (P.mon 0) 0 5 0x123456789ABCDEF0), .b, 0, 5, by decide +kernel⟩,
   ⟨st b0, .b, 0, 0#32, by decide +kernel⟩,
   ⟨st b0, .b, 0, 0x00050003, by decide +kernel⟩,
   ⟨st b0, .b, 0, 0, by decide +kernel⟩⟩

theorem RegisterWriteReachesTheRegister_hypotheses_met :
    (∃ (s : State) (p : Port) (tf : Fin 15) (pg : Fin 256), s.start.writable p tf pg 0x014 = true ∧ (¬ (pageKey tf pg = P.ports ∧
      s.start.viewOf.isSome = true))) ∧
    (∃ (s : State) (p : Port) (tf : Fin 15) (pg : Fin 256), s.start.takes p tf pg 0x010 = true) :=
  ⟨⟨st b0, .b, 0, 1, by decide +kernel⟩,
   ⟨st (regsOf [(P.pwr 0,0x010,0xF)] b0), .b, 0, 1, by decide +kernel⟩⟩

theorem SemaphoreClaims_hypotheses_met :
    (∃ (s : State) (p : Port) (n : Fin 64), s.start.writable p 14 0x01 (0x040 + 4 * n) = true) ∧
    (∃ (s : State) (t : State) (n : Fin 64) (v : Word) (w : Word), oneSegment s.start = true ∧
      s.start.writable .a 14 0x01 (0x040 + 4 * n) = true ∧ s.start.owner n = 0 ∧ s.start.alive 0 = true ∧ bits v.toNat 1 0 = 1 ∧
      exec (.semClaim .a n v) s = .next t ∧ t.start.writable .b 14 0x01 (0x040 + 4 * n) = true ∧ bits w.toNat 1 0 = 2) :=
  ⟨⟨st b0, .b, 3, by decide +kernel⟩,
   ⟨st ((ws [(P.ports, F.PORTS_STAT_A_PATH, 1), (P.hostp 0, F.HOSTP_STAT_PHY_UP, 1), (P.hostp 0, F.HOSTP_STAT_LINK, 1),
     (P.hostp 0, F.HOSTP_CFG_CTRL_CAP, 1),
     (P.ports, F.PORTS_STAT_ALIVE_A, 1)] b0).modHost 0 fun h => { h with cfg := 0x501, memEn := true, cfgDone := true }), (match exec (.semClaim .a 3 1#32) (st ((ws [(P.ports, F.PORTS_STAT_A_PATH, 1),
     (P.hostp 0, F.HOSTP_STAT_PHY_UP, 1), (P.hostp 0, F.HOSTP_STAT_LINK, 1), (P.hostp 0, F.HOSTP_CFG_CTRL_CAP, 1),
     (P.ports, F.PORTS_STAT_ALIVE_A, 1)] b0).modHost 0 fun h => { h with cfg := 0x501, memEn := true, cfgDone := true })) with | .next t => t | _ => (st ((ws [(P.ports, F.PORTS_STAT_A_PATH, 1),
     (P.hostp 0, F.HOSTP_STAT_PHY_UP, 1), (P.hostp 0, F.HOSTP_STAT_LINK, 1), (P.hostp 0, F.HOSTP_CFG_CTRL_CAP, 1),
     (P.ports, F.PORTS_STAT_ALIVE_A, 1)] b0).modHost 0 fun h => { h with cfg := 0x501, memEn := true, cfgDone := true }))), 3, 1, 2,
     by decide +kernel, by decide +kernel, by decide +kernel, by decide +kernel, by decide +kernel, rfl, by decide +kernel,
     by decide +kernel⟩⟩

theorem SemaphoreReads_hypotheses_met :
    ∃ (m : Mach) (p : Nat) (n : Fin 64), m.owner n < 3 ∧ p < 2 :=
  ⟨regsOf [(P.sem,0x040+12,1)] b0, 0, 3, by decide +kernel⟩

theorem KeepaliveCommands_hypotheses_met :
    (∃ (s : State) (p : Port), s.start.writable p 14 0x02 0x044 = true) ∧
    (∃ (s : State) (p : Port), s.start.declarer.isSome = true ∧ s.start.alive (portNo p) = true ∧
      s.start.kaEnd (portNo p) ≤ s.start.kaClock) :=
  ⟨⟨st b0, .b, by decide +kernel⟩,
   ⟨st (regsOf [(P.ports,0x050,3)] b0), .b, by decide +kernel⟩⟩

theorem PortACommands_hypotheses_met :
    (∃ (s : State) (t : Fin 8) (addr : BitVec 24), s.start.heldAcc = [] ∧ s.start.viewOf = none ∧ s.start.wireUp t = true ∧
      s.start.hostMode t = 1 ∧ s.start.memServed t = true ∧ s.start.ctrlCapable t = true ∧ s.start.islandOf t = none ∧
      s.start.attachedAt t = true ∧ s.start.waits t (addr.toNat / 4 * 4) = false ∧
      s.start.asleep (Mach.readField addr.toNat) (Mach.fieldPage addr.toNat) = false ∧
      s.start.target t (Mach.readField addr.toNat) (Mach.fieldPage addr.toNat) (Mach.fieldOff addr.toNat) = .page) ∧
    (∃ (s : State) (t : Fin 8) (addr : BitVec 24), s.start.heldAcc = [] ∧ s.start.viewOf = none ∧ s.start.wireUp t = true ∧
      s.start.hostMode t = 1 ∧ s.start.memServed t = true ∧ s.start.ctrlCapable t = true ∧ s.start.islandOf t = none ∧
      s.start.attachedAt t = true ∧ s.start.answers t = true ∧ addr.toNat % 4 = 0) ∧
    (∃ (s : State) (p : Port), s.start.writable p 14 0x02 0x054 = true ∧ s.start.flag P.ports F.PORTS_STAT_A_PATH = true) ∧
    (∃ (s : State) (p : Port), s.start.writable p 14 0x02 0x06C = true) :=
  ⟨⟨st ((ws [(P.ports, F.PORTS_STAT_A_PATH, 1), (P.hostp 0, F.HOSTP_STAT_PHY_UP, 1), (P.hostp 0, F.HOSTP_STAT_LINK, 1),
     (P.hostp 0, F.HOSTP_CFG_CTRL_CAP, 1)] b0).modHost 0 fun h => { h with cfg := 0x501, memEn := true, cfgDone := true }), 0, 0x000014#24,
     by decide +kernel⟩,
   ⟨st ((ws [(P.ports, F.PORTS_STAT_A_PATH, 1), (P.hostp 0, F.HOSTP_STAT_PHY_UP, 1), (P.hostp 0, F.HOSTP_STAT_LINK, 1),
     (P.hostp 0, F.HOSTP_CFG_CTRL_CAP, 1)] b0).modHost 0 fun h => { h with cfg := 0x501, memEn := true, cfgDone := true }), 0, 0x000014#24,
     by decide +kernel⟩,
   ⟨st (ws [(P.ports, F.PORTS_STAT_A_PATH, 1), (P.hostp 0, F.HOSTP_STAT_PHY_UP, 1), (P.hostp 0, F.HOSTP_STAT_LINK, 1),
     (P.hostp 0, F.HOSTP_CFG_CTRL_CAP, 1)] b0), .b, by decide +kernel⟩,
   ⟨st b0, .b, by decide +kernel⟩⟩

theorem PortBFrames_hypotheses_met :
    (∃ (s : State), s.start.cpb.usable = true) ∧
    (∃ (s : State) (addr : BitVec 24), s.start.cpb.usable = true ∧ s.start.cpb.reading = none ∧ s.start.cpb.writes = [] ∧
      s.start.cpb.addrErr = false ∧ s.start.answers 0 = true ∧ s.start.waits 0 addr.toNat = false ∧ s.start.islandOf 0 = none ∧
      s.start.asleep (Mach.readField addr.toNat) (Mach.fieldPage addr.toNat) = false ∧
      s.start.target 0 (Mach.readField addr.toNat) (Mach.fieldPage addr.toNat) (Mach.fieldOff addr.toNat) = .page ∧
      Mach.fieldTile addr.toNat ≠ 15) ∧
    (∃ (s : State), s.start.cpb.usable = true ∧ s.start.cpb.reading = none) ∧
    (∃ (s : State), s.start.cpb.usable = true) ∧
    (∃ (s : State), s.start.cpb.usable = true) ∧
    (∃ (s : State), s.start.cpb.usable = true ∧ s.start.islandOf 0 = none) ∧
    (∃ (s : State) (addr : Nat) (v : Word) (rest : List (Nat × Word)), s.start.cpb.writes = (addr, v) :: rest ∧
      s.start.cpb.reading = none ∧ s.start.answers 0 = true ∧ s.start.waits 0 addr = false) ∧
    (∃ (s : State) (addr : Nat), s.start.cpb.reading = some (addr, 0) ∧ s.start.answers 0 = true ∧ s.start.waits 0 addr = false ∧
      s.start.islandOf 0 = none ∧ s.start.asleep (Mach.readField addr) (Mach.fieldPage addr) = false ∧
      s.start.target 0 (Mach.readField addr) (Mach.fieldPage addr) (Mach.fieldOff addr) = .page) ∧
    (∃ (s : State) (addr : BitVec 24) (data : Word) (crc : Byte), s.start.cpb.usable = true ∧ s.start.islandOf 0 = none ∧
      crc.toNat ≠ crc8 (0x02#8 :: beBytes 3 addr.toNat ++ beBytes 4 data.toNat)) :=
  ⟨⟨st b0, by decide +kernel⟩,
   ⟨st b0, 0x000014#24, by decide +kernel⟩,
   ⟨st { b0 with cpb := { usable := true, result := some 7 } }, by decide +kernel⟩,
   ⟨st b0, by decide +kernel⟩,
   ⟨st b0, by decide +kernel⟩,
   ⟨st b0, by decide +kernel⟩,
   ⟨st { b0 with cpb := { usable := true, writes := [(0x14, 7#32)] } }, 0x14, 7, [], by decide +kernel⟩,
   ⟨st { b0 with cpb := { usable := true, reading := some (0x14, 0) } }, 0x14, by decide +kernel⟩,
   ⟨st b0, 0x14#24, 0#32, 1, by decide +kernel⟩⟩

theorem StartUpEvents_hypotheses_met :
    (∃ (s : State), ((∀ t, t < 8 → (s.start.tile t).life = .por))) ∧
    (∃ (s : State), ((∀ t, t < 8 → (s.start.tile t).life = .por))) ∧
    (∃ (s : State) (t : Fin 8), (s.start.tile t).life = .starting) ∧
    (∃ (s : State) (t : Fin 8), (s.start.tile t).life = .starting) ∧
    (∃ (s : State), s.start.cpb.usable = false ∧ (s.start.tile 0).life = .starting) :=
  ⟨⟨State.reset, by decide +kernel⟩,
   ⟨State.reset, by decide +kernel⟩,
   ⟨st { b0 with cpb := {}, tiles := Vector.replicate 8 { upTile with life := .starting } }, 3, by decide +kernel⟩,
   ⟨st { b0 with cpb := {}, tiles := Vector.replicate 8 { upTile with life := .starting } }, 2, by decide +kernel⟩,
   ⟨st { b0 with cpb := {}, tiles := Vector.replicate 8 { upTile with life := .starting } }, by decide +kernel⟩⟩

theorem ElectionNamesTheHealthyTile_hypotheses_met :
    ∃ (s : State) (d : Fin 8), ((∀ t, t < 8 → s.start.awake t = true → s.start.role t % 2 = 0)) ∧ s.start.cpb.usable = false ∧
      ((∀ t, t < 8 → s.start.takeMaps.healthy t = decide (t = d.val))) ∧ s.start.takeMaps.ringLive d = true ∧ ((∀ t, t < 8 →
      s.start.takeMaps.ringLive t = true → bit (s.start.takeMaps.reach d) t = true)) :=
  ⟨st (on 2 ((ws [(P.ring 2, F.RING_STAT_U_UP, 1)] { cpb := {} : Mach }).modTile 2 fun _ => upTile)), 2, by decide +kernel⟩

theorem TileResetCommands_hypotheses_met :
    (∃ (s : State) (p : Port) (t : Fin 8) (v : Word), s.start.writable p t 0x01 0x058 = true ∧ bits v.toNat 31 16 = 0x5A1E) ∧
    (∃ (s : State) (p : Port) (t : Fin 8) (v : Word), s.start.writable p t 0x01 0x058 = true ∧ bits v.toNat 31 16 ≠ 0x5A1E) ∧
    (∃ (s : State) (t : Fin 8), s.start.present t = true ∧ (s.start.tile t).life = .up ∧ (s.start.tile t).rstDue ≠ 0 ∧
      s.start.serving t = none) ∧
    (∃ (s : State) (t : Fin 8), (s.start.tile t).life = .reset) ∧
    (∃ (s : State) (t : Fin 8), (s.start.tile t).life = .released) :=
  ⟨⟨st b0, .b, 0, 0x5A1E0000, by decide +kernel⟩,
   ⟨st b0, .b, 0, 0x5A1F0000, by decide +kernel⟩,
   ⟨st ((regsOf [(P.decl 0,0x40,0)] b0).modTile 0 fun ts => { ts with rstDue := 4 }), 0, by decide +kernel⟩,
   ⟨st (b0.modTile 1 fun ts => { ts with life := .reset }), 1, by decide +kernel⟩,
   ⟨st (b0.modTile 1 fun ts => { ts with life := .released }), 1, by decide +kernel⟩⟩

theorem DomainCommands_hypotheses_met :
    (∃ (s : State) (p : Port) (t : Fin 8) (d : Nat), s.start.writable p t 0x01 0x040 = true ∧ d ∈ [3, 4, 6, 7, 8, 9, 16, 17, 18, 20] ∧
      s.start.requested t d = false) ∧
    (∃ (s : State) (p : Port) (t : Fin 8) (x : Fin 3), s.start.writable p t 0x01 0x048 = true ∧ s.start.shtReq t 0 ≠ 1 ∧
      x.val ≠ s.start.shtReq t 0) ∧
    (∃ (s : State) (t : Fin 8) (d : Nat) (x : ShtMode), d ∈ [8, 9, 12, 13, 16] ∧ s.start.awake t = true ∧
      (s.start.tile t).seq = some { dom := d, on := true, sht := x }) :=
  ⟨⟨st base, .b, 0, 6, by decide +kernel⟩,
   ⟨st b0, .b, 0, 1, by decide +kernel⟩,
   ⟨st (base.modTile 0 fun ts => { ts with seq := some { dom := 8, on := true, sht := .off } }), 0, 8, .off, by decide +kernel⟩⟩

theorem RefclkCommands_hypotheses_met :
    (∃ (s : State), s.start.refLost = false ∧ s.start.viewOf = none ∧ ((∀ t, t < 8 → s.start.flag (P.ring t) F.RING_STAT_OUTSIDE = false ∧
      s.start.domOn t D.mot = false ∧ s.start.domOn t D.lamp = false ∧ s.start.domOn t D.ring = false ∧ s.start.domOn t D.dmaq = false))) ∧
    (∃ (s : State), s.start.refLost = true ∧ ((∀ t, t < s.start.nTiles → (s.start.tile t).life = .reset))) ∧
    (∃ (s : State), s.start.refLost = false) ∧
    (∃ (s : State) (p : Port) (t : Fin 8) (v : Word), s.start.writable p t 0x03 0x040 = true ∧ bit v.toNat 1 = false ∧
      bit v.toNat 2 = false) ∧
    (∃ (s : State) (p : Port) (t : Fin 8) (v : Word), s.start.writable p t 0x03 0x040 = true ∧ bit v.toNat 0 = false ∧
      bit v.toNat 2 = false ∧ s.start.flag (P.tb t) F.TB_STAT_MASTER = true ∧ s.start.anyRunning = false) ∧
    (∃ (s : State) (t : Fin 8), (s.start.tile t).life ≠ .por ∧ (s.start.tile t).dormant = false ∧
      s.start.flag (P.tb t) F.TB_CTRL_ALARM_EN = true ∧ s.start.flag (P.tb t) F.TB_STAT_ALARM_HIT = false ∧
      s.start.alarmAt t ≤ s.start.now t) ∧
    (∃ (s : State) (n : BitVec 64), (s.start.tile 0).life = .up ∧ n.toNat ≤ s.start.now 0) :=
  ⟨⟨st base, by decide +kernel⟩,
   ⟨st { base with refLost := true, tiles := Vector.replicate 8 { upTile with life := .reset } }, by decide +kernel⟩,
   ⟨st b0, by decide +kernel⟩,
   ⟨st (b0.modTile 0 fun ts => { ts with n := 0x123456789AB, sub := 0x9FFFFFFF }), .b, 0, 1, by decide +kernel⟩,
   ⟨st (ws [(P.tb 0, F.TB_STAT_MASTER, 1)] b0), .b, 0, 2, by decide +kernel⟩,
   ⟨st ((ws [(P.tb 0, F.TB_CTRL_ALARM_EN, 1), (P.tb 0, F.TB_ALARM_LO_N_LO, 5)] b0).modTile 0 fun ts => { ts with n := 7 }), 0,
     by decide +kernel⟩,
   ⟨st (b0.modTile 0 fun ts => { ts with n := 7 }), 7, by decide +kernel⟩⟩

theorem RailAndTestPortCommands_hypotheses_met :
    (∃ (s : State) (t : Fin 8), s.start.present t = true) ∧
    (∃ (s : State) (t : Fin 8), s.start.present t = true) ∧
    (∃ (s : State), s.start.testHeld = false ∧ (s.start.tile 0).life ≠ .por ∧ s.start.jtag.tap ∈ [Tap.reset, .idle, .selDr, .ex1Dr,
      .pauDr, .ex2Dr, .updDr, .selIr, .ex1Ir, .pauIr, .ex2Ir, .updIr]) ∧
    (∃ (s : State), s.start.testHeld = false ∧ (s.start.tile 0).life ≠ .por) ∧
    (∃ (s : State), s.start.testHeld = false ∧ (s.start.tile 0).life ≠ .por ∧ s.start.jtag.tap = .capDr) ∧
    (∃ (m : Mach) (t : Nat) (p : Nat), ((∀ d, d < 21 → 3 ≤ d → m.live t d = false)) ∧ p < 315 ∧ ((p = 273 → (m.tile t).dramAon = none))) ∧
    (∃ (p : Nat), p ∈ [51, 113, 263, 301]) ∧
    (∃ (p : Nat), p ∈ [30, 31, 47, 48, 49, 53, 92, 93, 109, 110, 111, 115, 124, 125, 126, 134, 135, 138, 149, 152, 153, 160, 203, 204, 262, 273]) ∧
    (∃ (p : Nat), p ∈ [50, 112, 127, 205, 206, 208, 212, 219, 220, 227, 312, 313, 314]) ∧
    (∃ (m : Mach) (t : Nat) (c : Fin 2), m.live t (D.sport c) = true) ∧
    (∃ (m : Mach) (t : Nat) (q : Nat), q ∈ [23, 24, 25, 34] ∧ m.rd (P.dram t) F.DRAM_CFG_TYPE = 2) :=
  ⟨⟨st b0, 0, by decide +kernel⟩,
   ⟨st b0, 0, by decide +kernel⟩,
   ⟨st b0, by decide +kernel⟩,
   ⟨st { b0 with jtag := { tap := .idle } }, by decide +kernel⟩,
   ⟨st { b0 with jtag := { tap := .capDr, inst := some [false] } }, by decide +kernel⟩,
   ⟨base, 0, 273, by decide +kernel⟩,
   ⟨51, by decide +kernel⟩,
   ⟨273, by decide +kernel⟩,
   ⟨313, by decide +kernel⟩,
   ⟨b0, 0, 0, by decide +kernel⟩,
   ⟨ws [(P.dram 0, F.DRAM_CFG_TYPE, 2)] b0, 0, 34, by decide +kernel⟩⟩

theorem HandIsFormed_hypotheses_met :
    (∃ (s : State) (p : Port) (h : Fin 16) (v : Word), s.start.writable p 14 0x03 (0x040 + 4 * h) = true ∧
      s.start.flag P.mode (F.MODE_HAND_CFG_VALID.nth h) = false ∧ s.start.handCfgOk h v = true ∧ bit v.toNat 31 = true ∧ ((∀ g, g < 16 →
      (s.start.clu g).cut = none))) ∧
    (∃ (s : State) (p : Port) (h : Fin 16) (v : Word), s.start.writable p 14 0x03 (0x040 + 4 * h) = true ∧
      s.start.flag P.mode (F.MODE_HAND_CFG_VALID.nth h) = false ∧ s.start.handCfgOk h v = true ∧ bit v.toNat 31 = true ∧ ((∀ g, g < 16 →
      (s.start.clu g).cut = none ∧ s.start.axLive g = false))) :=
  ⟨⟨st b0, .b, 0, 0x80000003, by decide +kernel⟩,
   ⟨st (ws [(P.pwr 0, ⟨0x044, 20, 0, 0⟩, 0)] b0), .b, 0, 0x80000003, by decide +kernel⟩⟩

theorem HandCommandsQueue_hypotheses_met :
    (∃ (s : State) (p : Port) (h : Fin 16) (i : Instr) (c : HandCmd), (i, c) ∈ [(.arm p h, .arm), (.disarm p h, .disarm), (.toReady p h,
      .toReady), (.toCalibrate p h, .toCalibrate), (.toScan p h, .toScan), (.dealStart p h, .dealStart), (.dealEnd p h, .dealEnd)] ∧
      s.start.writable p 14 0x03 (0x0C0 + 4 * h) = true) ∧
    (∃ (s : State) (p : Port) (h : Fin 16) (i : Instr) (c : HandCmd), (i, c) ∈ [(.arm p h, .arm), (.disarm p h, .disarm), (.toReady p h,
      .toReady), (.toCalibrate p h, .toCalibrate), (.toScan p h, .toScan), (.dealStart p h, .dealStart), (.dealEnd p h, .dealEnd)] ∧
      s.start.writable p 14 0x03 (0x0C0 + 4 * h) = true) ∧
    (∃ (s : State) (p : Port) (h : Fin 16) (i : Instr) (c : HandCmd), (i, c) ∈ [(.arm p h, .arm), (.disarm p h, .disarm), (.toReady p h,
      .toReady), (.toCalibrate p h, .toCalibrate), (.toScan p h, .toScan), (.dealStart p h, .dealStart), (.dealEnd p h, .dealEnd)] ∧
      s.start.writable p 14 0x03 (0x0C0 + 4 * h) = true) ∧
    (∃ (s : State) (p : Port) (h : Fin 16) (i : Instr) (c : HandCmd), (i, c) ∈ [(.arm p h, .arm), (.disarm p h, .disarm), (.toReady p h,
      .toReady), (.toCalibrate p h, .toCalibrate), (.toScan p h, .toScan), (.dealStart p h, .dealStart), (.dealEnd p h, .dealEnd)] ∧
      s.start.writable p 14 0x03 (0x0C0 + 4 * h) = true) ∧
    (∃ (s : State) (p : Port) (h : Fin 16) (i : Instr) (c : HandCmd), (i, c) ∈ [(.arm p h, .arm), (.disarm p h, .disarm), (.toReady p h,
      .toReady), (.toCalibrate p h, .toCalibrate), (.toScan p h, .toScan), (.dealStart p h, .dealStart), (.dealEnd p h, .dealEnd)] ∧
      s.start.writable p 14 0x03 (0x0C0 + 4 * h) = true) ∧
    (∃ (s : State) (p : Port) (h : Fin 16) (i : Instr) (c : HandCmd), (i, c) ∈ [(.arm p h, .arm), (.disarm p h, .disarm), (.toReady p h,
      .toReady), (.toCalibrate p h, .toCalibrate), (.toScan p h, .toScan), (.dealStart p h, .dealStart), (.dealEnd p h, .dealEnd)] ∧
      s.start.writable p 14 0x03 (0x0C0 + 4 * h) = true) ∧
    (∃ (s : State) (p : Port) (h : Fin 16) (i : Instr) (c : HandCmd), (i, c) ∈ [(.arm p h, .arm), (.disarm p h, .disarm), (.toReady p h,
      .toReady), (.toCalibrate p h, .toCalibrate), (.toScan p h, .toScan), (.dealStart p h, .dealStart), (.dealEnd p h, .dealEnd)] ∧
      s.start.writable p 14 0x03 (0x0C0 + 4 * h) = true) ∧
    (∃ (n : Nat) (c : HandCmd) (q : List (Nat × HandCmd)), ((∀ e ∈ q, e.1 < n ∨ (e.1 = n ∧ Mach.fromHost c = true)))) ∧
    (∃ (n : Nat) (c : HandCmd) (d : HandCmd) (q : List (Nat × HandCmd)) (k : Nat), ((∀ e ∈ q, e.1 < n)) ∧ ((n < k ∨ (k = n ∧
      Mach.fromHost c = false ∧ Mach.fromHost d = true)))) ∧
    (∃ (s : State) (p : Port) (h : Fin 16), s.start.writable p 14 0x03 (0x0C0 + 4 * h) = true) ∧
    (∃ (s : State) (p : Port) (h : Fin 16), s.start.writable p 14 0x03 (0x0C0 + 4 * h) = true) :=
  ⟨⟨st (ws [(P.mode, F.MODE_HAND_CFG_VALID.nth 0, 1), (P.mode, F.MODE_HAND_CFG_MEMBERS.nth 0, 3), (P.sport 0, F.SPORT_CFG_KIND, 1),
     (P.sport 1, F.SPORT_CFG_KIND, 1), (P.mode, F.MODE_HAND_STAT_STATE.nth 0, 1), (P.mode, F.MODE_HAND_STAT_ARMED.nth 0, 0)] b0), .b, 0,
     .arm (.b) (0), .arm, by decide +kernel⟩,
   ⟨st (ws [(P.mode, F.MODE_HAND_CFG_VALID.nth 0, 1), (P.mode, F.MODE_HAND_CFG_MEMBERS.nth 0, 3), (P.sport 0, F.SPORT_CFG_KIND, 1),
     (P.sport 1, F.SPORT_CFG_KIND, 1), (P.mode, F.MODE_HAND_STAT_STATE.nth 0, 1), (P.mode, F.MODE_HAND_STAT_ARMED.nth 0, 0)] b0), .b, 0,
     .disarm (.b) (0), .disarm, by decide +kernel⟩,
   ⟨st (ws [(P.mode, F.MODE_HAND_CFG_VALID.nth 0, 1), (P.mode, F.MODE_HAND_CFG_MEMBERS.nth 0, 3), (P.sport 0, F.SPORT_CFG_KIND, 1),
     (P.sport 1, F.SPORT_CFG_KIND, 1), (P.mode, F.MODE_HAND_STAT_STATE.nth 0, 1), (P.mode, F.MODE_HAND_STAT_ARMED.nth 0, 0)] b0), .b, 0,
     .toReady (.b) (0), .toReady, by decide +kernel⟩,
   ⟨st (ws [(P.mode, F.MODE_HAND_CFG_VALID.nth 0, 1), (P.mode, F.MODE_HAND_CFG_MEMBERS.nth 0, 3), (P.sport 0, F.SPORT_CFG_KIND, 1),
     (P.sport 1, F.SPORT_CFG_KIND, 1), (P.mode, F.MODE_HAND_STAT_STATE.nth 0, 1), (P.mode, F.MODE_HAND_STAT_ARMED.nth 0, 0)] b0), .b, 0,
     .toCalibrate (.b) (0), .toCalibrate, by decide +kernel⟩,
   ⟨st (ws [(P.mode, F.MODE_HAND_CFG_VALID.nth 0, 1), (P.mode, F.MODE_HAND_CFG_MEMBERS.nth 0, 3), (P.sport 0, F.SPORT_CFG_KIND, 1),
     (P.sport 1, F.SPORT_CFG_KIND, 1), (P.mode, F.MODE_HAND_STAT_STATE.nth 0, 1), (P.mode, F.MODE_HAND_STAT_ARMED.nth 0, 0)] b0), .b, 0,
     .toScan (.b) (0), .toScan, by decide +kernel⟩,
   ⟨st (ws [(P.mode, F.MODE_HAND_CFG_VALID.nth 0, 1), (P.mode, F.MODE_HAND_CFG_MEMBERS.nth 0, 3), (P.sport 0, F.SPORT_CFG_KIND, 1),
     (P.sport 1, F.SPORT_CFG_KIND, 1), (P.mode, F.MODE_HAND_STAT_STATE.nth 0, 1), (P.mode, F.MODE_HAND_STAT_ARMED.nth 0, 0)] b0), .b, 0,
     .dealStart (.b) (0), .dealStart, by decide +kernel⟩,
   ⟨st (ws [(P.mode, F.MODE_HAND_CFG_VALID.nth 0, 1), (P.mode, F.MODE_HAND_CFG_MEMBERS.nth 0, 3), (P.sport 0, F.SPORT_CFG_KIND, 1),
     (P.sport 1, F.SPORT_CFG_KIND, 1), (P.mode, F.MODE_HAND_STAT_STATE.nth 0, 1), (P.mode, F.MODE_HAND_STAT_ARMED.nth 0, 0)] b0), .b, 0,
     .dealEnd (.b) (0), .dealEnd, by decide +kernel⟩,
   ⟨7, .pinStart, [(5, .arm), (6, .toScan)], by decide +kernel⟩,
   ⟨7, .linesEnd, .dealStart, [(5, .arm)], 7, by decide +kernel⟩,
   ⟨st (ws [(P.mode, F.MODE_HAND_CFG_VALID.nth 0, 1), (P.mode, F.MODE_HAND_CFG_MEMBERS.nth 0, 3), (P.sport 0, F.SPORT_CFG_KIND, 1),
     (P.sport 1, F.SPORT_CFG_KIND, 1), (P.mode, F.MODE_HAND_STAT_STATE.nth 0, 3), (P.mode, F.MODE_HAND_STAT_ARMED.nth 0, 1)] b0), .b, 0,
     by decide +kernel⟩,
   ⟨st (ws [(P.mode, F.MODE_HAND_CFG_VALID.nth 0, 1), (P.mode, F.MODE_HAND_CFG_MEMBERS.nth 0, 3), (P.sport 0, F.SPORT_CFG_KIND, 1),
     (P.sport 1, F.SPORT_CFG_KIND, 1), (P.mode, F.MODE_HAND_STAT_STATE.nth 0, 1), (P.mode, F.MODE_HAND_STAT_ARMED.nth 0, 1)] b0), .b, 0,
     by decide +kernel⟩⟩

theorem HandTransitions_hypotheses_met :
    (∃ (s : State) (h : Fin 16) (seg : Fin 8) (k : Nat) (c : HandCmd) (r : List (Nat × HandCmd)), s.start.islandOf seg = none ∧
      (s.start.hand h).queue = (k, c) :: r ∧ (s.start.hand h).current = none ∧
      s.start.flag P.mode (F.MODE_HAND_STAT_DRAINING.nth h) = false ∧ s.start.commandOk h c = true ∧ ((c = .dealStart →
      s.start.dealOpen h = false))) ∧
    (∃ (s : State) (h : Fin 16) (seg : Fin 8) (k : Nat) (c : HandCmd) (r : List (Nat × HandCmd)), s.start.islandOf seg = none ∧
      (s.start.hand h).queue = (k, c) :: r ∧ (s.start.hand h).current = none ∧
      s.start.flag P.mode (F.MODE_HAND_STAT_DRAINING.nth h) = false ∧ s.start.commandOk h c = false) ∧
    (∃ (s : State) (h : Fin 16) (seg : Fin 8) (c : HandCmd), s.start.islandOf seg = none ∧ (s.start.hand h).current = some c ∧
      c ∈ [HandCmd.toScan, .toCalibrate] ∧ s.start.gridPoint h ((s.start.hand h).at_ + 4000) ≤ s.start.now (s.start.handTile h)) ∧
    (∃ (s : State) (h : Fin 16) (seg : Fin 8) (c : HandCmd), s.start.islandOf seg = none ∧ (s.start.hand h).current = some c ∧
      c ∈ [HandCmd.toScan, .toCalibrate] ∧ s.start.gridPoint h ((s.start.hand h).at_ + 4000) ≤ s.start.now (s.start.handTile h)) ∧
    (∃ (s : State) (h : Fin 16) (seg : Fin 8), s.start.islandOf seg = none ∧ (s.start.hand h).current = some .dealEnd ∧
      s.start.gridPoint h ((s.start.hand h).at_ + 4000) ≤ s.start.now (s.start.handTile h)) ∧
    (∃ (s : State) (h : Fin 16) (seg : Fin 8), s.start.islandOf seg = none ∧ (s.start.hand h).current = some .dealStart ∧
      s.start.gridPoint h ((s.start.hand h).at_ + 4000) ≤ s.start.now (s.start.handTile h)) :=
  ⟨⟨st ((ws [(P.mode, F.MODE_HAND_CFG_VALID.nth 0, 1), (P.mode, F.MODE_HAND_CFG_MEMBERS.nth 0, 3), (P.sport 0, F.SPORT_CFG_KIND, 1),
     (P.sport 1, F.SPORT_CFG_KIND, 1), (P.mode, F.MODE_HAND_STAT_STATE.nth 0, 1),
     (P.mode, F.MODE_HAND_STAT_ARMED.nth 0, 1)] b0).modHand 0 fun x => { x with queue := [(5, .toScan), (6, .dealStart)] }), 0, 0, 5,
     .toScan, [(6, .dealStart)], by decide +kernel⟩,
   ⟨st ((ws [(P.mode, F.MODE_HAND_CFG_VALID.nth 0, 1), (P.mode, F.MODE_HAND_CFG_MEMBERS.nth 0, 3), (P.sport 0, F.SPORT_CFG_KIND, 1),
     (P.sport 1, F.SPORT_CFG_KIND, 1), (P.mode, F.MODE_HAND_STAT_STATE.nth 0, 1),
     (P.mode, F.MODE_HAND_STAT_ARMED.nth 0, 0)] b0).modHand 0 fun x => { x with queue := [(5, .toScan), (6, .dealStart)] }), 0, 0, 5,
     .toScan, [(6, .dealStart)], by decide +kernel⟩,
   ⟨st (((ws [(P.mode, F.MODE_HAND_CFG_VALID.nth 0, 1), (P.mode, F.MODE_HAND_CFG_MEMBERS.nth 0, 3), (P.sport 0, F.SPORT_CFG_KIND, 1),
     (P.sport 1, F.SPORT_CFG_KIND, 1), (P.mode, F.MODE_HAND_STAT_STATE.nth 0, 1),
     (P.mode, F.MODE_HAND_STAT_ARMED.nth 0, 1)] b0).modTile 0 (fun ts => { ts with n := 1000000 })).modHand 0 (fun x => { x with current := some .toScan })), 0, 0,
     .toScan, by decide +kernel⟩,
   ⟨st (((ws [(P.mode, F.MODE_HAND_CFG_VALID.nth 0, 1), (P.mode, F.MODE_HAND_CFG_MEMBERS.nth 0, 3), (P.sport 0, F.SPORT_CFG_KIND, 1),
     (P.sport 1, F.SPORT_CFG_KIND, 1), (P.mode, F.MODE_HAND_STAT_STATE.nth 0, 1),
     (P.mode, F.MODE_HAND_STAT_ARMED.nth 0, 1)] b0).modTile 0 (fun ts => { ts with n := 1000000 })).modHand 0 (fun x => { x with current := some .toCalibrate })), 0, 0,
     .toCalibrate, by decide +kernel⟩,
   ⟨st (((ws [(P.mode, F.MODE_HAND_CFG_VALID.nth 0, 1), (P.mode, F.MODE_HAND_CFG_MEMBERS.nth 0, 3), (P.sport 0, F.SPORT_CFG_KIND, 1),
     (P.sport 1, F.SPORT_CFG_KIND, 1), (P.mode, F.MODE_HAND_STAT_STATE.nth 0, 3), (P.mode, F.MODE_HAND_STAT_ARMED.nth 0, 1),
     (P.mode, F.MODE_HAND_STAT_DEAL_OPEN.nth 0, 1)] b0).modTile 0 (fun ts => { ts with n := 1000000 })).modHand 0 (fun x => { x with current := some .dealEnd })), 0, 0,
     by decide +kernel⟩,
   ⟨st (((ws [(P.mode, F.MODE_HAND_CFG_VALID.nth 0, 1), (P.mode, F.MODE_HAND_CFG_MEMBERS.nth 0, 3), (P.sport 0, F.SPORT_CFG_KIND, 1),
     (P.sport 1, F.SPORT_CFG_KIND, 1), (P.mode, F.MODE_HAND_STAT_STATE.nth 0, 3),
     (P.mode, F.MODE_HAND_STAT_ARMED.nth 0, 1)] b0).modTile 0 (fun ts => { ts with n := 1000000 })).modHand 0 (fun x => { x with current := some .dealStart })), 0, 0,
     by decide +kernel⟩⟩

theorem DealBoundaryEvents_hypotheses_met :
    (∃ (s : State) (h : Fin 16) (n : BitVec 64) (rising : Bool) (t : Nat), t = s.start.rd P.mode (F.MODE_HAND_DEALCFG_PIN_TILE.nth h) ∧
      s.start.islandOf t = none ∧ s.start.viewOf = none ∧ n.toNat ≤ s.start.now t ∧ s.start.handState h ≠ 0 ∧
      s.start.rd P.mode (F.MODE_HAND_DEALCFG_PIN_SEL.nth h) < 4 ∧ s.start.reachable t = true ∧ s.start.live t D.aux = true ∧
      s.start.flag P.mode (F.MODE_HAND_DEALCFG_PIN_EDGE.nth h) ≠ rising ∧ s.start.dealOpen h = false ∧
      s.start.flag P.mode (F.MODE_HAND_DEALCFG_START_PIN.nth h) = true ∧ (s.start.hand h).queue.length < 4) ∧
    (∃ (s : State) (h : Fin 16) (seg : Fin 8), s.start.islandOf seg = none ∧ s.start.viewOf = none ∧ s.start.dealOpen h = true ∧
      (s.start.hand h).linesDone = false ∧ (s.start.hand h).maxLines ≠ 0 ∧ (s.start.refCluster h).isSome = true ∧
      (s.start.hand h).maxLines ≤ s.start.rd P.mode (F.MODE_HAND_LINES_LINES.nth h) ∧ (s.start.hand h).queue.length < 4) ∧
    (∃ (s : State) (h : Fin 16) (seg : Fin 8) (g : Nat), s.start.islandOf seg = none ∧
      s.start.flag P.mode (F.MODE_HAND_STAT_LEADIN.nth h) = true ∧ g ∈ s.start.active h ∧
      (s.start.hand h).leadInLen < (s.start.clu g).trigs) ∧
    (∃ (s : State) (h : Fin 16) (seg : Fin 8), s.start.islandOf seg = none ∧
      s.start.flag P.mode (F.MODE_HAND_STAT_DRAINING.nth h) = true ∧ (s.start.hand h).drained = false ∧ ((∀ g, g ∈ s.start.active h →
      (s.start.clu g).recEnd = none ∧ s.start.pixelless g = true))) ∧
    (∃ (s : State) (h : Fin 16) (seg : Fin 8), s.start.islandOf seg = none ∧
      s.start.flag P.mode (F.MODE_HAND_STAT_DRAINING.nth h) = true ∧ (s.start.hand h).drained = true ∧
      (s.start.hand h).readyAfter = false ∧ ((∀ g, g ∈ s.start.active h → s.start.pixelless g = true ∨ s.start.streamsDone g = true)) ∧
      s.start.drainFrom h + 128000 ≤ s.start.now (s.start.handTile h)) :=
  ⟨⟨st (ws [(P.mode, F.MODE_HAND_CFG_VALID.nth 0, 1), (P.mode, F.MODE_HAND_CFG_MEMBERS.nth 0, 3), (P.sport 0, F.SPORT_CFG_KIND, 1),
     (P.sport 1, F.SPORT_CFG_KIND, 1), (P.mode, F.MODE_HAND_STAT_STATE.nth 0, 3), (P.mode, F.MODE_HAND_STAT_ARMED.nth 0, 1),
     (P.mode, F.MODE_HAND_DEALCFG_START_PIN.nth 0, 1)] b0), 0, 0, true, 0, by decide +kernel⟩,
   ⟨st ((ws [(P.mode, F.MODE_HAND_CFG_VALID.nth 0, 1), (P.mode, F.MODE_HAND_CFG_MEMBERS.nth 0, 3), (P.sport 0, F.SPORT_CFG_KIND, 1),
     (P.sport 1, F.SPORT_CFG_KIND, 1), (P.mode, F.MODE_HAND_STAT_STATE.nth 0, 3), (P.mode, F.MODE_HAND_STAT_ARMED.nth 0, 1),
     (P.mode, F.MODE_HAND_STAT_DEAL_OPEN.nth 0, 1),
     (P.mode, F.MODE_HAND_LINES_LINES.nth 0, 9)] b0).modHand 0 fun x => { x with maxLines := 9 }), 0, 0, by decide +kernel⟩,
   ⟨st ((ws [(P.mode, F.MODE_HAND_CFG_VALID.nth 0, 1), (P.mode, F.MODE_HAND_CFG_MEMBERS.nth 0, 3), (P.sport 0, F.SPORT_CFG_KIND, 1),
     (P.sport 1, F.SPORT_CFG_KIND, 1), (P.mode, F.MODE_HAND_STAT_STATE.nth 0, 3), (P.mode, F.MODE_HAND_STAT_ARMED.nth 0, 1),
     (P.mode, F.MODE_HAND_STAT_LEADIN.nth 0, 1)] b0).modClu 0 fun c => { c with trigs := 17 }), 0, 0, 0, by decide +kernel⟩,
   ⟨st (ws [(P.mode, F.MODE_HAND_CFG_VALID.nth 0, 1), (P.mode, F.MODE_HAND_CFG_MEMBERS.nth 0, 3),
     (P.mode, F.MODE_HAND_STAT_STATE.nth 0, 3), (P.mode, F.MODE_HAND_STAT_ARMED.nth 0, 1),
     (P.mode, F.MODE_HAND_STAT_DRAINING.nth 0, 1)] b0), 0, 0, by decide +kernel⟩,
   ⟨st (((ws [(P.mode, F.MODE_HAND_CFG_VALID.nth 0, 1), (P.mode, F.MODE_HAND_CFG_MEMBERS.nth 0, 3),
     (P.mode, F.MODE_HAND_STAT_STATE.nth 0, 3), (P.mode, F.MODE_HAND_STAT_ARMED.nth 0, 1),
     (P.mode, F.MODE_HAND_STAT_DRAINING.nth 0, 1)] b0).modTile 0 (fun ts => { ts with n := 200000 })).modHand 0 (fun x => { x with drained := true })), 0, 0,
     by decide +kernel⟩⟩

theorem TileModeCommands_hypotheses_met :
    (∃ (s : State) (p : Port) (t : Fin 8), s.start.writable p 14 0x03 0x2A0 = true ∧ s.start.reachable t = true ∧
      (s.start.tile t).dormant = false ∧ s.start.inIsland t = false ∧ s.start.flag P.mode (F.MODE_TILE_MODE_PREP_BUSY.nth t) = false ∧
      s.start.tileArmed t = false ∧ s.start.domOn t D.mon = false ∧ s.start.domOn t (D.vc 0) = false ∧ s.start.domOn t (D.vc 1) = false ∧
      s.start.domOn t D.lamp = false ∧ s.start.twcBusy t = true ∧ s.start.dramTrains t = false) ∧
    (∃ (s : State) (t : Fin 8), s.start.islandOf t = none ∧ s.start.flag P.mode (F.MODE_TILE_MODE_PREP_BUSY.nth t) = true ∧
      s.start.prepRuns t = false ∧ s.start.prepErr t = 0) ∧
    (∃ (s : State) (p : Port) (t : Fin 8), s.start.writable p 14 0x03 0x2A0 = true ∧ s.start.dormantOk t = true ∧
      s.start.reachable t = true ∧ s.start.role t ≠ 2 ∧ s.start.flag (P.pwr t) F.PWR_DORM_CFG_DRAM_SR = true) ∧
    (∃ (s : State) (t : Fin 8) (gpio : BitVec 8) (alarm : Bool) (cp : Bool), (s.start.tile t).dormant = true ∧
      s.start.wakeSources t gpio.toNat alarm cp ≠ 0) :=
  ⟨⟨st (ws [(P.twc 0, F.TWC_STAT_BUSY, 1), (P.mode, F.MODE_ISLAND_EN_EN, 0)] base), .b, 0, by decide +kernel⟩,
   ⟨st (ws [(P.mode, F.MODE_TILE_MODE_PREP_BUSY.nth 0, 1)] base), 0, by decide +kernel⟩,
   ⟨st (ws [(P.ring 0, F.RING_STAT_REACH, 2), (P.pwr 1, F.PWR_DORM_CFG_DRAM_SR, 1)] b0), .b, 1, by decide +kernel⟩,
   ⟨st ((ws [(P.pwr 1, F.PWR_WAKE_CFG_ALARM_WAKE, 1)] b0).modTile 1 fun ts => { ts with dormant := true }), 1, 0, true, false,
     by decide +kernel⟩⟩

theorem TriggerEvents_hypotheses_met :
    (∃ (s : State) (g : Fin 16) (n : BitVec 64) (h : Nat), s.start.islandOf (g.val / 2) = none ∧ s.start.handOf g = some h ∧
      s.start.handSrc h < 2 ∧ Mach.onGrid (s.start.handGrid h) n.toNat = true ∧ (s.start.clu (s.start.leader h)).phaseSwitch = none ∧
      ((∀ l, (s.start.clu g).lastTrig = some l → l < n.toNat)) ∧ n.toNat ≤ s.start.now (g.val / 2) ∧ s.start.armed g = true ∧
      s.start.refLost = false ∧ s.start.idleMember g = false ∧ s.start.live (g.val / 2) (D.sport (g.val % 2)) = true ∧
      s.start.enabled (P.deal g) = true ∧ (s.start.clu g).dropNext = false ∧ s.start.portBusy g = false ∧ s.start.pixelless g = false) ∧
    (∃ (s : State) (g : Fin 16) (n : BitVec 64) (h : Nat), s.start.islandOf (g.val / 2) = none ∧ s.start.handOf g = some h ∧
      s.start.handSrc h < 2 ∧ Mach.onGrid (s.start.handGrid h) n.toNat = true ∧ (s.start.clu (s.start.leader h)).phaseSwitch = none ∧
      ((∀ l, (s.start.clu g).lastTrig = some l → l < n.toNat)) ∧ n.toNat ≤ s.start.now (g.val / 2) ∧ s.start.armed g = true ∧
      s.start.refLost = false ∧ s.start.idleMember g = false ∧ s.start.live (g.val / 2) (D.sport (g.val % 2)) = true ∧
      s.start.enabled (P.deal g) = true ∧ (s.start.clu g).dropNext = false ∧ s.start.portBusy g = true ∧ s.start.inDeal g = true ∧
      s.start.pixelless g = false) ∧
    (∃ (s : State) (t : Fin 8) (pin : Fin 4) (rising : Bool) (n : BitVec 64) (held : Nat) (filt : Nat) (h : Fin 16), s.start.islandOf t = none ∧
      filt = s.start.rd (P.deal (s.start.leader h)) F.DEAL_TRIG_FILT_FILT ∧ filt < held ∧ n.toNat + filt ≤ s.start.now t ∧
      s.start.live t D.aux = true ∧ ((∀ j, j < 16 → j ≠ h.val → s.start.handArmed j = false)) ∧ s.start.handArmed h = true ∧
      s.start.leaderLost h = false ∧ s.start.leader h < 16 ∧ s.start.leader h / 2 = t ∧
      s.start.rd (P.deal (s.start.leader h)) F.DEAL_SRC_PIN = pin ∧ s.start.flag (P.deal (s.start.leader h)) F.DEAL_SRC_POL ≠ rising ∧
      s.start.handSrc h = 1 ∧ (s.start.clu (s.start.leader h)).lastEdge = none ∧ (s.start.clu (s.start.leader h)).phaseSwitch = none) ∧
    (∃ (s : State) (h : Fin 16) (seg : Fin 8) (e : Nat) (k : Nat) (per : Nat), s.start.islandOf seg = none ∧
      (s.start.clu (s.start.leader h)).phaseSwitch = some (e, k) ∧ s.start.handArmed h = true ∧ s.start.leaderLost h = false ∧
      per = max 1 (s.start.rd (P.deal (s.start.leader h)) F.DEAL_PERIOD_TICKS) ∧
      Mach.firstPoint (per, (e + s.start.rd (P.deal (s.start.leader h)) F.DEAL_EXT_OFS_TICKS) % per) (k + per / 2) ≤ s.start.now (s.start.leader h / 2)) ∧
    (∃ (s : State) (h : Fin 16) (seg : Fin 8) (n : BitVec 64) (g : Nat), s.start.islandOf seg = none ∧ g < 16 ∧
      s.start.followers h = [g] ∧ s.start.leader h = g ∧ s.start.handArmed h = true ∧ s.start.handSrc h = 3 ∧
      s.start.enabled (P.deal g) = true ∧ s.start.rd P.mode (F.MODE_HAND_CFG_POS_KIND.nth h) = 0 ∧ n.toNat + 2 ≤ s.start.now (g / 2) ∧
      (s.start.clu g).legacyOrg + ((s.start.clu g).legacyTop + 1) * s.start.rd (P.acc g) F.ACC_PITCH_PITCH ≤ s.start.legacyPos h ∧
      s.start.tooClose h n.toNat = false ∧ s.start.armed g = true ∧ s.start.refLost = false ∧ s.start.idleMember g = false ∧
      s.start.live (g / 2) (D.sport (g % 2)) = true ∧ (s.start.clu g).dropNext = false ∧ s.start.portBusy g = false ∧
      s.start.pixelless g = false) :=
  ⟨⟨st ((ws [(P.mode, F.MODE_HAND_CFG_VALID.nth 0, 1), (P.mode, F.MODE_HAND_CFG_MEMBERS.nth 0, 3), (P.sport 0, F.SPORT_CFG_KIND, 1),
     (P.sport 1, F.SPORT_CFG_KIND, 1), (P.mode, F.MODE_HAND_STAT_STATE.nth 0, 3), (P.mode, F.MODE_HAND_STAT_ARMED.nth 0, 1),
     (P.deal 0, F.DEAL_PERIOD_TICKS, 1000), (P.deal 0, F.PAGE_CTRL_ENABLE, 1),
     (P.deal 0, F.DEAL_PHASES_P, 1)] b0).modTile 0 fun ts => { ts with n := 100000 }), 0, 5000, 0, by decide +kernel⟩,
   ⟨st (((ws [(P.mode, F.MODE_HAND_CFG_VALID.nth 0, 1), (P.mode, F.MODE_HAND_CFG_MEMBERS.nth 0, 3), (P.sport 0, F.SPORT_CFG_KIND, 1),
     (P.sport 1, F.SPORT_CFG_KIND, 1), (P.mode, F.MODE_HAND_STAT_STATE.nth 0, 3), (P.mode, F.MODE_HAND_STAT_ARMED.nth 0, 1),
     (P.deal 0, F.DEAL_PERIOD_TICKS, 1000), (P.deal 0, F.PAGE_CTRL_ENABLE, 1), (P.deal 0, F.DEAL_PHASES_P, 1),
     (P.mode, F.MODE_HAND_STAT_DEAL_OPEN.nth 0, 1)] b0).modTile 0 (fun ts => { ts with n := 100000 })).modClu 0 (fun c => { c with reading := some {} })), 0, 5000, 0,
     by decide +kernel⟩,
   ⟨st ((ws [(P.mode, F.MODE_HAND_CFG_VALID.nth 0, 1), (P.mode, F.MODE_HAND_CFG_MEMBERS.nth 0, 3), (P.sport 0, F.SPORT_CFG_KIND, 1),
     (P.sport 1, F.SPORT_CFG_KIND, 1), (P.mode, F.MODE_HAND_STAT_STATE.nth 0, 3), (P.mode, F.MODE_HAND_STAT_ARMED.nth 0, 1),
     (P.deal 0, F.DEAL_PERIOD_TICKS, 1000), (P.deal 0, F.PAGE_CTRL_ENABLE, 1), (P.deal 0, F.DEAL_PHASES_P, 1),
     (P.deal 0, F.DEAL_SRC_SRC, 1),
     (P.deal 0, F.DEAL_TRIG_FILT_FILT, 3)] b0).modTile 0 fun ts => { ts with n := 100000 }), 0, 0, true, 5000, 4, 3, 0, by decide +kernel⟩,
   ⟨st (((ws [(P.mode, F.MODE_HAND_CFG_VALID.nth 0, 1), (P.mode, F.MODE_HAND_CFG_MEMBERS.nth 0, 3), (P.sport 0, F.SPORT_CFG_KIND, 1),
     (P.sport 1, F.SPORT_CFG_KIND, 1), (P.mode, F.MODE_HAND_STAT_STATE.nth 0, 3), (P.mode, F.MODE_HAND_STAT_ARMED.nth 0, 1),
     (P.deal 0, F.DEAL_PERIOD_TICKS, 1000), (P.deal 0, F.PAGE_CTRL_ENABLE, 1),
     (P.deal 0, F.DEAL_PHASES_P, 1)] b0).modTile 0 (fun ts => { ts with n := 100000 })).modClu 0 (fun c => { c with phaseSwitch := some (70, 9000) })), 0, 0, 70, 9000, 1000,
     by decide +kernel⟩,
   ⟨st (((ws [(P.mode, F.MODE_HAND_CFG_VALID.nth 0, 1), (P.mode, F.MODE_HAND_CFG_MEMBERS.nth 0, 3), (P.sport 0, F.SPORT_CFG_KIND, 1),
     (P.sport 1, F.SPORT_CFG_KIND, 1), (P.mode, F.MODE_HAND_STAT_STATE.nth 0, 3), (P.mode, F.MODE_HAND_STAT_ARMED.nth 0, 1),
     (P.deal 0, F.DEAL_PERIOD_TICKS, 1000), (P.deal 0, F.PAGE_CTRL_ENABLE, 1), (P.deal 0, F.DEAL_PHASES_P, 1),
     (P.deal 0, F.DEAL_SRC_SRC, 3), (P.acc 0, F.ACC_PITCH_PITCH, 65536), (P.mode, F.MODE_HAND_CFG_MEMBERS.nth 0, 1),
     (P.mode, F.MODE_HAND_CFG_VALID.nth 0, 1)] b0).modTile 0 (fun ts => { ts with n := 100000 })).modAxA 0 (fun a => { a with enc := 2 })), 0, 0, 5000, 0,
     by decide +kernel⟩⟩

theorem ReadoutEvents_hypotheses_met :
    (∃ (s : State) (g : Fin 16) (data : LineData) (c : Capture), (s.start.clu g).reading = some c ∧ ((s.start.kind g = 3 →
      s.start.windowOver g ((s.start.dataLanes g).map (s.start.laneLines g data.lanes)) = true ∧ (s.start.clu g).failed = false ∧
      s.start.lanesGood g ((s.start.dataLanes g).map (s.start.laneLines g data.lanes)) = true)) ∧ s.start.enabled (P.vc g) = true ∧
      s.start.domOn (g.val / 2) (D.vc (g.val % 2)) = true ∧ c.counted = true ∧ s.start.actFlag (P.sport g) F.SPORT_OBC_EN = false ∧
      (s.start.clu g).slot = none ∧ (s.start.clu g).released = []) ∧
    (∃ (s : State) (g : Fin 16) (data : LineData) (c : Capture), (s.start.clu g).reading = some c ∧ ((s.start.kind g = 3 →
      s.start.windowOver g ((s.start.dataLanes g).map (s.start.laneLines g data.lanes)) = true ∧ (s.start.clu g).failed = false ∧
      s.start.lanesGood g ((s.start.dataLanes g).map (s.start.laneLines g data.lanes)) = true)) ∧ s.start.enabled (P.vc g) = true ∧
      s.start.domOn (g.val / 2) (D.vc (g.val % 2)) = true ∧ c.counted = true ∧ s.start.actFlag (P.sport g) F.SPORT_OBC_EN = false ∧
      (s.start.clu g).slot = none ∧ (s.start.clu g).released = []) ∧
    (∃ (s : State) (g : Fin 16) (c : Capture), (s.start.clu g).reading = some c ∧ s.start.kind g ≠ 3 ∧ s.start.enabled (P.vc g) = true ∧
      s.start.domOn (g.val / 2) (D.vc (g.val % 2)) = true ∧ c.counted = false) ∧
    (∃ (s : State) (g : Fin 16) (data : LineData), (s.start.clu g).reading.isSome = true ∧ s.start.kind g = 3 ∧
      s.start.windowOver g ((s.start.dataLanes g).map (s.start.laneLines g data.lanes)) = false) ∧
    (∃ (s : State) (g : Fin 16) (data : LineData) (c : Capture), (s.start.clu g).reading = some c ∧ s.start.kind g = 3 ∧
      s.start.windowOver g ((s.start.dataLanes g).map (s.start.laneLines g data.lanes)) = true ∧ (s.start.clu g).failed = false ∧
      s.start.lanesGood g ((s.start.dataLanes g).map (s.start.laneLines g data.lanes)) = false ∧ c.counted = true) ∧
    (∃ (s : State) (g : Fin 16), (s.start.clu g).reading = none) ∧
    (∃ (s : State) (g : Fin 16) (n : BitVec 64) (words : List Nat), s.start.live (g.val / 2) (D.sport (g.val % 2)) = true ∧
      s.start.kind g = 3 ∧ n.toNat ≤ s.start.now (g.val / 2) ∧ s.start.startsNow g words = true ∧
      s.start.windowOpen g n.toNat (s.start.framingLines g words) = true ∧ (s.start.framingLines g words).early = false) ∧
    (∃ (s : State) (g : Fin 16) (n : BitVec 64) (words : List Nat) (c : Capture), s.start.live (g.val / 2) (D.sport (g.val % 2)) = true ∧
      s.start.kind g = 3 ∧ n.toNat ≤ s.start.now (g.val / 2) ∧ s.start.startsNow g words = true ∧
      s.start.windowOpen g n.toNat (s.start.framingLines g words) = true ∧ (s.start.framingLines g words).early = true ∧
      (s.start.clu g).reading = some c ∧ c.counted = true ∧ (s.start.clu g).failed = false) ∧
    (∃ (s : State) (g : Fin 16) (n : BitVec 64) (words : List Nat), s.start.live (g.val / 2) (D.sport (g.val % 2)) = true ∧
      s.start.kind g = 3 ∧ n.toNat ≤ s.start.now (g.val / 2) ∧ s.start.startsNow g words = true ∧
      s.start.windowOpen g n.toNat (s.start.framingLines g words) = false) ∧
    (∃ (s : State) (g : Fin 16) (n : BitVec 64) (words : List Nat), n.toNat ≤ s.start.now (g.val / 2) ∧ s.start.startsNow g words = false) ∧
    (∃ (s : State) (g : Fin 16) (c : Capture), s.start.kind g = 3 ∧ (s.start.clu g).reading = some c ∧ c.counted = true ∧
      (s.start.clu g).failed = false ∧ c.n + 32 + s.start.windowTicks g ≤ s.start.now (g.val / 2)) ∧
    (∃ (s : State) (g : Fin 16) (c : Capture), s.start.kind g = 3 ∧ (s.start.clu g).reading = some c ∧ (s.start.clu g).failed = true ∧
      c.n + 32 + s.start.windowTicks g ≤ s.start.now (g.val / 2)) ∧
    (∃ (s : State) (g : Fin 16), (s.start.clu g).dlckIn = true ∧ s.start.kind g = 3 ∧
      s.start.live (g.val / 2) (D.sport (g.val % 2)) = true ∧ (s.start.clu g).reading = none) ∧
    (∃ (s : State) (g : Fin 16) (c : Capture), (s.start.clu g).dlckIn = true ∧ s.start.kind g = 3 ∧
      s.start.live (g.val / 2) (D.sport (g.val % 2)) = true ∧ (s.start.clu g).reading = some c ∧ c.counted = true ∧
      (s.start.clu g).failed = false) ∧
    (∃ (s : State) (g : Fin 16), (((s.start.clu g).dlckIn = false ∨ s.start.kind g ≠ 3 ∨ s.start.live (g.val / 2) (D.sport (g.val % 2)) = false))) :=
  ⟨⟨st (((ws [(P.mode, F.MODE_HAND_CFG_VALID.nth 0, 1), (P.mode, F.MODE_HAND_CFG_MEMBERS.nth 0, 3), (P.sport 0, F.SPORT_CFG_KIND, 1),
     (P.sport 1, F.SPORT_CFG_KIND, 1), (P.mode, F.MODE_HAND_STAT_STATE.nth 0, 3), (P.mode, F.MODE_HAND_STAT_ARMED.nth 0, 1),
     (P.vc 0, F.PAGE_CTRL_ENABLE, 1),
     (P.sport 0, { F.SPORT_OBC_EN with off := F.SPORT_OBC_EN.off + 0x800 }, 0)] b0).modTile 0 (fun ts => { ts with n := 100000 })).modClu 0 (fun c => { c with reading := some { n := 5000, cents := [80000], counted := true } })), 0, {}, { n := 5000, cents := [80000], counted := true },
     by decide +kernel⟩,
   ⟨st (((ws [(P.mode, F.MODE_HAND_CFG_VALID.nth 0, 1), (P.mode, F.MODE_HAND_CFG_MEMBERS.nth 0, 3), (P.sport 0, F.SPORT_CFG_KIND, 1),
     (P.sport 1, F.SPORT_CFG_KIND, 1), (P.mode, F.MODE_HAND_STAT_STATE.nth 0, 3), (P.mode, F.MODE_HAND_STAT_ARMED.nth 0, 1),
     (P.vc 0, F.PAGE_CTRL_ENABLE, 1), (P.sport 0, { F.SPORT_OBC_EN with off := F.SPORT_OBC_EN.off + 0x800 }, 0),
     (P.sport 0, F.SPORT_CFG_KIND, 3), (P.sport 0, F.SPORT_CFG_LANE_EN, 1), (P.sport 0, F.SPORT_SYNC01_SYNC0, 1),
     (P.sport 0, F.SPORT_SYNC01_SYNC1, 2), (P.sport 0, F.SPORT_SYNC2_SYNC2, 3), (P.sport 0, F.SPORT_SYNC2_SOL, 4),
     (P.sport 0, F.SPORT_EOL_EOL, 5), (P.sport 0, F.SPORT_EOL_CODE_MASK, 0xFFFF),
     (P.sport 0, F.SPORT_DIG_CFG_WPL, 2)] b0).modTile 0 (fun ts => { ts with n := 100000 })).modClu 0 (fun c => { c with reading := some { n := 5000, cents := [80000], counted := true } })), 0, { lanes := [[1, 2, 3, 4, 9, 8, 1, 2, 3, 5]] }, { n := 5000, cents := [80000], counted := true },
     by decide +kernel⟩,
   ⟨st (((ws [(P.mode, F.MODE_HAND_CFG_VALID.nth 0, 1), (P.mode, F.MODE_HAND_CFG_MEMBERS.nth 0, 3), (P.sport 0, F.SPORT_CFG_KIND, 1),
     (P.sport 1, F.SPORT_CFG_KIND, 1), (P.mode, F.MODE_HAND_STAT_STATE.nth 0, 3), (P.mode, F.MODE_HAND_STAT_ARMED.nth 0, 1),
     (P.vc 0, F.PAGE_CTRL_ENABLE, 1)] b0).modTile 0 (fun ts => { ts with n := 100000 })).modClu 0 (fun c => { c with reading := some { n := 5000 } })), 0, { n := 5000 },
     by decide +kernel⟩,
   ⟨st (((ws [(P.mode, F.MODE_HAND_CFG_VALID.nth 0, 1), (P.mode, F.MODE_HAND_CFG_MEMBERS.nth 0, 3), (P.sport 0, F.SPORT_CFG_KIND, 1),
     (P.sport 1, F.SPORT_CFG_KIND, 1), (P.mode, F.MODE_HAND_STAT_STATE.nth 0, 3), (P.mode, F.MODE_HAND_STAT_ARMED.nth 0, 1),
     (P.sport 0, F.SPORT_CFG_KIND, 3), (P.sport 0, F.SPORT_CFG_LANE_EN, 1), (P.sport 0, F.SPORT_SYNC01_SYNC0, 1),
     (P.sport 0, F.SPORT_SYNC01_SYNC1, 2), (P.sport 0, F.SPORT_SYNC2_SYNC2, 3), (P.sport 0, F.SPORT_SYNC2_SOL, 4),
     (P.sport 0, F.SPORT_EOL_EOL, 5), (P.sport 0, F.SPORT_EOL_CODE_MASK, 0xFFFF),
     (P.sport 0, F.SPORT_DIG_CFG_WPL, 2)] b0).modTile 0 (fun ts => { ts with n := 100000 })).modClu 0 (fun c => { c with reading := some { n := 5000, cents := [80000], counted := true } })), 0, { lanes := [[1, 2, 3, 4, 9]] },
     by decide +kernel⟩,
   ⟨st (((ws [(P.mode, F.MODE_HAND_CFG_VALID.nth 0, 1), (P.mode, F.MODE_HAND_CFG_MEMBERS.nth 0, 3), (P.sport 0, F.SPORT_CFG_KIND, 1),
     (P.sport 1, F.SPORT_CFG_KIND, 1), (P.mode, F.MODE_HAND_STAT_STATE.nth 0, 3), (P.mode, F.MODE_HAND_STAT_ARMED.nth 0, 1),
     (P.sport 0, F.SPORT_CFG_KIND, 3), (P.sport 0, F.SPORT_CFG_LANE_EN, 1), (P.sport 0, F.SPORT_SYNC01_SYNC0, 1),
     (P.sport 0, F.SPORT_SYNC01_SYNC1, 2), (P.sport 0, F.SPORT_SYNC2_SYNC2, 3), (P.sport 0, F.SPORT_SYNC2_SOL, 4),
     (P.sport 0, F.SPORT_EOL_EOL, 5), (P.sport 0, F.SPORT_EOL_CODE_MASK, 0xFFFF),
     (P.sport 0, F.SPORT_DIG_CFG_WPL, 2)] b0).modTile 0 (fun ts => { ts with n := 100000 })).modClu 0 (fun c => { c with reading := some { n := 5000, cents := [80000], counted := true } })), 0, { lanes := [[1, 2, 3, 4, 9, 1, 2, 3, 5]] }, { n := 5000, cents := [80000], counted := true },
     by decide +kernel⟩,
   ⟨st b0, 0, by decide +kernel⟩,
   ⟨st (((ws [(P.mode, F.MODE_HAND_CFG_VALID.nth 0, 1), (P.mode, F.MODE_HAND_CFG_MEMBERS.nth 0, 3), (P.sport 0, F.SPORT_CFG_KIND, 1),
     (P.sport 1, F.SPORT_CFG_KIND, 1), (P.mode, F.MODE_HAND_STAT_STATE.nth 0, 3), (P.mode, F.MODE_HAND_STAT_ARMED.nth 0, 1),
     (P.sport 0, F.SPORT_CFG_KIND, 3), (P.sport 0, F.SPORT_CFG_LANE_EN, 1), (P.sport 0, F.SPORT_SYNC01_SYNC0, 1),
     (P.sport 0, F.SPORT_SYNC01_SYNC1, 2), (P.sport 0, F.SPORT_SYNC2_SYNC2, 3), (P.sport 0, F.SPORT_SYNC2_SOL, 4),
     (P.sport 0, F.SPORT_EOL_EOL, 5), (P.sport 0, F.SPORT_EOL_CODE_MASK, 0xFFFF),
     (P.sport 0, F.SPORT_DIG_CFG_WPL, 2)] b0).modTile 0 (fun ts => { ts with n := 100000 })).modClu 0 (fun c => { c with reading := some { n := 5000, cents := [80000], counted := true } })), 0, 6000, [9, 1, 2, 3, 4],
     by decide +kernel⟩,
   ⟨st (((ws [(P.mode, F.MODE_HAND_CFG_VALID.nth 0, 1), (P.mode, F.MODE_HAND_CFG_MEMBERS.nth 0, 3), (P.sport 0, F.SPORT_CFG_KIND, 1),
     (P.sport 1, F.SPORT_CFG_KIND, 1), (P.mode, F.MODE_HAND_STAT_STATE.nth 0, 3), (P.mode, F.MODE_HAND_STAT_ARMED.nth 0, 1),
     (P.sport 0, F.SPORT_CFG_KIND, 3), (P.sport 0, F.SPORT_CFG_LANE_EN, 1), (P.sport 0, F.SPORT_SYNC01_SYNC0, 1),
     (P.sport 0, F.SPORT_SYNC01_SYNC1, 2), (P.sport 0, F.SPORT_SYNC2_SYNC2, 3), (P.sport 0, F.SPORT_SYNC2_SOL, 4),
     (P.sport 0, F.SPORT_EOL_EOL, 5), (P.sport 0, F.SPORT_EOL_CODE_MASK, 0xFFFF),
     (P.sport 0, F.SPORT_DIG_CFG_WPL, 2)] b0).modTile 0 (fun ts => { ts with n := 100000 })).modClu 0 (fun c => { c with reading := some { n := 5000, cents := [80000], counted := true } })), 0, 6000, [1, 2, 3, 4, 9, 1, 2, 3, 4], { n := 5000, cents := [80000], counted := true },
     by decide +kernel⟩,
   ⟨st (((ws [(P.mode, F.MODE_HAND_CFG_VALID.nth 0, 1), (P.mode, F.MODE_HAND_CFG_MEMBERS.nth 0, 3), (P.sport 0, F.SPORT_CFG_KIND, 1),
     (P.sport 1, F.SPORT_CFG_KIND, 1), (P.mode, F.MODE_HAND_STAT_STATE.nth 0, 3), (P.mode, F.MODE_HAND_STAT_ARMED.nth 0, 1),
     (P.sport 0, F.SPORT_CFG_KIND, 3), (P.sport 0, F.SPORT_CFG_LANE_EN, 1), (P.sport 0, F.SPORT_SYNC01_SYNC0, 1),
     (P.sport 0, F.SPORT_SYNC01_SYNC1, 2), (P.sport 0, F.SPORT_SYNC2_SYNC2, 3), (P.sport 0, F.SPORT_SYNC2_SOL, 4),
     (P.sport 0, F.SPORT_EOL_EOL, 5), (P.sport 0, F.SPORT_EOL_CODE_MASK, 0xFFFF),
     (P.sport 0, F.SPORT_DIG_CFG_WPL, 2)] b0).modTile 0 (fun ts => { ts with n := 100000 })).modClu 0 (fun c => { c with reading := some { n := 5000, cents := [80000], counted := true } })), 0, 5020, [1, 2, 3, 4],
     by decide +kernel⟩,
   ⟨st (((ws [(P.mode, F.MODE_HAND_CFG_VALID.nth 0, 1), (P.mode, F.MODE_HAND_CFG_MEMBERS.nth 0, 3), (P.sport 0, F.SPORT_CFG_KIND, 1),
     (P.sport 1, F.SPORT_CFG_KIND, 1), (P.mode, F.MODE_HAND_STAT_STATE.nth 0, 3), (P.mode, F.MODE_HAND_STAT_ARMED.nth 0, 1),
     (P.sport 0, F.SPORT_CFG_KIND, 3), (P.sport 0, F.SPORT_CFG_LANE_EN, 1), (P.sport 0, F.SPORT_SYNC01_SYNC0, 1),
     (P.sport 0, F.SPORT_SYNC01_SYNC1, 2), (P.sport 0, F.SPORT_SYNC2_SYNC2, 3), (P.sport 0, F.SPORT_SYNC2_SOL, 4),
     (P.sport 0, F.SPORT_EOL_EOL, 5), (P.sport 0, F.SPORT_EOL_CODE_MASK, 0xFFFF),
     (P.sport 0, F.SPORT_DIG_CFG_WPL, 2)] b0).modTile 0 (fun ts => { ts with n := 100000 })).modClu 0 (fun c => { c with reading := some { n := 5000, cents := [80000], counted := true } })), 0, 6000, [1, 2, 3, 4, 9],
     by decide +kernel⟩,
   ⟨st (((ws [(P.mode, F.MODE_HAND_CFG_VALID.nth 0, 1), (P.mode, F.MODE_HAND_CFG_MEMBERS.nth 0, 3), (P.sport 0, F.SPORT_CFG_KIND, 1),
     (P.sport 1, F.SPORT_CFG_KIND, 1), (P.mode, F.MODE_HAND_STAT_STATE.nth 0, 3), (P.mode, F.MODE_HAND_STAT_ARMED.nth 0, 1),
     (P.sport 0, F.SPORT_CFG_KIND, 3), (P.sport 0, F.SPORT_CFG_LANE_EN, 1), (P.sport 0, F.SPORT_SYNC01_SYNC0, 1),
     (P.sport 0, F.SPORT_SYNC01_SYNC1, 2), (P.sport 0, F.SPORT_SYNC2_SYNC2, 3), (P.sport 0, F.SPORT_SYNC2_SOL, 4),
     (P.sport 0, F.SPORT_EOL_EOL, 5), (P.sport 0, F.SPORT_EOL_CODE_MASK, 0xFFFF), (P.sport 0, F.SPORT_DIG_CFG_WPL, 2),
     (P.sport 0, F.SPORT_RD_TIMEOUT_TICKS, 1000)] b0).modTile 0 (fun ts => { ts with n := 100000 })).modClu 0 (fun c => { c with reading := some { n := 5000, cents := [80000], counted := true } })), 0, { n := 5000, cents := [80000], counted := true },
     by decide +kernel⟩,
   ⟨st (((ws [(P.mode, F.MODE_HAND_CFG_VALID.nth 0, 1), (P.mode, F.MODE_HAND_CFG_MEMBERS.nth 0, 3), (P.sport 0, F.SPORT_CFG_KIND, 1),
     (P.sport 1, F.SPORT_CFG_KIND, 1), (P.mode, F.MODE_HAND_STAT_STATE.nth 0, 3), (P.mode, F.MODE_HAND_STAT_ARMED.nth 0, 1),
     (P.sport 0, F.SPORT_CFG_KIND, 3), (P.sport 0, F.SPORT_CFG_LANE_EN, 1), (P.sport 0, F.SPORT_SYNC01_SYNC0, 1),
     (P.sport 0, F.SPORT_SYNC01_SYNC1, 2), (P.sport 0, F.SPORT_SYNC2_SYNC2, 3), (P.sport 0, F.SPORT_SYNC2_SOL, 4),
     (P.sport 0, F.SPORT_EOL_EOL, 5), (P.sport 0, F.SPORT_EOL_CODE_MASK, 0xFFFF), (P.sport 0, F.SPORT_DIG_CFG_WPL, 2),
     (P.sport 0, F.SPORT_RD_TIMEOUT_TICKS, 1000)] b0).modTile 0 (fun ts => { ts with n := 100000 })).modClu 0 (fun c => { c with reading := some { n := 5000, cents := [80000], counted := true }, failed := true })), 0, { n := 5000, cents := [80000], counted := true },
     by decide +kernel⟩,
   ⟨st ((ws [(P.mode, F.MODE_HAND_CFG_VALID.nth 0, 1), (P.mode, F.MODE_HAND_CFG_MEMBERS.nth 0, 3), (P.sport 0, F.SPORT_CFG_KIND, 1),
     (P.sport 1, F.SPORT_CFG_KIND, 1), (P.mode, F.MODE_HAND_STAT_STATE.nth 0, 3), (P.mode, F.MODE_HAND_STAT_ARMED.nth 0, 1),
     (P.sport 0, F.SPORT_CFG_KIND, 3)] b0).modClu 0 (fun c => { c with dlckIn := true })), 0, by decide +kernel⟩,
   ⟨st ((ws [(P.mode, F.MODE_HAND_CFG_VALID.nth 0, 1), (P.mode, F.MODE_HAND_CFG_MEMBERS.nth 0, 3), (P.sport 0, F.SPORT_CFG_KIND, 1),
     (P.sport 1, F.SPORT_CFG_KIND, 1), (P.mode, F.MODE_HAND_STAT_STATE.nth 0, 3), (P.mode, F.MODE_HAND_STAT_ARMED.nth 0, 1),
     (P.sport 0, F.SPORT_CFG_KIND, 3)] b0).modClu 0 (fun c => { c with reading := some { n := 5000, cents := [80000], counted := true }, dlckIn := true })), 0, { n := 5000, cents := [80000], counted := true },
     by decide +kernel⟩,
   ⟨st (ws [(P.mode, F.MODE_HAND_CFG_VALID.nth 0, 1), (P.mode, F.MODE_HAND_CFG_MEMBERS.nth 0, 3), (P.sport 0, F.SPORT_CFG_KIND, 1),
     (P.sport 1, F.SPORT_CFG_KIND, 1), (P.mode, F.MODE_HAND_STAT_STATE.nth 0, 3), (P.mode, F.MODE_HAND_STAT_ARMED.nth 0, 1),
     (P.sport 0, F.SPORT_CFG_KIND, 3)] b0), 0, by decide +kernel⟩⟩

theorem DeskewAndSensorSpi_hypotheses_met :
    (∃ (s : State) (p : Port) (g : Fin 16), s.start.writable p (g.val / 2) (0x08 + g.val % 2) 0x094 = true ∧ s.start.running g = false) ∧
    (∃ (s : State) (g : Fin 16), s.start.flag (P.sport g) F.SPORT_DESKEW_GO = true) ∧
    (∃ (s : State) (p : Port) (g : Fin 16), s.start.writable p (g.val / 2) 0x36 (0x048 + 0x40 * (g.val % 2)) = true ∧
      s.start.spiTxLvl g < 16 ∧ (s.start.clu g).spi.shift.isSome = true) ∧
    (∃ (s : State) (p : Port) (g : Fin 16), s.start.writable p (g.val / 2) 0x36 (0x048 + 0x40 * (g.val % 2)) = true ∧
      (s.start.clu g).spi.tx = [] ∧ (s.start.clu g).spi.shift = none ∧ s.start.spiGated g = false) ∧
    (∃ (s : State) (p : Port) (g : Fin 16) (v : Word), s.start.writable p (g.val / 2) 0x36 (0x050 + 0x40 * (g.val % 2)) = true ∧
      bit v.toNat 1 = false) ∧
    (∃ (s : State) (p : Port) (g : Fin 16) (v : Word), s.start.writable p (g.val / 2) 0x36 (0x050 + 0x40 * (g.val % 2)) = true ∧
      bit v.toNat 0 = false ∧ (s.start.clu g).spi.shift = none) ∧
    (∃ (s : State) (g : Fin 16), (s.start.clu g).spi.shift.isSome = true ∧ (s.start.clu g).spi.rx.length < 16 ∧
      (s.start.clu g).spi.flush = false ∧ (s.start.clu g).spi.tx = []) :=
  ⟨⟨st b0, .b, 0, by decide +kernel⟩,
   ⟨st (ws [(P.sport 0, F.SPORT_DESKEW_GO, 1)] b0), 0, by decide +kernel⟩,
   ⟨st ((b0).modClu 0 (fun c => { c with spi := { shift := some 3, tx := [1] } })), .b, 0, by decide +kernel⟩,
   ⟨st b0, .b, 0, by decide +kernel⟩,
   ⟨st ((b0).modClu 0 (fun c => { c with spi := { rx := [1,2] } })), .b, 0, 1, by decide +kernel⟩,
   ⟨st ((b0).modClu 0 (fun c => { c with spi := { rx := [1,2], tx := [3] } })), .b, 0, 2, by decide +kernel⟩,
   ⟨st ((b0).modClu 0 (fun c => { c with spi := { shift := some 3, rx := [1] } })), 0, by decide +kernel⟩⟩

theorem ConverterCalibration_hypotheses_met :
    (∃ (s : State) (p : Port) (g : Fin 16), s.start.writable p (g.val / 2) (0x0C + g.val % 2) 0x05C = true ∧ s.start.armed g = false ∧
      s.start.flag (P.vc g) F.VC_STAT_CAL_BUSY = false) ∧
    (∃ (s : State) (g : Fin 16), s.start.flag (P.vc g) F.VC_STAT_CAL_BUSY = true) ∧
    (∃ (s : State) (g : Fin 16) (v : Fin 6) (fit : StepEnd) (w : Nat), s.start.stepRuns g v = true ∧ (s.start.conv g v).bridge = false ∧
      2 ^ s.start.act (P.vc g) F.VC_BGCAL_SHADOW_LOG2 ≤ fit.pairs ∧ fit.res ≤ s.start.act (P.vc g) F.VC_LIM_RES_LSB ∧
      w = Mach.factorWord fit.ofs (if 1024 ≤ fit.sd then fit.gain else Mach.fGain (s.start.factors g v (s.start.dummySlice g v))) (if 64 ≤ fit.slope then fit.skew else Mach.fSkew (s.start.factors g v (s.start.dummySlice g v))) fit.res ∧
      s.start.drifted g v w = false) ∧
    (∃ (s : State) (g : Fin 16) (v : Fin 6) (w : Nat), (s.start.conv g v).pend = some w ∧ s.start.bridges g v = false ∧
      s.start.shadowPos g v < 4) ∧
    (∃ (s : State) (g : Fin 16) (v : Fin 6) (pairs : Nat) (fit : StepFit) (w : Nat), s.start.stepRuns g v = true ∧
      (s.start.conv g v).bridge = false ∧ 256 ≤ pairs ∧ fit.res ≤ s.start.act (P.vc g) F.VC_LIM_RES_LSB ∧
      w = Mach.factorWord fit.ofs (Mach.fGain (s.start.factors g v (s.start.dummySlice g v))) (Mach.fSkew (s.start.factors g v (s.start.dummySlice g v))) fit.res ∧
      s.start.drifted g v w = false) ∧
    (∃ (s : State) (g : Fin 16) (v : Fin 6) (pairs : Nat), s.start.stepRuns g v = true ∧ pairs < 256) :=
  ⟨⟨st b0, .b, 0, by decide +kernel⟩,
   ⟨st (ws [(P.vc 0, F.VC_STAT_CAL_BUSY, 1)] b0), 0, by decide +kernel⟩,
   ⟨st ((ws [(P.mode, F.MODE_HAND_CFG_VALID.nth 0, 1), (P.mode, F.MODE_HAND_CFG_MEMBERS.nth 0, 3), (P.sport 0, F.SPORT_CFG_KIND, 1),
     (P.sport 1, F.SPORT_CFG_KIND, 1), (P.mode, F.MODE_HAND_STAT_STATE.nth 0, 3), (P.mode, F.MODE_HAND_STAT_ARMED.nth 0, 1),
     (P.vc 0, F.PAGE_CTRL_ENABLE, 1), (P.vc 0, F.VC_CONV_MAP_DUMMY.nth 0, 4),
     (P.vc 0, { F.VC_BGCAL_EN with off := F.VC_BGCAL_EN.off + 0x800 }, 1),
     (P.vc 0, { F.VC_LIM_OFS_LSB with off := F.VC_LIM_OFS_LSB.off + 0x800 }, 100),
     (P.vc 0, { F.VC_LIM_GAIN_UNITS with off := F.VC_LIM_GAIN_UNITS.off + 0x800 }, 1000),
     (P.vc 0, { F.VC_LIM_SKEW_UNITS with off := F.VC_LIM_SKEW_UNITS.off + 0x800 }, 10),
     (P.vc 0, { F.VC_LIM_RES_LSB with off := F.VC_LIM_RES_LSB.off + 0x800 }, 10)] b0).setEl (P.vc 0) 2 4 (Mach.factorWord 0 32768 0 0)), 0, 0, { ofs := 3, gain := 32770, skew := 5, res := 2, selfOfs := 0, selfGain := 32768, selfRes := 2, at_ := 0 , pairs := 4096, sd := 1024, slope := 63 }, Mach.factorWord 3 32770 (Mach.fSkew ((st ((ws [(P.mode, F.MODE_HAND_CFG_VALID.nth 0, 1),
     (P.mode, F.MODE_HAND_CFG_MEMBERS.nth 0, 3), (P.sport 0, F.SPORT_CFG_KIND, 1), (P.sport 1, F.SPORT_CFG_KIND, 1),
     (P.mode, F.MODE_HAND_STAT_STATE.nth 0, 3), (P.mode, F.MODE_HAND_STAT_ARMED.nth 0, 1), (P.vc 0, F.PAGE_CTRL_ENABLE, 1),
     (P.vc 0, F.VC_CONV_MAP_DUMMY.nth 0, 4), (P.vc 0, { F.VC_BGCAL_EN with off := F.VC_BGCAL_EN.off + 0x800 }, 1),
     (P.vc 0, { F.VC_LIM_OFS_LSB with off := F.VC_LIM_OFS_LSB.off + 0x800 }, 100),
     (P.vc 0, { F.VC_LIM_GAIN_UNITS with off := F.VC_LIM_GAIN_UNITS.off + 0x800 }, 1000),
     (P.vc 0, { F.VC_LIM_SKEW_UNITS with off := F.VC_LIM_SKEW_UNITS.off + 0x800 }, 10),
     (P.vc 0, { F.VC_LIM_RES_LSB with off := F.VC_LIM_RES_LSB.off + 0x800 }, 10)] b0).setEl (P.vc 0) 2 4 (Mach.factorWord 0 32768 0 0))).start.factors (0) 0 ((st ((ws [(P.mode, F.MODE_HAND_CFG_VALID.nth 0, 1),
     (P.mode, F.MODE_HAND_CFG_MEMBERS.nth 0, 3), (P.sport 0, F.SPORT_CFG_KIND, 1), (P.sport 1, F.SPORT_CFG_KIND, 1),
     (P.mode, F.MODE_HAND_STAT_STATE.nth 0, 3), (P.mode, F.MODE_HAND_STAT_ARMED.nth 0, 1), (P.vc 0, F.PAGE_CTRL_ENABLE, 1),
     (P.vc 0, F.VC_CONV_MAP_DUMMY.nth 0, 4), (P.vc 0, { F.VC_BGCAL_EN with off := F.VC_BGCAL_EN.off + 0x800 }, 1),
     (P.vc 0, { F.VC_LIM_OFS_LSB with off := F.VC_LIM_OFS_LSB.off + 0x800 }, 100),
     (P.vc 0, { F.VC_LIM_GAIN_UNITS with off := F.VC_LIM_GAIN_UNITS.off + 0x800 }, 1000),
     (P.vc 0, { F.VC_LIM_SKEW_UNITS with off := F.VC_LIM_SKEW_UNITS.off + 0x800 }, 10),
     (P.vc 0, { F.VC_LIM_RES_LSB with off := F.VC_LIM_RES_LSB.off + 0x800 }, 10)] b0).setEl (P.vc 0) 2 4 (Mach.factorWord 0 32768 0 0))).start.dummySlice (0) 0))) 2,
     by decide +kernel⟩,
   ⟨st ((ws [(P.mode, F.MODE_HAND_CFG_VALID.nth 0, 1), (P.mode, F.MODE_HAND_CFG_MEMBERS.nth 0, 3), (P.sport 0, F.SPORT_CFG_KIND, 1),
     (P.sport 1, F.SPORT_CFG_KIND, 1), (P.mode, F.MODE_HAND_STAT_STATE.nth 0, 3), (P.mode, F.MODE_HAND_STAT_ARMED.nth 0, 1),
     (P.vc 0, F.PAGE_CTRL_ENABLE, 1), (P.vc 0, F.VC_CONV_MAP_DUMMY.nth 0, 4),
     (P.vc 0, { F.VC_BGCAL_EN with off := F.VC_BGCAL_EN.off + 0x800 }, 1),
     (P.vc 0, { F.VC_LIM_OFS_LSB with off := F.VC_LIM_OFS_LSB.off + 0x800 }, 100),
     (P.vc 0, { F.VC_LIM_GAIN_UNITS with off := F.VC_LIM_GAIN_UNITS.off + 0x800 }, 1000),
     (P.vc 0, { F.VC_LIM_SKEW_UNITS with off := F.VC_LIM_SKEW_UNITS.off + 0x800 }, 10),
     (P.vc 0, { F.VC_LIM_RES_LSB with off := F.VC_LIM_RES_LSB.off + 0x800 }, 10)] b0).modConv 0 0 (fun c => { c with pend := some 0x12345678 })), 0, 0, 0x12345678,
     by decide +kernel⟩,
   ⟨st (((ws [(P.mode, F.MODE_HAND_CFG_VALID.nth 0, 1), (P.mode, F.MODE_HAND_CFG_MEMBERS.nth 0, 3), (P.sport 0, F.SPORT_CFG_KIND, 1),
     (P.sport 1, F.SPORT_CFG_KIND, 1), (P.mode, F.MODE_HAND_STAT_STATE.nth 0, 3), (P.mode, F.MODE_HAND_STAT_ARMED.nth 0, 1),
     (P.vc 0, F.PAGE_CTRL_ENABLE, 1), (P.vc 0, F.VC_CONV_MAP_DUMMY.nth 0, 4),
     (P.vc 0, { F.VC_BGCAL_EN with off := F.VC_BGCAL_EN.off + 0x800 }, 1),
     (P.vc 0, { F.VC_LIM_OFS_LSB with off := F.VC_LIM_OFS_LSB.off + 0x800 }, 100),
     (P.vc 0, { F.VC_LIM_GAIN_UNITS with off := F.VC_LIM_GAIN_UNITS.off + 0x800 }, 1000),
     (P.vc 0, { F.VC_LIM_SKEW_UNITS with off := F.VC_LIM_SKEW_UNITS.off + 0x800 }, 10),
     (P.vc 0, { F.VC_LIM_RES_LSB with off := F.VC_LIM_RES_LSB.off + 0x800 }, 10)] b0).setEl (P.vc 0) 2 4 (Mach.factorWord 0 32768 0 0)).setEl (P.vc 0) 1 4 (Mach.factorWord 0 32768 0 0)), 0, 0, 256, { ofs := 3, gain := 32770, skew := 5, res := 2, selfOfs := 0, selfGain := 32768, selfRes := 2, at_ := 0 }, Mach.factorWord 3 (Mach.fGain ((st (((ws [(P.mode, F.MODE_HAND_CFG_VALID.nth 0, 1),
     (P.mode, F.MODE_HAND_CFG_MEMBERS.nth 0, 3), (P.sport 0, F.SPORT_CFG_KIND, 1), (P.sport 1, F.SPORT_CFG_KIND, 1),
     (P.mode, F.MODE_HAND_STAT_STATE.nth 0, 3), (P.mode, F.MODE_HAND_STAT_ARMED.nth 0, 1), (P.vc 0, F.PAGE_CTRL_ENABLE, 1),
     (P.vc 0, F.VC_CONV_MAP_DUMMY.nth 0, 4), (P.vc 0, { F.VC_BGCAL_EN with off := F.VC_BGCAL_EN.off + 0x800 }, 1),
     (P.vc 0, { F.VC_LIM_OFS_LSB with off := F.VC_LIM_OFS_LSB.off + 0x800 }, 100),
     (P.vc 0, { F.VC_LIM_GAIN_UNITS with off := F.VC_LIM_GAIN_UNITS.off + 0x800 }, 1000),
     (P.vc 0, { F.VC_LIM_SKEW_UNITS with off := F.VC_LIM_SKEW_UNITS.off + 0x800 }, 10),
     (P.vc 0, { F.VC_LIM_RES_LSB with off := F.VC_LIM_RES_LSB.off + 0x800 }, 10)] b0).setEl (P.vc 0) 2 4 (Mach.factorWord 0 32768 0 0)).setEl (P.vc 0) 1 4 (Mach.factorWord 0 32768 0 0))).start.factors (0) 0 ((st (((ws [(P.mode, F.MODE_HAND_CFG_VALID.nth 0, 1),
     (P.mode, F.MODE_HAND_CFG_MEMBERS.nth 0, 3), (P.sport 0, F.SPORT_CFG_KIND, 1), (P.sport 1, F.SPORT_CFG_KIND, 1),
     (P.mode, F.MODE_HAND_STAT_STATE.nth 0, 3), (P.mode, F.MODE_HAND_STAT_ARMED.nth 0, 1), (P.vc 0, F.PAGE_CTRL_ENABLE, 1),
     (P.vc 0, F.VC_CONV_MAP_DUMMY.nth 0, 4), (P.vc 0, { F.VC_BGCAL_EN with off := F.VC_BGCAL_EN.off + 0x800 }, 1),
     (P.vc 0, { F.VC_LIM_OFS_LSB with off := F.VC_LIM_OFS_LSB.off + 0x800 }, 100),
     (P.vc 0, { F.VC_LIM_GAIN_UNITS with off := F.VC_LIM_GAIN_UNITS.off + 0x800 }, 1000),
     (P.vc 0, { F.VC_LIM_SKEW_UNITS with off := F.VC_LIM_SKEW_UNITS.off + 0x800 }, 10),
     (P.vc 0, { F.VC_LIM_RES_LSB with off := F.VC_LIM_RES_LSB.off + 0x800 }, 10)] b0).setEl (P.vc 0) 2 4 (Mach.factorWord 0 32768 0 0)).setEl (P.vc 0) 1 4 (Mach.factorWord 0 32768 0 0))).start.dummySlice (0) 0))) (Mach.fSkew ((st (((ws [(P.mode, F.MODE_HAND_CFG_VALID.nth 0, 1),
     (P.mode, F.MODE_HAND_CFG_MEMBERS.nth 0, 3), (P.sport 0, F.SPORT_CFG_KIND, 1), (P.sport 1, F.SPORT_CFG_KIND, 1),
     (P.mode, F.MODE_HAND_STAT_STATE.nth 0, 3), (P.mode, F.MODE_HAND_STAT_ARMED.nth 0, 1), (P.vc 0, F.PAGE_CTRL_ENABLE, 1),
     (P.vc 0, F.VC_CONV_MAP_DUMMY.nth 0, 4), (P.vc 0, { F.VC_BGCAL_EN with off := F.VC_BGCAL_EN.off + 0x800 }, 1),
     (P.vc 0, { F.VC_LIM_OFS_LSB with off := F.VC_LIM_OFS_LSB.off + 0x800 }, 100),
     (P.vc 0, { F.VC_LIM_GAIN_UNITS with off := F.VC_LIM_GAIN_UNITS.off + 0x800 }, 1000),
     (P.vc 0, { F.VC_LIM_SKEW_UNITS with off := F.VC_LIM_SKEW_UNITS.off + 0x800 }, 10),
     (P.vc 0, { F.VC_LIM_RES_LSB with off := F.VC_LIM_RES_LSB.off + 0x800 }, 10)] b0).setEl (P.vc 0) 2 4 (Mach.factorWord 0 32768 0 0)).setEl (P.vc 0) 1 4 (Mach.factorWord 0 32768 0 0))).start.factors (0) 0 ((st (((ws [(P.mode, F.MODE_HAND_CFG_VALID.nth 0, 1),
     (P.mode, F.MODE_HAND_CFG_MEMBERS.nth 0, 3), (P.sport 0, F.SPORT_CFG_KIND, 1), (P.sport 1, F.SPORT_CFG_KIND, 1),
     (P.mode, F.MODE_HAND_STAT_STATE.nth 0, 3), (P.mode, F.MODE_HAND_STAT_ARMED.nth 0, 1), (P.vc 0, F.PAGE_CTRL_ENABLE, 1),
     (P.vc 0, F.VC_CONV_MAP_DUMMY.nth 0, 4), (P.vc 0, { F.VC_BGCAL_EN with off := F.VC_BGCAL_EN.off + 0x800 }, 1),
     (P.vc 0, { F.VC_LIM_OFS_LSB with off := F.VC_LIM_OFS_LSB.off + 0x800 }, 100),
     (P.vc 0, { F.VC_LIM_GAIN_UNITS with off := F.VC_LIM_GAIN_UNITS.off + 0x800 }, 1000),
     (P.vc 0, { F.VC_LIM_SKEW_UNITS with off := F.VC_LIM_SKEW_UNITS.off + 0x800 }, 10),
     (P.vc 0, { F.VC_LIM_RES_LSB with off := F.VC_LIM_RES_LSB.off + 0x800 }, 10)] b0).setEl (P.vc 0) 2 4 (Mach.factorWord 0 32768 0 0)).setEl (P.vc 0) 1 4 (Mach.factorWord 0 32768 0 0))).start.dummySlice (0) 0))) 2,
     by decide +kernel⟩,
   ⟨st (ws [(P.mode, F.MODE_HAND_CFG_VALID.nth 0, 1), (P.mode, F.MODE_HAND_CFG_MEMBERS.nth 0, 3), (P.sport 0, F.SPORT_CFG_KIND, 1),
     (P.sport 1, F.SPORT_CFG_KIND, 1), (P.mode, F.MODE_HAND_STAT_STATE.nth 0, 3), (P.mode, F.MODE_HAND_STAT_ARMED.nth 0, 1),
     (P.vc 0, F.PAGE_CTRL_ENABLE, 1), (P.vc 0, F.VC_CONV_MAP_DUMMY.nth 0, 4),
     (P.vc 0, { F.VC_BGCAL_EN with off := F.VC_BGCAL_EN.off + 0x800 }, 1),
     (P.vc 0, { F.VC_LIM_OFS_LSB with off := F.VC_LIM_OFS_LSB.off + 0x800 }, 100),
     (P.vc 0, { F.VC_LIM_GAIN_UNITS with off := F.VC_LIM_GAIN_UNITS.off + 0x800 }, 1000),
     (P.vc 0, { F.VC_LIM_SKEW_UNITS with off := F.VC_LIM_SKEW_UNITS.off + 0x800 }, 10),
     (P.vc 0, { F.VC_LIM_RES_LSB with off := F.VC_LIM_RES_LSB.off + 0x800 }, 10)] b0), 0, 0, 255, by decide +kernel⟩⟩

theorem PositionsAndTemperatures_hypotheses_met :
    (∃ (s : State) (g : Fin 16) (h : Nat) (n : Nat) (x : Int), s.start.islandOf (g.val / 2) = none ∧ s.start.handOf g = some h ∧
      (s.start.hand h).sample = some (n, x) ∧ ((∀ e, e ∈ (s.start.accSt g).samples → e.1 < n)) ∧ s.start.armed g = true ∧
      s.start.reaches (s.start.rd P.mode (F.MODE_HAND_CFG_POS_CLUSTER.nth h) / 2) (g.val / 2) = true) ∧
    (∃ (s : State) (g : Fin 16), (s.start.clu g).slot.isSome = true ∧ s.start.slotReady g = false) ∧
    (∃ (s : State) (g : Fin 16) (l : Line), (s.start.clu g).slot = some l ∧ s.start.slotReady g = true ∧
      s.start.enabled (P.acc g) = true ∧ (s.start.accSt g).dead = false ∧ l.cap.legacy = none ∧ s.start.place g (16 * l.cap.n) = none) ∧
    (∃ (s : State) (g : Fin 16) (l : Line), (s.start.clu g).slot = some l ∧ s.start.slotReady g = true ∧
      s.start.enabled (P.acc g) = true ∧ (s.start.accSt g).dead = false ∧ (s.start.place g (16 * l.cap.n)).isSome = true ∧
      s.start.placed g l.cap = true ∧ l.cap.leadIn = true ∧ l.cap.missing = [] ∧ (s.start.accSt g).orphans = [] ∧
      s.start.enabled (P.shd g) = false) ∧
    (∃ (s : State) (g : Fin 16) (l : Line), (s.start.clu g).slot = some l ∧ s.start.slotReady g = true ∧
      s.start.enabled (P.acc g) = true ∧ (s.start.accSt g).dead = false ∧ (s.start.place g (16 * l.cap.n)).isSome = true) ∧
    (∃ (s : State) (p : Port) (g : Fin 16), s.start.writable p (g.val / 2) (0x12 + g.val % 2) 0x04C = true ∧ s.start.shdTempSrc g = 7 ∧
      s.start.enabled (P.shd g) = true) ∧
    (∃ (s : State) (g : Fin 16), s.start.flag (P.shd g) F.SHD_T_NOW_VALID = true ∧ s.start.flag (P.shd g) F.SHD_T_NOW_STALE = false) :=
  ⟨⟨st ((ws [(P.mode, F.MODE_HAND_CFG_VALID.nth 0, 1), (P.mode, F.MODE_HAND_CFG_MEMBERS.nth 0, 3), (P.sport 0, F.SPORT_CFG_KIND, 1),
     (P.sport 1, F.SPORT_CFG_KIND, 1), (P.mode, F.MODE_HAND_STAT_STATE.nth 0, 3),
     (P.mode, F.MODE_HAND_STAT_ARMED.nth 0, 1)] b0).modHand 0 (fun x => { x with sample := some (500, 7) })), 0, 0, 500, 7,
     by decide +kernel⟩,
   ⟨st ((ws [(P.mode, F.MODE_HAND_CFG_VALID.nth 0, 1), (P.mode, F.MODE_HAND_CFG_MEMBERS.nth 0, 3), (P.sport 0, F.SPORT_CFG_KIND, 1),
     (P.sport 1, F.SPORT_CFG_KIND, 1), (P.mode, F.MODE_HAND_STAT_STATE.nth 0, 3),
     (P.mode, F.MODE_HAND_STAT_ARMED.nth 0, 1)] b0).modClu 0 (fun c => { c with slot := some { cap := { n := 5000, cents := [80000], counted := true }, planes := [[1, 2]] } })), 0,
     by decide +kernel⟩,
   ⟨st ((ws [(P.mode, F.MODE_HAND_CFG_VALID.nth 0, 1), (P.mode, F.MODE_HAND_CFG_MEMBERS.nth 0, 3), (P.sport 0, F.SPORT_CFG_KIND, 1),
     (P.sport 1, F.SPORT_CFG_KIND, 1), (P.mode, F.MODE_HAND_STAT_STATE.nth 0, 3), (P.mode, F.MODE_HAND_STAT_ARMED.nth 0, 1),
     (P.acc 0, F.PAGE_CTRL_ENABLE, 1)] b0).modClu 0 (fun c => { c with slot := some { cap := { n := 5000, cents := [80000], counted := true }, planes := [[1, 2]] }, acc := { waitOver := true } })), 0, { cap := { n := 5000, cents := [80000], counted := true }, planes := [[1, 2]] },
     by decide +kernel⟩,
   ⟨st ((ws [(P.mode, F.MODE_HAND_CFG_VALID.nth 0, 1), (P.mode, F.MODE_HAND_CFG_MEMBERS.nth 0, 3), (P.sport 0, F.SPORT_CFG_KIND, 1),
     (P.sport 1, F.SPORT_CFG_KIND, 1), (P.mode, F.MODE_HAND_STAT_STATE.nth 0, 3), (P.mode, F.MODE_HAND_STAT_ARMED.nth 0, 1),
     (P.acc 0, F.PAGE_CTRL_ENABLE, 1)] b0).modClu 0 (fun c => { c with slot := some { cap := { n := 5000, cents := [80000], counted := true, leadIn := true }, planes := [[1, 2]] }, acc := { samples := [(4000, 10), (6000, 20)] } })), 0, { cap := { n := 5000, cents := [80000], counted := true, leadIn := true }, planes := [[1, 2]] },
     by decide +kernel⟩,
   ⟨st ((ws [(P.mode, F.MODE_HAND_CFG_VALID.nth 0, 1), (P.mode, F.MODE_HAND_CFG_MEMBERS.nth 0, 3), (P.sport 0, F.SPORT_CFG_KIND, 1),
     (P.sport 1, F.SPORT_CFG_KIND, 1), (P.mode, F.MODE_HAND_STAT_STATE.nth 0, 3), (P.mode, F.MODE_HAND_STAT_ARMED.nth 0, 1),
     (P.acc 0, F.PAGE_CTRL_ENABLE, 1)] b0).modClu 0 (fun c => { c with slot := some { cap := { n := 5000, cents := [80000], counted := true }, planes := [[1, 2]] }, acc := { samples := [(4000, 10), (6000, 20)] } })), 0, { cap := { n := 5000, cents := [80000], counted := true }, planes := [[1, 2]] },
     by decide +kernel⟩,
   ⟨st (ws [(P.shd 0, F.SHD_CFG_TEMP_SRC, 7), (P.shd 0, F.PAGE_CTRL_ENABLE, 1)] b0), .b, 0, by decide +kernel⟩,
   ⟨st (ws [(P.shd 0, F.SHD_T_NOW_VALID, 1)] b0), 0, by decide +kernel⟩⟩

theorem TableBuilds_hypotheses_met :
    (∃ (s : State) (p : Port) (g : Fin 16) (v : Word) (i : Instr) (c : Nat), s.start.writable p (g.val / 2) (0x14 + g.val % 2) 0x054 = true ∧
      v.toNat % 8 = 0 ∧ (i, c) ∈ [(.buildDark p g v, 1), (.buildGain p g v, 2), (.buildDefect p g v, 4)] ∧
      s.start.flag (P.cal g) F.CAL_STAT_SUMS_VALID = true ∧ s.start.tableLocked g = false ∧
      s.start.flag (P.cal g) F.CAL_STAT_BUSY = false) ∧
    (∃ (s : State) (p : Port) (g : Fin 16) (v : Word) (i : Instr) (c : Nat), s.start.writable p (g.val / 2) (0x14 + g.val % 2) 0x054 = true ∧
      v.toNat % 8 = 0 ∧ (i, c) ∈ [(.buildDark p g v, 1), (.buildGain p g v, 2), (.buildDefect p g v, 4)] ∧
      s.start.flag (P.cal g) F.CAL_STAT_SUMS_VALID = true ∧ s.start.tableLocked g = false ∧
      s.start.flag (P.cal g) F.CAL_STAT_BUSY = false) ∧
    (∃ (s : State) (p : Port) (g : Fin 16) (v : Word) (i : Instr) (c : Nat), s.start.writable p (g.val / 2) (0x14 + g.val % 2) 0x054 = true ∧
      v.toNat % 8 = 0 ∧ (i, c) ∈ [(.buildDark p g v, 1), (.buildGain p g v, 2), (.buildDefect p g v, 4)] ∧
      s.start.flag (P.cal g) F.CAL_STAT_SUMS_VALID = true ∧ s.start.tableLocked g = false ∧
      s.start.flag (P.cal g) F.CAL_STAT_BUSY = false) ∧
    (∃ (s : State) (g : Fin 16), s.start.flag (P.cal g) F.CAL_STAT_BUSY = true ∧ s.start.word (P.cal g) 0x054 = 1 ∧
      ((∀ e, s.start.ecc g e = 0))) :=
  ⟨⟨st (ws [(P.cal 0, F.CAL_STAT_SUMS_VALID, 1)] b0), .b, 0, 0#32, .buildDark (.b) (0) (0#32), 1, by decide +kernel⟩,
   ⟨st (ws [(P.cal 0, F.CAL_STAT_SUMS_VALID, 1)] b0), .b, 0, 0#32, .buildGain (.b) (0) (0#32), 2, by decide +kernel⟩,
   ⟨st (ws [(P.cal 0, F.CAL_STAT_SUMS_VALID, 1)] b0), .b, 0, 0#32, .buildDefect (.b) (0) (0#32), 4, by decide +kernel⟩,
   ⟨st (ws [(P.cal 0, F.CAL_STAT_BUSY, 1), (P.cal 0, ⟨0x054, 31, 0, 0⟩, 1)] b0), 0, by decide +kernel, by decide +kernel, fun _ => rfl⟩⟩

theorem OutputStages_hypotheses_met :
    (∃ (s : State) (g : Fin 16) (l : OutLine) (r : List OutLine), (s.start.clu g).released = l :: r ∧ (s.start.clu g).inMeld = none ∧
      (s.start.clu g).outTricks = [] ∧ s.start.outputOn (g.val / 2) = true ∧ l.records = false ∧ s.start.hasSeam g .left = false ∧
      s.start.ownsSeam g .right = true ∧ l.degR = false ∧ s.start.degraded g .right = false ∧ (s.start.seam g .right).buf = [] ∧
      (s.start.seam g .right).ovf = none ∧ (s.start.seam g .right).notice = false) ∧
    (∃ (s : State) (g : Fin 16) (right : Bool) (x : Overlap) (r : List Overlap), (s.start.seam g (sideOf right)).flight = x :: r ∧
      s.start.degraded g (sideOf right) = false ∧ s.start.wasPassed g x.k = false ∧ s.start.inBuffer g (sideOf right) = [] ∧
      (s.start.clu g).inMeld = none) ∧
    (∃ (s : State) (g : Fin 16) (right : Bool) (x : Overlap) (r : List Overlap), (s.start.seam g (sideOf right)).flight = x :: r ∧
      s.start.degraded g (sideOf right) = false ∧ s.start.wasPassed g x.k = false ∧ (s.start.clu g).inMeld = none ∧
      ((s.start.inBuffer g (sideOf right)).any fun y => decide (y.k % s.start.ringLines (g.val / 2) = x.k % s.start.ringLines (g.val / 2))) = true) ∧
    (∃ (s : State) (g : Fin 16) (right : Bool) (x : Overlap) (r : List Overlap), (s.start.seam g (sideOf right)).flight = x :: r ∧
      s.start.degraded g (sideOf right) = true) ∧
    (∃ (s : State) (g : Fin 16) (l : OutLine), (s.start.clu g).inMeld = some l ∧ (s.start.clu g).stage7 = true ∧
      s.start.seamReady g l.k .right l.degR false = 0 ∧ (s.start.clu g).eodDue = false ∧ s.start.dramMark = [] ∧
      (s.start.clu g).dropped = none) ∧
    (∃ (s : State) (g : Fin 16) (right : Bool), s.start.ownsSeam g (sideOf right) = true ∧
      (s.start.clu (s.start.partner g (sideOf right))).drained = true ∧ (s.start.clu (s.start.partner g (sideOf right))).released = [] ∧
      (s.start.clu (s.start.partner g (sideOf right))).stage7 = false ∧ (s.start.seam g (sideOf right)).flight = [] ∧
      (s.start.clu g).inMeld = none) ∧
    (∃ (s : State) (g : Fin 16) (x : OutTrick), (s.start.clu g).outTricks = [x] ∧ (s.start.clu g).stage7 = false ∧
      (s.start.clu g).eodDue = false ∧ s.start.sound (g.val / 2) x.n = true ∧
      Mach.mostCells x.trick (!x.eod) ≤ s.start.queFree (g.val / 2) x.n ∧ (s.start.queue (g.val / 2) x.n).opened = none) ∧
    (∃ (s : State) (p : Port) (t : Fin 8), s.start.writable p t 0x18 0x088 = true) ∧
    (∃ (s : State) (p : Port) (t : Fin 8), s.start.writable p t 0x18 0x044 = true) :=
  ⟨⟨st ((ws [(P.mode, F.MODE_HAND_CFG_VALID.nth 0, 1), (P.mode, F.MODE_HAND_CFG_MEMBERS.nth 0, 3), (P.sport 0, F.SPORT_CFG_KIND, 1),
     (P.sport 1, F.SPORT_CFG_KIND, 1), (P.mode, F.MODE_HAND_STAT_STATE.nth 0, 3), (P.mode, F.MODE_HAND_STAT_ARMED.nth 0, 1),
     (P.meld 0, F.PAGE_CTRL_ENABLE, 1), (P.meld 0, F.MELD_SEG_CFG_EN.nth 0, 1), (P.meld 0, F.MELD_SEG_CFG_RIGHT_G.nth 0, 1),
     (P.outf 0, F.PAGE_CTRL_ENABLE, 1), (P.meld 0, F.MELD_SEG_CFG_RIGHT_VALID.nth 0, 1), (P.meld 0, F.MELD_SEG_CFG_RIGHT_G.nth 0, 1),
     (P.meld 0, Mach.ownField 0 .right, 1)] b0).modClu 0 (fun c => { c with released := [{ k := 3, deal := 1, time := 100, planes := [[{ v := 5 }]] }] })), 0, { k := 3, deal := 1, time := 100, planes := [[{ v := 5 }]] }, [],
     by decide +kernel⟩,
   ⟨st ((ws [(P.mode, F.MODE_HAND_CFG_VALID.nth 0, 1), (P.mode, F.MODE_HAND_CFG_MEMBERS.nth 0, 3), (P.sport 0, F.SPORT_CFG_KIND, 1),
     (P.sport 1, F.SPORT_CFG_KIND, 1), (P.mode, F.MODE_HAND_STAT_STATE.nth 0, 3), (P.mode, F.MODE_HAND_STAT_ARMED.nth 0, 1),
     (P.meld 0, F.PAGE_CTRL_ENABLE, 1), (P.meld 0, F.MELD_SEG_CFG_EN.nth 0, 1), (P.meld 0, F.MELD_SEG_CFG_RIGHT_G.nth 0, 1),
     (P.outf 0, F.PAGE_CTRL_ENABLE, 1), (P.meld 0, F.MELD_SEG_CFG_RIGHT_VALID.nth 0, 1), (P.meld 0, F.MELD_SEG_CFG_RIGHT_G.nth 0, 1),
     (P.meld 0, Mach.ownField 0 .right, 1)] b0).modSeam 0 .right (fun y => { y with flight := [{ k := 3, base := 0, planes := [[{ v := 5 }]], synth := false }] })), 0, true, { k := 3, base := 0, planes := [[{ v := 5 }]], synth := false }, [],
     by decide +kernel⟩,
   ⟨st ((ws [(P.mode, F.MODE_HAND_CFG_VALID.nth 0, 1), (P.mode, F.MODE_HAND_CFG_MEMBERS.nth 0, 3), (P.sport 0, F.SPORT_CFG_KIND, 1),
     (P.sport 1, F.SPORT_CFG_KIND, 1), (P.mode, F.MODE_HAND_STAT_STATE.nth 0, 3), (P.mode, F.MODE_HAND_STAT_ARMED.nth 0, 1),
     (P.meld 0, F.PAGE_CTRL_ENABLE, 1), (P.meld 0, F.MELD_SEG_CFG_EN.nth 0, 1), (P.meld 0, F.MELD_SEG_CFG_RIGHT_G.nth 0, 1),
     (P.outf 0, F.PAGE_CTRL_ENABLE, 1), (P.meld 0, F.MELD_SEG_CFG_RIGHT_VALID.nth 0, 1), (P.meld 0, F.MELD_SEG_CFG_RIGHT_G.nth 0, 1),
     (P.meld 0, Mach.ownField 0 .right, 1)] b0).modSeam 0 .right (fun y => { y with flight := [{ k := 3, base := 0, planes := [[{ v := 5 }]], synth := false }], buf := [{ k := 3, base := 0, planes := [[{ v := 5 }]], synth := false }] })), 0, true, { k := 3, base := 0, planes := [[{ v := 5 }]], synth := false }, [],
     by decide +kernel⟩,
   ⟨st ((ws [(P.mode, F.MODE_HAND_CFG_VALID.nth 0, 1), (P.mode, F.MODE_HAND_CFG_MEMBERS.nth 0, 3), (P.sport 0, F.SPORT_CFG_KIND, 1),
     (P.sport 1, F.SPORT_CFG_KIND, 1), (P.mode, F.MODE_HAND_STAT_STATE.nth 0, 3), (P.mode, F.MODE_HAND_STAT_ARMED.nth 0, 1),
     (P.meld 0, F.PAGE_CTRL_ENABLE, 1), (P.meld 0, F.MELD_SEG_CFG_EN.nth 0, 1), (P.meld 0, F.MELD_SEG_CFG_RIGHT_G.nth 0, 1),
     (P.outf 0, F.PAGE_CTRL_ENABLE, 1), (P.meld 0, F.MELD_SEG_CFG_RIGHT_VALID.nth 0, 1), (P.meld 0, F.MELD_SEG_CFG_RIGHT_G.nth 0, 1),
     (P.meld 0, Mach.ownField 0 .right, 1),
     (P.meld 0, Mach.degField 0 .right, 1)] b0).modSeam 0 .right (fun y => { y with flight := [{ k := 3, base := 0, planes := [[{ v := 5 }]], synth := false }] })), 0, true, { k := 3, base := 0, planes := [[{ v := 5 }]], synth := false }, [],
     by decide +kernel⟩,
   ⟨st ((ws [(P.mode, F.MODE_HAND_CFG_VALID.nth 0, 1), (P.mode, F.MODE_HAND_CFG_MEMBERS.nth 0, 3), (P.sport 0, F.SPORT_CFG_KIND, 1),
     (P.sport 1, F.SPORT_CFG_KIND, 1), (P.mode, F.MODE_HAND_STAT_STATE.nth 0, 3), (P.mode, F.MODE_HAND_STAT_ARMED.nth 0, 1),
     (P.meld 0, F.PAGE_CTRL_ENABLE, 1), (P.meld 0, F.MELD_SEG_CFG_EN.nth 0, 1), (P.meld 0, F.MELD_SEG_CFG_RIGHT_G.nth 0, 1),
     (P.outf 0, F.PAGE_CTRL_ENABLE, 1), (P.meld 0, F.MELD_SEG_CFG_RIGHT_VALID.nth 0, 1), (P.meld 0, F.MELD_SEG_CFG_RIGHT_G.nth 0, 1),
     (P.meld 0, Mach.ownField 0 .right, 1)] b0).modClu 0 (fun c => { c with inMeld := some { k := 3, deal := 1, time := 100, planes := [[{ v := 5 }]] }, stage7 := true })), 0, { k := 3, deal := 1, time := 100, planes := [[{ v := 5 }]] },
     by decide +kernel⟩,
   ⟨st ((ws [(P.mode, F.MODE_HAND_CFG_VALID.nth 0, 1), (P.mode, F.MODE_HAND_CFG_MEMBERS.nth 0, 3), (P.sport 0, F.SPORT_CFG_KIND, 1),
     (P.sport 1, F.SPORT_CFG_KIND, 1), (P.mode, F.MODE_HAND_STAT_STATE.nth 0, 3), (P.mode, F.MODE_HAND_STAT_ARMED.nth 0, 1),
     (P.meld 0, F.PAGE_CTRL_ENABLE, 1), (P.meld 0, F.MELD_SEG_CFG_EN.nth 0, 1), (P.meld 0, F.MELD_SEG_CFG_RIGHT_G.nth 0, 1),
     (P.outf 0, F.PAGE_CTRL_ENABLE, 1), (P.meld 0, F.MELD_SEG_CFG_RIGHT_VALID.nth 0, 1), (P.meld 0, F.MELD_SEG_CFG_RIGHT_G.nth 0, 1),
     (P.meld 0, Mach.ownField 0 .right, 1)] b0).modClu 1 (fun c => { c with drained := true })), 0, true, by decide +kernel⟩,
   ⟨st ((ws [(P.que 0, F.PAGE_CTRL_ENABLE, 1)] b0).modClu 0 (fun c => { c with outTricks := [{ n := 0, trick := { hdr := [], payload := [] }, k := 0, last := true, flags := 0, frag := 0, eod := true }] })), 0, { n := 0, trick := { hdr := [], payload := [] }, k := 0, last := true, flags := 0, frag := 0, eod := true },
     by decide +kernel⟩,
   ⟨st ((b0).modTile 0 (fun ts => { ts with chkFifo := [[1],[2]] })), .b, 0, by decide +kernel⟩,
   ⟨st b0, .b, 0, by decide +kernel⟩⟩

theorem BlendAndFormatArithmetic_hypotheses_met :
    (∃ (w : Nat), w ≤ 256) ∧
    (∃ (v : Nat), v < 65536) ∧
    (∃ (fmt : Nat), fmt < 16 ∧ bit fmt 3 = false) :=
  ⟨⟨77, by decide +kernel⟩,
   ⟨65535, by decide +kernel⟩,
   ⟨1, by decide +kernel⟩⟩

theorem TricksMove_hypotheses_met :
    (∃ (s : State) (t : Fin 8) (q : Fin 32) (tr : Trick) (r : List Trick), Store.get [] (s.start.tile t).held (s.start.rd (P.que t) (F.QUE_Q_CFG_PROD.nth q)) = tr :: r ∧
      s.start.isPool t q = false ∧ s.start.sound t q = true ∧ (s.start.queue t q).opened = none ∧
      1 + dataCells tr.payload ≤ s.start.queFree t q ∧ ((∀ c, c < 16 → (s.start.dmaCh t c).recs = []))) ∧
    (∃ (s : State) (t : Fin 8) (q : Fin 32) (o : OpenTrick), (s.start.queue t q).opened = some o ∧ s.start.sound t q = true ∧
      s.start.isPool t q = false) ∧
    (∃ (s : State) (t : Fin 8) (q : Nat) (cs : List Cell), s.start.served t = some q ∧ (s.start.queue t q).spill = [] ∧
      s.start.checkQueue t q false = none ∧ s.start.hostMode t = 1 ∧ s.start.headTrick t q = some cs) ∧
    (∃ (s : State) (t : Fin 8) (q : Nat) (cs : List Cell), s.start.served t = some q ∧ (s.start.queue t q).spill ≠ [] ∧
      s.start.dramMark = [] ∧ s.start.checkQueue t q false = none ∧ s.start.hostMode t = 1 ∧ s.start.spillTrick t q = some cs) :=
  ⟨⟨st ((ws [(P.que 0, F.PAGE_CTRL_ENABLE, 1), (P.que 0, F.QUE_Q_CFG_MODE.nth 8, 0),
     (P.que 0, F.QUE_Q_CFG_PROD.nth 8, 10)] b0).modTile 0 (fun ts => { ts with held := [(10, [{ hdr := List.replicate 32 7, payload := List.replicate 32 9 }])] })), 0, 8, { hdr := List.replicate 32 7, payload := List.replicate 32 9 }, [],
     by decide +kernel⟩,
   ⟨st ((ws [(P.que 0, F.PAGE_CTRL_ENABLE, 1),
     (P.que 0, F.QUE_Q_CFG_MODE.nth 8, 0)] b0).modQueue 0 8 (fun x => { x with opened := some { reserved := 1, trick := { hdr := List.replicate 32 7, payload := List.replicate 32 9 }, rest := List.replicate 32 9, prod := 10 }, cells := [mkCell 0 0 true false false 0 (List.replicate 8 0)] })), 0, 8, { reserved := 1, trick := { hdr := List.replicate 32 7, payload := List.replicate 32 9 }, rest := List.replicate 32 9, prod := 10 },
     by decide +kernel⟩,
   ⟨st (((ws [(P.que 0, F.PAGE_CTRL_ENABLE, 1), (P.que 0, F.QUE_Q_CFG_MODE.nth 8, 0), (P.hostp 0, F.HOSTP_STAT_PHY_UP, 1),
     (P.hostp 0, F.HOSTP_STAT_LINK, 1), (P.pcie 0, F.PCIE_STAT_BUS_MASTER, 1), (P.pcie 0, F.PCIE_Q_RING_CFG_EN.nth 8, 1),
     (P.pcie 0, F.PCIE_Q_RING_CFG_SLOTS_LOG2.nth 8, 4)] b0).modHost 0 (fun h => { h with cfg := 0x501, memEn := true, cfgDone := true })).modQueue 0 8 (fun x => { x with cells := [mkCell 0 0 true false true 0 (List.replicate 8 7)], dcred := 16 })), 0, 8, [mkCell 0 0 true false true 0 (List.replicate 8 7)],
     by decide +kernel⟩,
   ⟨st (((((((ws [(P.que 0, F.PAGE_CTRL_ENABLE, 1), (P.que 0, F.QUE_Q_CFG_MODE.nth 8, 0), (P.hostp 0, F.HOSTP_STAT_PHY_UP, 1),
     (P.hostp 0, F.HOSTP_STAT_LINK, 1), (P.pcie 0, F.PCIE_STAT_BUS_MASTER, 1), (P.pcie 0, F.PCIE_Q_RING_CFG_EN.nth 8, 1),
     (P.pcie 0, F.PCIE_Q_RING_CFG_SLOTS_LOG2.nth 8, 4), (P.dram 0, F.DRAM_CFG_TYPE, 1), (P.kitty 0, F.KITTY_DRAM_CELLS_CELLS, 8),
     (P.dram 0, F.DRAM_STAT_TRAINED, 1)] b0).modHost 0 (fun h => { h with cfg := 0x501, memEn := true, cfgDone := true })).modKit 0 (fun k => { k with dramReady := true })).modQueue 0 8 (fun x => { x with dcred := 16 })).appendSpill 0 8 false [mkCell 0 0 true false true 0 (List.replicate 8 7)]).modQueue 0 8 (fun x => { x with spillTricks := 1 }))), 0, 8, (match (((((((ws [(P.que 0, F.PAGE_CTRL_ENABLE, 1),
     (P.que 0, F.QUE_Q_CFG_MODE.nth 8, 0), (P.hostp 0, F.HOSTP_STAT_PHY_UP, 1), (P.hostp 0, F.HOSTP_STAT_LINK, 1),
     (P.pcie 0, F.PCIE_STAT_BUS_MASTER, 1), (P.pcie 0, F.PCIE_Q_RING_CFG_EN.nth 8, 1), (P.pcie 0, F.PCIE_Q_RING_CFG_SLOTS_LOG2.nth 8, 4),
     (P.dram 0, F.DRAM_CFG_TYPE, 1), (P.kitty 0, F.KITTY_DRAM_CELLS_CELLS, 8),
     (P.dram 0, F.DRAM_STAT_TRAINED, 1)] b0).modHost 0 (fun h => { h with cfg := 0x501, memEn := true, cfgDone := true })).modKit 0 (fun k => { k with dramReady := true })).modQueue 0 8 (fun x => { x with dcred := 16 })).appendSpill 0 8 false [mkCell 0 0 true false true 0 (List.replicate 8 7)]).modQueue 0 8 (fun x => { x with spillTricks := 1 }))).spillTrick 0 8 with | some c => c | none => []),
     by decide +kernel⟩⟩

theorem RegisterConsumerAndReset_hypotheses_met :
    (∃ (s : State) (p : Port) (t : Fin 8) (q : Fin 32) (c : Cell) (r : List Cell), s.start.writable p t 0x1C 0x040 = true ∧
      s.start.checkQueue t q false = none ∧ (s.start.queue t q).cells = c :: r ∧ ((c.hdr = true → c.filled = true)) ∧
      s.start.rd (P.que t) (F.QUE_Q_CFG_CONS.nth q) ≠ 1) ∧
    (∃ (s : State) (p : Port) (t : Fin 8) (q : Fin 32), s.start.writable p t 0x1C 0x040 = true ∧ s.start.checkQueue t q false = none ∧
      s.start.rd (P.que t) (F.QUE_Q_CFG_CONS.nth q) = 1 ∧ s.start.shownIsHead t q = true) ∧
    (∃ (s : State) (p : Port) (t : Fin 8) (q : Fin 32), s.start.writable p t 0x1C 0x040 = true ∧ s.start.checkQueue t q false = none ∧
      s.start.rd (P.que t) (F.QUE_Q_CFG_CONS.nth q) = 1 ∧ s.start.shownIsHead t q = true) ∧
    (∃ (s : State) (p : Port) (t : Fin 8) (q : Fin 32), s.start.writable p t 0x1C 0x040 = true ∧ s.start.queueOfProd t 0x0A ≠ some q.val ∧
      s.start.fallingAsleep t = false) ∧
    (∃ (s : State) (t : Fin 8) (q : Fin 32), s.start.reaping t q = true ∧ s.start.dramMark = [] ∧
      Mach.Pool.ok (s.start.kit t).sram = true ∧ Mach.Pool.ok (s.start.kit t).dram = true) ∧
    (∃ (s : State) (p : Port) (t : Fin 8) (q : Fin 32) (i : Instr), s.start.writable p t 0x1C 0x040 = true ∧
      i ∈ [Instr.quePop p t ⟨q, true⟩, .queDiscard p t ⟨q, true⟩]) ∧
    (∃ (s : State) (p : Port) (t : Fin 8) (q : Fin 32) (i : Instr), s.start.writable p t 0x1C 0x040 = true ∧
      i ∈ [Instr.quePop p t ⟨q, true⟩, .queDiscard p t ⟨q, true⟩]) :=
  ⟨⟨st ((ws [(P.que 0, F.PAGE_CTRL_ENABLE, 1), (P.que 0, F.QUE_Q_CFG_MODE.nth 8, 0),
     (P.que 0, F.QUE_Q_CFG_CONS.nth 8, 0)] b0).modQueue 0 8 (fun x => { x with cells := [mkCell 0 0 true false true 0 (List.replicate 8 7)] })),
     .b, 0, 8, mkCell 0 0 true false true 0 (List.replicate 8 7), [], by decide +kernel⟩,
   ⟨st (((ws [(P.que 0, F.PAGE_CTRL_ENABLE, 1), (P.que 0, F.QUE_Q_CFG_MODE.nth 8, 0),
     (P.que 0, F.QUE_Q_CFG_CONS.nth 8, 1)] b0).modQueue 0 8 (fun x => { x with cells := [mkCell 0 0 true false true 0 (List.replicate 8 7)] })).modKit 0 (fun k => { k with shown := some (mkCell 0 0 true false true 0 (List.replicate 8 7)), shownQueue := 8 })),
     .b, 0, 8, by decide +kernel⟩,
   ⟨st (((ws [(P.que 0, F.PAGE_CTRL_ENABLE, 1), (P.que 0, F.QUE_Q_CFG_MODE.nth 8, 0),
     (P.que 0, F.QUE_Q_CFG_CONS.nth 8, 1)] b0).modQueue 0 8 (fun x => { x with cells := [mkCell 0 0 true false true 0 (List.replicate 8 7)] })).modKit 0 (fun k => { k with shown := some (mkCell 0 0 true false true 0 (List.replicate 8 7)), shownQueue := 8 })),
     .b, 0, 8, by decide +kernel⟩,
   ⟨st (((ws [(P.que 0, F.PAGE_CTRL_ENABLE, 1), (P.que 0, F.QUE_Q_CFG_MODE.nth 8, 0),
     (P.que 0, F.QUE_Q_CFG_CONS.nth 8, 1)] b0).modQueue 0 8 (fun x => { x with cells := [mkCell 0 0 true false true 0 (List.replicate 8 7)] })).modKit 0 (fun k => { k with shown := some (mkCell 0 0 true false true 0 (List.replicate 8 7)), shownQueue := 8 })),
     .b, 0, 8, by decide +kernel⟩,
   ⟨st ((b0).modQueue 0 8 (fun x => { x with reapSram := [3, 4], reapSramCount := 2 })), 0, 8, by decide +kernel⟩,
   ⟨st (((ws [(P.que 0, F.PAGE_CTRL_ENABLE, 1), (P.que 0, F.QUE_Q_CFG_MODE.nth 8, 0),
     (P.que 0, F.QUE_Q_CFG_CONS.nth 8, 1)] b0).modQueue 0 8 (fun x => { x with cells := [mkCell 0 0 true false true 0 (List.replicate 8 7)] })).modKit 0 (fun k => { k with shown := some (mkCell 0 0 true false true 0 (List.replicate 8 7)), shownQueue := 8 })),
     .b, 0, 8, .quePop (.b) (0) ⟨(8), true⟩, by decide +kernel⟩,
   ⟨st (((ws [(P.que 0, F.PAGE_CTRL_ENABLE, 1), (P.que 0, F.QUE_Q_CFG_MODE.nth 8, 0),
     (P.que 0, F.QUE_Q_CFG_CONS.nth 8, 1)] b0).modQueue 0 8 (fun x => { x with cells := [mkCell 0 0 true false true 0 (List.replicate 8 7)] })).modKit 0 (fun k => { k with shown := some (mkCell 0 0 true false true 0 (List.replicate 8 7)), shownQueue := 8 })),
     .b, 0, 8, .queDiscard (.b) (0) ⟨(8), true⟩, by decide +kernel⟩⟩

theorem SpillAndKittyCommands_hypotheses_met :
    (∃ (s : State) (t : Fin 8) (q : Fin 32) (cs : List Cell), s.start.flag (P.que t) (F.QUE_Q_CFG_SPILL_OK.nth q) = true ∧
      s.start.rd (P.que t) (F.QUE_Q_CFG_CONS.nth q) = 0 ∧ (s.start.kit t).dramReady = true ∧ (s.start.kit t).spilling = true ∧
      s.start.checkQueue t q true = none ∧ s.start.headTrick t q = some cs ∧ (s.start.queue t q).spillPart = 0 ∧
      cs.length ≤ s.start.dramFree t) ∧
    (∃ (s : State) (p : Port) (t : Fin 8) (v : Word), s.start.writable p t 0x1D 0x060 = true ∧ bits v.toNat 3 1 = 0 ∧
      s.start.poolBusy t false = false) ∧
    (∃ (s : State) (p : Port) (t : Fin 8) (v : Word), s.start.writable p t 0x1D 0x060 = true ∧ bit v.toNat 0 = false ∧
      bits v.toNat 3 2 = 0 ∧ s.start.dramInitOk t = true) ∧
    (∃ (s : State) (p : Port) (t : Fin 8) (v : Word), s.start.writable p t 0x1D 0x060 = true ∧ bits v.toNat 1 0 = 0 ∧
      bit v.toNat 3 = false ∧ s.start.spillBusy t = false) ∧
    (∃ (s : State) (p : Port) (t : Fin 8) (v : Word), s.start.writable p t 0x1D 0x060 = true ∧ bits v.toNat 2 0 = 0 ∧
      s.start.poolBusy t true = false ∧ (s.start.kit t).testing = false) ∧
    (∃ (s : State) (t : Fin 8), (s.start.kit t).testing = true) ∧
    (∃ (s : State) (t : Fin 8), (s.start.kit t).testing = true) ∧
    (∃ (s : State) (t : Fin 8) (q : Fin 32), s.start.wantsSpill t q = true ∧ (s.start.kit t).dramReady = true ∧
      s.start.checkQueue t q true = none ∧ s.start.dramFree t = 0 ∧ ((∀ cs, s.start.headTrick t q = some cs →
      (s.start.queue t q).spillPart < cs.length))) :=
  ⟨⟨st (((ws [(P.que 0, F.PAGE_CTRL_ENABLE, 1), (P.que 0, F.QUE_Q_CFG_MODE.nth 8, 0), (P.dram 0, F.DRAM_CFG_TYPE, 1),
     (P.kitty 0, F.KITTY_DRAM_CELLS_CELLS, 8), (P.dram 0, F.DRAM_STAT_TRAINED, 1),
     (P.que 0, F.QUE_Q_CFG_SPILL_OK.nth 8, 1)] b0).modKit 0 (fun k => { k with dramReady := true, spilling := true })).modQueue 0 8 (fun x => { x with cells := [mkCell 0 0 true false true 0 (List.replicate 8 7)] })), 0, 8, [mkCell 0 0 true false true 0 (List.replicate 8 7)],
     by decide +kernel⟩,
   ⟨st ((b0).modQueue 0 8 (fun x => { x with leaked := 3 })), .b, 0, 1, by decide +kernel⟩,
   ⟨st (ws [(P.dram 0, F.DRAM_CFG_TYPE, 1), (P.kitty 0, F.KITTY_DRAM_CELLS_CELLS, 8), (P.dram 0, F.DRAM_STAT_TRAINED, 1)] b0), .b, 0, 2,
     by decide +kernel⟩,
   ⟨st b0, .b, 0, 4, by decide +kernel⟩,
   ⟨st b0, .b, 0, 8, by decide +kernel⟩,
   ⟨st ((b0).modKit 0 (fun k => { k with testing := true })), 0, by decide +kernel⟩,
   ⟨st ((b0).modKit 0 (fun k => { k with testing := true })), 0, by decide +kernel⟩,
   ⟨st (((ws [(P.que 0, F.PAGE_CTRL_ENABLE, 1), (P.que 0, F.QUE_Q_CFG_MODE.nth 8, 0), (P.dram 0, F.DRAM_CFG_TYPE, 1),
     (P.kitty 0, F.KITTY_DRAM_CELLS_CELLS, 8), (P.dram 0, F.DRAM_STAT_TRAINED, 1),
     (P.que 0, F.QUE_Q_CFG_SPILL_OK.nth 8, 1)] b0).modKit 0 (fun k => { k with dramReady := true, spilling := true, dram := { fresh0 := 8, fresh1 := 8 } })).modQueue 0 8 (fun x => { x with cells := [mkCell 0 0 true false true 0 (List.replicate 8 7)] })), 0, 8,
     by decide +kernel⟩⟩

theorem AxisCommands_hypotheses_met :
    ∃ (s : State) (p : Port) (g : Fin 16) (v : Word) (b : Mach), s.start.writable p (g.val / 2) (0x28 + g.val % 2) 0x044 = true ∧
      bits v.toNat 7 1 = 0 ∧ ((s.start.flag (P.axis g) F.AXIS_CTRL_DRV_EN = true → bit v.toNat 0 = false → s.start.moving g = false)) ∧
      b = s.start.wrb (P.axis g) F.AXIS_CTRL_DRV_EN (bit v.toNat 0) :=
  ⟨st b0, .b, 0, 1, (st b0).start.wrb (P.axis 0) F.AXIS_CTRL_DRV_EN true, by decide +kernel⟩

theorem AxisEvents_hypotheses_met :
    (∃ (s : State) (p : Port) (g : Fin 16) (en : Bool), s.start.writable p (g.val / 2) (0x28 + g.val % 2) 0x044 = true ∧
      ((en = true ∨ s.start.moving g = false))) ∧
    (∃ (s : State) (p : Port) (g : Fin 16), s.start.writable p (g.val / 2) (0x28 + g.val % 2) 0x044 = true ∧
      s.start.flag (P.axis g) F.AXIS_CTRL_DRV_EN = true ∧ s.start.moving g = true) ∧
    (∃ (s : State) (g : Fin 16) (n : BitVec 64) (x : AxisSt) (p : Int) (pos : Int) (q : Int), n.toNat ≤ s.start.now (g.val / 2) ∧
      s.start.mayMove g = true ∧ x = s.start.axS g ∧ p = (s.start.axA g).p ∧ pos = (s.start.axA g).pos ∧ x.mode = .vel ∧ x.te = none ∧
      q = Mach.glide p x.v x.a (s.start.now (g.val / 2) - x.t0) ∧ pos.natAbs < 2 ^ 46 ∧ q.natAbs < 2 ^ 78) ∧
    (∃ (s : State) (g : Fin 16) (n : BitVec 64) (x : AxisSt) (p : Int) (pos : Int) (q : Int), n.toNat ≤ s.start.now (g.val / 2) ∧
      s.start.mayMove g = true ∧ x = s.start.axS g ∧ p = (s.start.axA g).p ∧ pos = (s.start.axA g).pos ∧ x.mode = .vel ∧ x.te = none ∧
      q = Mach.glide p x.v x.a (s.start.now (g.val / 2) - x.t0) ∧ pos.natAbs < 2 ^ 46 ∧ q.natAbs < 2 ^ 78) ∧
    (∃ (s : State) (g : Fin 16), s.start.encCounts g = true) ∧
    (∃ (s : State) (g : Fin 16), s.start.encCounts g = true) ∧
    (∃ (s : State) (g : Fin 16) (level : Bool), s.start.mayMove g = true ∧ (s.start.axS g).mode = .vel ∧ 0 < (s.start.axS g).v ∧
      (s.start.axS g).a = 0 ∧ (s.start.axS g).te = none ∧ s.start.homePhase g = 0 ∧ s.start.tripped g 1 = false ∧
      level ≠ s.start.flag (P.axis g) F.AXIS_CFG_LIM_POS_POL) ∧
    (∃ (s : State) (g : Fin 16), (s.start.axS g).drvFault = false ∧ s.start.axLive g = true ∧
      s.start.flag (P.axis g) F.AXIS_CFG_DRV_FAULT_EN = true ∧ s.start.homePhase g = 0 ∧ (s.start.axS g).v = 0 ∧ (s.start.axS g).a = 0 ∧
      (s.start.axS g).te = none ∧ (s.start.axS g).mode = .idle ∧ (s.start.axS g).pendGo = false) ∧
    (∃ (s : State) (g : Fin 16) (pos : Int), s.start.mayMove g = true ∧ s.start.homePhase g = 1 ∧
      s.start.rd (P.axis g) F.AXIS_HOME_MAX_D ≠ 0 ∧ (s.start.axS g).mode = .home ∧ (s.start.axS g).v ≠ 0 ∧ (s.start.axS g).a = 0 ∧
      (s.start.axS g).te = none ∧ (s.start.axS g).t0 = s.start.now (g.val / 2) ∧ pos = (s.start.axA g).pos ∧ pos.natAbs < 2 ^ 46 ∧
      (pos - 1) * 2 ^ 32 < (s.start.axA g).p ∧ (s.start.axA g).p < (pos + 1) * 2 ^ 32 ∧
      s.start.rd (P.axis g) F.AXIS_HOME_MAX_D ≤ (pos - (s.start.axS g).homeFrom).natAbs) ∧
    (∃ (s : State) (g : Fin 16) (pos : Int), s.start.axLive g = true ∧ s.start.moving g = false ∧ (s.start.axS g).mode = .idle ∧
      (s.start.axS g).te = none ∧ pos = (s.start.axA g).pos ∧ pos.natAbs < 2 ^ 46 ∧ (pos - 1) * 2 ^ 32 < (s.start.axA g).p ∧
      (s.start.axA g).p < (pos + 1) * 2 ^ 32 ∧
      (s.start.axS g).lastEv + s.start.rd (P.axis g) F.AXIS_IREF_LVL_HOLD_DLY * 500000 ≤ s.start.now (g.val / 2)) :=
  ⟨⟨st b0, .b, 0, true, by decide +kernel⟩,
   ⟨st ((ws [(P.axis 0, F.AXIS_CTRL_DRV_EN, 1)] b0).modAxS 0 (fun a => { a with v := 5, mode := .vel })), .b, 0, by decide +kernel⟩,
   ⟨st (((ws [(P.axis 0, F.PAGE_CTRL_ENABLE, 1), (P.axis 0, F.AXIS_CTRL_DRV_EN, 1), (P.axis 0, F.AXIS_VMAX_V, 1000),
     (P.axis 0, F.AXIS_ACC_A, 500), (P.axis 0, F.AXIS_DEC_A, 600), (P.axis 0, F.AXIS_EDEC_A, 700),
     (P.axis 0, F.AXIS_CFG_PROFILE, 0)] b0).modTile 0 (fun ts => { ts with n := 100000 })).modAxS 0 (fun a => { a with v := 0x10000000000, mode := .vel, t0 := 10, dir := false })), 0, 900, { v := 0x10000000000, mode := .vel, t0 := 10, dir := false }, 0, 0, 14410077655704,
     by decide +kernel⟩,
   ⟨st (((ws [(P.axis 0, F.PAGE_CTRL_ENABLE, 1), (P.axis 0, F.AXIS_CTRL_DRV_EN, 1), (P.axis 0, F.AXIS_VMAX_V, 1000),
     (P.axis 0, F.AXIS_ACC_A, 500), (P.axis 0, F.AXIS_DEC_A, 600), (P.axis 0, F.AXIS_EDEC_A, 700),
     (P.axis 0, F.AXIS_CFG_PROFILE, 0)] b0).modTile 0 (fun ts => { ts with n := 100000 })).modAxS 0 (fun a => { a with v := -0x10000000000, mode := .vel, t0 := 10, dir := true })), 0, 900, { v := -0x10000000000, mode := .vel, t0 := 10, dir := true }, 0, 0, -14410077655705,
     by decide +kernel⟩,
   ⟨st (ws [(P.axis 0, F.AXIS_CFG_ENC_EN, 1)] b0), 0, by decide +kernel⟩,
   ⟨st (ws [(P.axis 0, F.AXIS_CFG_ENC_EN, 1)] b0), 0, by decide +kernel⟩,
   ⟨st ((ws [(P.axis 0, F.PAGE_CTRL_ENABLE, 1), (P.axis 0, F.AXIS_CTRL_DRV_EN, 1), (P.axis 0, F.AXIS_VMAX_V, 1000),
     (P.axis 0, F.AXIS_ACC_A, 500), (P.axis 0, F.AXIS_DEC_A, 600), (P.axis 0, F.AXIS_EDEC_A, 700),
     (P.axis 0, F.AXIS_CFG_PROFILE, 0)] b0).modAxS 0 (fun a => { a with v := 5000, mode := .vel })), 0, true, by decide +kernel⟩,
   ⟨st (ws [(P.axis 0, F.AXIS_CFG_DRV_FAULT_EN, 1)] b0), 0, by decide +kernel⟩,
   ⟨st (((ws [(P.axis 0, F.PAGE_CTRL_ENABLE, 1), (P.axis 0, F.AXIS_CTRL_DRV_EN, 1), (P.axis 0, F.AXIS_VMAX_V, 1000),
     (P.axis 0, F.AXIS_ACC_A, 500), (P.axis 0, F.AXIS_DEC_A, 600), (P.axis 0, F.AXIS_EDEC_A, 700), (P.axis 0, F.AXIS_CFG_PROFILE, 0),
     (P.axis 0, F.AXIS_STAT_HOME_PHASE, 1),
     (P.axis 0, F.AXIS_HOME_MAX_D, 1)] b0).modAxS 0 (fun a => { a with v := 4294967296, mode := .home })).modAxA 0 (fun a => { a with pos := 5, p := 21474836480 })), 0, 5,
     by decide +kernel⟩,
   ⟨st ((ws [(P.axis 0, F.PAGE_CTRL_ENABLE, 1), (P.axis 0, F.AXIS_CTRL_DRV_EN, 1), (P.axis 0, F.AXIS_VMAX_V, 1000),
     (P.axis 0, F.AXIS_ACC_A, 500), (P.axis 0, F.AXIS_DEC_A, 600), (P.axis 0, F.AXIS_EDEC_A, 700), (P.axis 0, F.AXIS_CFG_PROFILE, 0),
     (P.axis 0, F.AXIS_IREF_LVL_HOLD_DLY, 1)] b0).modTile 0 (fun ts => { ts with n := 600000 })), 0, 0, by decide +kernel⟩⟩

theorem PlannerAndPace_hypotheses_met :
    (∃ (s : State) (t0 : Nat), (List.range 8).find? s.start.awake = some t0 ∧ s.start.islandDeclarers = [] ∧ ((∀ h, h < 16 →
      s.start.formed h = false)) ∧ ((∀ g, g < 16 → s.start.armed g = false ∧ (s.start.axS g).paced = none ∧ s.start.axLive g = false ∧
      s.start.domOn (g / 2) D.lamp = false))) ∧
    (∃ (s : State) (t0 : Nat) (g : Fin 16) (b : Mach) (v : Int), (List.range 8).find? s.start.awake = some t0 ∧
      b = s.start.advance t0 ((s.start.now t0 / 2000 + 1) * 2000) ∧ s.start.islandDeclarers = [] ∧ ((∀ h, h < 16 →
      s.start.formed h = false)) ∧ ((∀ k, k < 16 → s.start.armed k = false ∧ (s.start.axS k).paced = none ∧ (k ≠ g.val →
      s.start.axLive k = false ∨ s.start.mayMove k = false ∧ s.start.moving k = false ∧ (s.start.axS k).mode = .idle) ∧
      s.start.domOn (k / 2) D.lamp = false)) ∧ s.start.mayMove g = true ∧ (s.start.axS g).mode = .idle ∧ s.start.moving g = false ∧
      (s.start.axS g).te = none ∧ (s.start.axS g).pendGo = true ∧ (s.start.axS g).pendStop = false ∧ (s.start.axA g).pos.natAbs < 2 ^ 46 ∧
      ((s.start.axA g).pos - 1) * 2 ^ 32 < (s.start.axA g).p ∧ (s.start.axA g).p < ((s.start.axA g).pos + 1) * 2 ^ 32 ∧
      s.start.flag (P.axis g) F.AXIS_MODE_VEL = true ∧ s.start.flag (P.axis g) F.AXIS_CFG_PROFILE = false ∧
      v = clampI (-(s.start.rd (P.axis g) F.AXIS_VMAX_V * 65536 : Int)) (s.start.rd (P.axis g) F.AXIS_VMAX_V * 65536 : Int) (s.start.rdS48 (P.axis g) F.AXIS_VTARGET_LO_VTARGET F.AXIS_VTARGET_HI_VTARGET) ∧
      s.start.blocked g v = false) ∧
    (∃ (s : State) (t : Fin 8) (u : Fin 8) (h : Nat), h < 16 ∧ ((∀ j, j < h → s.start.formed j = false)) ∧ s.start.formed h = true ∧
      t.val ∈ s.start.memberTiles h ∧ u.val ∈ s.start.memberTiles h ∧ 3 ≤ Store.get 0 (s.start.paceHand t h).miss u ∧
      s.start.paceLive t = true ∧ bit (s.start.rd (P.pace t) F.PACE_LEFT_OUT_TILES) u = false) :=
  ⟨⟨st base, 0, by decide +kernel⟩,
   ⟨st (((ws [(P.axis 0, F.PAGE_CTRL_ENABLE, 1), (P.axis 0, F.AXIS_CTRL_DRV_EN, 1), (P.axis 0, F.AXIS_VMAX_V, 1000),
     (P.axis 0, F.AXIS_ACC_A, 500), (P.axis 0, F.AXIS_DEC_A, 600), (P.axis 0, F.AXIS_EDEC_A, 700), (P.axis 0, F.AXIS_CFG_PROFILE, 0),
     (P.axis 0, F.AXIS_MODE_VEL, 1), (P.axis 0, F.AXIS_VTARGET_LO_VTARGET, 65536000),
     (P.pwr 0, F.PWR_DOM_STAT_ON, 0x0FFFF)] b0).modTile 0 (fun ts => { ts with n := 100000 })).modAxS 0 (fun a => { a with pendGo := true })), 0, 0, (st (((ws [(P.axis 0, F.PAGE_CTRL_ENABLE, 1),
     (P.axis 0, F.AXIS_CTRL_DRV_EN, 1), (P.axis 0, F.AXIS_VMAX_V, 1000), (P.axis 0, F.AXIS_ACC_A, 500), (P.axis 0, F.AXIS_DEC_A, 600),
     (P.axis 0, F.AXIS_EDEC_A, 700), (P.axis 0, F.AXIS_CFG_PROFILE, 0), (P.axis 0, F.AXIS_MODE_VEL, 1),
     (P.axis 0, F.AXIS_VTARGET_LO_VTARGET, 65536000),
     (P.pwr 0, F.PWR_DOM_STAT_ON, 0x0FFFF)] b0).modTile 0 (fun ts => { ts with n := 100000 })).modAxS 0 (fun a => { a with pendGo := true }))).start.advance 0 (((st (((ws [(P.axis 0, F.PAGE_CTRL_ENABLE, 1),
     (P.axis 0, F.AXIS_CTRL_DRV_EN, 1), (P.axis 0, F.AXIS_VMAX_V, 1000), (P.axis 0, F.AXIS_ACC_A, 500), (P.axis 0, F.AXIS_DEC_A, 600),
     (P.axis 0, F.AXIS_EDEC_A, 700), (P.axis 0, F.AXIS_CFG_PROFILE, 0), (P.axis 0, F.AXIS_MODE_VEL, 1),
     (P.axis 0, F.AXIS_VTARGET_LO_VTARGET, 65536000),
     (P.pwr 0, F.PWR_DOM_STAT_ON, 0x0FFFF)] b0).modTile 0 (fun ts => { ts with n := 100000 })).modAxS 0 (fun a => { a with pendGo := true }))).start.now 0 / 2000 + 1) * 2000), clampI (-((st (((ws [(P.axis 0, F.PAGE_CTRL_ENABLE, 1),
     (P.axis 0, F.AXIS_CTRL_DRV_EN, 1), (P.axis 0, F.AXIS_VMAX_V, 1000), (P.axis 0, F.AXIS_ACC_A, 500), (P.axis 0, F.AXIS_DEC_A, 600),
     (P.axis 0, F.AXIS_EDEC_A, 700), (P.axis 0, F.AXIS_CFG_PROFILE, 0), (P.axis 0, F.AXIS_MODE_VEL, 1),
     (P.axis 0, F.AXIS_VTARGET_LO_VTARGET, 65536000),
     (P.pwr 0, F.PWR_DOM_STAT_ON, 0x0FFFF)] b0).modTile 0 (fun ts => { ts with n := 100000 })).modAxS 0 (fun a => { a with pendGo := true }))).start.rd (P.axis (0)) F.AXIS_VMAX_V * 65536 : Int)) ((st (((ws [(P.axis 0, F.PAGE_CTRL_ENABLE, 1),
     (P.axis 0, F.AXIS_CTRL_DRV_EN, 1), (P.axis 0, F.AXIS_VMAX_V, 1000), (P.axis 0, F.AXIS_ACC_A, 500), (P.axis 0, F.AXIS_DEC_A, 600),
     (P.axis 0, F.AXIS_EDEC_A, 700), (P.axis 0, F.AXIS_CFG_PROFILE, 0), (P.axis 0, F.AXIS_MODE_VEL, 1),
     (P.axis 0, F.AXIS_VTARGET_LO_VTARGET, 65536000),
     (P.pwr 0, F.PWR_DOM_STAT_ON, 0x0FFFF)] b0).modTile 0 (fun ts => { ts with n := 100000 })).modAxS 0 (fun a => { a with pendGo := true }))).start.rd (P.axis (0)) F.AXIS_VMAX_V * 65536 : Int) ((st (((ws [(P.axis 0, F.PAGE_CTRL_ENABLE, 1),
     (P.axis 0, F.AXIS_CTRL_DRV_EN, 1), (P.axis 0, F.AXIS_VMAX_V, 1000), (P.axis 0, F.AXIS_ACC_A, 500), (P.axis 0, F.AXIS_DEC_A, 600),
     (P.axis 0, F.AXIS_EDEC_A, 700), (P.axis 0, F.AXIS_CFG_PROFILE, 0), (P.axis 0, F.AXIS_MODE_VEL, 1),
     (P.axis 0, F.AXIS_VTARGET_LO_VTARGET, 65536000),
     (P.pwr 0, F.PWR_DOM_STAT_ON, 0x0FFFF)] b0).modTile 0 (fun ts => { ts with n := 100000 })).modAxS 0 (fun a => { a with pendGo := true }))).start.rdS48 (P.axis (0)) F.AXIS_VTARGET_LO_VTARGET F.AXIS_VTARGET_HI_VTARGET),
     by decide +kernel⟩,
   ⟨st ((ws [(P.mode, F.MODE_HAND_CFG_VALID.nth 0, 1), (P.mode, F.MODE_HAND_CFG_MEMBERS.nth 0, 3), (P.sport 0, F.SPORT_CFG_KIND, 1),
     (P.sport 1, F.SPORT_CFG_KIND, 1), (P.mode, F.MODE_HAND_STAT_STATE.nth 0, 3), (P.mode, F.MODE_HAND_STAT_ARMED.nth 0, 1),
     (P.pace 0, F.PAGE_CTRL_ENABLE, 1),
     (P.mode, F.MODE_HAND_CFG_MEMBERS.nth 0, 5)] b0).modTile 0 (fun ts => { ts with pace := vmod ts.pace 0 (fun x => { x with miss := [(1, 3)] }) })), 0, 1, 0,
     by decide +kernel⟩⟩

theorem LightCommands_hypotheses_met :
    (∃ (s : State) (p : Port) (g : Fin 16) (v : Word), s.start.writable p (g.val / 2) (0x2C + g.val % 2) 0x0CC = true ∧
      bits v.toNat 3 1 = 1 ∧ s.start.lampOn g = true ∧ s.start.flag (P.lamp g) F.LAMP_STAT_SHUT = false ∧
      s.start.flag (P.lamp g) F.LAMP_STAT_BST_RUN = false) ∧
    (∃ (s : State) (p : Port) (g : Fin 16) (v : Word), s.start.writable p (g.val / 2) (0x2C + g.val % 2) 0x0CC = true ∧
      bits v.toNat 3 1 = 3 ∧ s.start.handOf g = none ∧ s.start.lampOn g = true ∧ s.start.flag (P.lamp g) F.LAMP_STAT_BIN_VALID = true ∧
      s.start.flag (P.lamp g) F.LAMP_STAT_BST_OK = true ∧ s.start.flag (P.lamp g) F.LAMP_STAT_BST_RUN = true ∧
      s.start.flag (P.lamp g) F.LAMP_STAT_SHUT = false ∧ s.start.flag (P.lamp g) F.LAMP_CTRL_DIRECT = false) ∧
    (∃ (s : State) (p : Port) (g : Fin 16) (v : Word), s.start.writable p (g.val / 2) (0x2C + g.val % 2) 0x0CC = true ∧
      bit v.toNat 2 = false ∧ s.start.flag (P.lamp g) F.LAMP_STAT_SHUT = true ∧ s.start.shutHolds g = false) ∧
    (∃ (s : State) (g : Fin 16) (b : List Byte), s.start.live (g.val / 2) D.aux = true ∧ s.start.live (g.val / 2) D.lamp = true ∧
      s.start.flag (P.twc (g.val / 2)) F.TWC_STAT_BUSY = true ∧ s.start.twcOwner (g.val / 2) = 2 + g.val % 2 ∧
      (s.start.lampS g).reading = true ∧ Mach.binFault (some b) = 0) ∧
    (∃ (s : State) (p : Port) (t : Fin 8), s.start.writable p t 0x2E 0x044 = true ∧ (s.start.tile t).sweep = none) ∧
    (∃ (s : State) (t : Fin 8) (x : Sweep), (s.start.tile t).sweep = some x ∧ s.start.live t D.lamp = true ∧
      s.start.sweepLen t x ≤ x.frame + 1) ∧
    (∃ (s : State) (t0 : Nat) (t : Fin 8) (e : Fin 4), (List.range 8).find? s.start.awake = some t0 ∧ s.start.live t D.lamp = true ∧
      (s.start.eng t e).start = true ∧ 1 < Mach.stepTime (s.start.el (P.patt t) e 0)) ∧
    (∃ (s : State) (p : Port) (t : Fin 8), s.start.writable p t 0x2F 0x080 = true) ∧
    (∃ (s : State) (g : Fin 16), s.start.live (g.val / 2) D.lamp = true ∧ s.start.flag (P.lamp g) F.LAMP_STAT_BST_RUN = true) :=
  ⟨⟨st (ws [(P.lamp 0, F.PAGE_CTRL_ENABLE, 1)] b0), .b, 0, 2, by decide +kernel⟩,
   ⟨st (ws [(P.lamp 0, F.PAGE_CTRL_ENABLE, 1), (P.lamp 0, F.LAMP_STAT_BIN_VALID, 1), (P.lamp 0, F.LAMP_STAT_BST_OK, 1),
     (P.lamp 0, F.LAMP_STAT_BST_RUN, 1)] b0), .b, 0, 6, by decide +kernel⟩,
   ⟨st (ws [(P.lamp 0, F.PAGE_CTRL_ENABLE, 1), (P.lamp 0, F.LAMP_STAT_SHUT, 1)] b0), .b, 0, 1, by decide +kernel⟩,
   ⟨st ((ws [(P.lamp 0, F.PAGE_CTRL_ENABLE, 1), (P.twc 0, F.TWC_STAT_BUSY, 1),
     (P.twc 0, F.TWC_STAT_OWNER, 2)] b0).modLamp 0 (fun l => { l with reading := true })), 0, (let l : List Byte := [0x4C, 0x42, 1, 1, 0, 0, 0, 0, 0, 128] ++ List.replicate 53 0; l ++ [BitVec.ofNat 8 (crc8 l)]),
     by decide +kernel⟩,
   ⟨st b0, .b, 0, by decide +kernel⟩,
   ⟨st ((b0).modTile 0 (fun ts => { ts with sweep := some { bank := 0, noLatch := false, frame := 1, start := 5 } })), 0, { bank := 0, noLatch := false, frame := 1, start := 5 },
     by decide +kernel⟩,
   ⟨st (((b0).setEl (P.patt 0) 1 0 (4 * 65536 + 5)).modTile 0 (fun ts => { ts with patt := vmod ts.patt 1 (fun x => { x with start := true }) })), 0, 0, 1,
     by decide +kernel⟩,
   ⟨st b0, .b, 0, by decide +kernel⟩,
   ⟨st (ws [(P.lamp 0, F.LAMP_STAT_BST_RUN, 1)] b0), 0, by decide +kernel⟩⟩

theorem MeasurementCommands_hypotheses_met :
    (∃ (s : State) (t : Fin 8) (ch : Nat) (after : Bool), s.start.monOn t = true ∧ (s.start.monS t).cur = none ∧
      (s.start.monS t).snapReq = false ∧ (s.start.monS t).calRun = false ∧ (s.start.monS t).calPend = false ∧ s.start.calValid t = true ∧
      (s.start.monS t).trump = some (ch, after)) ∧
    (∃ (s : State) (t : Fin 8) (ch : Nat), s.start.monOn t = true ∧ (s.start.monS t).cur = some (.seq ch) ∧ ch < 64 ∧
      (s.start.monS t).snapReq = false ∧ (s.start.feS t).due = []) ∧
    (∃ (s : State) (p : Port) (t : Fin 8) (v : Word), s.start.writable p t 0x30 0x048 = true ∧ bit v.toNat 1 = false ∧
      (s.start.monS t).calRun = false) ∧
    (∃ (s : State) (t : Fin 8) (ofs : Int) (gain : Nat) (lin : List Int), s.start.live t D.mon = true ∧ (s.start.monS t).calRun = true ∧
      -4096 ≤ ofs ∧ ofs ≤ 4096 ∧ 32113 ≤ gain ∧ gain ≤ 33423 ∧ ((∀ x, x ∈ lin → -127 ≤ x ∧ x ≤ 127))) ∧
    (∃ (s : State) (p : Port) (t : Fin 8) (v : Word), s.start.writable p t 0x30 0x04C = true ∧ Mach.seqChannel (bits v.toNat 5 0) = true ∧
      (s.start.monS t).calPend = false ∧ (s.start.monS t).calRun = false ∧ s.start.calValid t = true ∧ (s.start.monS t).trump = none) ∧
    (∃ (s : State) (p : Port) (t : Fin 8) (v : Word), s.start.writable p t 0x30 0x048 = true ∧ bit v.toNat 0 = false ∧
      s.start.monOn t = true ∧ (s.start.monS t).snap = none) ∧
    (∃ (s : State) (t : Fin 8), s.start.rd (P.mon t) F.MON_CFG_SNAP_MS ≠ 0 ∧ s.start.monOn t = true ∧ (s.start.monS t).snap = none) ∧
    (∃ (s : State) (t : Fin 8) (n : Nat) (ws : List Nat), (s.start.monS t).snap = some (n, ws) ∧ ws.length ≤ 64 ∧
      s.start.live t D.mon = true ∧ s.start.flag (P.mon t) F.MON_CFG_DELIVER = false) ∧
    (∃ (s : State) (t : Fin 8), s.start.feMayRun t = true ∧ (s.start.feS t).run = true ∧ (s.start.feS t).due = [] ∧
      (s.start.feS t).negHalf = false) ∧
    (∃ (s : State) (t : Fin 8), (s.start.feS t).due ≠ []) ∧
    (∃ (s : State) (t : Fin 8) (o : Fin 2), s.start.live t D.aux = true ∧ s.start.enabled (P.meas t) = true ∧
      s.start.flag (P.meas t) (F.MEAS_OUT_CFG_EN.nth o) = true ∧ s.start.flag (P.meas t) (F.MEAS_OUT_STAT_FAILSAFE.nth o) = false) :=
  ⟨⟨st ((ws [(P.mon 0, F.PAGE_CTRL_ENABLE, 1),
     (P.mon 0, F.MON_STAT_CAL_VALID, 1)] b0).modTile 0 (fun ts => { ts with mon := { ts.mon with trump := some (3, false) } })), 0, 3, false,
     by decide +kernel⟩,
   ⟨st ((ws [(P.mon 0, F.PAGE_CTRL_ENABLE, 1),
     (P.mon 0, F.MON_STAT_CAL_VALID, 1)] b0).modTile 0 (fun ts => { ts with mon := { ts.mon with cur := some (.seq 3) } })), 0, 3,
     by decide +kernel⟩,
   ⟨st b0, .b, 0, 1, by decide +kernel⟩,
   ⟨st ((ws [(P.mon 0, F.PAGE_CTRL_ENABLE, 1),
     (P.mon 0, F.MON_STAT_CAL_VALID, 1)] b0).modTile 0 (fun ts => { ts with mon := { ts.mon with calRun := true } })), 0, 5, 32768, [1,2,3,4,5,6,7,8],
     by decide +kernel⟩,
   ⟨st (ws [(P.mon 0, F.PAGE_CTRL_ENABLE, 1), (P.mon 0, F.MON_STAT_CAL_VALID, 1)] b0), .b, 0, 9, by decide +kernel⟩,
   ⟨st (ws [(P.mon 0, F.PAGE_CTRL_ENABLE, 1), (P.mon 0, F.MON_STAT_CAL_VALID, 1)] b0), .b, 0, 2, by decide +kernel⟩,
   ⟨st (ws [(P.mon 0, F.PAGE_CTRL_ENABLE, 1), (P.mon 0, F.MON_STAT_CAL_VALID, 1), (P.mon 0, F.MON_CFG_SNAP_MS, 10)] b0), 0,
     by decide +kernel⟩,
   ⟨st ((ws [(P.mon 0, F.PAGE_CTRL_ENABLE, 1),
     (P.mon 0, F.MON_STAT_CAL_VALID, 1)] b0).modTile 0 (fun ts => { ts with mon := { ts.mon with snap := some (5, [1,2,3]) } })), 0, 5, [1,2,3],
     by decide +kernel⟩,
   ⟨st ((ws [(P.mon 0, F.PAGE_CTRL_ENABLE, 1), (P.mon 0, F.MON_STAT_CAL_VALID, 1),
     (P.fe 0, F.PAGE_CTRL_ENABLE, 1)] b0).modTile 0 (fun ts => { ts with fe := { ts.fe with run := true } })), 0, by decide +kernel⟩,
   ⟨st ((b0).modTile 0 (fun ts => { ts with fe := { ts.fe with due := [(1, 2, false)] } })), 0, by decide +kernel⟩,
   ⟨st (ws [(P.meas 0, F.PAGE_CTRL_ENABLE, 1), (P.meas 0, F.MEAS_OUT_CFG_EN.nth 0, 1)] b0), 0, 0, by decide +kernel⟩⟩

theorem HostLinks_hypotheses_met :
    (∃ (s : State) (p : Port) (t : Fin 8), s.start.writable p t 0x20 0x044 = true ∧ s.start.live t D.hostphy = true ∧
      s.start.fallingAsleep t = false ∧ s.start.islandOf t = none ∧ bits (s.start.word (P.hostp t) 0x040).toNat 1 0 = 1 ∧
      1 ≤ bits (s.start.word (P.hostp t) 0x040).toNat 10 8 ∧ bits (s.start.word (P.hostp t) 0x040).toNat 10 8 ≤ 5) ∧
    (∃ (s : State) (t : Fin 8) (i : Instr) (c : Nat), (i, c) ∈ [(.hotReset t, 2), (.dlDown t, 3), (.flr t, 4)] ∧ s.start.phyUp t = true ∧
      s.start.hostMode t = 1 ∧ s.start.islandOf t = none ∧ s.start.fallingAsleep t = false) ∧
    (∃ (s : State) (t : Fin 8) (i : Instr) (c : Nat), (i, c) ∈ [(.hotReset t, 2), (.dlDown t, 3), (.flr t, 4)] ∧ s.start.phyUp t = true ∧
      s.start.hostMode t = 1 ∧ s.start.islandOf t = none ∧ s.start.fallingAsleep t = false) ∧
    (∃ (s : State) (t : Fin 8) (i : Instr) (c : Nat), (i, c) ∈ [(.hotReset t, 2), (.dlDown t, 3), (.flr t, 4)] ∧ s.start.phyUp t = true ∧
      s.start.hostMode t = 1 ∧ s.start.islandOf t = none ∧ s.start.fallingAsleep t = false) ∧
    (∃ (s : State) (t : Fin 8), s.start.phyUp t = true ∧ s.start.hostMode t = 2 ∧ s.start.islandOf t = none ∧
      s.start.fallingAsleep t = false) ∧
    (∃ (s : State) (t : Fin 8), (s.start.host t).perstLow = false ∧ s.start.hostPower t = true ∧ s.start.hostMode t = 1 ∧
      s.start.islandOf t = none ∧ s.start.fallingAsleep t = false) ∧
    (∃ (s : State) (t : Fin 8), (s.start.host t).perstLow = true ∧ s.start.hostPower t = true ∧ s.start.hostMode t = 1) ∧
    (∃ (s : State) (t : Fin 8), s.start.hostPower t = true ∧ s.start.flag (P.hostp t) F.HOSTP_STAT_TRAINING = true ∧
      s.start.refLost = false) ∧
    (∃ (s : State) (t : Fin 8), s.start.hostPower t = true ∧ s.start.flag (P.hostp t) F.HOSTP_STAT_TRAINING = true ∧
      (s.start.host t).failShown = false) ∧
    (∃ (s : State) (t : Fin 8), s.start.linkUp t = true ∧ s.start.hostMode t = 2 ∧ s.start.rd (P.thaig t) F.THAIG_LIVE_MS ≠ 0) :=
  ⟨⟨st (ws [(P.hostp 0, F.HOSTP_CFG_MODE, 1), (P.hostp 0, F.HOSTP_CFG_RATE, 3)] b0), .b, 0, by decide +kernel⟩,
   ⟨st ((ws [(P.hostp 0, F.HOSTP_STAT_PHY_UP, 1),
     (P.hostp 0, F.HOSTP_STAT_LINK, 1)] b0).modHost 0 (fun h => { h with cfg := 0x501, memEn := true, cfgDone := true })), 0,
     .hotReset (0), 2, by decide +kernel⟩,
   ⟨st ((ws [(P.hostp 0, F.HOSTP_STAT_PHY_UP, 1),
     (P.hostp 0, F.HOSTP_STAT_LINK, 1)] b0).modHost 0 (fun h => { h with cfg := 0x501, memEn := true, cfgDone := true })), 0,
     .dlDown (0), 3, by decide +kernel⟩,
   ⟨st ((ws [(P.hostp 0, F.HOSTP_STAT_PHY_UP, 1),
     (P.hostp 0, F.HOSTP_STAT_LINK, 1)] b0).modHost 0 (fun h => { h with cfg := 0x501, memEn := true, cfgDone := true })), 0, .flr (0), 4,
     by decide +kernel⟩,
   ⟨st ((ws [(P.hostp 0, F.HOSTP_STAT_PHY_UP, 1), (P.hostp 0, F.HOSTP_STAT_LINK, 1)] b0).modHost 0 (fun h => { h with cfg := 0x502 })), 0,
     by decide +kernel⟩,
   ⟨st ((ws [(P.hostp 0, F.HOSTP_STAT_PHY_UP, 1),
     (P.hostp 0, F.HOSTP_STAT_LINK, 1)] b0).modHost 0 (fun h => { h with cfg := 0x501, memEn := true, cfgDone := true })), 0,
     by decide +kernel⟩,
   ⟨st ((b0).modHost 0 (fun h => { h with cfg := 0x501, perstLow := true })), 0, by decide +kernel⟩,
   ⟨st ((ws [(P.hostp 0, F.HOSTP_STAT_TRAINING, 1)] b0).modHost 0 (fun h => { h with cfg := 0x501 })), 0, by decide +kernel⟩,
   ⟨st (ws [(P.hostp 0, F.HOSTP_STAT_TRAINING, 1)] b0), 0, by decide +kernel⟩,
   ⟨st ((ws [(P.hostp 0, F.HOSTP_STAT_PHY_UP, 1), (P.hostp 0, F.HOSTP_STAT_LINK, 1),
     (P.thaig 0, F.THAIG_LIVE_MS, 100)] b0).modHost 0 (fun h => { h with cfg := 0x502 })), 0, by decide +kernel⟩⟩

theorem PcieRequests_hypotheses_met :
    (∃ (s : State) (t : Fin 8) (q : Fin 32) (v : Word), s.start.wireUp t = true ∧ s.start.hostMode t = 1 ∧ s.start.memServed t = true ∧
      s.start.flag (P.pcie t) (F.PCIE_Q_RING_CFG_EN.nth q) = true ∧ s.start.rd (P.pcie t) (F.PCIE_Q_DELIVERED_COUNT.nth q) = v.toNat) ∧
    (∃ (s : State) (t : Fin 8) (q : Fin 32) (v : Word), s.start.wireUp t = true ∧ s.start.hostMode t = 1 ∧ s.start.memServed t = true ∧
      (s.start.rd (P.pcie t) (F.PCIE_Q_DELIVERED_COUNT.nth q) + 2 ^ 32 - s.start.rd (P.pcie t) (F.PCIE_Q_CONSUMED_COUNT.nth q)) % 2 ^ 32 < (v.toNat + 2 ^ 32 - s.start.rd (P.pcie t) (F.PCIE_Q_CONSUMED_COUNT.nth q)) % 2 ^ 32) ∧
    (∃ (s : State) (t : Fin 8), s.start.wireUp t = true ∧ s.start.hostMode t = 1 ∧ s.start.part = .p8) ∧
    (∃ (s : State) (t : Fin 8) (mps : Fin 8) (mrrs : Fin 8), s.start.wireUp t = true ∧ s.start.hostMode t = 1 ∧ mps.val ≤ 2 ∧
      mrrs.val ≤ 5) ∧
    (∃ (s : State) (t : Fin 8), s.start.wireUp t = true ∧ s.start.hostMode t = 1) ∧
    (∃ (s : State) (t : Fin 8), s.start.wireUp t = true ∧ s.start.hostMode t = 1 ∧ s.start.memServed t = true ∧
      s.start.flag (P.pcie t) F.PCIE_STAT_MSIX_EN = false) ∧
    (∃ (s : State) (t : Fin 8), s.start.wireUp t = true ∧ s.start.hostMode t = 1 ∧ s.start.memServed t = true ∧
      s.start.flag (P.pcie t) F.PCIE_STAT_MSIX_EN = false) :=
  ⟨⟨st ((ws [(P.hostp 0, F.HOSTP_STAT_PHY_UP, 1), (P.hostp 0, F.HOSTP_STAT_LINK, 1), (P.pcie 0, F.PCIE_Q_RING_CFG_EN.nth 8, 1),
     (P.pcie 0, F.PCIE_Q_DELIVERED_COUNT.nth 8, 7)] b0).modHost 0 (fun h => { h with cfg := 0x501, memEn := true, cfgDone := true })), 0, 8, 7,
     by decide +kernel⟩,
   ⟨st ((ws [(P.hostp 0, F.HOSTP_STAT_PHY_UP, 1),
     (P.hostp 0, F.HOSTP_STAT_LINK, 1)] b0).modHost 0 (fun h => { h with cfg := 0x501, memEn := true, cfgDone := true })), 0, 8, 3,
     by decide +kernel⟩,
   ⟨st ((ws [(P.hostp 0, F.HOSTP_STAT_PHY_UP, 1),
     (P.hostp 0, F.HOSTP_STAT_LINK, 1)] b0).modHost 0 (fun h => { h with cfg := 0x501, memEn := true, cfgDone := true })), 0,
     by decide +kernel⟩,
   ⟨st ((ws [(P.hostp 0, F.HOSTP_STAT_PHY_UP, 1),
     (P.hostp 0, F.HOSTP_STAT_LINK, 1)] b0).modHost 0 (fun h => { h with cfg := 0x501, memEn := true, cfgDone := true })), 0, 2, 5,
     by decide +kernel⟩,
   ⟨st ((ws [(P.hostp 0, F.HOSTP_STAT_PHY_UP, 1),
     (P.hostp 0, F.HOSTP_STAT_LINK, 1)] b0).modHost 0 (fun h => { h with cfg := 0x501, memEn := true, cfgDone := true })), 0,
     by decide +kernel⟩,
   ⟨st ((ws [(P.hostp 0, F.HOSTP_STAT_PHY_UP, 1),
     (P.hostp 0, F.HOSTP_STAT_LINK, 1)] b0).modHost 0 (fun h => { h with cfg := 0x501, memEn := true, cfgDone := true })), 0,
     by decide +kernel⟩,
   ⟨st ((ws [(P.hostp 0, F.HOSTP_STAT_PHY_UP, 1),
     (P.hostp 0, F.HOSTP_STAT_LINK, 1)] b0).modHost 0 (fun h => { h with cfg := 0x501, memEn := true, cfgDone := true })), 0,
     by decide +kernel⟩⟩

theorem EthernetAndThaig_hypotheses_met :
    (∃ (s : State) (t : Fin 8) (f : Frame) (bs : List Byte), s.start.etherUp t = true ∧ s.start.frameOk t f = true ∧ f.body = .ptp bs ∧
      s.start.flag (P.eth t) F.ETH_PTP_CFG_EN = true ∧ s.start.rd (P.eth t) F.ETH_PTP_RX_LVL < 8) ∧
    (∃ (s : State) (t : Fin 8) (f : Frame), s.start.etherUp t = true ∧ s.start.frameOk t f = false) ∧
    (∃ (s : State) (p : Port) (t : Fin 8) (v : Word), s.start.writable p t 0x22 0x08C = true ∧ bit v.toNat 1 = false ∧
      s.start.rd (P.eth t) F.ETH_PTP_RX_LVL ≠ 0) ∧
    (∃ (s : State) (p : Port) (t : Fin 8) (v : Word), s.start.writable p t 0x22 0x08C = true ∧ bit v.toNat 0 = false ∧
      (s.start.host t).ptpPend = false) ∧
    (∃ (s : State) (t : Fin 8), s.start.etherUp t = true ∧ (s.start.host t).ptpPend = true) ∧
    (∃ (s : State) (p : Port) (t : Fin 8), s.start.writable p t 0x22 0x0A0 = true) ∧
    (∃ (s : State) (p : Port) (t : Fin 8), s.start.writable p t 0x22 0x0A4 = true) ∧
    (∃ (s : State) (t : Fin 8) (src : NetSrc) (body : List Byte) (bs : List Byte) (d : Nat), bs = 0xC2 :: body ∧
      s.start.etherUp t = true ∧ s.start.admitting t src.ip.toNat = some d ∧
      Mach.dgram bs 4 4 = s.start.rd (P.thaig t) F.THAIG_SESSION_TAG ∧ s.start.flag (P.thaig t) (F.THAIG_DEST_CFG_ANY.nth d) = false ∧
      s.start.flag (P.hostp t) F.HOSTP_STAT_SILENT = false ∧ s.start.ctrlCapable t = true ∧ Mach.reqFormOk bs = true ∧
      s.start.islandOf t = none ∧ s.start.attachedAt t = true ∧ s.start.heldAcc = [] ∧
      Mach.dgram bs 8 4 = s.start.rd (P.thaig t) F.THAIG_SEQ_EXPECT ∧ ((∀ i, i < Mach.dgram bs 2 1 → (Mach.opAt bs i).1 = 1 ∧
      s.start.waits t (Mach.opAt bs i).2.1 = false))) ∧
    (∃ (s : State) (t : Fin 8) (src : NetSrc) (session : Word) (q : Byte) (limit : Word) (d : Nat), s.start.etherUp t = true ∧
      s.start.admitting t src.ip.toNat = some d ∧ session.toNat = s.start.rd (P.thaig t) F.THAIG_SESSION_TAG ∧
      s.start.flag (P.thaig t) (F.THAIG_DEST_CFG_ANY.nth d) = false ∧ s.start.flag (P.hostp t) F.HOSTP_STAT_SILENT = false ∧
      q.toNat < 32 ∧ s.start.flag (P.thaig t) (F.THAIG_Q_CFG_EN.nth q.toNat) = true ∧
      0 ≤ toS 32 (limit.toNat + 2 ^ 32 - s.start.rd (P.thaig t) (F.THAIG_Q_LIMIT_LIMIT.nth q.toNat))) ∧
    (∃ (s : State) (t : Fin 8) (i : Instr), i ∈ [.thaigEvent t, .eventRepeat t] ∧ s.start.evtOn t = true ∧
      (s.start.host t).evtDue = true ∧ s.start.rd (P.thaig t) F.THAIG_EVT_REPEAT_MS ≠ 0 ∧ (s.start.host t).evtPair ≠ (0, 0)) ∧
    (∃ (s : State) (t : Fin 8) (i : Instr), i ∈ [.thaigEvent t, .eventRepeat t] ∧ s.start.evtOn t = true ∧
      (s.start.host t).evtDue = true ∧ s.start.rd (P.thaig t) F.THAIG_EVT_REPEAT_MS ≠ 0 ∧ (s.start.host t).evtPair ≠ (0, 0)) ∧
    (∃ (s : State) (p : Port) (t : Fin 8), s.start.writable p t 0x22 0x0A0 = true) ∧
    (∃ (s : State) (p : Port) (t : Fin 8), s.start.writable p t 0x22 0x0A4 = true) :=
  ⟨⟨st ((ws [(P.hostp 0, F.HOSTP_STAT_PHY_UP, 1), (P.hostp 0, F.HOSTP_STAT_LINK, 1),
     (P.eth 0, F.ETH_PTP_CFG_EN, 1)] b0).modHost 0 (fun h => { h with cfg := 0x502 })), 0, { dst := .ptp, tag := none, csumOk := true, corr := 0, uncorr := 0, body := .ptp [1, 2, 3] }, [1, 2, 3],
     by decide +kernel⟩,
   ⟨st ((ws [(P.hostp 0, F.HOSTP_STAT_PHY_UP, 1),
     (P.hostp 0, F.HOSTP_STAT_LINK, 1)] b0).modHost 0 (fun h => { h with cfg := 0x502 })), 0, { dst := .other, tag := none, csumOk := true, corr := 0, uncorr := 0, body := .other },
     by decide +kernel⟩,
   ⟨st (ws [(P.eth 0, F.ETH_PTP_RX_LVL, 2)] b0), .b, 0, 1, by decide +kernel⟩,
   ⟨st b0, .b, 0, 2, by decide +kernel⟩,
   ⟨st ((ws [(P.hostp 0, F.HOSTP_STAT_PHY_UP, 1),
     (P.hostp 0, F.HOSTP_STAT_LINK, 1)] b0).modHost 0 (fun h => { h with cfg := 0x502, ptpPend := true })), 0, by decide +kernel⟩,
   ⟨st b0, .b, 0, by decide +kernel⟩,
   ⟨st b0, .b, 0, by decide +kernel⟩,
   ⟨st ((ws [(P.hostp 0, F.HOSTP_STAT_PHY_UP, 1), (P.hostp 0, F.HOSTP_STAT_LINK, 1), (P.thaig 0, F.THAIG_DEST_CFG_ANY.nth 0, 0),
     (P.thaig 0, F.THAIG_DEST_CFG_VALID.nth 0, 1), (P.thaig 0, F.THAIG_DEST_CFG_CTRL_OK.nth 0, 1), (P.thaig 0, F.THAIG_Q_CFG_EN.nth 8, 1),
     (P.ports, F.PORTS_STAT_A_PATH, 2),
     (P.hostp 0, F.HOSTP_CFG_CTRL_CAP, 1)] b0).modHost 0 (fun h => { h with cfg := 0x502 })), 0, { mac := 5, ip := 0, port := 7 }, [0, 1, 0, 0, 0, 0, 0, 0, 0, 0, 0, 0, 0, 0, 0, 1, 0x14, 0, 0, 0, 0, 0, 0], 0xC2 :: ([0, 1, 0, 0, 0, 0, 0, 0, 0, 0, 0, 0, 0, 0, 0, 1, 0x14, 0, 0, 0, 0, 0, 0]), 0,
     by decide +kernel⟩,
   ⟨st ((ws [(P.hostp 0, F.HOSTP_STAT_PHY_UP, 1), (P.hostp 0, F.HOSTP_STAT_LINK, 1), (P.thaig 0, F.THAIG_DEST_CFG_ANY.nth 0, 0),
     (P.thaig 0, F.THAIG_DEST_CFG_VALID.nth 0, 1), (P.thaig 0, F.THAIG_DEST_CFG_CTRL_OK.nth 0, 1), (P.thaig 0, F.THAIG_Q_CFG_EN.nth 8, 1),
     (P.ports, F.PORTS_STAT_A_PATH, 2),
     (P.hostp 0, F.HOSTP_CFG_CTRL_CAP, 1)] b0).modHost 0 (fun h => { h with cfg := 0x502 })), 0, { mac := 5, ip := 0, port := 7 }, 0#32, 8, 9, 0,
     by decide +kernel⟩,
   ⟨st ((ws [(P.hostp 0, F.HOSTP_STAT_PHY_UP, 1), (P.hostp 0, F.HOSTP_STAT_LINK, 1), (P.thaig 0, F.THAIG_DEST_CFG_ANY.nth 0, 0),
     (P.thaig 0, F.THAIG_DEST_CFG_VALID.nth 0, 1), (P.thaig 0, F.THAIG_DEST_CFG_CTRL_OK.nth 0, 1), (P.thaig 0, F.THAIG_Q_CFG_EN.nth 8, 1),
     (P.ports, F.PORTS_STAT_A_PATH, 2), (P.hostp 0, F.HOSTP_CFG_CTRL_CAP, 1), (P.thaig 0, F.THAIG_EVT_EN, 1),
     (P.thaig 0, F.THAIG_EVT_REPEAT_MS, 5)] b0).modHost 0 (fun h => { h with cfg := 0x502, evtDue := true, evtPair := (1, 2) })), 0,
     .thaigEvent (0), by decide +kernel⟩,
   ⟨st ((ws [(P.hostp 0, F.HOSTP_STAT_PHY_UP, 1), (P.hostp 0, F.HOSTP_STAT_LINK, 1), (P.thaig 0, F.THAIG_DEST_CFG_ANY.nth 0, 0),
     (P.thaig 0, F.THAIG_DEST_CFG_VALID.nth 0, 1), (P.thaig 0, F.THAIG_DEST_CFG_CTRL_OK.nth 0, 1), (P.thaig 0, F.THAIG_Q_CFG_EN.nth 8, 1),
     (P.ports, F.PORTS_STAT_A_PATH, 2), (P.hostp 0, F.HOSTP_CFG_CTRL_CAP, 1), (P.thaig 0, F.THAIG_EVT_EN, 1),
     (P.thaig 0, F.THAIG_EVT_REPEAT_MS, 5)] b0).modHost 0 (fun h => { h with cfg := 0x502, evtDue := true, evtPair := (1, 2) })), 0,
     .eventRepeat (0), by decide +kernel⟩,
   ⟨st (ws [(P.ring 1, F.RING_STAT_OUTSIDE, 1), (P.ring 0, F.RING_STAT_REACH, 3)] (on 1 b0)), .b, 1, by decide +kernel⟩,
   ⟨st (ws [(P.ring 1, F.RING_STAT_OUTSIDE, 1), (P.ring 0, F.RING_STAT_REACH, 3)] (on 1 b0)), .b, 1, by decide +kernel⟩⟩

theorem DmaChannelCommands_hypotheses_met :
    (∃ (s : State) (p : Port) (t : Fin 8) (c : Fin 16) (A : Nat), s.start.writable p t 0x1E (0x10C + 64 * c) = true ∧
      s.start.dmaBusy t c = false ∧
      A = s.start.rd (P.dma t) (F.DMA_CH_START_LO_ADDR.nth c) * 32 + s.start.rd (P.dma t) (F.DMA_CH_START_HI_ADDR.nth c) * 2 ^ 32 ∧
      A + 32 ≤ s.start.dramCap t ∧ s.start.flag (P.dram t) F.DRAM_STAT_TRAINED = true) ∧
    (∃ (s : State) (p : Port) (t : Fin 8) (c : Fin 16) (A : Nat), s.start.writable p t 0x1E (0x10C + 64 * c) = true ∧
      s.start.dmaBusy t c = false ∧
      A = s.start.rd (P.dma t) (F.DMA_CH_START_LO_ADDR.nth c) * 32 + s.start.rd (P.dma t) (F.DMA_CH_START_HI_ADDR.nth c) * 2 ^ 32 ∧
      A + 32 ≤ s.start.dramCap t ∧ s.start.flag (P.dram t) F.DRAM_STAT_TRAINED = true) ∧
    (∃ (s : State) (p : Port) (t : Fin 8) (c : Fin 16), s.start.writable p t 0x1E (0x10C + 64 * c) = true ∧ s.start.dmaBusy t c = true) ∧
    (∃ (s : State) (p : Port) (t : Fin 8) (c : Fin 16), s.start.writable p t 0x1E (0x10C + 64 * c) = true ∧ s.start.dmaState t c = 1 ∧
      Mach.liveOuts (s.start.dmaCh t c) ≠ []) ∧
    (∃ (s : State) (p : Port) (t : Fin 8) (c : Fin 16), s.start.writable p t 0x1E (0x10C + 64 * c) = true ∧ (s.start.dmaState t c = 1 ∧
      Mach.liveOuts (s.start.dmaCh t c) = [] ∨ s.start.dmaState t c = 2) ∧ (s.start.queueOfProd t 0x09).all (s.start.sound t) = true) ∧
    (∃ (s : State) (p : Port) (t : Fin 8) (c : Fin 16), s.start.writable p t 0x1E (0x10C + 64 * c) = true ∧ (s.start.dmaState t c = 1 ∧
      Mach.liveOuts (s.start.dmaCh t c) = [] ∨ s.start.dmaState t c = 2) ∧ (s.start.queueOfProd t 0x09).all (s.start.sound t) = true) ∧
    (∃ (s : State) (p : Port) (t : Fin 8) (c : Fin 16), s.start.writable p t 0x1E (0x10C + 64 * c) = true ∧
      (s.start.dmaState t c = 0 ∨ 3 ≤ s.start.dmaState t c)) ∧
    (∃ (s : State) (p : Port) (t : Fin 8) (c : Fin 16), s.start.writable p t 0x1E (0x10C + 64 * c) = true ∧
      (s.start.dmaState t c = 0 ∨ 3 ≤ s.start.dmaState t c)) ∧
    (∃ (s : State) (p : Port) (t : Fin 8) (c : Fin 16), s.start.writable p t 0x1E (0x10C + 64 * c) = true ∧ 4 ≤ s.start.dmaState t c ∧
      6 < s.start.rd (P.dma t) (F.DMA_CH_STAT_CAUSE.nth c) ∧ (s.start.dmaCh t c).ready = true ∧ (s.start.dmaCh t c).done = false ∧
      s.start.rd (P.dma t) (F.DMA_CH_OFS_OFS.nth c) < Mach.descLen (s.start.dmaCh t c).ctrl) ∧
    (∃ (s : State) (p : Port) (t : Fin 8) (c : Fin 16), s.start.writable p t 0x1E (0x10C + 64 * c) = true ∧
      (s.start.dmaState t c < 4 ∨ s.start.rd (P.dma t) (F.DMA_CH_STAT_CAUSE.nth c) ≤ 6)) ∧
    (∃ (s : State) (t : Fin 8) (c : Fin 16), s.start.dmaBusy t c = true ∧ Mach.liveOuts (s.start.dmaCh t c) ≠ [] ∧
      (s.start.queueOfProd t 0x09).all (s.start.sound t) = true) :=
  ⟨⟨st ((ws [(P.dram 0, F.DRAM_CFG_TYPE, 1), (P.dram 0, F.DRAM_STAT_TRAINED, 1),
     (P.dma 0, F.DMA_CH_START_LO_ADDR.nth 2, 5)] b0).modDma 0 2 (fun x => { x with outs := [{ fetch := true, dead := true }], recent := [3] })),
     .b, 0, 2, 160, by decide +kernel⟩,
   ⟨st ((ws [(P.dram 0, F.DRAM_CFG_TYPE, 1), (P.dram 0, F.DRAM_STAT_TRAINED, 1), (P.dma 0, F.DMA_CH_START_LO_ADDR.nth 2, 5),
     (P.dma 0, F.DMA_CH_CFG_MAX_OUT.nth 2, 1)] b0).modDma 0 2 (fun x => { x with outs := [{ fetch := true, dead := true }] })),
     .b, 0, 2, 160, by decide +kernel⟩,
   ⟨st (ws [(P.dram 0, F.DRAM_CFG_TYPE, 1), (P.dram 0, F.DRAM_STAT_TRAINED, 1), (P.dma 0, F.DMA_CH_STAT_STATE.nth 2, 2)] b0), .b, 0, 2,
     by decide +kernel⟩,
   ⟨st ((ws [(P.dram 0, F.DRAM_CFG_TYPE, 1), (P.dram 0, F.DRAM_STAT_TRAINED, 1),
     (P.dma 0, F.DMA_CH_STAT_STATE.nth 2, 1)] b0).modDma 0 2 (fun x => { x with outs := [{ len := 4 }] })), .b, 0, 2, by decide +kernel⟩,
   ⟨st (ws [(P.dram 0, F.DRAM_CFG_TYPE, 1), (P.dram 0, F.DRAM_STAT_TRAINED, 1), (P.dma 0, F.DMA_CH_STAT_STATE.nth 2, 1)] b0), .b, 0, 2,
     by decide +kernel⟩,
   ⟨st (ws [(P.dram 0, F.DRAM_CFG_TYPE, 1), (P.dram 0, F.DRAM_STAT_TRAINED, 1), (P.dma 0, F.DMA_CH_STAT_STATE.nth 2, 2),
     (P.que 0, F.QUE_Q_CFG_PROD.nth 8, 9), (P.que 0, F.PAGE_CTRL_ENABLE, 1), (P.que 0, F.QUE_Q_CFG_MODE.nth 8, 0)] b0), .b, 0, 2,
     by decide +kernel⟩,
   ⟨st (ws [(P.dram 0, F.DRAM_CFG_TYPE, 1), (P.dram 0, F.DRAM_STAT_TRAINED, 1)] b0), .b, 0, 2, by decide +kernel⟩,
   ⟨st ((ws [(P.dram 0, F.DRAM_CFG_TYPE, 1), (P.dram 0, F.DRAM_STAT_TRAINED, 1),
     (P.dma 0, F.DMA_CH_STAT_STATE.nth 2, 3)] b0).modDma 0 2 (fun x => { x with outs := [{ len := 4 }] })), .b, 0, 2, by decide +kernel⟩,
   ⟨st ((ws [(P.dram 0, F.DRAM_CFG_TYPE, 1), (P.dram 0, F.DRAM_STAT_TRAINED, 1), (P.dma 0, F.DMA_CH_STAT_STATE.nth 2, 4),
     (P.dma 0, F.DMA_CH_STAT_CAUSE.nth 2, 13),
     (P.dma 0, F.DMA_CH_OFS_OFS.nth 2, 3)] b0).modDma 0 2 (fun x => { x with ctrl := 8 * 256 + 3, ready := true })), .b, 0, 2,
     by decide +kernel⟩,
   ⟨st (ws [(P.dram 0, F.DRAM_CFG_TYPE, 1), (P.dram 0, F.DRAM_STAT_TRAINED, 1), (P.dma 0, F.DMA_CH_STAT_STATE.nth 2, 5),
     (P.dma 0, F.DMA_CH_STAT_CAUSE.nth 2, 3)] b0), .b, 0, 2, by decide +kernel⟩,
   ⟨st ((ws [(P.dram 0, F.DRAM_CFG_TYPE, 1), (P.dram 0, F.DRAM_STAT_TRAINED, 1),
     (P.dma 0, F.DMA_CH_STAT_STATE.nth 2, 1)] b0).modDma 0 2 (fun x => { x with outs := [{ len := 4 }] })), 0, 2, by decide +kernel⟩⟩

theorem DmaMovesData_hypotheses_met :
    (∃ (s : State) (t : Fin 8) (c : Fin 16) (cpl : Cpl) (i : Nat) (A : Nat) (D : List Byte), A = s.start.dmaDesc t c ∧ ((∀ k, k < 16 →
      (s.start.dmaCh t k).wait = none)) ∧ (s.start.dmaCh t c).outs.findIdx? (fun x => x.fetch) = some i ∧
      ((s.start.dmaCh t c).outs.getD i {}).dead = false ∧ ((A + 32 ≤ s.start.dramCap t ∧ s.start.dramMark = [] ∧
      D = s.start.dramRead t A 32) ∨ (2 ^ 63 ≤ A ∧ A + 32 ≤ 2 ^ 64 ∧ cpl = .ok (Mach.cplBytes cpl) ∧
      D = (List.range 32).map fun j => (Mach.cplBytes cpl).getD j 0)) ∧ bit (ofLe (D.take 4)) 0 = true ∧ s.start.dmaState t c ≠ 3 ∧
      0 < bits (ofLe (D.take 4)) 31 8 ∧ s.start.rangeCause t c (ofLe ((D.drop 4).take 8)) (bits (ofLe (D.take 4)) 31 8) = none ∧
      s.start.rangeCause t c (ofLe ((D.drop 12).take 8)) (bits (ofLe (D.take 4)) 31 8) = none ∧ bit (ofLe (D.take 4)) 1 = true) ∧
    (∃ (s : State) (t : Fin 8) (c : Fin 16) (cpl : Cpl) (i : Nat) (A : Nat) (D : List Byte), A = s.start.dmaDesc t c ∧ ((∀ k, k < 16 →
      (s.start.dmaCh t k).wait = none)) ∧ (s.start.dmaCh t c).outs.findIdx? (fun x => x.fetch) = some i ∧
      ((s.start.dmaCh t c).outs.getD i {}).dead = false ∧ ((A + 32 ≤ s.start.dramCap t ∧ s.start.dramMark = [] ∧
      D = s.start.dramRead t A 32) ∨ (2 ^ 63 ≤ A ∧ A + 32 ≤ 2 ^ 64 ∧ cpl = .ok (Mach.cplBytes cpl) ∧
      D = (List.range 32).map fun j => (Mach.cplBytes cpl).getD j 0)) ∧ bit (ofLe (D.take 4)) 0 = false ∧
      s.start.flag (P.dma t) (F.DMA_CH_CFG_WAIT_VALID.nth c) = true) ∧
    (∃ (s : State) (t : Fin 8) (c : Fin 16), s.start.dmaState t c = 2 ∧
      ((∀ x ∈ (s.start.dmaCh t c).outs, x.fetch = false ∨ x.dead = true)) ∧ (s.start.dmaCh t c).wait = none ∧
      s.start.roomFor t c false = true ∧ s.start.dmaDesc t c % 32 = 0 ∧ s.start.dmaDesc t c + 32 ≤ s.start.dramCap t ∧
      s.start.flag (P.dram t) F.DRAM_STAT_TRAINED = true) ∧
    (∃ (s : State) (t : Fin 8) (c : Fin 16) (e : Nat), s.start.dmaState t c = 1 ∧ (s.start.dmaCh t c).ready = true ∧
      (s.start.dmaCh t c).done = false ∧ (s.start.dmaCh t c).issued < Mach.descLen (s.start.dmaCh t c).ctrl ∧
      (s.start.dmaCh t c).src < 2 ^ 63 ∧ (s.start.dmaCh t c).dst + Mach.descLen (s.start.dmaCh t c).ctrl ≤ s.start.dramCap t ∧
      s.start.roomFor t c false = true ∧
      e = (if (s.start.dmaCh t c).burstEnd ≤ (s.start.dmaCh t c).issued then s.start.burstStop t c (s.start.dmaCh t c).issued else (s.start.dmaCh t c).burstEnd)) ∧
    (∃ (s : State) (t : Fin 8) (c : Fin 16) (e : Nat), s.start.dmaState t c = 1 ∧ (s.start.dmaCh t c).ready = true ∧
      (s.start.dmaCh t c).done = false ∧ (s.start.dmaCh t c).issued < Mach.descLen (s.start.dmaCh t c).ctrl ∧
      (s.start.dmaCh t c).src < 2 ^ 63 ∧ (s.start.dmaCh t c).dst + Mach.descLen (s.start.dmaCh t c).ctrl ≤ s.start.dramCap t ∧
      s.start.roomFor t c false = true ∧
      e = (if (s.start.dmaCh t c).burstEnd ≤ (s.start.dmaCh t c).issued then s.start.burstStop t c (s.start.dmaCh t c).issued else (s.start.dmaCh t c).burstEnd)) ∧
    (∃ (s : State) (t : Fin 8) (c : Fin 16) (i : Fin 256) (x : DmaTr) (S : Nat) (T : Nat), (s.start.dmaCh t c).outs[i.val]? = some x ∧
      ((∀ k, k < 16 → (s.start.dmaCh t k).wait = none)) ∧ x.fetch = false ∧ x.dead = false ∧ x.bar = false ∧
      S = (s.start.dmaCh t c).src + x.ofs ∧ T = (s.start.dmaCh t c).dst + x.ofs ∧ S + x.len ≤ s.start.dramCap t ∧
      T + x.len ≤ s.start.dramCap t ∧ s.start.dramMark = [] ∧ s.start.flag (P.dram t) F.DRAM_STAT_TRAINED = true ∧
      s.start.dmaState t c = 1 ∧ (((s.start.dmaCh t c).issued < Mach.descLen (s.start.dmaCh t c).ctrl ∨ ((s.start.dmaCh t c).outs = [x] ∧
      (s.start.dmaCh t c).issued = Mach.descLen (s.start.dmaCh t c).ctrl ∧ (s.start.dmaCh t c).recs = [] ∧
      Mach.descBarrier (s.start.dmaCh t c).ctrl = false ∧ Mach.descIrq (s.start.dmaCh t c).ctrl = false ∧
      Mach.descLast (s.start.dmaCh t c).ctrl = true ∧ s.start.flag (P.dma t) (F.DMA_CH_CFG_WB.nth c) = false)))) ∧
    (∃ (s : State) (t : Fin 8) (c : Fin 16) (i : Fin 256) (x : DmaTr) (S : Nat) (T : Nat), (s.start.dmaCh t c).outs[i.val]? = some x ∧
      ((∀ k, k < 16 → (s.start.dmaCh t k).wait = none)) ∧ x.fetch = false ∧ x.dead = false ∧ x.bar = false ∧
      S = (s.start.dmaCh t c).src + x.ofs ∧ T = (s.start.dmaCh t c).dst + x.ofs ∧ S + x.len ≤ s.start.dramCap t ∧
      T + x.len ≤ s.start.dramCap t ∧ s.start.dramMark = [] ∧ s.start.flag (P.dram t) F.DRAM_STAT_TRAINED = true ∧
      s.start.dmaState t c = 1 ∧ (((s.start.dmaCh t c).issued < Mach.descLen (s.start.dmaCh t c).ctrl ∨ ((s.start.dmaCh t c).outs = [x] ∧
      (s.start.dmaCh t c).issued = Mach.descLen (s.start.dmaCh t c).ctrl ∧ (s.start.dmaCh t c).recs = [] ∧
      Mach.descBarrier (s.start.dmaCh t c).ctrl = false ∧ Mach.descIrq (s.start.dmaCh t c).ctrl = false ∧
      Mach.descLast (s.start.dmaCh t c).ctrl = true ∧ s.start.flag (P.dma t) (F.DMA_CH_CFG_WB.nth c) = false)))) :=
  ⟨⟨st ((ws [(P.dram 0, F.DRAM_CFG_TYPE, 1), (P.dram 0, F.DRAM_STAT_TRAINED, 1), (P.dma 0, F.DMA_CH_STAT_STATE.nth 2, 1),
     (P.dma 0, F.DMA_CH_DESC_HI_ADDR.nth 2, 0x80000000)] b0).modDma 0 2 (fun x => { x with outs := [{ fetch := true, host := true }] })), 0, 2,
     .ok (leBytes 4 (8 * 256 + 3) ++ leBytes 8 0x1000 ++ leBytes 8 0x2000 ++ leBytes 8 0 ++ leBytes 4 7), 0, 0x8000000000000000, (List.range 32).map fun j => ((leBytes 4 (8 * 256 + 3) ++ leBytes 8 0x1000 ++ leBytes 8 0x2000 ++ leBytes 8 0 ++ leBytes 4 7) : List Byte).getD j 0,
     by decide +kernel⟩,
   ⟨st ((ws [(P.dram 0, F.DRAM_CFG_TYPE, 1), (P.dram 0, F.DRAM_STAT_TRAINED, 1), (P.dma 0, F.DMA_CH_STAT_STATE.nth 2, 2),
     (P.dma 0, F.DMA_CH_CFG_WAIT_VALID.nth 2, 1)] b0).modDma 0 2 (fun x => { x with outs := [{ fetch := true }] })), 0, 2,
     .error, 0, 0, List.replicate 32 0, by decide +kernel⟩,
   ⟨st (ws [(P.dram 0, F.DRAM_CFG_TYPE, 1), (P.dram 0, F.DRAM_STAT_TRAINED, 1), (P.dma 0, F.DMA_CH_STAT_STATE.nth 2, 2),
     (P.dma 0, F.DMA_CH_DESC_LO_ADDR.nth 2, 64)] b0), 0, 2, by decide +kernel⟩,
   ⟨st ((ws [(P.dram 0, F.DRAM_CFG_TYPE, 1), (P.dram 0, F.DRAM_STAT_TRAINED, 1), (P.dma 0, F.DMA_CH_STAT_STATE.nth 2, 1),
     (P.dma 0, F.DMA_CH_CFG_MAX_OUT.nth 2, 4)] b0).modDma 0 2 (fun x => { x with ctrl := 800 * 256 + 3, ready := true, src := 0x1003, dst := 0x3005, outs := [{ dead := true, len := 3 }] })), 0, 2, (st ((ws [(P.dram 0, F.DRAM_CFG_TYPE, 1),
     (P.dram 0, F.DRAM_STAT_TRAINED, 1), (P.dma 0, F.DMA_CH_STAT_STATE.nth 2, 1),
     (P.dma 0, F.DMA_CH_CFG_MAX_OUT.nth 2, 4)] b0).modDma 0 2 (fun x => { x with ctrl := 800 * 256 + 3, ready := true, src := 0x1003, dst := 0x3005, outs := [{ dead := true, len := 3 }] }))).start.burstStop 0 2 0,
     by decide +kernel⟩,
   ⟨st ((ws [(P.dram 0, F.DRAM_CFG_TYPE, 1), (P.dram 0, F.DRAM_STAT_TRAINED, 1), (P.dma 0, F.DMA_CH_STAT_STATE.nth 2, 1),
     (P.dma 0, F.DMA_CH_CFG_MAX_OUT.nth 2, 4)] b0).modDma 0 2 (fun x => { x with ctrl := 800 * 256 + 3, ready := true, src := 0x1003, dst := 0x3005, issued := 5, burstEnd := 50 })), 0, 2, 50,
     by decide +kernel⟩,
   ⟨st (((ws [(P.dram 0, F.DRAM_CFG_TYPE, 1), (P.dram 0, F.DRAM_STAT_TRAINED, 1),
     (P.dma 0, F.DMA_CH_STAT_STATE.nth 2, 1)] b0).modDma 0 2 (fun x => { x with ctrl := 8 * 256 + 3, ready := true, src := 0x1000, dst := 0x3004, issued := 4, outs := [{ ofs := 1, len := 3 }, { ofs := 0, len := 1 }] })).dramWrite 0 0x1000 [1, 2, 3, 4, 5, 6, 7, 8, 9]), 0, 2, 0, { ofs := 1, len := 3 }, 0x1001, 0x3005,
     by decide +kernel⟩,
   ⟨st (((ws [(P.dram 0, F.DRAM_CFG_TYPE, 1), (P.dram 0, F.DRAM_STAT_TRAINED, 1),
     (P.dma 0, F.DMA_CH_STAT_STATE.nth 2, 1)] b0).modDma 0 2 (fun x => { x with ctrl := 8 * 256 + 3, ready := true, src := 0x1000, dst := 0x3004, issued := 8, outs := [{ ofs := 0, len := 8 }] })).dramWrite 0 0x1000 [1, 2, 3, 4, 5, 6, 7, 8, 9]), 0, 2, 0, { ofs := 0, len := 8 }, 0x1000, 0x3004,
     by decide +kernel⟩⟩

theorem DramControllerEvents_hypotheses_met :
    (∃ (s : State) (t : Fin 8), s.start.live t D.dram = true ∧ s.start.flag (P.dram t) F.DRAM_STAT_TRAINING = true ∧
      s.start.mapOk t = true) ∧
    (∃ (s : State) (t : Fin 8) (f : Option (Fin 16)), s.start.live t D.dram = true ∧ s.start.flag (P.dram t) F.DRAM_STAT_TRAINING = true ∧
      ((s.start.mapOk t = true → f.isSome = true))) ∧
    (∃ (s : State) (t : Fin 8) (f : Option (Fin 16)), s.start.live t D.dram = true ∧ s.start.flag (P.dram t) F.DRAM_STAT_TRAINING = true ∧
      ((s.start.mapOk t = true → f.isSome = true))) ∧
    (∃ (s : State) (t : Fin 8), s.start.dramTrained t = true ∧ s.start.dramPanic t = false) ∧
    (∃ (s : State) (t : Fin 8), s.start.dramTrained t = true ∧ s.start.dramPanic t = false ∧ s.start.rd (P.dram t) F.DRAM_RETRAIN_MS ≠ 0) ∧
    (∃ (s : State) (t : Fin 8), s.start.dramTrained t = true ∧ s.start.dramPanic t = true) ∧
    (∃ (s : State) (t : Fin 8), s.start.dramTrained t = true ∧ s.start.dramPanic t = true) ∧
    (∃ (s : State) (t : Fin 8), s.start.dramTrained t = true ∧ s.start.dramPanic t = false ∧
      s.start.rd (P.dram t) F.DRAM_REF_OWED_NOW = 0) ∧
    (∃ (s : State) (t : Fin 8) (fill : Nat), s.start.dramTrained t = true ∧ s.start.dramPanic t = false ∧ fill ≤ 512 ∧
      512 * s.start.rd (P.dram t) F.DRAM_RT_PANIC_PCT ≤ 100 * fill) ∧
    (∃ (s : State) (t : Fin 8) (fill : Nat), s.start.dramTrained t = true ∧ s.start.dramPanic t = true ∧
      fill ≤ 512 * s.start.rd (P.dram t) F.DRAM_RT_CLEAR_PCT / 100) ∧
    (∃ (s : State) (t : Fin 8) (fill : Nat), s.start.dramTrained t = true ∧ s.start.dramPanic t = true ∧
      fill ≤ 512 * s.start.rd (P.dram t) F.DRAM_RT_CLEAR_PCT / 100) :=
  ⟨⟨st (ws [(P.dram 0, F.DRAM_STAT_TRAINING, 1), (P.dram 0, F.DRAM_CFG_TYPE, 1), (P.dram 0, ⟨0x060, 31, 0, 0⟩, 0x1000),
     (P.dram 0, ⟨0x064, 31, 0, 0⟩, 0), (P.dram 0, ⟨0x068, 31, 0, 0⟩, 0x2000), (P.dram 0, ⟨0x06C, 31, 0, 0⟩, 0),
     (P.dram 0, ⟨0x070, 31, 0, 0⟩, 0x4000), (P.dram 0, ⟨0x074, 31, 0, 0⟩, 0)] b0), 0, by decide +kernel⟩,
   ⟨st (ws [(P.dram 0, F.DRAM_STAT_TRAINING, 1), (P.dram 0, F.DRAM_CFG_TYPE, 1), (P.dram 0, ⟨0x060, 31, 0, 0⟩, 0x1000),
     (P.dram 0, ⟨0x064, 31, 0, 0⟩, 0), (P.dram 0, ⟨0x068, 31, 0, 0⟩, 0x2000), (P.dram 0, ⟨0x06C, 31, 0, 0⟩, 0),
     (P.dram 0, ⟨0x070, 31, 0, 0⟩, 0x4000), (P.dram 0, ⟨0x074, 31, 0, 0⟩, 0)] b0), 0, some 3, by decide +kernel⟩,
   ⟨st (ws [(P.dram 0, F.DRAM_STAT_TRAINING, 1), (P.dram 0, F.DRAM_CFG_TYPE, 1), (P.dram 0, ⟨0x060, 31, 0, 0⟩, 0x1000),
     (P.dram 0, ⟨0x064, 31, 0, 0⟩, 0), (P.dram 0, ⟨0x068, 31, 0, 0⟩, 0x2000), (P.dram 0, ⟨0x06C, 31, 0, 0⟩, 0),
     (P.dram 0, ⟨0x070, 31, 0, 0⟩, 0x4000), (P.dram 0, ⟨0x074, 31, 0, 0⟩, 0), (P.dram 0, ⟨0x060, 31, 0, 0⟩, 0x1001)] b0), 0, none,
     by decide +kernel⟩,
   ⟨st (ws [(P.dram 0, F.DRAM_CFG_TYPE, 1), (P.dram 0, F.DRAM_STAT_TRAINED, 1)] b0), 0, by decide +kernel⟩,
   ⟨st (ws [(P.dram 0, F.DRAM_CFG_TYPE, 1), (P.dram 0, F.DRAM_STAT_TRAINED, 1), (P.dram 0, F.DRAM_RETRAIN_MS, 1000)] b0), 0,
     by decide +kernel⟩,
   ⟨st (ws [(P.dram 0, F.DRAM_CFG_TYPE, 1), (P.dram 0, F.DRAM_STAT_TRAINED, 1), (P.dram 0, F.DRAM_STAT_PANIC, 1),
     (P.dram 0, F.DRAM_REF_OWED_NOW, 3)] b0), 0, by decide +kernel⟩,
   ⟨st (ws [(P.dram 0, F.DRAM_CFG_TYPE, 1), (P.dram 0, F.DRAM_STAT_TRAINED, 1), (P.dram 0, F.DRAM_STAT_PANIC, 1),
     (P.dram 0, F.DRAM_REF_OWED_NOW, 8)] b0), 0, by decide +kernel⟩,
   ⟨st (ws [(P.dram 0, F.DRAM_CFG_TYPE, 1), (P.dram 0, F.DRAM_STAT_TRAINED, 1)] b0), 0, by decide +kernel⟩,
   ⟨st (ws [(P.dram 0, F.DRAM_CFG_TYPE, 1), (P.dram 0, F.DRAM_STAT_TRAINED, 1), (P.dram 0, F.DRAM_RT_PANIC_PCT, 50),
     (P.dram 0, F.DRAM_REF_OWED_NOW, 2)] b0), 0, 256, by decide +kernel⟩,
   ⟨st (ws [(P.dram 0, F.DRAM_CFG_TYPE, 1), (P.dram 0, F.DRAM_STAT_TRAINED, 1), (P.dram 0, F.DRAM_STAT_PANIC, 1),
     (P.dram 0, F.DRAM_RT_CLEAR_PCT, 25), (P.dram 0, F.DRAM_REF_OWED_NOW, 2)] b0), 0, 128, by decide +kernel⟩,
   ⟨st (ws [(P.dram 0, F.DRAM_CFG_TYPE, 1), (P.dram 0, F.DRAM_STAT_TRAINED, 1), (P.dram 0, F.DRAM_STAT_PANIC, 1),
     (P.dram 0, F.DRAM_RT_CLEAR_PCT, 25)] b0), 0, 127, by decide +kernel⟩⟩

theorem RingLinksAndSync_hypotheses_met :
    (∃ (s : State) (t : Fin 8), s.start.present t = true) ∧
    (∃ (s : State) (t : Fin 8), s.start.present t = true) ∧
    (∃ (s : State) (t : Fin 8) (u : Nat), u = s.start.upOf t ∧ s.start.present t = true ∧ s.start.linkUUp t = false ∧
      s.start.ringLive t = true ∧ s.start.ringLive u = true ∧ s.start.flag (P.ring t) F.RING_CFG_U_EN = true ∧
      s.start.flag (P.ring u) F.RING_CFG_L_EN = true) ∧
    (∃ (s : State) (R : Nat), oneSegment s.start = true ∧ s.start.joining = 0 ∧ R < 256 ∧ ((∀ t, t < 8 → s.start.ringLive t = bit R t)) ∧
      ((∀ t, t < 8 → s.start.ringLive t = true → s.start.reach t = R ∧ s.start.component t = R ∧ (s.start.ringS t).recov ≠ some 2)) ∧
      ((∀ t, t < 8 → s.start.ringLive t = false → (s.start.ringS t).recov ≠ some 2)) ∧ ((∀ t, t < 8 → ∀ u, u < 8 → s.start.role t = 1 →
      s.start.role u = 1 → t = u))) ∧
    (∃ (s : State) (t : Fin 8) (k : Nat), s.start.ringLive t = true ∧ s.start.role t % 2 = 1 ∧
      s.start.flag (P.tb t) F.TB_STAT_MASTER = true ∧ s.start.flag (P.tb t) F.TB_STAT_LOAD_PEND = false ∧ s.start.slewRate = 0 ∧
      s.start.slewRemain = 0 ∧ (s.start.tile t).ring.rate = none ∧ (s.start.tile t).sub < 2 ^ 32 ∧ k = (s.start.now t / 5000 + 1) * 5000 ∧
      k < 2 ^ 64) ∧
    (∃ (s : State) (t : Fin 8), s.start.ringLive t = true ∧ s.start.role t % 2 = 1 ∧ s.start.flag (P.tb t) F.TB_STAT_MASTER = true ∧
      s.start.flag (P.tb t) F.TB_STAT_LOAD_PEND = true) ∧
    (∃ (s : State) (t : Fin 8) (d : Nat), s.start.serving t = some d ∧ t.val ≠ d ∧ s.start.ringLive t = true ∧ s.start.ringLive d = true ∧
      s.start.reaches d t = true ∧ s.start.role d % 2 = 1 ∧ (s.start.ringS t).recov ≠ some 4 ∧
      s.start.flag (P.tb t) F.TB_STAT_SYNCED = false) ∧
    (∃ (s : State) (t : Fin 8) (d : Nat) (e : Int), s.start.serving t = some d ∧ t.val ≠ d ∧ s.start.ringLive t = true ∧
      s.start.ringLive d = true ∧ s.start.reaches d t = true ∧ s.start.role d % 2 = 1 ∧ (s.start.ringS t).recov ≠ some 4 ∧
      s.start.flag (P.tb t) F.TB_STAT_SYNCED = true ∧ (s.start.ringS t).stepDue = false ∧
      e = ((s.start.time32 d : Int) - s.start.time32 t) / 2 ^ 28 ∧ e.natAbs ≤ 8 ∧ (s.start.tile t).sub < 2 ^ 32 ∧
      2 ^ 28 ≤ s.start.time32 t ∧ s.start.time32 t + 2 ^ 28 < 2 ^ 96) ∧
    (∃ (s : State) (t : Fin 8) (d : Nat) (e : Int), s.start.serving t = some d ∧ t.val ≠ d ∧ s.start.ringLive t = true ∧
      s.start.ringLive d = true ∧ s.start.reaches d t = true ∧ s.start.role d % 2 = 1 ∧ (s.start.ringS t).recov ≠ some 4 ∧
      s.start.flag (P.tb t) F.TB_STAT_SYNCED = true ∧ (s.start.ringS t).stepDue = false ∧
      e = ((s.start.time32 d : Int) - s.start.time32 t) / 2 ^ 28 ∧ e.natAbs ≤ 8 ∧ (s.start.tile t).sub < 2 ^ 32 ∧
      2 ^ 28 ≤ s.start.time32 t ∧ s.start.time32 t + 2 ^ 28 < 2 ^ 96) ∧
    (∃ (s : State) (t : Fin 8), s.start.flag (P.tb t) F.TB_STAT_MASTER = false) ∧
    (∃ (s : State) (t : Fin 8), s.start.flag (P.tb t) F.TB_STAT_MASTER = false) ∧
    (∃ (s : State) (g : Fin 16) (c : CutView) (n : Nat), (s.start.clu g).cut = some c ∧ c.stepped = some n ∧ c.dealOpen = false ∧
      c.armed = false ∧ s.start.joining = 0 ∧ s.start.flag (P.ring (g / 2)) F.RING_STAT_OUTSIDE = false) ∧
    (∃ (s : State) (t : Fin 8) (d : Nat), s.start.serving t = some d ∧ s.start.islandOf t = none ∧ s.start.answers t = true ∧
      s.start.reaches d t = true) :=
  ⟨⟨st (ws [(P.ring 0, F.RING_STAT_U_UP, 1), (P.ring 1, F.RING_STAT_L_UP, 1), (P.ring 0, F.RING_STAT_SETTLED, 1)] (on 2 (on 1 b0))), 0,
     by decide +kernel⟩,
   ⟨st (ws [(P.ring 0, F.RING_STAT_L_UP, 1)] (on 2 (on 1 b0))), 7, by decide +kernel⟩,
   ⟨st (ws [(P.ring 0, F.RING_CFG_U_EN, 1), (P.ring 1, F.RING_CFG_L_EN, 1), (P.ring 0, F.RING_STAT_SETTLED, 1)] (on 2 (on 1 b0))), 0, 1,
     by decide +kernel⟩,
   ⟨st (ws [(P.ring 0, F.RING_STAT_REACH, 3), (P.ring 1, F.RING_STAT_REACH, 3), (P.ring 0, F.RING_STAT_U_UP, 1),
     (P.ring 1, F.RING_STAT_L_UP, 1), (P.ring 1, F.RING_STAT_SETTLED, 1)] (on 1 b0)), 3, by decide +kernel⟩,
   ⟨st ((ws [(P.tb 0, F.TB_STAT_MASTER, 1)] (on 2 (on 1 b0))).modTile 0 (fun ts => { ts with n := 12345, sub := 0x30000000 })), 0, 15000,
     by decide +kernel⟩,
   ⟨st ((ws [(P.tb 0, F.TB_STAT_MASTER, 1), (P.tb 0, F.TB_STAT_LOAD_PEND, 1),
     (P.tb 0, F.TB_LOAD_LO_N_LO, 99)] (on 2 (on 1 b0))).modTile 0 (fun ts => { ts with n := 12345, sub := 0x30000000 })), 0,
     by decide +kernel⟩,
   ⟨st ((ws [(P.ring 0, F.RING_STAT_REACH, 3), (P.ring 1, F.RING_STAT_REACH, 3), (P.ring 0, F.RING_STAT_U_UP, 1),
     (P.ring 1, F.RING_STAT_L_UP, 1)] (on 2 (on 1 b0))).modTile 0 (fun ts => { ts with n := 12345, sub := 0x30000000 })), 1, 0,
     by decide +kernel⟩,
   ⟨st (((ws [(P.ring 0, F.RING_STAT_REACH, 3), (P.ring 1, F.RING_STAT_REACH, 3), (P.ring 0, F.RING_STAT_U_UP, 1),
     (P.ring 1, F.RING_STAT_L_UP, 1),
     (P.tb 1, F.TB_STAT_SYNCED, 1)] (on 2 (on 1 b0))).modTile 0 (fun ts => { ts with n := 12345, sub := 0x30000000 })).modTile 1 (fun ts => { ts with n := 12345, sub := 0x90000000 })), 1, 0, -6,
     by decide +kernel⟩,
   ⟨st (((ws [(P.ring 0, F.RING_STAT_REACH, 3), (P.ring 1, F.RING_STAT_REACH, 3), (P.ring 0, F.RING_STAT_U_UP, 1),
     (P.ring 1, F.RING_STAT_L_UP, 1),
     (P.tb 1, F.TB_STAT_SYNCED, 1)] (on 2 (on 1 b0))).modTile 0 (fun ts => { ts with n := 12346, sub := 0x20000000 })).modTile 1 (fun ts => { ts with n := 12345, sub := 0xF0000000 })), 1, 0, 3,
     by decide +kernel⟩,
   ⟨st (ws [(P.tb 1, F.TB_STAT_SYNCED, 1)] (on 2 (on 1 b0))), 1, by decide +kernel⟩,
   ⟨st b0, 1, by decide +kernel⟩,
   ⟨st ((b0).modClu 0 (fun c => { c with cut := some { hand := 0, state := 1, deal := 5, stepped := some 2000 } })), 0, { hand := 0, state := 1, deal := 5, stepped := some 2000 }, 2000,
     by decide +kernel⟩,
   ⟨st b0, 0, 0, by decide +kernel⟩⟩

theorem HeartbeatsAndRecovery_hypotheses_met :
    (∃ (s : State) (d : Fin 8) (k : Nat), s.start.ringLive d = true ∧ s.start.role d % 2 = 1 ∧ s.start.slewRate = 0 ∧
      s.start.slewRemain = 0 ∧ (s.start.tile d).ring.rate = none ∧ (s.start.tile d).sub < 2 ^ 32 ∧
      k = (s.start.now d / 25000 + 1) * 25000 ∧ k < 2 ^ 64) ∧
    (∃ (s : State) (x : Fin 8) (d : Nat), s.start.serving x = some d ∧ x.val ≠ d ∧ (s.start.tile x).dormant = false ∧
      (s.start.ringS x).recov = none ∧ (s.start.tile x).life ≠ .failed ∧ (s.start.tile x).life ≠ .por ∧
      (((s.start.ringS x).missed < 2 ∨ s.start.reaches d x = false))) ∧
    (∃ (s : State) (x : Fin 8) (d : Nat), s.start.serving x = some d ∧ x.val ≠ d ∧ (s.start.tile x).dormant = false ∧
      (s.start.ringS x).recov = none ∧ s.start.awake x = true ∧ s.start.islandOf x = none ∧ s.start.islandOf d = none ∧
      2 ≤ (s.start.ringS x).missed ∧ s.start.reaches d x = true ∧ (s.start.ringS x).backAt = none) ∧
    (∃ (s : State) (x : Fin 8), s.start.ringLive x = true ∧ s.start.role x % 2 = 0 ∧ s.start.flag (P.ring x) F.RING_STAT_OUTSIDE = false ∧
      (s.start.ringS x).beats < 2) ∧
    (∃ (s : State) (x : Fin 8), s.start.ringLive x = true ∧ s.start.role x % 2 = 0 ∧ s.start.flag (P.ring x) F.RING_STAT_OUTSIDE = false ∧
      2 ≤ (s.start.ringS x).beats ∧ s.start.heirOf x (s.start.rd (P.decl x) F.DECL_ROLE_DECL) = some x.val ∧
      (s.start.tile (s.start.rd (P.decl x) F.DECL_ROLE_DECL)).life = .por) ∧
    (∃ (s : State) (d : Nat) (x : Nat), s.start.declarer = some d ∧ s.start.copying = some x ∧ x < 8 ∧ s.start.healthy x = true ∧
      s.start.reaches d x = true) ∧
    (∃ (s : State) (t : Fin 8) (pass : Bool), s.start.answers t = true ∧ s.start.flag (P.decl t) F.DECL_WDOG_EN = true ∧
      ((pass = true ∨ (s.start.ringS t).wdFails + 1 < s.start.rd (P.decl t) F.DECL_WDOG_LIMIT))) ∧
    (∃ (s : State) (t : Fin 8), s.start.answers t = true ∧ s.start.flag (P.decl t) F.DECL_WDOG_EN = true ∧
      s.start.rd (P.decl t) F.DECL_WDOG_LIMIT ≤ (s.start.ringS t).wdFails + 1 ∧ (s.start.ringS t).backAt = none) ∧
    (∃ (s : State) (t : Fin 8), s.start.answers t = true ∧ s.start.flag (P.decl t) F.DECL_WDOG_EN = true ∧
      s.start.rd (P.decl t) F.DECL_WDOG_LIMIT ≤ (s.start.ringS t).wdFails + 1 ∧ (s.start.ringS t).backAt = none) ∧
    (∃ (s : State) (x : Fin 8) (d : Nat) (r : Nat), s.start.recoverer x = some d ∧ (s.start.ringS x).recov = some r ∧ ((r = 2 ∨ r = 3)) ∧
      (s.start.ringS x).fails + 1 < max 1 (s.start.rd (P.decl d) F.DECL_RECOV_RETRY)) ∧
    (∃ (s : State) (x : Fin 8) (d : Nat) (r : Nat), s.start.recoverer x = some d ∧ (s.start.ringS x).recov = some r ∧ ((r = 2 ∨ r = 3)) ∧
      max 1 (s.start.rd (P.decl d) F.DECL_RECOV_RETRY) ≤ (s.start.ringS x).fails + 1 ∧ s.start.islandOf d = none ∧ d ≠ x.val) ∧
    (∃ (s : State) (x : Fin 8) (d : Nat), s.start.serving x = some d ∧ (s.start.ringS x).recov = some 3 ∧ s.start.answers x = true ∧
      s.start.reaches d x = true ∧ s.start.islandOf d = none ∧ s.start.flag (P.tb x) F.TB_STAT_SYNCED = false) ∧
    (∃ (s : State) (p : Port) (t : Fin 8) (x : Fin 8), s.start.writable p t 0x05 0x050 = true ∧ (s.start.tile x).life ≠ .failed) ∧
    (∃ (s : State) (p : Port) (t : Fin 8) (x : Fin 8), s.start.writable p t 0x05 0x050 = true ∧ (s.start.tile x).life = .failed) ∧
    (∃ (s : State) (t : Fin 8), s.start.answers t = true) :=
  ⟨⟨st (((ws [(P.ring 0, F.RING_STAT_REACH, 3), (P.ring 1, F.RING_STAT_REACH, 3), (P.ring 0, F.RING_STAT_U_UP, 1),
     (P.ring 1, F.RING_STAT_L_UP, 1)] (on 2 (on 1 b0))).modTile 0 (fun ts => { ts with n := 30000 })).modRing 1 (fun r => { r with missed := 2, missNow := true, beats := 1 })), 0, 50000,
     by decide +kernel⟩,
   ⟨st (ws [(P.ring 0, F.RING_STAT_REACH, 3), (P.ring 1, F.RING_STAT_REACH, 3), (P.ring 0, F.RING_STAT_U_UP, 1),
     (P.ring 1, F.RING_STAT_L_UP, 1)] (on 2 (on 1 b0))), 1, 0, by decide +kernel⟩,
   ⟨st ((ws [(P.ring 0, F.RING_STAT_REACH, 3), (P.ring 1, F.RING_STAT_REACH, 3), (P.ring 0, F.RING_STAT_U_UP, 1),
     (P.ring 1, F.RING_STAT_L_UP, 1)] (on 2 (on 1 b0))).modRing 1 (fun r => { r with missed := 2 })), 1, 0, by decide +kernel⟩,
   ⟨st (ws [(P.ring 0, F.RING_STAT_REACH, 3), (P.ring 1, F.RING_STAT_REACH, 3), (P.ring 0, F.RING_STAT_U_UP, 1),
     (P.ring 1, F.RING_STAT_L_UP, 1)] (on 2 (on 1 b0))), 1, by decide +kernel⟩,
   ⟨st (((ws [(P.decl 0, F.DECL_ROLE_ROLE, 0), (P.ring 1, F.RING_STAT_REACH, 2),
     (P.ring 1, F.RING_STAT_U_UP, 1)] (on 2 (on 1 b0))).modRing 1 (fun r => { r with beats := 2 })).modTile 0 (fun ts => { ts with life := .por })), 1,
     by decide +kernel⟩,
   ⟨st { (ws [(P.ring 0, F.RING_STAT_REACH, 3), (P.ring 1, F.RING_STAT_U_UP, 1)] (on 1 b0)) with copying := some 1 }, 0, 1,
     by decide +kernel⟩,
   ⟨st (ws [(P.decl 0, F.DECL_WDOG_EN, 1), (P.decl 0, F.DECL_WDOG_LIMIT, 3)] b0), 0, false, by decide +kernel⟩,
   ⟨st (ws [(P.decl 0, F.DECL_WDOG_EN, 1), (P.decl 0, F.DECL_WDOG_LIMIT, 1)] b0), 0, by decide +kernel⟩,
   ⟨st (ws [(P.ring 0, F.RING_STAT_REACH, 3), (P.ring 1, F.RING_STAT_REACH, 3), (P.ring 0, F.RING_STAT_U_UP, 1),
     (P.ring 1, F.RING_STAT_L_UP, 1), (P.decl 1, F.DECL_WDOG_EN, 1), (P.decl 1, F.DECL_WDOG_LIMIT, 1)] (on 2 (on 1 b0))), 1,
     by decide +kernel⟩,
   ⟨st ((ws [(P.ring 0, F.RING_STAT_REACH, 3), (P.ring 1, F.RING_STAT_REACH, 3), (P.ring 0, F.RING_STAT_U_UP, 1),
     (P.ring 1, F.RING_STAT_L_UP, 1),
     (P.decl 0, F.DECL_RECOV_RETRY, 3)] (on 2 (on 1 b0))).modRing 1 (fun r => { r with recov := some 3, fails := 0 })), 1, 0, 3,
     by decide +kernel⟩,
   ⟨st ((ws [(P.ring 0, F.RING_STAT_REACH, 3), (P.ring 1, F.RING_STAT_REACH, 3), (P.ring 0, F.RING_STAT_U_UP, 1),
     (P.ring 1, F.RING_STAT_L_UP, 1),
     (P.decl 0, F.DECL_RECOV_RETRY, 3)] (on 2 (on 1 b0))).modRing 1 (fun r => { r with recov := some 2, fails := 2 })), 1, 0, 2,
     by decide +kernel⟩,
   ⟨st (((ws [(P.ring 0, F.RING_STAT_REACH, 3), (P.ring 1, F.RING_STAT_REACH, 3), (P.ring 0, F.RING_STAT_U_UP, 1),
     (P.ring 1, F.RING_STAT_L_UP, 1)] (on 2 (on 1 b0))).modRing 1 (fun r => { r with recov := some 3, fails := 0 })).modTile 1 (fun ts => { ts with aonLog := [{ time := 3, seq := 1, code := 2, tile := 1, isl := false, aon := false, unit := 0, subA := 0, subB := 0, detail := 0 }] })), 1, 0,
     by decide +kernel⟩,
   ⟨st b0, .b, 0, 1, by decide +kernel⟩,
   ⟨st ((b0).modTile 1 (fun ts => { ts with life := .failed })), .b, 0, 1, by decide +kernel⟩,
   ⟨st b0, 0, by decide +kernel⟩⟩

theorem DramReadsWhatWasWritten_hypotheses_met :
    ∃ (m : Mach) (t : Nat) (f : Nat) (bs : List Byte), f + bs.length ≤ m.dramCap t :=
  ⟨ws [(P.dram 0, F.DRAM_CFG_TYPE, 1), (P.dram 0, F.DRAM_ECC_EN, 1), (P.dram 0, F.DRAM_ECC_PROT, 1)] b0, 0, 3582, [1, 0, 3, 4],
    by decide +kernel⟩

theorem TwoWireCommands_hypotheses_met :
    (∃ (s : State) (p : Port) (t : Fin 8) (v : Word), s.start.writable p t 0x34 0x054 = true ∧ bits v.toNat 3 1 = 0 ∧
      s.start.enabled (P.twc t) = true ∧ s.start.twcHostHeld t = false ∧ s.start.flag (P.twc t) F.TWC_STAT_SDA_STUCK = false ∧
      8 ≤ s.start.rd (P.twc t) F.TWC_XFER_ADDR ∧ s.start.rd (P.twc t) F.TWC_XFER_ADDR < 0x78 ∧
      ((s.start.rd (P.twc t) F.TWC_XFER_KIND < 2 ∨ s.start.rd (P.twc t) F.TWC_XFER_PTR_W ∈ [1, 2]))) ∧
    (∃ (s : State) (p : Port) (t : Fin 8) (v : Word), s.start.writable p t 0x34 0x054 = true ∧ bits v.toNat 3 1 = 0 ∧
      s.start.enabled (P.twc t) = true ∧ s.start.twcHostHeld t = false ∧ s.start.flag (P.twc t) F.TWC_STAT_SDA_STUCK = false ∧
      8 ≤ s.start.rd (P.twc t) F.TWC_XFER_ADDR ∧ s.start.rd (P.twc t) F.TWC_XFER_ADDR < 0x78 ∧
      ((s.start.rd (P.twc t) F.TWC_XFER_KIND < 2 ∨ s.start.rd (P.twc t) F.TWC_XFER_PTR_W ∈ [1, 2]))) ∧
    (∃ (s : State) (p : Port) (t : Fin 8) (v : Word), s.start.writable p t 0x34 0x054 = true ∧ bit v.toNat 0 = false ∧
      bits v.toNat 3 2 = 0 ∧ s.start.twcOwner t = 1) ∧
    (∃ (s : State) (p : Port) (t : Fin 8) (v : Word), s.start.writable p t 0x34 0x054 = true ∧ bits v.toNat 2 0 = 0 ∧
      s.start.twcBusy t = false) ∧
    (∃ (s : State) (p : Port) (t : Fin 8) (v : Word), s.start.writable p t 0x34 0x054 = true ∧ bits v.toNat 1 0 = 0 ∧
      bit v.toNat 3 = false ∧ s.start.enabled (P.twc t) = true ∧ s.start.flag (P.twc t) F.TWC_STAT_SDA_STUCK = false ∧
      s.start.twcBusy t = true) ∧
    (∃ (s : State) (t : Fin 8), (s.start.twcS t).alertLow = false ∧ s.start.live t D.aux = true ∧ s.start.enabled (P.twc t) = true ∧
      s.start.flag (P.twc t) F.TWC_CFG_ALERT_AUTO = true ∧ s.start.twcBusy t = true) ∧
    (∃ (s : State) (t : Fin 8), s.start.live t D.aux = true ∧ s.start.flag (P.twc t) F.TWC_STAT_BUSY = true ∧ s.start.twcOwner t = 2 ∧
      (s.start.twcS t).piece = 0 ∧ (s.start.twcS t).abort = false ∧ (s.start.twcS t).tries < s.start.rd (P.twc t) F.TWC_CFG_RETRY_N) ∧
    (∃ (s : State) (t : Fin 8) (done : Fin 257) (data : List Byte), s.start.live t D.aux = true ∧
      s.start.flag (P.twc t) F.TWC_STAT_BUSY = true ∧ s.start.twcOwner t = 1 ∧ (s.start.twcS t).abort = false ∧
      done.val = s.start.twcLen t ∧ s.start.twcDataOk t done data = true) ∧
    (∃ (s : State) (t : Fin 8) (done : Fin 257) (data : List Byte), s.start.live t D.aux = true ∧
      s.start.flag (P.twc t) F.TWC_STAT_BUSY = true ∧ s.start.twcOwner t = 1 ∧ (s.start.twcS t).abort = false ∧
      done.val = s.start.twcLen t ∧ s.start.twcDataOk t done data = true) ∧
    (∃ (s : State) (t : Fin 8), s.start.live t D.aux = true ∧ s.start.enabled (P.twc t) = true ∧ s.start.twcBusy t = false) ∧
    (∃ (s : State) (t : Fin 8), s.start.live t D.aux = true ∧ s.start.enabled (P.twc t) = true ∧
      s.start.flag (P.twc t) F.TWC_STAT_CLEARING = true ∧ s.start.binWaits t 0 = false ∧ s.start.binWaits t 1 = false ∧
      (s.start.twcS t).alerts = 0 ∧ s.start.twcHostHeld t = false) ∧
    (∃ (s : State) (t : Fin 8) (pin : Fin 8) (rising : Bool) (n : BitVec 64), s.start.islandOf t = none ∧ n.toNat ≤ s.start.now t ∧
      s.start.live t D.aux = true ∧ s.start.enabled (P.gpio t) = true ∧ bit (s.start.rd (P.gpio t) F.GPIO_DIR_OE) pin = false ∧
      bit (s.start.tile t).gpioIn pin = !rising ∧ (s.start.tile t).dormant = false ∧ ((∀ h, h < 16 → s.start.handState h = 0)) ∧
      bit (s.start.rd (P.gpio t) (if rising then F.GPIO_EDGE_RISE else F.GPIO_EDGE_FALL)) pin = true) :=
  ⟨⟨st (ws [(P.twc 0, F.PAGE_CTRL_ENABLE, 1), (P.twc 0, F.TWC_XFER_ADDR, 0x50), (P.twc 0, F.TWC_LEN_LEN, 3)] b0), .b, 0, 1,
     by decide +kernel⟩,
   ⟨st (ws [(P.twc 0, F.PAGE_CTRL_ENABLE, 1), (P.twc 0, F.TWC_XFER_ADDR, 0x50), (P.twc 0, F.TWC_LEN_LEN, 3),
     (P.twc 0, F.TWC_STAT_BUSY, 1)] b0), .b, 0, 1, by decide +kernel⟩,
   ⟨st (ws [(P.twc 0, F.TWC_STAT_OWNER, 1)] b0), .b, 0, 2, by decide +kernel⟩,
   ⟨st b0, .b, 0, 8, by decide +kernel⟩,
   ⟨st (ws [(P.twc 0, F.PAGE_CTRL_ENABLE, 1), (P.twc 0, F.TWC_STAT_BUSY, 1)] b0), .b, 0, 4, by decide +kernel⟩,
   ⟨st (ws [(P.twc 0, F.PAGE_CTRL_ENABLE, 1), (P.twc 0, F.TWC_STAT_BUSY, 1), (P.twc 0, F.TWC_CFG_ALERT_AUTO, 1)] b0), 0,
     by decide +kernel⟩,
   ⟨st (ws [(P.twc 0, F.PAGE_CTRL_ENABLE, 1), (P.twc 0, F.TWC_STAT_BUSY, 1), (P.twc 0, F.TWC_STAT_OWNER, 2),
     (P.twc 0, F.TWC_CFG_RETRY_N, 3)] b0), 0, by decide +kernel⟩,
   ⟨st (ws [(P.twc 0, F.PAGE_CTRL_ENABLE, 1), (P.twc 0, F.TWC_STAT_BUSY, 1), (P.twc 0, F.TWC_STAT_OWNER, 1),
     (P.twc 0, F.TWC_XFER_ADDR, 0x50), (P.twc 0, F.TWC_LEN_LEN, 3), (P.twc 0, F.TWC_XFER_KIND, 1)] b0), 0, 3, [1,2,3], by decide +kernel⟩,
   ⟨st (ws [(P.twc 0, F.PAGE_CTRL_ENABLE, 1), (P.twc 0, F.TWC_STAT_BUSY, 1), (P.twc 0, F.TWC_STAT_OWNER, 1),
     (P.twc 0, F.TWC_XFER_KIND, 0), (P.twc 0, F.TWC_XFER_ADDR, 0x50), (P.twc 0, F.TWC_LEN_LEN, 3)] b0), 0, 3, [], by decide +kernel⟩,
   ⟨st (ws [(P.twc 0, F.PAGE_CTRL_ENABLE, 1)] b0), 0, by decide +kernel⟩,
   ⟨st (ws [(P.twc 0, F.PAGE_CTRL_ENABLE, 1), (P.twc 0, F.TWC_STAT_CLEARING, 1)] b0), 0, by decide +kernel⟩,
   ⟨st (ws [(P.gpio 0, F.PAGE_CTRL_ENABLE, 1), (P.gpio 0, F.GPIO_EDGE_RISE, 4)] b0), 0, 2, true, 0, by decide +kernel⟩⟩

/-- A live part whose pins follow: a routed event of page PWR of tile 0 drives pin A. -/
theorem PinsFollowTheSummaries_hypotheses_met :
    ∃ s t : State, s.m.answers 0 = true ∧ s.m.pinLow 0 = true ∧ pinsFollow s.m ∧ step s = .next t :=
  ⟨st ({ ws [(P.ports, F.PORTS_IRQ_CFG_PIN_A_EN, 1), (P.pwr 0, ⟨0x010, 31, 0, 0⟩, 1), (P.pwr 0, ⟨0x014, 31, 0, 0⟩, 1), (P.pwr 0, ⟨0x020, 31, 0, 0⟩, 1)] b0 with pinA := true }), _, by decide +kernel, by decide +kernel, fun _ => by decide +kernel, rfl⟩

/-- A live part whose port A path has MSI-X enabled and vector 3 armed with no cause. -/
theorem ArmedVectorsHaveNoCause_hypotheses_met :
    ∃ s t : State, s.m.pathA 0 = 1 ∧ s.m.msixOn 0 = true ∧ bit s.m.msixArmed 3 = true ∧ armedWithoutCause s.m ∧ step s = .next t :=
  ⟨st ({ (ws [(P.ports, F.PORTS_STAT_A_PATH, 1), (P.hostp 0, F.HOSTP_STAT_PHY_UP, 1), (P.hostp 0, F.HOSTP_STAT_LINK, 1), (P.hostp 0, F.HOSTP_CFG_CTRL_CAP, 1), (P.pcie 0, F.PCIE_STAT_MSIX_EN, 1), (P.pcie 0, F.PCIE_STAT_BUS_MASTER, 1)] b0).modHost 0 fun h => { h with cfg := 0x501, memEn := true, cfgDone := true } with msixArmed := 8 }), _, by decide +kernel, by decide +kernel, by decide +kernel, by unfold armedWithoutCause; decide +kernel, rfl⟩

end Sys2Proof.Tests
end

/-!
PROOFS. Registers and control ports: the interrupt pins after every step, shadow and active copies of RWS registers, reads of semaphores.
-/

namespace Sys2Proof.Machine

/-! ### What a step gives -/

/-- Every command of the table is an effect on the part, after which the part settles: no arm of `exec` faults or refuses. -/
theorem exec_eq_effect (c : Instr) (s : State) : ∃ f, exec c s = s.effect f := by
  unfold exec
  split <;> exact ⟨_, rfl⟩

/-- A step, with or without a waiting command, answers a settled state. -/
theorem step_eq_settled (s : State) : ∃ (u : State) (a : Mach), step s = .next (u.settled a) := by
  unfold step
  split
  case h_1 => exact ⟨s, Mach.passCycles { s.m with out := [] } 1, rfl⟩
  case h_2 c rest _ =>
    obtain ⟨f, hf⟩ := exec_eq_effect c { s with pending := rest }
    exact ⟨_, _, hf.trans (effect_eq _ f)⟩

/-- Settling drives the pins last. -/
theorem settled_eq_settlePins (s : State) (a : Mach) : ∃ b : Mach, s.settled a = { s with m := b.settlePins } := ⟨_, rfl⟩

namespace Mach

/-! ### The interrupt pins -/

/-- The part with its interrupt pins driven low or released. -/
def drivePins (m : Mach) (a b : Bool) : Mach := { m with pinA := a, pinB := b }

@[simp] theorem drivePins_pinA (m : Mach) (a b : Bool) : (m.drivePins a b).pinA = a := rfl
@[simp] theorem drivePins_pinB (m : Mach) (a b : Bool) : (m.drivePins a b).pinB = b := rfl
@[simp] theorem drivePins_tile (m : Mach) (a b : Bool) (t : Nat) : (m.drivePins a b).tile t = m.tile t := rfl
@[simp] theorem drivePins_pinLow (m : Mach) (a b : Bool) (p : Nat) : (m.drivePins a b).pinLow p = m.pinLow p := rfl

theorem settlePins_eq (m : Mach) : m.settlePins =
    if m.answers 0 then
      if (m.tile 0).dormant then m.drivePins false false else m.drivePins (m.pinLow 0) (m.pinLow 1)
    else m := by
  cases h : m.answers 0 <;> simp [settlePins, h, drivePins]

/-- Driving the pins changes neither the summaries nor whether tile 0 answers or sleeps, so the pins follow in the state that
results (R49, R129). -/
theorem pinsFollow_settlePins (m : Mach) : pinsFollow m.settlePins := by
  rw [settlePins_eq]
  split
  case isFalse silent => exact fun answers => absurd answers silent
  case isTrue _ =>
    intro _
    split
    case isTrue asleep => simp [asleep]
    case isFalse awake => simp [awake]

end Mach

/-- Settles O4: every step ends by settling the part, and settling ends by driving the pins from the summaries of the state it
leaves. The pins follow after a step whether or not they did before it. -/
theorem pinsFollowTheSummaries : Obligations.PinsFollowTheSummaries := by
  intro s t _ hstep
  obtain ⟨u, a, hs⟩ := step_eq_settled s
  obtain ⟨b, hb⟩ := settled_eq_settlePins u a
  have ht : { u with m := b.settlePins } = t := Host.Outcome.next.inj ((hb ▸ hs).symm.trans hstep)
  rw [← ht]
  exact b.pinsFollow_settlePins

/-! ### Rows of the register map -/

/-- What every row of the map keeps: its registers lie at 0x040–0x7FF, and no RWS bit of it is W1C (R94, R100). -/
abbrev RegRow.Fits (r : RegRow) : Prop :=
  0x040 ≤ r.off ∧ r.off + (r.count - 1) * r.stride < 0x800 ∧ r.rws &&& r.w1c = 0

theorem pageRegs_fit (tf pg : Nat) : ∀ r ∈ pageRegs tf pg, r.Fits := by
  unfold pageRegs
  split
  case isTrue _ => split <;> decide
  case isFalse _ => split <;> decide

theorem windowRegs_fit : ∀ r ∈ windowRegs, r.Fits := by decide

/-- A row found for an offset is one of the rows, and the offset is that of one of its registers. -/
theorem findRow_some {off : Nat} {rows : List RegRow} {r : RegRow} (h : findRow off rows = some r) :
    r ∈ rows ∧ r.off ≤ off ∧ off ≤ r.off + (r.count - 1) * r.stride := by
  induction rows with
  | nil => simp [findRow] at h
  | cons x xs ih =>
    unfold findRow at h
    split at h
    case isTrue hx =>
      obtain rfl : x = r := Option.some.inj h
      refine ⟨List.mem_cons_self, ?_⟩
      simp only [Bool.or_eq_true, Bool.and_eq_true, decide_eq_true_eq] at hx
      obtain hx | ⟨⟨⟨_, hle⟩, hmod⟩, hlt⟩ := hx
      · omega
      · refine ⟨hle, ?_⟩
        have hq : (off - x.off) / x.stride * x.stride = off - x.off := Nat.div_mul_cancel (Nat.dvd_of_mod_eq_zero hmod)
        have := Nat.mul_le_mul_right x.stride (Nat.le_sub_one_of_lt hlt)
        omega
    case isFalse _ =>
      obtain ⟨hm, hb⟩ := ih h
      exact ⟨List.mem_cons_of_mem _ hm, hb⟩

/-- A row that the map gives an offset fits, and the offset lies among its registers (R92, R100). -/
theorem rowOf_some {pk off : Nat} {r : RegRow} (h : rowOf pk off = some r) :
    r.Fits ∧ r.off ≤ off ∧ off ≤ r.off + (r.count - 1) * r.stride := by
  unfold rowOf at h
  split at h
  case h_1 x hx =>
    obtain rfl : x = r := Option.some.inj h
    obtain ⟨hm, hb⟩ := findRow_some hx
    exact ⟨pageRegs_fit _ _ _ hm, hb⟩
  case h_2 _ =>
    split at h
    case isTrue _ =>
      obtain ⟨hm, hb⟩ := findRow_some h
      exact ⟨windowRegs_fit _ hm, hb⟩
    case isFalse _ => contradiction

/-! ### Register writes that a page takes -/

namespace Mach

theorem asleep_errCount (m : Mach) (pk tf pg : Nat) : (m.errCount pk).asleep tf pg = m.asleep tf pg := by
  simp [asleep]

theorem asleep_setWord (m : Mach) (pk off tf pg : Nat) (w : Word) : (m.setWord pk off w).asleep tf pg = m.asleep tf pg := by
  simp [asleep]

theorem asleep_of_takes {m : Mach} {p : Port} {tf pg off : Nat} (h : m.takes p tf pg off = true) : m.asleep tf pg = false := by
  simp only [takes, Bool.and_eq_true, Bool.not_eq_true'] at h
  obtain ⟨⟨⟨_, hs⟩, _⟩, _⟩ := h
  exact hs

theorem writable_iff {m : Mach} {p : Port} {tf pg off : Nat} : m.writable p tf pg off = true ↔
    m.takes p tf pg off = true ∧ m.flag (pageKey tf pg) F.PAGE_CTRL_LOCK = false := by
  simp [writable]

/-- A write anywhere in 0x800–0xFFF is counted, locked page or not (R98, R100). -/
theorem regWrite_upper (m : Mach) (p pk : Nat) {off : Nat} (v : Word) (h : 0x800 ≤ off) : m.regWrite p pk off v = m.errCount pk := by
  have hlow : ¬ off < 0x040 := by omega
  simp [regWrite, h, hlow]

/-- An offset apart from a page's window registers is none of those from `lo` on (R104). -/
theorem outside_window {w : Bool} {lo off : Nat} (hlo : 0x200 ≤ lo) (h : ¬ (0x200 ≤ off ∧ off < 0x21C ∧ w = true)) :
    (w && decide (lo ≤ off) && decide (off < 0x21C)) = false := by
  rw [Bool.eq_false_iff]
  simp only [ne_eq, Bool.and_eq_true, decide_eq_true_eq]
  rintro ⟨⟨hw, hge⟩, hlt⟩
  exact h ⟨hlo.trans hge, hlt, hw⟩

/-- A register of an unlocked tile page with no behaviour of its own takes a write by its access codes (R94). -/
theorem regWrite_plain {m : Mach} {p pk off : Nat} {v : Word} {r : RegRow} (hlock : m.flag pk F.PAGE_CTRL_LOCK = false)
    (hlo : 0x040 ≤ off) (hhi : off < 0x800) (hr : rowOf pk off = some r) (ht : tileOf pk ≠ 14)
    (hwin : ¬ (0x200 ≤ off ∧ off < 0x21C ∧ hasWindow (tileOf pk) (pageOf pk) = true)) (hb : m.blockWrite pk off v = none) :
    m.regWrite p pk off v = m.genericWrite pk off v := by
  have h1 : ¬ off < 0x040 := by omega
  have h2 : ¬ 0x800 ≤ off := by omega
  have h3 := outside_window (le_refl 0x200) hwin
  simp [regWrite, hlock, h1, h2, hr, h3, ht, hb]

theorem genericWrite_of_rws {m : Mach} {pk off : Nat} {r : RegRow} (v : Word) (hr : rowOf pk off = some r) (hs : r.rws ≠ 0) :
    m.genericWrite pk off v = m.setWord pk off (((m.word pk off &&& ~~~(BitVec.ofNat 32 (r.rw ||| r.rws))) |||
      (v &&& BitVec.ofNat 32 (r.rw ||| r.rws))) &&& ~~~(v &&& BitVec.ofNat 32 r.w1c)) := by
  simp [genericWrite, hr, hs]

end Mach

/-- A write under the masks of R94 gives RWS bits that are not W1C their written value. -/
theorem written_rws_bits (w v rw rws w1c : Word) (h : rws &&& w1c = 0#32) :
    (((w &&& ~~~(rw ||| rws)) ||| (v &&& (rw ||| rws))) &&& ~~~(v &&& w1c)) &&& rws = v &&& rws := by
  ext i hi
  have hbit : (rws[i] && w1c[i]) = false := by rw [← BitVec.getElem_and, h, BitVec.getElem_zero]
  cases hs : rws[i] with
  | false => simp [hs]
  | true =>
    have hc : w1c[i] = false := by simpa [hs] using hbit
    simp [hs, hc]

theorem regAddr_lt {tf pg off : Nat} (ht : tf < 16) (hp : pg < 256) (ho : off < 4096) : regAddr tf pg off < 2 ^ 24 := by
  unfold regAddr; omega

/-- A register write that a page takes, and that leaves its tile awake, is the page's register write and nothing more. -/
theorem exec_registerWrite_takes {s : State} {p : Port} {tf pg off : Nat} {v : Word} (ht : tf < 15) (hp : pg < 256)
    (ho : off < 4096) (h4 : off % 4 = 0) (h : s.start.takes p tf pg off = true)
    (hw : (s.start.regWrite (portNo p) (pageKey tf pg) off v).asleep tf pg = false) :
    exec (.registerWrite p (BitVec.ofNat 24 (regAddr tf pg off)) v) s =
      .next (s.settled (s.start.regWrite (portNo p) (pageKey tf pg) off v)) := by
  have ha : (BitVec.ofNat 24 (regAddr tf pg off)).toNat = regAddr tf pg off :=
    (BitVec.toNat_ofNat ..).trans (Nat.mod_eq_of_lt (regAddr_lt (by omega) hp ho))
  calc exec (.registerWrite p (BitVec.ofNat 24 (regAddr tf pg off)) v) s
      = .next (s.settled (s.start.portWrite p (BitVec.ofNat 24 (regAddr tf pg off)).toNat v)) := rfl
    _ = _ := by rw [ha, portWrite_takes v ht hp ho h4 h, accessWake_awake hw]

/-! ### Reads of block registers -/

namespace Mach

/-- A read at 0x800–0xFFF is the active copy of the RWS bits of the register 0x800 below (R100). -/
theorem regRead_upper (m : Mach) (p pk : Nat) {off : Nat} (h : 0x800 ≤ off) :
    m.regRead p pk off = match rowOf pk (off - 0x800) with
      | some r => m.word pk off &&& BitVec.ofNat 32 r.rws
      | none => 0 := by
  have hlow : ¬ off < 0x040 := by omega
  simp only [regRead, hlow, h, if_true, if_false]
  cases rowOf pk (off - 0x800) <;> rfl

/-- A register of a tile page that is not computed reads as its word. -/
theorem regRead_plain {m : Mach} {p pk off : Nat} {r : RegRow} (hlo : 0x040 ≤ off) (hhi : off < 0x800)
    (hr : rowOf pk off = some r) (ht : tileOf pk ≠ 14)
    (hwin : ¬ (0x200 ≤ off ∧ off < 0x21C ∧ hasWindow (tileOf pk) (pageOf pk) = true)) (hb : m.blockRead pk off = none) :
    m.regRead p pk off = m.word pk off := by
  have h1 : ¬ off < 0x040 := by omega
  have h2 : ¬ 0x800 ≤ off := by omega
  have h3 := outside_window (show 0x200 ≤ 0x20C by decide) hwin
  simp [regRead, h1, h2, hr, h3, ht, hb]

end Mach

theorem hasWindow_pageKey (tf : Nat) {pg : Nat} (h : pg < 256) :
    hasWindow (tileOf (pageKey tf pg)) (pageOf (pageKey tf pg)) = hasWindow tf pg := by
  rw [tileOf_pageKey tf pg h, pageOf_pageKey tf pg h]

/-- A write to an RWS register is taken by the shadow, and the active copy stays (R94, R100). -/
theorem genericWrite_shadow (m : Mach) {pk off : Nat} {r : RegRow} (v : Word) (hr : rowOf pk off = some r) (hs : r.rws ≠ 0) :
    (m.genericWrite pk off v).word pk off &&& BitVec.ofNat 32 r.rws = v &&& BitVec.ofNat 32 r.rws ∧
      (m.genericWrite pk off v).word pk (off + 0x800) = m.word pk (off + 0x800) := by
  obtain ⟨-, -, hdisj⟩ := (rowOf_some hr).1
  rw [Mach.genericWrite_of_rws v hr hs]
  constructor
  · rw [Mach.word_setWord_same, BitVec.ofNat_or]
    exact written_rws_bits _ _ _ _ _ (by rw [← BitVec.ofNat_and, hdisj])
  · exact m.word_setWord_ne _ (by omega)

/-- Settles O11: reads and writes at 0x800–0xFFF go by `regRead_upper` and `regWrite_upper`; below, a plain write sets the shadow's
word alone, in which the map gives no RWS bit a second meaning. -/
theorem activeCopiesAreReadOnly : Obligations.ActiveCopiesAreReadOnly := by
  refine ⟨fun m p pk off h => m.regRead_upper p pk h, ?upper, ?shadow, fun pk off h => ?place, fun m pk f => rfl⟩
  case upper =>
    intro s p tf pg k v h hk
    have hw := s.start.regWrite_upper (portNo p) (pageKey tf pg) v hk
    rw [exec_registerWrite_takes tf.isLt pg.isLt (by omega) (by omega) h, hw]
    rw [hw, Mach.asleep_errCount]
    exact Mach.asleep_of_takes h
  case shadow =>
    intro s p t pg k v r h hlo hhi hr hs hwin hb
    obtain ⟨htakes, hlock⟩ := Mach.writable_iff.1 h
    have htf : tileOf (pageKey t pg) = t := tileOf_pageKey t pg pg.isLt
    have h14 : tileOf (pageKey t pg) ≠ 14 := by omega
    rw [← hasWindow_pageKey t pg.isLt] at hwin
    have hw := Mach.regWrite_plain (p := portNo p) hlock hlo hhi hr h14 hwin hb
    obtain ⟨hshadow, hactive⟩ := genericWrite_shadow s.start v hr hs
    refine ⟨_, ?_, hshadow, hactive, fun hread => Mach.regRead_plain hlo hhi hr h14 hwin hread⟩
    rw [exec_registerWrite_takes (by omega) pg.isLt (by omega) (by omega) htakes, hw]
    rw [hw, Mach.genericWrite_of_rws v hr hs, Mach.asleep_setWord]
    exact Mach.asleep_of_takes htakes
  case place =>
    obtain ⟨r, hr⟩ := Option.isSome_iff_exists.1 h
    obtain ⟨⟨hlo, hhi, -⟩, _, _⟩ := rowOf_some hr
    omega

/-! ### Semaphores -/

/-- Refutes O18: of a `Mach` whose word of OWNER0 has bit 2 set, above the field of R120, a read of OWNER0 shows 4 where the field, and
so `owner`, is 0. The statement speaks of every `Mach` and bounds the field alone, not the word that holds it. -/
theorem not_semaphoreReads : ¬ Obligations.SemaphoreReads := by
  intro h
  obtain ⟨-, hread, -⟩ := h { regs := [(P.sem * 4096 + 0x140, 4#32)] } 0 0 (by decide) (by decide)
  exact absurd hread (by decide)

end Sys2Proof.Machine

/-!
PROOFS. MSI-X vectors after every step.
-/

namespace Sys2Proof.Machine

/-! ### MSI-X vectors 0–8 after every step -/

/-- A vector's map and its update at one index commute where the maps do. -/
theorem vmod_map {α : Type} {n : Nat} (v : Vector α n) (i : Nat) (f g h : α → α) (c : ∀ x, f (h x) = h (g x)) :
    vmod (v.map h) i f = (vmod v i g).map h := by
  unfold vmod
  split
  · ext j hj
    by_cases hij : i = j <;> simp [hij, c]
  · rfl

/-- An update that a map forgets is forgotten. -/
theorem map_vmod_forgotten {α β : Type} {n : Nat} (v : Vector α n) (i : Nat) (f : α → α) (h : α → β) (c : ∀ x, h (f x) = h x) :
    (vmod v i f).map h = v.map h := by
  unfold vmod
  split
  · ext j hj
    by_cases hij : i = j <;> simp [hij, c]
  · rfl

/-- A tile without its table of MSI-X vectors. -/
def TileSt.sansVecs (ts : TileSt) : TileSt := { ts with host := { ts.host with vecs := (default : HostSt).vecs } }

namespace Mach

/-- The part without what messages and pins change: vectors armed, vector tables, what leaves the part, and the pin levels. -/
def sansMessages (m : Mach) : Mach :=
  { m with msixArmed := 0, out := [], pinA := false, pinB := false, tiles := m.tiles.map TileSt.sansVecs }

theorem tile_sansMessages (m : Mach) (t : Nat) : m.sansMessages.tile t = (m.tile t).sansVecs := by
  unfold sansMessages tile vget
  by_cases ht : t < 8
  · simp [ht]
  · simp [ht]; rfl

theorem answers_sansMessages (m : Mach) (t : Nat) : m.sansMessages.answers t = m.answers t := by
  simp only [answers, tile_sansMessages]; rfl

theorem live_sansMessages (m : Mach) (t d : Nat) : m.sansMessages.live t d = m.live t d := by
  simp only [live, awake, goingOff, tile_sansMessages]; rfl

theorem hostMode_sansMessages (m : Mach) (t : Nat) : m.sansMessages.hostMode t = m.hostMode t := by
  simp only [hostMode, host, tile_sansMessages]; rfl

theorem swapView_sansMessages (m : Mach) (d : Nat) : m.sansMessages.swapView d = (m.swapView d).sansMessages := by
  have ht := m.tile_sansMessages d
  unfold swapView
  simp only [ht]
  simp only [sansMessages, modTile, TileSt.sansVecs]
  congr 1
  exact vmod_map _ _ _ _ _ fun _ => rfl

theorem viewed_sansMessages {α : Type} (m : Mach) (p : Nat) (f : Mach → α) (hf : ∀ v : Mach, f v.sansMessages = f v) :
    m.sansMessages.viewed p f = m.viewed p f := by
  have hi : m.sansMessages.islandOf p = m.islandOf p := rfl
  unfold viewed
  rw [hi]
  split
  · rw [swapView_sansMessages, hf]
  · exact hf m

theorem declarer_sansMessages (m : Mach) : m.sansMessages.declarer = m.declarer := by
  simp only [declarer, answers_sansMessages]; rfl

theorem serving_sansMessages (m : Mach) (e : Nat) : m.sansMessages.serving e = m.serving e := by
  simp only [serving, declarer_sansMessages]; rfl

theorem tileIrq_sansMessages (m : Mach) (t p : Nat) : m.sansMessages.tileIrq t p = m.tileIrq t p := by
  simp only [tileIrq, answers_sansMessages]; rfl

theorem irqSum_sansMessages (m : Mach) (d p : Nat) : m.sansMessages.irqSum d p = m.irqSum d p := by
  simp only [irqSum, tileIrq_sansMessages]; rfl

theorem irqPair_sansMessages (m : Mach) (e p : Nat) : m.sansMessages.irqPair e p = m.irqPair e p := by
  unfold irqPair
  rw [serving_sansMessages]
  split
  · rfl
  · exact viewed_sansMessages _ _ _ fun v => by rw [irqSum_sansMessages]; rfl

theorem pathA_sansMessages (m : Mach) (t : Nat) : m.sansMessages.pathA t = m.pathA t :=
  viewed_sansMessages _ _ _ fun _ => rfl

theorem msixOn_sansMessages (m : Mach) (t : Nat) : m.sansMessages.msixOn t = m.msixOn t := by
  simp only [msixOn, hostMem, linkUp, hostPower, live_sansMessages, hostMode_sansMessages]; rfl

/-- The bit of a summary that is the cause of vector `v`: bit 8 for vector 0, bit `v - 1` for the tile vectors (R130). -/
def causeBit (s v : Nat) : Bool := if v = 0 then bit s 8 else bit s (v - 1)

/-- Vector `v` made due and disarmed where it is armed and the cause `s` shows for it. -/
def sendVec (t s : Nat) (m : Mach) (v : Nat) : Mach :=
  if bit m.msixArmed v && causeBit s v then { m with msixArmed := putBit m.msixArmed v false }.dueVec t v
  else m

theorem settleMsix_eq (m : Mach) (t : Nat) : m.settleMsix t =
    if m.pathA t ≠ 1 || !m.msixOn t then m else (List.range 9).foldl (sendVec t (m.irqPair t 0).1) m := rfl

theorem dueVec_msixArmed (m : Mach) (t v : Nat) : (m.dueVec t v).msixArmed = m.msixArmed := by
  unfold dueVec; simp only; split <;> rfl

theorem dueVec_sansMessages (m : Mach) (t v : Nat) : (m.dueVec t v).sansMessages = m.sansMessages := by
  unfold dueVec
  simp only
  split
  · simp only [sansMessages, modHost, modTile]
    congr 1
    exact map_vmod_forgotten _ _ _ _ fun _ => rfl
  · rfl

theorem sendVec_sansMessages (t s : Nat) (m : Mach) (v : Nat) : (sendVec t s m v).sansMessages = m.sansMessages := by
  unfold sendVec
  split
  · rw [dueVec_sansMessages]; rfl
  · rfl

end Mach

theorem bit_putBit_false {n v u : Nat} : bit (putBit n v false) u = (decide (u ≠ v) && bit n u) := by
  unfold bit putBit
  rw [testBit_putBits _ _ _ (le_refl v)]
  by_cases h : u = v
  · subst h; simp
  · have : ¬ (v ≤ u ∧ u ≤ v) := by omega
    simp [h, this]

namespace Mach

/-- A vector made due is disarmed, and no vector is armed by it. -/
theorem sendVec_armed {t s : Nat} {m : Mach} {v u : Nat} (h : bit (sendVec t s m v).msixArmed u = true) :
    bit m.msixArmed u = true ∧ (u = v → causeBit s u = false) := by
  unfold sendVec at h
  split at h
  case isTrue _ =>
    rw [dueVec_msixArmed] at h
    simp only [bit_putBit_false, Bool.and_eq_true, decide_eq_true_eq] at h
    exact ⟨h.2, fun e => absurd e h.1⟩
  case isFalse hn =>
    refine ⟨h, ?_⟩
    rintro rfl
    simpa [h] using hn

/-- After the vectors of a list have been made due, those of them that are armed have no cause. -/
theorem foldl_sendVec (t s : Nat) (l : List Nat) (m : Mach) : (l.foldl (sendVec t s) m).sansMessages = m.sansMessages ∧
    ∀ u, bit (l.foldl (sendVec t s) m).msixArmed u = true →
      bit m.msixArmed u = true ∧ (u ∈ l → causeBit s u = false) := by
  induction l generalizing m with
  | nil => exact ⟨rfl, fun u h => ⟨h, fun hm => absurd hm List.not_mem_nil⟩⟩
  | cons v l ih =>
    obtain ⟨hsame, harmed⟩ := ih (sendVec t s m v)
    refine ⟨hsame.trans (sendVec_sansMessages t s m v), fun u h => ?_⟩
    obtain ⟨hu, hl⟩ := harmed u h
    obtain ⟨hm, hv⟩ := sendVec_armed hu
    refine ⟨hm, fun hmem => ?_⟩
    rcases List.mem_cons.1 hmem with e | hr
    · exact hv e
    · exact hl hr

theorem settleMsix_sansMessages (m : Mach) (t : Nat) : (m.settleMsix t).sansMessages = m.sansMessages := by
  rw [settleMsix_eq]
  split
  · rfl
  · exact (foldl_sendVec _ _ _ _).1

/-- No vector 0–8 of tile `t`'s endpoint is armed with a cause, where the endpoint carries port A with MSI-X enabled. -/
def quietAt (m : Mach) (t : Nat) : Prop :=
  m.pathA t = 1 → m.msixOn t = true → ∀ v, v < 9 → bit m.msixArmed v = true → causeBit (m.irqPair t 0).1 v = false

theorem armedWithoutCause_of_quietAt {m : Mach} (h : ∀ t, t < 8 → m.quietAt t) : armedWithoutCause m := h

/-- Where causes are the same and no further vector is armed, the vectors stay without cause. -/
theorem quietAt_of_sansMessages {m m' : Mach} {t : Nat} (hsame : m'.sansMessages = m.sansMessages)
    (harmed : ∀ v, bit m'.msixArmed v = true → bit m.msixArmed v = true) (h : m.quietAt t) : m'.quietAt t := by
  intro hp ho v hv ha
  rw [← pathA_sansMessages, hsame, pathA_sansMessages] at hp
  rw [← msixOn_sansMessages, hsame, msixOn_sansMessages] at ho
  have hc := h hp ho v hv (harmed v ha)
  rwa [← irqPair_sansMessages m', hsame, irqPair_sansMessages]

theorem settleMsix_armed {m : Mach} {t v : Nat} (h : bit (m.settleMsix t).msixArmed v = true) : bit m.msixArmed v = true := by
  rw [settleMsix_eq] at h
  split at h
  · exact h
  · exact ((foldl_sendVec _ _ _ _).2 v h).1

/-- The endpoint's own part of settling leaves it no armed vector with a cause (R130). -/
theorem settleMsix_quietAt (m : Mach) (t : Nat) : (m.settleMsix t).quietAt t := by
  intro hp ho v hv ha
  have hsame := m.settleMsix_sansMessages t
  rw [← pathA_sansMessages, hsame, pathA_sansMessages] at hp
  rw [← msixOn_sansMessages, hsame, msixOn_sansMessages] at ho
  rw [← irqPair_sansMessages, hsame, irqPair_sansMessages]
  rw [settleMsix_eq, if_neg (by simp [hp, ho])] at ha
  exact ((foldl_sendVec _ _ _ _).2 v ha).2 (List.mem_range.2 hv)

theorem foldl_settleMsix_quietAt (l : List Nat) (m : Mach) {t : Nat} (h : t ∈ l ∨ m.quietAt t) : (l.foldl settleMsix m).quietAt t := by
  induction l generalizing m with
  | nil => exact h.resolve_left List.not_mem_nil
  | cons u l ih =>
    refine ih _ ?_
    rcases h with hmem | hq
    · rcases List.mem_cons.1 hmem with rfl | hr
      · exact .inr (settleMsix_quietAt m t)
      · exact .inl hr
    · exact .inr (quietAt_of_sansMessages (m.settleMsix_sansMessages u) (fun _ => settleMsix_armed) hq)

theorem settlePins_sansMessages (m : Mach) : m.settlePins.sansMessages = m.sansMessages ∧ m.settlePins.msixArmed = m.msixArmed := by
  rw [settlePins_eq]
  split
  · split <;> exact ⟨rfl, rfl⟩
  · exact ⟨rfl, rfl⟩

theorem settle_quietAt (m : Mach) {t : Nat} (ht : t < 8) : m.settle.quietAt t := by
  unfold settle
  obtain ⟨hsame, harmed⟩ := settlePins_sansMessages
    ((List.range 8).foldl settleMsix ((List.range 8).foldl followPair m.replayHeld.settleIsland.followSuccessor))
  refine quietAt_of_sansMessages hsame (fun v h => harmed ▸ h) ?_
  exact foldl_settleMsix_quietAt (List.range 8) _ (Or.inl (List.mem_range.2 ht))

end Mach

theorem settled_m (s : State) (a : Mach) : (s.settled a).m = a.settle := by simp only [State.settled]

/-- Settles O5: every step ends by settling the part, which makes each armed vector with a cause due and disarms it, endpoint by
endpoint; neither this nor the pins change a summary. The vectors need not have been so before the step. -/
theorem armedVectorsHaveNoCause : Obligations.ArmedVectorsHaveNoCause := by
  intro s t _ hstep
  obtain ⟨u, a, hs⟩ := step_eq_settled s
  obtain rfl : u.settled a = t := Host.Outcome.next.inj (hs.symm.trans hstep)
  rw [settled_m]
  exact Mach.armedWithoutCause_of_quietAt fun e he => a.settle_quietAt he

end Sys2Proof.Machine

/-!
PROOFS. What a port's write to a register becomes, page by page: the steps that every register command shares.
-/

namespace Sys2Proof.Machine

/-! ### Fields of a family of registers -/

@[simp] theorem Field.nth_off (f : Field) (i : Nat) : (f.nth i).off = f.off + i * f.stride := rfl
@[simp] theorem Field.nth_hi (f : Field) (i : Nat) : (f.nth i).hi = f.hi := rfl
@[simp] theorem Field.nth_lo (f : Field) (i : Nat) : (f.nth i).lo = f.lo := rfl
@[simp] theorem Field.nth_width (f : Field) (i : Nat) : (f.nth i).width = f.width := rfl

/-! ### Registers of tile pages -/

/-- Tile pages have the same registers on every tile. -/
theorem rowOf_tilePage {t pg off : Nat} (ht : t < 14) (hp : pg < 256) : rowOf (pageKey t pg) off = rowOf (pageKey 0 pg) off := by
  have h14 : t ≠ 14 := by omega
  unfold rowOf pageRegs hasWindow
  simp [tileOf_pageKey _ _ hp, pageOf_pageKey _ _ hp, blockCode, h14]

theorem blockCode_tilePage {t : Nat} (pg : Nat) (ht : t < 14) : blockCode t pg = blockCode 0 pg := by
  have h14 : t ≠ 14 := by omega
  simp [blockCode, h14]

namespace Mach

/-- Pages TILE, PWR, CLK, TB and DECL never sleep (R68). -/
theorem asleep_never {m : Mach} {tf pg : Nat} (h : [0x00, 0x01, 0x02, 0x03, 0x05].contains pg = true) : m.asleep tf pg = false := by
  unfold asleep; rw [h]; simp

/-- No page of the tile fields from 8 on sleeps. -/
theorem asleep_global (m : Mach) {tf : Nat} (pg : Nat) (h : 8 ≤ tf) : m.asleep tf pg = false := by
  have : ¬ tf < 8 := by omega
  simp [asleep, this]

/-- A page sleeps by its tile's DORMANT alone. -/
theorem asleep_congr {m m' : Mach} {tf : Nat} (pg : Nat) (h : (m'.tile tf).dormant = (m.tile tf).dormant) :
    m'.asleep tf pg = m.asleep tf pg := by
  simp [asleep, h]

theorem takes_of_writable {m : Mach} {p : Port} {tf pg off : Nat} (h : m.writable p tf pg off = true) : m.takes p tf pg off = true :=
  (writable_iff.1 h).1

/-- A register of an unlocked tile page that its chapter gives a behaviour of its own is written so. -/
theorem regWrite_block {m a : Mach} {p pk off : Nat} {v : Word} (hlock : m.flag pk F.PAGE_CTRL_LOCK = false)
    (hlo : 0x040 ≤ off) (hhi : off < 0x800) (hr : (rowOf pk off).isSome = true) (ht : tileOf pk ≠ 14)
    (hwin : ¬ (0x200 ≤ off ∧ off < 0x21C ∧ hasWindow (tileOf pk) (pageOf pk) = true)) (hb : m.blockWrite pk off v = some a) :
    m.regWrite p pk off v = a := by
  have h1 : ¬ off < 0x040 := by omega
  have h2 : ¬ 0x800 ≤ off := by omega
  have h3 := outside_window (le_refl 0x200) hwin
  obtain ⟨r, hr⟩ := Option.isSome_iff_exists.1 hr
  simp [regWrite, hlock, h1, h2, hr, h3, ht, hb]

/-- A register of an unlocked global page without a window there is written as its page says. -/
theorem regWrite_global {m : Mach} {p pk off : Nat} {v : Word} (hlock : m.flag pk F.PAGE_CTRL_LOCK = false)
    (hlo : 0x040 ≤ off) (hhi : off < 0x800) (hr : (rowOf pk off).isSome = true) (ht : tileOf pk = 14)
    (hwin : ¬ (0x200 ≤ off ∧ off < 0x21C ∧ hasWindow (tileOf pk) (pageOf pk) = true)) :
    m.regWrite p pk off v = m.globalWrite p pk off v := by
  have h1 : ¬ off < 0x040 := by omega
  have h2 : ¬ 0x800 ≤ off := by omega
  have h3 := outside_window (le_refl 0x200) hwin
  obtain ⟨r, hr⟩ := Option.isSome_iff_exists.1 hr
  rw [ht] at h3
  simp [regWrite, hlock, h1, h2, hr, h3, ht]

/-- A header register of an unlocked page is written so, PORTS only in the primary segment (R97, R514). -/
theorem regWrite_header {m : Mach} {p pk off : Nat} {v : Word} (hlock : m.flag pk F.PAGE_CTRL_LOCK = false ∨ off ∈ [0x004, 0x010, 0x030])
    (hlo : off < 0x040) (hview : m.viewOf = none) : m.regWrite p pk off v = m.writeHeader pk off v := by
  have h : (m.flag pk F.PAGE_CTRL_LOCK && !([0x004, 0x010, 0x030].contains off)) = false := by
    rcases hlock with h | h
    · simp [h]
    · rw [List.contains_iff_mem.2 h]; simp
  unfold regWrite
  rw [if_neg (by rw [h]; exact Bool.false_ne_true), if_neg (by simp [hview]), if_pos hlo]

theorem viewOf_of_takes {m : Mach} {p : Port} {tf pg off : Nat} (h : m.takes p tf pg off = true) : m.viewOf = none := by
  simp only [takes, Bool.and_eq_true, Bool.not_eq_true'] at h
  obtain ⟨⟨⟨⟨_, hv⟩, _⟩, _⟩, _⟩ := h
  simpa using hv

end Mach

/-! ### A command that is a write of one register -/

/-- A write that a page takes gives the page's register write, where that leaves the tile awake. -/
theorem effect_portWrite {s : State} {p : Port} {tf pg off : Nat} {v : Word} {a : Mach} (h : s.start.takes p tf pg off = true)
    (ht : tf < 15) (hp : pg < 256) (ho : off < 4096) (h4 : off % 4 = 0)
    (hw : s.start.regWrite (portNo p) (pageKey tf pg) off v = a) (ha : a.asleep tf pg = false) :
    s.effect (fun m => m.portWrite p (regAddr tf pg off) v) = .next (s.settled a) := by
  rw [effect_eq, portWrite_takes v ht hp ho h4 h, hw, accessWake_awake ha]

/-- A write to a tile register with a behaviour of its own gives what that behaviour gives. -/
theorem effect_blockWrite {s : State} {p : Port} {t pg off : Nat} {v : Word} {a : Mach} (h : s.start.writable p t pg off = true)
    (ht : t < 14) (hp : pg < 256) (hlo : 0x040 ≤ off) (hhi : off < 0x800) (h4 : off % 4 = 0)
    (hr : (rowOf (pageKey 0 pg) off).isSome = true) (hwin : ¬ (0x200 ≤ off ∧ off < 0x21C ∧ hasWindow t pg = true))
    (hb : s.start.blockWrite (pageKey t pg) off v = some a) (ha : a.asleep t pg = false) :
    s.effect (fun m => m.portWrite p (regAddr t pg off) v) = .next (s.settled a) := by
  obtain ⟨htakes, hlock⟩ := Mach.writable_iff.1 h
  have h14 : tileOf (pageKey t pg) ≠ 14 := by rw [tileOf_pageKey t pg hp]; omega
  rw [← hasWindow_pageKey t hp] at hwin
  rw [← rowOf_tilePage ht hp] at hr
  exact effect_portWrite htakes (by omega) hp (by omega) h4 (Mach.regWrite_block hlock hlo hhi hr h14 hwin hb) ha

/-- A write to a register of a global page gives what the page's own writes give. -/
theorem effect_globalWrite {s : State} {p : Port} {pg off : Nat} {v : Word} (h : s.start.writable p 14 pg off = true)
    (hp : pg < 256) (hlo : 0x040 ≤ off) (hhi : off < 0x800) (h4 : off % 4 = 0) (hr : (rowOf (pageKey 14 pg) off).isSome = true)
    (hwin : ¬ (0x200 ≤ off ∧ off < 0x21C ∧ hasWindow 14 pg = true)) :
    s.effect (fun m => m.portWrite p (regAddr 14 pg off) v) =
      .next (s.settled (s.start.globalWrite (portNo p) (pageKey 14 pg) off v)) := by
  obtain ⟨htakes, hlock⟩ := Mach.writable_iff.1 h
  have h14 : tileOf (pageKey 14 pg) = 14 := tileOf_pageKey 14 pg hp
  rw [← hasWindow_pageKey 14 hp] at hwin
  exact effect_portWrite htakes (by omega) hp (by omega) h4 (Mach.regWrite_global hlock hlo hhi hr h14 hwin)
    (Mach.asleep_global _ _ (by omega))

/-- A write to a header register gives what the header's writes give, where that leaves the tile awake (R97). -/
theorem effect_headerWrite {s : State} {p : Port} {tf pg off : Nat} {v : Word} {a : Mach} (h : s.start.takes p tf pg off = true)
    (ht : tf < 15) (hp : pg < 256) (ho : off < 0x040) (h4 : off % 4 = 0)
    (hlock : s.start.flag (pageKey tf pg) F.PAGE_CTRL_LOCK = false ∨ off ∈ [0x004, 0x010, 0x030])
    (hw : s.start.writeHeader (pageKey tf pg) off v = a) (ha : a.asleep tf pg = false) :
    s.effect (fun m => m.portWrite p (regAddr tf pg off) v) = .next (s.settled a) :=
  effect_portWrite h ht hp (by omega) h4 ((Mach.regWrite_header hlock ho (Mach.viewOf_of_takes h)).trans hw) ha

/-- As `effect_headerWrite`, of REGISTER_WRITE. -/
theorem exec_registerWrite_header {s : State} {p : Port} {tf pg off : Nat} {v : Word} {a : Mach} (h : s.start.takes p tf pg off = true)
    (ht : tf < 15) (hp : pg < 256) (ho : off < 0x040) (h4 : off % 4 = 0)
    (hlock : s.start.flag (pageKey tf pg) F.PAGE_CTRL_LOCK = false ∨ off ∈ [0x004, 0x010, 0x030])
    (hw : s.start.writeHeader (pageKey tf pg) off v = a) (ha : a.asleep tf pg = false) :
    exec (.registerWrite p (BitVec.ofNat 24 (regAddr tf pg off)) v) s = .next (s.settled a) := by
  have hr := (Mach.regWrite_header (p := portNo p) hlock ho (Mach.viewOf_of_takes h)).trans hw
  rw [exec_registerWrite_takes ht hp (by omega) h4 h (hr ▸ ha), hr]

end Sys2Proof.Machine

/-!
PROOFS. The step itself, the state before power comes up, and the worked figures of control port B.
-/

namespace Sys2Proof.Machine

/-- Settles O1: the front command runs on the state with the queue's rest, by the definition of a step. -/
theorem stepRunsTheFrontCommand : Obligations.StepRunsTheFrontCommand := by
  intro s c rest h
  unfold step
  rw [h]

namespace Mach

/-- One cycle without slewing adds one tick to a time base that counts by itself (R76, R446). -/
theorem elapsed_one {m : Mach} {ts : TileSt} (hr : m.slewRate = 0) (hm : m.slewRemain = 0) (h : ts.ring.rate = none) :
    m.elapsed ts 1 = 2 ^ 32 := by
  simp [elapsed, h, hr, hm]

theorem tile_passCycles (m : Mach) (k : Nat) {t : Nat} (ht : t < 8) : (m.passCycles k).tile t =
    if (m.tile t).life = .por then m.tile t
    else { m.tile t with n := ((m.tile t).n + ((m.tile t).sub + m.elapsed (m.tile t) k) / 2 ^ 32) % 2 ^ 64,
                         sub := ((m.tile t).sub + m.elapsed (m.tile t) k) % 2 ^ 32 } := by
  simp [passCycles, tile, vget, ht]

end Mach

theorem step_idle {s : State} (h : s.pending = []) : step s = .next (s.settled (s.start.passCycles 1)) := by
  obtain ⟨pending, m⟩ := s
  obtain rfl : pending = [] := h
  rfl

/-- Settles O2: with nothing to absorb, the one cycle that passes is one tick of each time base that is out of power-on reset. -/
theorem idleStepCountsOneTick : Obligations.IdleStepCountsOneTick := by
  intro s hp hrate hremain
  refine ⟨s.start.passCycles 1, step_idle hp, rfl, rfl, rfl, fun t ht hr hsub hn => ?_⟩
  have htile : s.start.tile t = s.m.tile t := rfl
  have helapsed : s.start.elapsed (s.m.tile t) 1 = 2 ^ 32 := Mach.elapsed_one hrate hremain hr
  rw [Mach.tile_passCycles _ _ ht, htile, helapsed]
  split
  · exact ⟨rfl, rfl⟩
  · exact ⟨by simp only; omega, by simp only; omega⟩

theorem settled_pending (s : State) (a : Mach) : (s.settled a).pending = s.pending := by simp only [State.settled]

/-- Settles O3: every arm of `exec` is an effect, and an effect answers the settled state with the queue as it was. -/
theorem everyCommandCompletes : Obligations.EveryCommandCompletes := by
  intro c s
  obtain ⟨f, hf⟩ := exec_eq_effect c s
  exact ⟨f s.start, hf.trans (effect_eq s f), settled_pending s _⟩

/-- Settles O7: no register, byte or element is listed, so every read gives the reset value; no path of port A stands. -/
theorem resetHoldsThePart : Obligations.ResetHoldsThePart := by
  refine ⟨rfl, by decide, fun _ _ => rfl, rfl, rfl, rfl, by decide +kernel, fun answers => absurd answers (by decide), ?_, rfl, rfl⟩
  intro t ht hpath
  have hnone : ∀ t, t < 8 → State.reset.m.pathA t ≠ 1 := by decide +kernel
  exact absurd hpath (hnone t ht)

/-- Settles O16: the header's INT_EN takes the word, and its INT_RAW, which no lock holds, loses the bits written as 1. -/
theorem registerWriteReachesTheRegister : Obligations.RegisterWriteReachesTheRegister := by
  constructor
  · intro s p tf pg v h _
    obtain ⟨htakes, hlock⟩ := Mach.writable_iff.1 h
    exact exec_registerWrite_header htakes tf.isLt pg.isLt (by decide) (by decide) (.inl hlock) rfl
      ((Mach.asleep_setWord ..).trans (Mach.asleep_of_takes htakes))
  · intro s p tf pg v htakes
    exact exec_registerWrite_header htakes tf.isLt pg.isLt (by decide) (by decide) (.inr (by decide)) rfl
      ((Mach.asleep_setWord ..).trans (Mach.asleep_of_takes htakes))

/-! ### The CRC of control port B (R115) -/

theorem crc8Byte_lt {c b : Nat} (hc : c < 256) (hb : b < 256) : crc8Byte c b < 256 := by
  have hstep : ∀ (l : List Nat) (c : Nat), c < 256 →
      l.foldl (fun c _ => if bit c 7 then ((2 * c) % 256) ^^^ 0x2F else (2 * c) % 256) c < 256 := by
    intro l
    induction l with
    | nil => exact fun _ h => h
    | cons _ l ih =>
      intro c _
      refine ih _ ?_
      have hlt : 2 * c % 256 < 2 ^ 8 := Nat.mod_lt _ (by decide)
      dsimp only
      split
      · exact Nat.xor_lt_two_pow hlt (by decide)
      · exact hlt
  exact hstep _ _ (Nat.xor_lt_two_pow (n := 8) hc hb)

/-- Settles O22: the worked figures are evaluated; every further byte keeps the CRC a byte. -/
theorem portBCrcWorkedExample : Obligations.PortBCrcWorkedExample := by
  refine ⟨by decide, by decide, by decide, by decide, by decide +kernel, fun l => ?_⟩
  have hfold : ∀ (l : List Byte) (c : Nat), c < 256 → l.foldl (fun c b => crc8Byte c b.toNat) c < 256 := by
    intro l
    induction l with
    | nil => exact fun _ h => h
    | cons b l ih => exact fun c hc => ih _ (crc8Byte_lt hc b.isLt)
  exact hfold l 0xFF (by decide)

end Sys2Proof.Machine

/-!
PROOFS. What settling a command leaves as it was.
-/

namespace Sys2Proof.Machine

/-! ### What settling never reaches -/

/-- A tile without what settling may change: kitty, queues, host port, part in the ring, island log. -/
def TileSt.apartFromSettling (ts : TileSt) : TileSt :=
  { ts with kitty := default, queues := default, host := default, ring := default, islLog := [] }

namespace Mach

/-- The part without what settling may change. -/
def apartFromSettling (m : Mach) : Mach :=
  { m with regs := [], tiles := m.tiles.map TileSt.apartFromSettling, clus := default, hands := default, pinA := false, pinB := false,
           msixArmed := 0, pkgLog := [], out := [], copying := none, viewOf := none }

theorem tile_apartFromSettling (m : Mach) (t : Nat) : m.apartFromSettling.tile t = (m.tile t).apartFromSettling := by
  unfold apartFromSettling tile vget
  by_cases ht : t < 8
  · simp [ht]
  · simp [ht]; rfl

@[simp] theorem setWord_apartFromSettling (m : Mach) (pk off : Nat) (w : Word) :
    (m.setWord pk off w).apartFromSettling = m.apartFromSettling := rfl

@[simp] theorem wr_apartFromSettling (m : Mach) (pk : Nat) (f : Field) (v : Nat) :
    (m.wr pk f v).apartFromSettling = m.apartFromSettling := rfl

@[simp] theorem wrb_apartFromSettling (m : Mach) (pk : Nat) (f : Field) (b : Bool) :
    (m.wrb pk f b).apartFromSettling = m.apartFromSettling := rfl

@[simp] theorem raise_apartFromSettling (m : Mach) (pk b : Nat) : (m.raise pk b).apartFromSettling = m.apartFromSettling := rfl

theorem clus_apartFromSettling (m : Mach) (u : Vector Cluster 16) : ({ m with clus := u } : Mach).apartFromSettling = m.apartFromSettling := rfl

theorem modTile_apartFromSettling (m : Mach) (t : Nat) {f : TileSt → TileSt}
    (hf : ∀ ts, (f ts).apartFromSettling = ts.apartFromSettling) : (m.modTile t f).apartFromSettling = m.apartFromSettling := by
  simp only [apartFromSettling, modTile]
  congr 1
  exact map_vmod_forgotten _ _ _ _ hf

@[simp] theorem modKit_apartFromSettling (m : Mach) (t : Nat) (f : KittySt → KittySt) :
    (m.modKit t f).apartFromSettling = m.apartFromSettling := modTile_apartFromSettling m t fun _ => rfl

@[simp] theorem modQueue_apartFromSettling (m : Mach) (t q : Nat) (f : Queue → Queue) :
    (m.modQueue t q f).apartFromSettling = m.apartFromSettling := modTile_apartFromSettling m t fun _ => rfl

@[simp] theorem modHost_apartFromSettling (m : Mach) (t : Nat) (f : HostSt → HostSt) :
    (m.modHost t f).apartFromSettling = m.apartFromSettling := modTile_apartFromSettling m t fun _ => rfl

theorem foldl_apartFromSettling {α : Type} {f : Mach → α → Mach} (hf : ∀ m x, (f m x).apartFromSettling = m.apartFromSettling)
    (l : List α) (m : Mach) : (l.foldl f m).apartFromSettling = m.apartFromSettling := by
  induction l generalizing m with
  | nil => rfl
  | cons x l ih => exact (ih (f m x)).trans (hf m x)

@[simp] theorem swapView_apartFromSettling (m : Mach) (d : Nat) : (m.swapView d).apartFromSettling = m.apartFromSettling :=
  modTile_apartFromSettling m d fun _ => rfl

theorem inView_apartFromSettling (m : Mach) (d : Nat) {f : Mach → Mach} (hf : ∀ m, (f m).apartFromSettling = m.apartFromSettling) :
    (m.inView d f).apartFromSettling = m.apartFromSettling := by
  unfold inView
  dsimp only
  rw [clus_apartFromSettling, swapView_apartFromSettling, hf, clus_apartFromSettling, swapView_apartFromSettling]

theorem inSeg_apartFromSettling (m : Mach) (t : Nat) {f : Mach → Mach} (hf : ∀ m, (f m).apartFromSettling = m.apartFromSettling) :
    (m.inSeg t f).apartFromSettling = m.apartFromSettling := by
  unfold inSeg
  split
  · exact inView_apartFromSettling m _ hf
  · exact hf m

/-- The event of a change of ISLAND, where the segment of tile `t` sees it (R512). -/
def islandEvent (m : Mach) (t : Nat) (quiet : Bool) (b : Nat) : Mach := if quiet then m else m.inSeg t fun m => m.raise P.island b

/-- Spilling of tile `t` made to follow ISLAND; replay begins where it ends (R512). -/
def followSpill (m : Mach) (t : Nat) (spill : Bool) : Mach :=
  if (m.kit t).spilling = spill then m
  else if spill then m.modKit t fun k => { k with spilling := spill }
  else (List.range 32).foldl (fun m q => m.modQueue t q fun s => { s with replay := s.replay || !s.spill.isEmpty })
    (m.modKit t fun k => { k with spilling := spill })

theorem followIsland_eq (m : Mach) (t : Nat) : ∃ (quiet spill : Bool) (b : Nat), m.followIsland t = (m.islandEvent t quiet b).followSpill t spill :=
  ⟨_, _, _, rfl⟩

theorem followSpill_apartFromSettling (m : Mach) (t : Nat) (spill : Bool) : (m.followSpill t spill).apartFromSettling = m.apartFromSettling := by
  unfold followSpill
  split
  · rfl
  · split
    · exact modKit_apartFromSettling ..
    · exact (foldl_apartFromSettling (fun m q => modQueue_apartFromSettling m t q _) _ _).trans (modKit_apartFromSettling ..)

theorem followIsland_apartFromSettling (m : Mach) (t : Nat) : (m.followIsland t).apartFromSettling = m.apartFromSettling := by
  obtain ⟨quiet, spill, b, h⟩ := m.followIsland_eq t
  rw [h, followSpill_apartFromSettling, islandEvent]
  split
  · rfl
  · exact inSeg_apartFromSettling m t fun _ => rfl

theorem showIsland_apartFromSettling (m : Mach) (d : Nat) (flags : List (Nat × Bool × Bool)) :
    (m.showIsland d flags).apartFromSettling = m.apartFromSettling := by
  unfold showIsland
  dsimp only
  rw [wrb_apartFromSettling, wr_apartFromSettling, wr_apartFromSettling, wr_apartFromSettling, wr_apartFromSettling,
    wr_apartFromSettling]

theorem showIslMember_apartFromSettling (m : Mach) (isl : List Bool) : (m.showIslMember isl).apartFromSettling = m.apartFromSettling := by
  unfold showIslMember
  exact foldl_apartFromSettling (fun _ _ => wrb_apartFromSettling ..) _ _

theorem settleIsland_apartFromSettling (m : Mach) : m.settleIsland.apartFromSettling = m.apartFromSettling := by
  unfold settleIsland
  dsimp only
  rw [foldl_apartFromSettling fun m d => inView_apartFromSettling m d fun m => by
    rw [showIslMember_apartFromSettling, showIsland_apartFromSettling]]
  split
  · rw [showIslMember_apartFromSettling, showIsland_apartFromSettling, foldl_apartFromSettling followIsland_apartFromSettling]
  · rw [foldl_apartFromSettling followIsland_apartFromSettling]

theorem setRole_apartFromSettling (m : Mach) (t r : Nat) : (m.setRole t r).apartFromSettling = m.apartFromSettling := by
  unfold setRole
  split
  · rfl
  · rw [raise_apartFromSettling, wr_apartFromSettling]

theorem copying_apartFromSettling (m : Mach) (c : Option Nat) : ({ m with copying := c } : Mach).apartFromSettling = m.apartFromSettling := rfl

theorem showSucc_apartFromSettling (m : Mach) (s : Nat) (x : Option Nat) : (m.showSucc s x).apartFromSettling = m.apartFromSettling := by
  unfold showSucc
  refine foldl_apartFromSettling (fun m t => ?_) _ _
  split
  · exact wr_apartFromSettling ..
  · rfl

theorem followSuccessor_apartFromSettling (m : Mach) : m.followSuccessor.apartFromSettling = m.apartFromSettling := by
  unfold followSuccessor
  split
  · rfl
  case h_2 d _ =>
    dsimp only
    generalize (if m.rd (P.decl d) F.DECL_ROLE_SUCC = 15 then none else some (m.rd (P.decl d) F.DECL_ROLE_SUCC)) = shown
    split
    · rfl
    · split
      · rfl
      · rw [copying_apartFromSettling, showSucc_apartFromSettling]
        exact foldl_apartFromSettling (fun m t => by split; exacts [setRole_apartFromSettling .., rfl]) _ _

theorem followPair_apartFromSettling (m : Mach) (t : Nat) : (m.followPair t).apartFromSettling = m.apartFromSettling := by
  unfold followPair
  dsimp only
  generalize (if m.pathA t = 2 then m.irqPair t 0 else (0, 0)) = q
  split
  · rfl
  · exact modHost_apartFromSettling ..

theorem sansVecs_apartFromSettling (m : Mach) : m.sansMessages.apartFromSettling = m.apartFromSettling := by
  simp only [apartFromSettling, sansMessages, Vector.map_map]
  rfl

theorem settleMsix_apartFromSettling (m : Mach) (t : Nat) : (m.settleMsix t).apartFromSettling = m.apartFromSettling := by
  rw [← sansVecs_apartFromSettling, settleMsix_sansMessages, sansVecs_apartFromSettling]

theorem settlePins_apartFromSettling (m : Mach) : m.settlePins.apartFromSettling = m.apartFromSettling := by
  rw [← sansVecs_apartFromSettling, (settlePins_sansMessages m).1, sansVecs_apartFromSettling]

theorem replayHeld_of_none {m : Mach} (h : m.heldAcc = []) : m.replayHeld = m := by
  unfold replayHeld
  obtain ⟨⟩ := m
  dsimp only at h
  subst h
  rfl

/-- After the accesses that waited, settling keeps `apartFromSettling`. -/
theorem settle_apartFromSettling (m : Mach) : m.settle.apartFromSettling = m.replayHeld.apartFromSettling := by
  unfold settle
  dsimp only
  rw [settlePins_apartFromSettling, foldl_apartFromSettling settleMsix_apartFromSettling,
    foldl_apartFromSettling followPair_apartFromSettling, followSuccessor_apartFromSettling, settleIsland_apartFromSettling]

/-! ### What settling changes in one segment -/

/-- The registers that show ISLAND: page ISLAND, and HAND_STAT of page MODE (R525). -/
def ShowsIsland (pk off : Nat) : Prop := pk = P.island ∨ (pk = P.mode ∧ 0x200 ≤ off ∧ off < 0x240)

/-- As `ShowsIsland`, and ROLE and INT_RAW of the pages DECL (R500, R501). -/
def ShowsIslandOrRole (pk off : Nat) : Prop := ShowsIsland pk off ∨ ∃ t, t < 8 ∧ pk = P.decl t ∧ (off = 0x040 ∨ off = 0x010)

/-- Clusters, hands, the view and every register word but those of `C` are the same. -/
structure SameBut (C : Nat → Nat → Prop) (m m' : Mach) : Prop where
  clus : m'.clus = m.clus
  hands : m'.hands = m.hands
  viewOf : m'.viewOf = m.viewOf
  word : ∀ pk off, off < 4096 → ¬ C pk off → m'.word pk off = m.word pk off

variable {C : Nat → Nat → Prop}

theorem SameBut.refl (m : Mach) : SameBut C m m := ⟨rfl, rfl, rfl, fun _ _ _ _ => rfl⟩

theorem SameBut.trans {a b c : Mach} (h : SameBut C a b) (k : SameBut C b c) : SameBut C a c :=
  ⟨k.clus.trans h.clus, k.hands.trans h.hands, k.viewOf.trans h.viewOf,
    fun pk off ho hc => (k.word pk off ho hc).trans (h.word pk off ho hc)⟩

theorem SameBut.rd {m m' : Mach} (h : SameBut C m m') {pk : Nat} {f : Field} (ho : f.off < 4096) (hc : ¬ C pk f.off) :
    m'.rd pk f = m.rd pk f := by
  unfold Mach.rd
  rw [h.word pk f.off ho hc]

theorem SameBut.foldl {α : Type} {f : Mach → α → Mach} (l : List α) (hf : ∀ m x, x ∈ l → SameBut C m (f m x)) (m : Mach) :
    SameBut C m (l.foldl f m) := by
  induction l generalizing m with
  | nil => exact .refl m
  | cons x l ih =>
    exact (hf m x List.mem_cons_self).trans (ih (fun m y hy => hf m y (List.mem_cons_of_mem _ hy)) _)

theorem sameBut_setWord {pk off : Nat} (ho : off < 4096) (h : C pk off) (m : Mach) (w : Word) : SameBut C m (m.setWord pk off w) :=
  ⟨rfl, rfl, rfl, fun pk' off' ho' hc => m.word_setWord_off w ho ho' (by
    by_contra hsame
    obtain ⟨rfl, rfl⟩ : pk' = pk ∧ off' = off := by omega
    exact hc h)⟩

theorem sameBut_wr {pk : Nat} {f : Field} (ho : f.off < 4096) (h : C pk f.off) (m : Mach) (v : Nat) : SameBut C m (m.wr pk f v) :=
  sameBut_setWord ho h m _

theorem sameBut_raise {pk : Nat} (h : C pk 0x010) (m : Mach) (b : Nat) : SameBut C m (m.raise pk b) :=
  sameBut_setWord (by decide) h m _

theorem sameBut_modTile (m : Mach) (t : Nat) (f : TileSt → TileSt) : SameBut C m (m.modTile t f) := ⟨rfl, rfl, rfl, fun _ _ _ _ => rfl⟩

theorem sameBut_inSeg {m : Mach} {t : Nat} {f : Mach → Mach} (hi : m.islandOf t = none) (hf : SameBut C m (f m)) :
    SameBut C m (m.inSeg t f) := by
  unfold inSeg
  rw [hi]
  exact hf

theorem oneSegment_iff {m : Mach} : oneSegment m = true ↔
    m.viewOf = none ∧ ∀ t, t < 8 → m.flag (P.ring t) F.RING_STAT_OUTSIDE = false ∧ m.rd (P.decl t) F.DECL_ROLE_ROLE ≠ 3 := by
  simp [oneSegment]

theorem not_showsIsland_tilePage {t pg off : Nat} (ht : t < 8) (hp : pg < 256) : ¬ ShowsIsland (pageKey t pg) off := by
  simp only [ShowsIsland, P.island, P.mode, pageKey]
  omega

/-- Showing ISLAND leaves the part in one segment. -/
theorem SameBut.oneSegment {m m' : Mach} (h : SameBut ShowsIsland m m') (hone : oneSegment m = true) : oneSegment m' = true := by
  obtain ⟨hview, htiles⟩ := oneSegment_iff.1 hone
  refine oneSegment_iff.2 ⟨h.viewOf.trans hview, fun t ht => ?_⟩
  have hring := h.rd (pk := P.ring t) (f := F.RING_STAT_OUTSIDE) (by decide) (not_showsIsland_tilePage ht (by decide))
  have hdecl := h.rd (pk := P.decl t) (f := F.DECL_ROLE_ROLE) (by decide) (not_showsIsland_tilePage ht (by decide))
  obtain ⟨hflag, hrole⟩ := htiles t ht
  exact ⟨by simpa [flag, hring] using hflag, by rwa [hdecl]⟩

theorem islandOf_of_oneSegment {m : Mach} (h : oneSegment m = true) {t : Nat} (ht : t < 8) : m.islandOf t = none := by
  obtain ⟨_, htiles⟩ := oneSegment_iff.1 h
  simp [islandOf, (htiles t ht).1]

theorem islandDeclarers_of_oneSegment {m : Mach} (h : oneSegment m = true) : m.islandDeclarers = [] := by
  obtain ⟨_, htiles⟩ := oneSegment_iff.1 h
  simp only [islandDeclarers, List.filter_eq_nil_iff, List.mem_range, Bool.and_eq_true, decide_eq_true_eq, not_and]
  exact fun t ht _ => (htiles t ht).2

theorem sameBut_followSpill (m : Mach) (t : Nat) (spill : Bool) : SameBut C m (m.followSpill t spill) := by
  unfold followSpill
  split
  · exact .refl m
  · split
    · exact sameBut_modTile ..
    · exact (sameBut_modTile ..).trans (.foldl _ (fun _ _ _ => sameBut_modTile ..) _)

theorem sameBut_followIsland {m : Mach} (h : oneSegment m = true) {t : Nat} (ht : t < 8) : SameBut ShowsIsland m (m.followIsland t) := by
  obtain ⟨quiet, spill, b, he⟩ := m.followIsland_eq t
  rw [he]
  refine SameBut.trans ?_ (sameBut_followSpill _ t spill)
  unfold islandEvent
  split
  · exact .refl m
  · exact sameBut_inSeg (islandOf_of_oneSegment h ht) (sameBut_raise (.inl rfl) m b)

theorem sameBut_foldl_followIsland (l : List Nat) (hl : ∀ t ∈ l, t < 8) {m : Mach} (h : oneSegment m = true) :
    SameBut ShowsIsland m (l.foldl followIsland m) := by
  induction l generalizing m with
  | nil => exact .refl m
  | cons t l ih =>
    have hstep := sameBut_followIsland h (hl t List.mem_cons_self)
    exact hstep.trans (ih (fun u hu => hl u (List.mem_cons_of_mem _ hu)) (hstep.oneSegment h))

theorem sameBut_showIsland (m : Mach) (d : Nat) (flags : List (Nat × Bool × Bool)) : SameBut ShowsIsland m (m.showIsland d flags) := by
  have hput : ∀ (m : Mach) (f : Field) (v : Nat), f.off < 4096 → SameBut ShowsIsland m (m.wr P.island f v) :=
    fun m f v ho => sameBut_wr ho (.inl rfl) m v
  unfold showIsland
  dsimp only
  exact (hput _ _ _ (by decide)).trans ((hput _ _ _ (by decide)).trans ((hput _ _ _ (by decide)).trans ((hput _ _ _ (by decide)).trans
    ((hput _ _ _ (by decide)).trans (hput _ _ _ (by decide))))))

theorem sameBut_showIslMember (m : Mach) (isl : List Bool) : SameBut ShowsIsland m (m.showIslMember isl) := by
  unfold showIslMember
  refine .foldl _ (fun m h hh => ?_) m
  have hlt : h < 16 := List.mem_range.1 hh
  have ho : (F.MODE_HAND_STAT_ISL_MEMBER.nth h).off = 0x200 + h * 4 := rfl
  exact sameBut_wr (by omega) (.inr ⟨rfl, by omega, by omega⟩) m _

/-- Settling ISLAND in one segment changes what shows ISLAND, in the one view. -/
theorem sameBut_settleIsland {m : Mach} (h : oneSegment m = true) : SameBut ShowsIsland m m.settleIsland := by
  have hfollow := sameBut_foldl_followIsland (List.range 8) (fun t ht => List.mem_range.1 ht) h
  unfold settleIsland
  dsimp only
  generalize hm : (List.range 8).foldl followIsland m = m1 at *
  split
  · have hshow := fun d flags isl => hfollow.trans ((sameBut_showIsland m1 d flags).trans (sameBut_showIslMember _ isl))
    rw [islandDeclarers_of_oneSegment ((hshow _ _ _).oneSegment h), List.foldl_nil]
    exact hshow _ _ _
  · rw [islandDeclarers_of_oneSegment (hfollow.oneSegment h), List.foldl_nil]
    exact hfollow

theorem SameBut.weaken {D : Nat → Nat → Prop} {m m' : Mach} (h : SameBut C m m') (hcd : ∀ pk off, C pk off → D pk off) : SameBut D m m' :=
  ⟨h.clus, h.hands, h.viewOf, fun pk off ho hd => h.word pk off ho fun hc => hd (hcd pk off hc)⟩

theorem mem_tilesOf {s t : Nat} (h : t ∈ tilesOf s) : t < 8 := List.mem_range.1 (List.mem_of_mem_filter h)

theorem sameBut_setRole {t : Nat} (ht : t < 8) (m : Mach) (r : Nat) : SameBut ShowsIslandOrRole m (m.setRole t r) := by
  unfold setRole
  split
  · exact .refl m
  · exact (sameBut_wr (by decide) (.inr ⟨t, ht, rfl, .inl rfl⟩) m r).trans (sameBut_raise (.inr ⟨t, ht, rfl, .inr rfl⟩) _ 0)

theorem sameBut_showSucc (m : Mach) (s : Nat) (x : Option Nat) : SameBut ShowsIslandOrRole m (m.showSucc s x) := by
  unfold showSucc
  refine .foldl _ (fun m t ht => ?_) m
  split
  · exact sameBut_wr (by decide) (.inr ⟨t, mem_tilesOf ht, rfl, .inl rfl⟩) m _
  · exact .refl m

theorem sameBut_copying (m : Mach) (c : Option Nat) : SameBut C m { m with copying := c } := ⟨rfl, rfl, rfl, fun _ _ _ _ => rfl⟩

theorem sameBut_followSuccessor (m : Mach) : SameBut ShowsIslandOrRole m m.followSuccessor := by
  unfold followSuccessor
  split
  · exact .refl m
  case h_2 d _ =>
    dsimp only
    generalize (if m.rd (P.decl d) F.DECL_ROLE_SUCC = 15 then none else some (m.rd (P.decl d) F.DECL_ROLE_SUCC)) = shown
    split
    · exact sameBut_copying m none
    · split
      · exact .refl m
      · refine SameBut.trans ?_ ((sameBut_showSucc _ _ none).trans (sameBut_copying _ _))
        refine .foldl _ (fun m t ht => ?_) m
        split
        · exact sameBut_setRole (mem_tilesOf ht) m 0
        · exact .refl m

theorem sameBut_followPair (m : Mach) (t : Nat) : SameBut C m (m.followPair t) := by
  unfold followPair
  dsimp only
  generalize (if m.pathA t = 2 then m.irqPair t 0 else (0, 0)) = q
  split
  · exact .refl m
  · exact sameBut_modTile ..

/-- What differs in messages and pins alone has the same clusters, hands and words. -/
theorem sameBut_of_sansMessages {m m' : Mach} (h : m'.sansMessages = m.sansMessages) : SameBut C m m' :=
  ⟨(congrArg Mach.clus h :), (congrArg Mach.hands h :), (congrArg Mach.viewOf h :), fun pk off _ _ => (congrArg (word · pk off) h :)⟩

/-- After the accesses that waited, settling changes what settling ISLAND changes, and roles. -/
theorem sameBut_settle_of_island {m : Mach} (h : SameBut ShowsIsland m.replayHeld m.replayHeld.settleIsland) :
    SameBut ShowsIslandOrRole m.replayHeld m.settle := by
  unfold settle
  dsimp only
  refine SameBut.trans ?_ (sameBut_of_sansMessages (settlePins_sansMessages _).1)
  refine SameBut.trans ?_ (.foldl _ (fun m t _ => sameBut_of_sansMessages (settleMsix_sansMessages m t)) _)
  refine SameBut.trans ?_ (.foldl _ (fun m t _ => sameBut_followPair m t) _)
  exact (h.weaken fun _ _ => .inl).trans (sameBut_followSuccessor _)

theorem sameBut_settle {m : Mach} (hheld : m.heldAcc = []) (hone : oneSegment m = true) : SameBut ShowsIslandOrRole m m.settle := by
  have hsettle := sameBut_settle_of_island (m := m)
  rw [replayHeld_of_none hheld] at hsettle
  exact hsettle (sameBut_settleIsland hone)

end Mach

/-- What settling never reaches of a tile. -/
theorem TileSt.eq_of_apartFromSettling {a b : TileSt} (h : a.apartFromSettling = b.apartFromSettling) :
    a.n = b.n ∧ a.sub = b.sub ∧ a.life = b.life ∧ a.dma = b.dma ∧ a.mon = b.mon ∧ a.fe = b.fe ∧ a.aonLog = b.aonLog :=
  ⟨(congrArg TileSt.n h :), (congrArg TileSt.sub h :), (congrArg TileSt.life h :), (congrArg TileSt.dma h :),
    (congrArg TileSt.mon h :), (congrArg TileSt.fe h :), (congrArg TileSt.aonLog h :)⟩

/-- What settling never reaches of the part. -/
theorem Mach.eq_of_apartFromSettling {a b : Mach} (h : a.apartFromSettling = b.apartFromSettling) :
    a.dram = b.dram ∧ a.dramMark = b.dramMark ∧ a.arr = b.arr ∧ a.winAsm = b.winAsm ∧ a.part = b.part ∧ a.cpb = b.cpb ∧
    a.kaWinA = b.kaWinA ∧ a.kaWinB = b.kaWinB ∧ a.kaClock = b.kaClock ∧ a.jtag = b.jtag ∧ a.refLost = b.refLost ∧
    a.slewRate = b.slewRate ∧ a.slewRemain = b.slewRemain ∧ a.free = b.free ∧ a.heldAcc = b.heldAcc ∧
    ∀ t, (a.tile t).n = (b.tile t).n ∧ (a.tile t).sub = (b.tile t).sub ∧ (a.tile t).life = (b.tile t).life ∧
      (a.tile t).dma = (b.tile t).dma ∧ (a.tile t).mon = (b.tile t).mon ∧ (a.tile t).fe = (b.tile t).fe ∧
      (a.tile t).aonLog = (b.tile t).aonLog :=
  ⟨(congrArg Mach.dram h :), (congrArg Mach.dramMark h :), (congrArg Mach.arr h :), (congrArg Mach.winAsm h :),
    (congrArg Mach.part h :), (congrArg Mach.cpb h :), (congrArg Mach.kaWinA h :), (congrArg Mach.kaWinB h :),
    (congrArg Mach.kaClock h :), (congrArg Mach.jtag h :), (congrArg Mach.refLost h :), (congrArg Mach.slewRate h :),
    (congrArg Mach.slewRemain h :), (congrArg Mach.free h :), (congrArg Mach.heldAcc h :),
    fun t => TileSt.eq_of_apartFromSettling (by rw [← tile_apartFromSettling, h, tile_apartFromSettling])⟩

/-- Settles O6: each part of settling keeps what `apartFromSettling` keeps; in one segment no view is exchanged, and the parts write the
registers that show ISLAND and roles. -/
theorem settlingKeepsTheRest : Obligations.SettlingKeepsTheRest := by
  constructor
  · intro m hheld
    have h := Mach.settle_apartFromSettling m
    rw [Mach.replayHeld_of_none hheld] at h
    have hkept := Mach.eq_of_apartFromSettling h
    rwa [hheld] at hkept
  · intro m hheld hone
    have h := Mach.sameBut_settle hheld hone
    refine ⟨h.clus, h.hands, fun pk off ho hisland hmode hdecl => h.word pk off ho ?_⟩
    rintro ((hi | hm) | hd)
    · exact hisland hi
    · exact hmode hm
    · exact hdecl hd

end Sys2Proof.Machine

/-!
PROOFS. Accesses that no page answers, writes by access code, and page headers.
-/

namespace Sys2Proof.Machine

/-! ### Accesses that no page answers (R63, R91–R93) -/

namespace Mach

theorem fieldTile_aligned (a : Nat) : fieldTile (a / 4 * 4) = fieldTile a := by simp only [fieldTile, bits_eq]; omega

theorem fieldPage_aligned (a : Nat) : fieldPage (a / 4 * 4) = fieldPage a := by simp only [fieldPage, bits_eq]; omega

theorem fieldOff_aligned (a : Nat) : fieldOff (a / 4 * 4) = fieldOff a := by simp only [fieldOff, bits_eq]; omega

/-- The two low address bits are ignored (R93). -/
theorem hostRead_aligned (m : Mach) (p e a : Nat) : m.hostRead p e (a / 4 * 4) = m.hostRead p e a := by
  unfold hostRead readField
  rw [fieldTile_aligned, fieldPage_aligned, fieldOff_aligned]

theorem viewed_primary {α : Type} {m : Mach} {e : Nat} (h : m.islandOf e = none) (f : Mach → α) : m.viewed e f = f m := by
  unfold viewed; rw [h]

theorem inSeg_primary {m : Mach} {e : Nat} (h : m.islandOf e = none) (f : Mach → Mach) : m.inSeg e f = f m := by
  unfold inSeg; rw [h]

theorem portWaits_of_none {m : Mach} (p : Nat) (h : m.heldAcc = []) : m.portWaits p = false := by simp [portWaits, h]

/-- A port's write with a path, no access held and none waiting for a declarer, to no broadcast address, is one page's (R91, R107). -/
theorem portWrite_one {m : Mach} {p : Port} {e addr : Nat} (v : Word) (hheld : m.heldAcc = []) (he : m.portEntry (portNo p) = some e)
    (hi : m.islandOf e = none) (hw : m.waits e addr = false) (h15 : fieldTile addr ≠ 15) :
    m.portWrite p addr v = m.writeOne (portNo p) e (fieldTile addr) addr v := by
  calc m.portWrite p addr v = match m.portEntry (portNo p) with
        | some e => m.accessWrite (portNo p) e addr v
        | none => m := by cases p <;> rfl
    _ = m.accessWrite (portNo p) e addr v := by rw [he]
    _ = m.hostWrite (portNo p) e addr v := by simp [accessWrite, hw, portWaits_of_none _ hheld]
    _ = m.busWrite (portNo p) e addr v := inSeg_primary hi _
    _ = _ := by simp [busWrite, h15]

theorem writeOne_missed {m : Mach} {p e tf addr : Nat} (v : Word) (h : m.target e tf (fieldPage addr) (fieldOff addr) ≠ .page) :
    m.writeOne p e tf addr v = m.missed (m.target e tf (fieldPage addr) (fieldOff addr)) tf (fieldPage addr) := by
  unfold writeOne
  dsimp only
  split
  · contradiction
  · rfl

theorem hostRead_missed {m : Mach} {p e addr : Nat} (hi : m.islandOf e = none)
    (h : m.target e (readField addr) (fieldPage addr) (fieldOff addr) ≠ .page) : m.hostRead p e addr = 0 := by
  rw [hostRead, viewed_primary hi]
  simp [h]

theorem target_bad {m : Mach} {e tf pg off : Nat} (h : pageExists tf pg = false ∨ (tf ≠ 14 ∧ m.nTiles ≤ tf)) : m.target e tf pg off = .bad := by
  unfold target
  rw [if_pos]
  rcases h with h | ⟨h14, hn⟩
  · simp [h]
  · simp [h14, present, hn]

/-- An access waits for a declarer at a global page alone, which every part has. -/
theorem waits_of_bad {m : Mach} {e addr : Nat}
    (h : pageExists (fieldTile addr) (fieldPage addr) = false ∨ (fieldTile addr ≠ 14 ∧ m.nTiles ≤ fieldTile addr)) :
    m.waits e addr = false := by
  unfold waits
  by_cases h14 : fieldTile addr = 14
  · have hpage : ¬ fieldPage addr ≤ 6 := by
      intro hle
      simp [h14, pageExists, blockCode, hle] at h
    simp [hpage]
  · simp [h14]

theorem offAccess_awake {m : Mach} {t : Nat} (h : (m.tile t).dormant = false) :
    m.offAccess t = (m.inc (P.pwr t) F.PWR_OFF_ACCESS_COUNT).raise (P.pwr t) 5 := by
  simp [offAccess, wakeUp, h]

/-- Pages TILE, PWR, CLK, TB and DECL are in domains that are never off. -/
theorem target_ne_domOff (m : Mach) (e t off : Nat) {pg : Nat} (h : [0x00, 0x01, 0x02, 0x03, 0x05].contains pg = true) :
    m.target e t pg off ≠ .domOff := by
  have hon : m.pageOn t pg off = true := by unfold pageOn; rw [h]; rfl
  unfold target
  rw [hon]
  split
  · simp
  · split
    · split
      · simp
      · split <;> simp
    · split <;> simp

end Mach

theorem exec_registerWrite_eq (s : State) (p : Port) (addr : BitVec 24) (v : Word) :
    exec (.registerWrite p addr v) s = .next (s.settled (s.start.portWrite p addr.toNat v)) := rfl

/-- Settles O8: an access that no page answers goes by `missed`, which counts it; its read is zero. -/
theorem absentPagesReadZeroAndIgnoreWrites : Obligations.AbsentPagesReadZeroAndIgnoreWrites := by
  refine ⟨?absent, ?off, fun m e t off pg hpg => m.target_ne_domOff e t off (List.contains_iff_mem.2 hpg)⟩
  case absent =>
    intro s p addr v e hheld he hi h15 hbad
    have ht := fun off => Mach.target_bad (e := e) (off := off) hbad
    have hfield : Mach.readField addr.toNat = Mach.fieldTile addr.toNat := if_neg h15
    refine ⟨?_, Mach.hostRead_missed hi (by rw [hfield, ht]; decide), s.start.hostRead_aligned _ _ _⟩
    have hw : s.start.portWrite p addr.toNat v = s.start.badAddr := by
      rw [Mach.portWrite_one v hheld he hi (Mach.waits_of_bad hbad) h15, Mach.writeOne_missed v (by rw [ht]; decide), ht]
      rfl
    rw [exec_registerWrite_eq, hw]
  case off =>
    intro s p t pg k v e hheld he hi hawake htarget
    have hft := fieldTile_regAddr (tf := t) (off := 4 * k) (by omega) pg.isLt (by omega)
    have hfp := fieldPage_regAddr (tf := t) (off := 4 * k) pg.isLt (by omega)
    have hfo := fieldOff_regAddr (tf := t) (pg := pg) (off := 4 * k) (by omega) (by omega)
    have h15 : Mach.fieldTile (regAddr t pg (4 * k)) ≠ 15 := by omega
    have hfield : Mach.readField (regAddr t pg (4 * k)) = t := (if_neg h15).trans hft
    have hmissed : s.start.missed (s.start.target e t pg (4 * k)) t pg =
        (s.start.inc (P.pwr t) F.PWR_OFF_ACCESS_COUNT).raise (P.pwr t) 5 := by
      rw [htarget]
      exact Mach.offAccess_awake hawake
    refine ⟨?_, ?_, ?_⟩
    · have ha : (BitVec.ofNat 24 (regAddr t pg (4 * k))).toNat = regAddr t pg (4 * k) :=
        (BitVec.toNat_ofNat ..).trans (Nat.mod_eq_of_lt (regAddr_lt (by omega) pg.isLt (by omega)))
      have hwaits : s.start.waits e (regAddr t pg (4 * k)) = false := by
        simp only [Mach.waits, hft, show (t : Nat) ≠ 14 by omega, decide_false, Bool.false_and]
      have hw : s.start.portWrite p (BitVec.ofNat 24 (regAddr t pg (4 * k))).toNat v =
          (s.start.inc (P.pwr t) F.PWR_OFF_ACCESS_COUNT).raise (P.pwr t) 5 := by
        rw [ha, Mach.portWrite_one v hheld he hi hwaits h15, hft, Mach.writeOne_missed v (by rw [hfp, hfo, htarget]; decide), hfp, hfo,
          hmissed]
      rw [exec_registerWrite_eq, hw]
    · rw [Mach.readEffect, Mach.inSeg_primary hi, hfield, hfp, hfo, hmissed]
    · exact Mach.hostRead_missed hi (by rw [hfield, hfp, hfo, htarget]; decide)

/-! ### Writes by access code (R94) -/

namespace Mach

theorem genericWrite_of_taken {m : Mach} {pk off : Nat} {r : RegRow} (v : Word) (hr : rowOf pk off = some r) (h : r.rw ||| r.rws ≠ 0) :
    m.genericWrite pk off v = m.setWord pk off (((m.word pk off &&& ~~~(BitVec.ofNat 32 (r.rw ||| r.rws))) |||
      (v &&& BitVec.ofNat 32 (r.rw ||| r.rws))) &&& ~~~(v &&& BitVec.ofNat 32 r.w1c)) := by
  have hro : ¬ (r.rw = 0 ∧ r.rws = 0 ∧ r.w1c = 0 ∧ r.act = 0) := fun ⟨hrw, hrws, _⟩ => h (by rw [hrw, hrws]; rfl)
  simp [genericWrite, hr, hro]

end Mach

/-- Settles O10: a register without a behaviour of its own is written by its access codes, in one word. -/
theorem writesFollowTheAccessCodes : Obligations.WritesFollowTheAccessCodes := by
  intro s p t pg k v r h hlo hhi hr hwin hb htaken
  obtain ⟨htakes, hlock⟩ := Mach.writable_iff.1 h
  have h14 : tileOf (pageKey t pg) ≠ 14 := by rw [tileOf_pageKey t pg pg.isLt]; omega
  rw [← hasWindow_pageKey t pg.isLt] at hwin
  have hw := (Mach.regWrite_plain (p := portNo p) hlock hlo hhi hr h14 hwin hb).trans (Mach.genericWrite_of_taken v hr htaken)
  rw [exec_registerWrite_takes (by omega) pg.isLt (by omega) (by omega) htakes, hw]
  rw [hw, Mach.asleep_setWord]
  exact Mach.asleep_of_takes htakes

/-! ### Page headers (R97, R98) -/

theorem blockCode_lt (tf pg : Nat) : blockCode tf pg < 256 := by
  unfold blockCode
  split
  · split <;> omega
  · split <;> decide

theorem pageInstance_lt (tf pg : Nat) : pageInstance tf pg < 2 := by
  unfold pageInstance
  split
  · decide
  · split
    · exact Nat.mod_lt _ (by decide)
    · decide

theorem bit_eq_decide (n i : Nat) : bit n i = decide (n / 2 ^ i % 2 = 1) := Nat.testBit_eq_decide_div_mod_eq

namespace Mach

theorem rd_lt_two {m : Mach} {pk : Nat} {f : Field} (h : f.hi = f.lo) : m.rd pk f < 2 := by
  have := bits_lt (m.word pk f.off).toNat f.hi f.lo
  rw [h] at this
  simpa [rd, h] using this

theorem flag_eq_decide {m : Mach} {pk : Nat} {f : Field} (h : f.hi = f.lo) : m.flag pk f = decide (m.rd pk f = 1) := by
  have := rd_lt_two (m := m) (pk := pk) h
  rcases Nat.lt_or_ge (m.rd pk f) 1 with h0 | h1
  · simp [flag, Nat.lt_one_iff.1 h0]
  · simp [flag, show m.rd pk f = 1 by omega]

theorem regRead_header (m : Mach) (p pk : Nat) {off : Nat} (h : off < 0x040) : m.regRead p pk off = m.readHeader pk off := by
  simp [regRead, h]

/-- PAGE_ID as the sum of its fields (R97). -/
theorem pageId_toNat (m : Mach) {tf pg : Nat} (ht : tf < 16) (hp : pg < 256) : (m.readHeader (pageKey tf pg) 0x000).toNat =
    blockCode tf pg * 2 ^ 24 + tf * 2 ^ 20 + pageInstance tf pg * 2 ^ 16 + 0x0100 := by
  have hcode := blockCode_lt tf pg
  have hinst := pageInstance_lt tf pg
  simp only [readHeader, tileOf_pageKey _ _ hp, pageOf_pageKey _ _ hp, BitVec.toNat_ofNat]
  exact Nat.mod_eq_of_lt (by omega)

/-- PAGE_STAT as the sum of LOCK, COMMIT_PEND and ENABLE (R97). -/
theorem pageStat_toNat (m : Mach) (pk : Nat) : ∃ b : Bool, (m.readHeader pk 0x008).toNat =
    m.rd pk F.PAGE_CTRL_LOCK * 8 + b.toNat * 4 + m.rd pk F.PAGE_CTRL_ENABLE := by
  refine ⟨_, (BitVec.toNat_ofNat ..).trans (Nat.mod_eq_of_lt ?_)⟩
  have hlock := rd_lt_two (m := m) (pk := pk) (f := F.PAGE_CTRL_LOCK) rfl
  have hen := rd_lt_two (m := m) (pk := pk) (f := F.PAGE_CTRL_ENABLE) rfl
  have hb := Bool.toNat_lt (bit (m.word pk 0x030).toNat 0 || bit (m.word pk 0x030).toNat 1)
  omega

end Mach

/-- Settles O12: the header's computed registers are sums of fields at their places. -/
theorem pageHeadersRead : Obligations.PageHeadersRead := by
  intro m p tf pg hexists
  have htf := tf.isLt
  have hcode := blockCode_lt tf pg
  have hinst := pageInstance_lt tf pg
  simp only [m.regRead_header p _ (show 0x000 < 0x040 by decide), m.regRead_header p _ (show 0x008 < 0x040 by decide),
    m.pageId_toNat (show (tf : Nat) < 16 by omega) pg.isLt]
  obtain ⟨b, hstat⟩ := m.pageStat_toNat (pageKey tf pg)
  have hlock := Mach.rd_lt_two (m := m) (pk := pageKey tf pg) (f := F.PAGE_CTRL_LOCK) rfl
  have hen := Mach.rd_lt_two (m := m) (pk := pageKey tf pg) (f := F.PAGE_CTRL_ENABLE) rfl
  have hb := Bool.toNat_lt b
  refine ⟨by rw [bits_eq]; omega, by simpa [pageExists] using hexists, by rw [bits_eq]; omega, rfl, ?_, ?_, fun off hoff => ?_⟩
  · rw [hstat, bit_eq_decide, Mach.flag_eq_decide rfl]
    congr 1
    simp only [eq_iff_iff]
    omega
  · rw [hstat, bit_eq_decide, Mach.enabled, Mach.flag_eq_decide rfl]
    congr 1
    simp only [eq_iff_iff]
    omega
  · simp only [List.mem_cons, List.not_mem_nil, or_false] at hoff
    rcases hoff with rfl | rfl | rfl | rfl | rfl | rfl <;> rfl

/-! ### Witnesses of refutations -/

/-- A part in service: eight tiles that answer, tile 0 the declarer with its domains on, control port B usable. -/
def inService : Mach :=
  (({ tiles := Vector.replicate 8 { life := .up, selfOk := true }, cpb := { usable := true } } : Mach).setWord (P.decl 0) 0x040 1).setWord
    (P.pwr 0) 0x044 0xFFFFF

/-- A word of the state that a command answers. -/
def wordAfter (o : Host.Outcome State Fault Refusal) (pk off : Nat) : Word :=
  match o with
  | .next t => t.m.word pk off
  | _ => 0

/-- Refutes O13: page SHD is not among the pages left out, and setting its ENABLE clears T_NOW (0x0B0) beside ENABLE. -/
theorem not_pageHeaderCommands : ¬ Obligations.PageHeaderCommands := by
  intro h
  obtain ⟨henable, -⟩ := h
  have heq := henable { pending := [], m := inService.setWord (P.shd 0) 0x0B0 1 } .b 0 0x12 true (by decide +kernel) (by decide)
  exact absurd (congrArg (wordAfter · (P.shd 0) 0x0B0) heq) (by decide +kernel)

end Sys2Proof.Machine

/-!
PROOFS. COMMIT, windows, semaphores and keepalive.
-/

namespace Sys2Proof.Machine

/-! ### COMMIT (R101, R102) -/

/-- A written bit of a word stands in it. -/
theorem bit_or_two_pow (v : Word) (i : Nat) (k : Fin 32) :
    bit (v ||| BitVec.ofNat 32 (2 ^ k.val)).toNat i = (bit v.toNat i || decide (i = k)) := by
  have hlt : (2 : Nat) ^ k.val < 2 ^ 32 := Nat.pow_lt_pow_right (by decide) k.isLt
  simp only [bit, BitVec.toNat_or, BitVec.toNat_ofNat, Nat.mod_eq_of_lt hlt, Nat.testBit_or, Nat.testBit_two_pow, eq_comm]

theorem bit_of_bits_eq_zero {n hi lo i : Nat} (h : bits n hi lo = 0) (hlo : lo ≤ i) (hhi : i ≤ hi) : bit n i = false := by
  have hb := testBit_bits n hi lo (i - lo)
  rw [h, Nat.zero_testBit, Nat.add_sub_cancel' hlo] at hb
  simpa [bit, show i - lo < hi + 1 - lo by omega] using hb.symm

/-- Bits that the mask of a shadow's copy covers are read there as in the shadow. -/
theorem bits_copied {w a k : Word} {hi lo : Nat} (hk : bits k.toNat hi lo = 2 ^ (hi + 1 - lo) - 1) :
    bits ((w &&& k) ||| (a &&& ~~~k)).toNat hi lo = bits w.toNat hi lo := by
  apply Nat.eq_of_testBit_eq
  intro i
  have hbit := congrArg (Nat.testBit · i) hk
  simp only [testBit_bits, Nat.testBit_two_pow_sub_one] at hbit ⊢
  by_cases hi' : i < hi + 1 - lo
  · have hone : k.getLsbD (lo + i) = true := by simpa [hi', BitVec.testBit_toNat] using hbit
    simp only [BitVec.testBit_toNat, BitVec.getLsbD_or, BitVec.getLsbD_and, BitVec.getLsbD_not, hone]
    simp
  · simp [hi']

namespace Mach

/-- The reference dealer of a page of cluster `g` is its own (R102). -/
theorem dealerOf_clusterPage (m : Mach) {g pg : Nat} (hg : g < 16) (hpg : pg ∈ [0x08, 0x0A, 0x0C, 0x10, 0x12, 0x14]) :
    m.dealerOf (pageKey (g / 2) (pg + g % 2)) = some g := by
  have hp : pg + g % 2 < 256 := by simp at hpg; omega
  have h14 : ¬ g / 2 = 14 := by omega
  unfold dealerOf
  dsimp only
  rw [tileOf_pageKey _ _ hp, pageOf_pageKey _ _ hp, if_neg h14, if_pos (by simp at hpg ⊢; omega)]
  simp at hpg ⊢
  omega

/-- A write of COMMIT on a page of cluster `g`: LINE, DEAL and NOW in turn (R101, R102). -/
theorem writeCommit_clusterPage (m : Mach) {g pg : Nat} (hg : g < 16) (hpg : pg ∈ [0x08, 0x0A, 0x0C, 0x10, 0x12, 0x14]) (v : Word) :
    m.writeCommit (pageKey (g / 2) (pg + g % 2)) v =
      let pk := pageKey (g / 2) (pg + g % 2)
      let a := if !bit v.toNat 0 then m else if m.running g then m.wr pk F.COMMIT_LINE 1 else m.commitAtOnce pk
      let b := if !bit v.toNat 1 then a else if (a.handOf g).isSome then a.wr pk F.COMMIT_DEAL 1 else a.commitAtOnce pk
      if !bit v.toNat 2 then b else if b.running g then b.errCount pk else b.commitAtOnce pk := by
  have hp : pg + g % 2 < 256 := by simp at hpg; omega
  have hreflist : [0x16, 0x17, 0x18, 0x2A].contains (pg + g % 2) = false := by simp at hpg ⊢; omega
  have href : (decide (tileOf (pageKey (g / 2) (pg + g % 2)) ≠ 14) &&
      [0x16, 0x17, 0x18, 0x2A].contains (pageOf (pageKey (g / 2) (pg + g % 2)))) = false := by
    rw [pageOf_pageKey _ _ hp, hreflist, Bool.and_false]
  unfold writeCommit
  dsimp only
  rw [if_neg (by rw [href]; exact Bool.false_ne_true), dealerOf_clusterPage m hg hpg]

/-- Of the three bits NOW alone: the copies are made at once outside a running hand (R101). -/
theorem writeCommit_now {m : Mach} {g pg : Nat} (hg : g < 16) (hpg : pg ∈ [0x08, 0x0A, 0x0C, 0x10, 0x12, 0x14]) {v : Word}
    (h0 : bit v.toNat 0 = false) (h1 : bit v.toNat 1 = false) (h2 : bit v.toNat 2 = true) (hrun : m.running g = false) :
    m.writeCommit (pageKey (g / 2) (pg + g % 2)) v = m.commitAtOnce (pageKey (g / 2) (pg + g % 2)) := by
  rw [writeCommit_clusterPage m hg hpg]
  simp [h0, h1, h2, hrun]

/-- LINE alone waits for the running dealer's next line (R102). -/
theorem writeCommit_line {m : Mach} {g pg : Nat} (hg : g < 16) (hpg : pg ∈ [0x08, 0x0A, 0x0C, 0x10, 0x12, 0x14]) {v : Word}
    (h0 : bit v.toNat 0 = true) (h1 : bit v.toNat 1 = false) (h2 : bit v.toNat 2 = false) (hrun : m.running g = true) :
    m.writeCommit (pageKey (g / 2) (pg + g % 2)) v = m.wr (pageKey (g / 2) (pg + g % 2)) F.COMMIT_LINE 1 := by
  rw [writeCommit_clusterPage m hg hpg]
  simp [h0, h1, h2, hrun]

/-- DEAL alone waits for the hand's next deal (R102). -/
theorem writeCommit_deal {m : Mach} {g pg : Nat} (hg : g < 16) (hpg : pg ∈ [0x08, 0x0A, 0x0C, 0x10, 0x12, 0x14]) {v : Word}
    (h0 : bit v.toNat 0 = false) (h1 : bit v.toNat 1 = true) (h2 : bit v.toNat 2 = false) (hhand : (m.handOf g).isSome = true) :
    m.writeCommit (pageKey (g / 2) (pg + g % 2)) v = m.wr (pageKey (g / 2) (pg + g % 2)) F.COMMIT_DEAL 1 := by
  rw [writeCommit_clusterPage m hg hpg]
  simp [h0, h1, h2, hhand]

/-- The one RWS register of page ACC is LIMITS, so its shadow is all that is copied. -/
theorem copyShadows_acc (m : Mach) {g : Nat} (hg : g < 16) : m.copyShadows (P.acc g) =
    m.setWord (P.acc g) 0x84C ((m.word (P.acc g) 0x04C &&& 0x7FFF007F#32) ||| (m.word (P.acc g) 0x84C &&& ~~~0x7FFF007F#32)) := by
  have hp : 0x10 + g % 2 < 256 := by omega
  have hregs : pageRegs (tileOf (P.acc g)) (pageOf (P.acc g)) = Map.ACC := by
    rw [P.acc, tileOf_pageKey _ _ hp, pageOf_pageKey _ _ hp]
    have h14 : ¬ g / 2 = 14 := by omega
    rcases Nat.mod_two_eq_zero_or_one g with h | h <;> simp [pageRegs, blockCode, h14, h]
  unfold copyShadows
  rw [hregs]
  simp [Map.ACC]

theorem commitAtOnce_acc (m : Mach) (g : Nat) : m.commitAtOnce (P.acc g) = m.copyShadows (P.acc g) := by
  have hne : ∀ x, P.acc g ≠ P.vc x := by
    intro x
    simp only [P.acc, P.vc, pageKey]
    omega
  unfold commitAtOnce
  exact if_neg (hne _)

end Mach

theorem commitCommand {s : State} {p : Port} {g : Nat} {v : Word} {a : Mach} (hg : g < 16)
    (h : s.start.takes p (g / 2) (0x10 + g % 2) 0x030 = true) (hw : s.start.writeCommit (P.acc g) v = a) (htiles : a.tiles = s.start.tiles) :
    s.effect (fun m => m.portWrite p (regAddr (g / 2) (0x10 + g % 2) 0x030) v) = .next (s.settled a) := by
  refine effect_headerWrite h (by omega) (by omega) (by decide) (by decide) (.inr (by decide)) hw ?_
  rw [Mach.asleep_congr (m := s.start) _ (by simp only [Mach.tile, htiles])]
  exact Mach.asleep_of_takes h

/-- Settles O14: page ACC's reference dealer is the cluster's own; with it outside a running hand NOW copies the page's one shadow, and
LINE and DEAL, where they wait, set their pending bit alone. -/
theorem commitCommands : Obligations.CommitCommands := by
  have hpg : (0x10 : Nat) ∈ [0x08, 0x0A, 0x0C, 0x10, 0x12, 0x14] := by decide
  refine ⟨?now, ?line, ?deal⟩
  case now =>
    intro s p g v h hrun hv
    have h0 : bit (v ||| BitVec.ofNat 32 (2 ^ 2)).toNat 0 = false := by
      rw [bit_or_two_pow v 0 ⟨2, by omega⟩, bit_of_bits_eq_zero hv (by omega) (by omega)]; rfl
    have h1 : bit (v ||| BitVec.ofNat 32 (2 ^ 2)).toNat 1 = false := by
      rw [bit_or_two_pow v 1 ⟨2, by omega⟩, bit_of_bits_eq_zero hv (by omega) (by omega)]; rfl
    have h2 : bit (v ||| BitVec.ofNat 32 (2 ^ 2)).toNat 2 = true := by rw [bit_or_two_pow v 2 ⟨2, by omega⟩]; simp
    have hw : s.start.writeCommit (P.acc g) (v ||| BitVec.ofNat 32 (2 ^ 2)) = s.start.commitAtOnce (P.acc g) :=
      Mach.writeCommit_now g.isLt hpg h0 h1 h2 hrun
    have hcopy := (s.start.commitAtOnce_acc g).trans (s.start.copyShadows_acc g.isLt)
    refine ⟨_, commitCommand g.isLt h (hw.trans hcopy) rfl, ?_, fun off ho => ?_, fun pk off ho hpk => ?_, rfl, rfl, rfl, rfl⟩
    · simp only [Mach.act, Mach.rd, F.ACC_LIMITS_DEPTH, Mach.word_setWord_same]
      exact bits_copied (by decide)
    · exact Mach.word_setWord_off (off := 0x84C) _ _ (by decide) (by omega) (.inr (by omega))
    · exact Mach.word_setWord_off (off := 0x84C) _ _ (by decide) ho (.inl hpk)
  case line =>
    intro s p g v h hrun hv
    have h0 : bit (v ||| BitVec.ofNat 32 (2 ^ 0)).toNat 0 = true := by rw [bit_or_two_pow v 0 ⟨0, by omega⟩]; simp
    have h1 : bit (v ||| BitVec.ofNat 32 (2 ^ 0)).toNat 1 = false := by
      rw [bit_or_two_pow v 1 ⟨0, by omega⟩, bit_of_bits_eq_zero hv (by omega) (by omega)]; rfl
    have h2 : bit (v ||| BitVec.ofNat 32 (2 ^ 0)).toNat 2 = false := by
      rw [bit_or_two_pow v 2 ⟨0, by omega⟩, bit_of_bits_eq_zero hv (by omega) (by omega)]; rfl
    exact commitCommand g.isLt h (Mach.writeCommit_line g.isLt hpg h0 h1 h2 hrun) rfl
  case deal =>
    intro s p g v h hhand hb0 hb2
    have h0 : bit (v ||| BitVec.ofNat 32 (2 ^ 1)).toNat 0 = false := by rw [bit_or_two_pow v 0 ⟨1, by omega⟩, hb0]; rfl
    have h1 : bit (v ||| BitVec.ofNat 32 (2 ^ 1)).toNat 1 = true := by rw [bit_or_two_pow v 1 ⟨1, by omega⟩]; simp
    have h2 : bit (v ||| BitVec.ofNat 32 (2 ^ 1)).toNat 2 = false := by rw [bit_or_two_pow v 2 ⟨1, by omega⟩, hb2]; rfl
    exact commitCommand g.isLt h (Mach.writeCommit_deal g.isLt hpg h0 h1 h2 hhand) rfl

/-! ### Windows (R104, R105) -/

/-- Refutes O15: a lower WIN_DATA word of page VC waits only while INDEX lies inside the array; with INDEX 16, the first beyond it, the
write sets RANGE_ERR in WIN_CTRL (0x208) and keeps no word. -/
theorem not_windowCommands : ¬ Obligations.WindowCommands := by
  intro h
  obtain ⟨-, -, -, hlower⟩ := h
  have heq := hlower { pending := [], m := inService.setWord (P.vc 0) 0x204 16 } .b 0 0 0 (by decide +kernel) (by decide +kernel) rfl
  exact absurd (congrArg (wordAfter · (P.vc 0) 0x208) heq) (by decide +kernel)

/-! ### Semaphores (R121) -/

theorem portNo_lt (p : Port) : portNo p < 2 := by cases p <;> decide

theorem rowOf_claim (n : Fin 64) : (rowOf (pageKey 14 0x01) (0x040 + 4 * n)).isSome = true := by revert n; decide

/-- A write to CLAIMn in the primary segment is a claim (R121). -/
theorem exec_semClaim {s : State} {p : Port} {n : Fin 64} (v : Word) (h : s.start.writable p 14 0x01 (0x040 + 4 * n) = true) :
    exec (.semClaim p n v) s = .next (s.settled (s.start.semClaim (portNo p) n (bits v.toNat 1 0))) := by
  have hview := Mach.viewOf_of_takes (Mach.takes_of_writable h)
  have heff := effect_globalWrite (v := v) h (by decide) (by omega) (by omega) (by omega) (rowOf_claim n) (by omega)
  have hn : (0x040 + 4 * (n : Nat) - 0x040) / 4 = n := by omega
  have hw : s.start.globalWrite (portNo p) (pageKey 14 0x01) (0x040 + 4 * n) v = s.start.semClaim (portNo p) n (bits v.toNat 1 0) := by
    unfold Mach.globalWrite
    rw [if_pos (show pageKey 14 0x01 = P.sem from rfl), if_pos (by omega), hview, hn]
    rfl
  rw [hw] at heff
  exact heff

namespace Mach

/-- The outcomes of a claim as R121 lists them. -/
theorem semClaim_eq (m : Mach) (p n c : Nat) : m.semClaim p n c =
    if c = p + 1 then
      if m.owner n = 0 then
        if m.alive p = true then m.wr P.sem (F.SEM_OWNER_OWNER.nth n) (p + 1) else (m.inc P.sem F.ERR_COUNT_COUNT).raise P.ports 9
      else m
    else if c = 0 ∧ m.owner n = p + 1 then m.wr P.sem (F.SEM_OWNER_OWNER.nth n) 0
    else m.inc P.sem F.ERR_COUNT_COUNT := by
  unfold semClaim
  by_cases hc : c = p + 1
  · by_cases ho : m.owner n = 0 <;> simp [hc, ho, errCount]
  · simp [hc, errCount]

theorem owner_wr_same (m : Mach) (n v : Nat) : (m.wr P.sem (F.SEM_OWNER_OWNER.nth n) v).owner n = v % 4 :=
  m.rd_wr_same P.sem v (f := F.SEM_OWNER_OWNER.nth n) (Nat.zero_le 1) (show 1 < 32 by decide)

theorem owner_wr_ne (m : Mach) {n k : Nat} (v : Nat) (hn : n < 64) (hk : k < 64) (h : k ≠ n) :
    (m.wr P.sem (F.SEM_OWNER_OWNER.nth n) v).owner k = m.owner k := by
  have hoff : ∀ i, (F.SEM_OWNER_OWNER.nth i).off = 0x140 + i * 4 := fun _ => rfl
  exact m.rd_wr_off v (by rw [hoff]; omega) (by rw [hoff]; omega) (.inr (by rw [hoff, hoff]; omega))

/-- A write to a global page leaves the part in one segment. -/
theorem oneSegment_wr_global (m : Mach) {pg : Nat} {f : Field} (v : Nat) (hp : pg < 256) (hf : f.off < 4096) :
    oneSegment (m.wr (pageKey 14 pg) f v) = oneSegment m := by
  have hring : ∀ t, t < 8 → (m.wr (pageKey 14 pg) f v).rd (P.ring t) F.RING_STAT_OUTSIDE = m.rd (P.ring t) F.RING_STAT_OUTSIDE :=
    fun t ht => m.rd_wr_off v hf (by decide) (.inl (by simp only [P.ring, pageKey]; omega))
  have hdecl : ∀ t, t < 8 → (m.wr (pageKey 14 pg) f v).rd (P.decl t) F.DECL_ROLE_ROLE = m.rd (P.decl t) F.DECL_ROLE_ROLE :=
    fun t ht => m.rd_wr_off v hf (by decide) (.inl (by simp only [P.decl, pageKey]; omega))
  rw [Bool.eq_iff_iff, oneSegment_iff, oneSegment_iff, wr_viewOf]
  refine and_congr_right fun _ => forall₂_congr fun t ht => ?_
  rw [flag, hring t ht, hdecl t ht]
  rfl

theorem heldAcc_of_takes {m : Mach} {p : Port} {tf pg off : Nat} (h : m.takes p tf pg off = true) : m.heldAcc = [] := by
  simp only [takes, Bool.and_eq_true, Bool.not_eq_true'] at h
  obtain ⟨⟨⟨⟨hheld, _⟩, _⟩, _⟩, _⟩ := h
  exact List.isEmpty_iff.1 hheld

/-- Settling in one segment keeps the owners of semaphores. -/
theorem owner_settle {m : Mach} (hheld : m.heldAcc = []) (hone : oneSegment m = true) {n : Nat} (hn : n < 64) :
    m.settle.owner n = m.owner n := by
  refine (sameBut_settle hheld hone).rd (f := F.SEM_OWNER_OWNER.nth n) ?_ ?_
  · have hoff : (F.SEM_OWNER_OWNER.nth n).off = 0x140 + n * 4 := rfl
    omega
  · simp only [ShowsIslandOrRole, ShowsIsland, P.sem, P.island, P.mode, P.decl, pageKey]
    omega

end Mach

/-- Settles O17: a claim has the outcomes of `semClaim_eq`; the first of two holds the semaphore through settling, and the second meets it
held. -/
theorem semaphoreClaims : Obligations.SemaphoreClaims := by
  constructor
  · intro s p n v h
    rw [exec_semClaim v h, Mach.semClaim_eq]
  · intro s t n v w hone hA hfree halive hv hstep hB hw
    rw [exec_semClaim v hA, hv, Mach.semClaim_eq, if_pos (show 1 = portNo .a + 1 from rfl), if_pos hfree,
      if_pos (show s.start.alive (portNo .a) = true from halive)] at hstep
    have ht := Host.Outcome.next.inj hstep
    have howner : t.m.owner n = 1 := by
      rw [← ht, settled_m, Mach.owner_settle _ _ n.isLt, Mach.owner_wr_same]
      · rfl
      · rw [Mach.wr_heldAcc]
        exact Mach.heldAcc_of_takes (Mach.takes_of_writable hA)
      · rw [P.sem, Mach.oneSegment_wr_global _ _ (by decide) (by have hoff : (F.SEM_OWNER_OWNER.nth n).off = 0x140 + n * 4 := rfl; omega)]
        exact hone
    have hheld : t.start.owner n = 1 := howner
    refine ⟨howner, ?_⟩
    rw [exec_semClaim w hB, hw, Mach.semClaim_eq, if_pos (show 2 = portNo .b + 1 from rfl), if_neg (by rw [hheld]; decide)]

/-! ### Keepalive (R125, R126) -/

/-- The ALIVE bit of a port in PORTS.STAT. -/
def aliveField (p : Nat) : Field := if p = 0 then F.PORTS_STAT_ALIVE_A else F.PORTS_STAT_ALIVE_B

/-- The WAS_LOST bit of a port in PORTS.STAT. -/
def wasLostField (p : Nat) : Field := if p = 0 then F.PORTS_STAT_WAS_LOST_A else F.PORTS_STAT_WAS_LOST_B

theorem aliveField_eq {p : Nat} (hp : p < 2) : aliveField p = ⟨0x050, p, p, 0⟩ := by
  rcases (show p = 0 ∨ p = 1 by omega) with rfl | rfl <;> rfl

theorem wasLostField_eq {p : Nat} (hp : p < 2) : wasLostField p = ⟨0x050, p + 2, p + 2, 0⟩ := by
  rcases (show p = 0 ∨ p = 1 by omega) with rfl | rfl <;> rfl

namespace Mach

theorem alive_eq (m : Mach) (p : Nat) : m.alive p = m.flag P.ports (aliveField p) := rfl

/-- A one-bit field is read as it was written. -/
theorem flag_wr_same (m : Mach) (pk : Nat) {f : Field} (b : Bool) (h : f.hi = f.lo) (hk : f.hi < 32) :
    (m.wr pk f b.toNat).flag pk f = b := by
  have hone : f.hi + 1 - f.lo = 1 := by omega
  rw [flag, rd_wr_same _ _ _ (by omega) hk, Field.width, hone]
  cases b <;> rfl

theorem flag_wr_apart (m : Mach) (pk : Nat) {f f' : Field} (v : Nat) (h : f.lo ≤ f.hi) (hk : f.hi < 32) (ho : f'.off = f.off)
    (hd : f'.hi < f.lo ∨ f.hi < f'.lo) : (m.wr pk f v).flag pk f' = m.flag pk f' := by
  unfold flag
  rw [rd_wr_apart m pk v h hk ho hd]

theorem flag_wr_off (m : Mach) {pk pk' : Nat} {f f' : Field} (v : Nat) (h1 : f.off < 4096) (h2 : f'.off < 4096)
    (h : pk' ≠ pk ∨ f'.off ≠ f.off) : (m.wr pk f v).flag pk' f' = m.flag pk' f' := by
  unfold flag
  rw [rd_wr_off m v h1 h2 h]

theorem flag_raise_off (m : Mach) {pk pk' b : Nat} {f' : Field} (h2 : f'.off < 4096) (h : pk' ≠ pk ∨ f'.off ≠ 0x010) :
    (m.raise pk b).flag pk' f' = m.flag pk' f' := by
  unfold flag
  rw [rd_raise_off m h2 h]

theorem alive_wr_same (m : Mach) {p : Nat} (b : Bool) (hp : p < 2) : (m.wr P.ports (aliveField p) b.toNat).alive p = b := by
  rw [alive_eq, flag_wr_same] <;> rw [aliveField_eq hp]
  exact show p < 32 by omega

theorem alive_wr_other (m : Mach) {p : Nat} (v : Nat) (hp : p < 2) : (m.wr P.ports (aliveField p) v).alive (1 - p) = m.alive (1 - p) := by
  rw [alive_eq, alive_eq, flag_wr_apart] <;> rw [aliveField_eq hp]
  · exact show p < 32 by omega
  · rw [aliveField_eq (show 1 - p < 2 by omega)]
  · rw [aliveField_eq (show 1 - p < 2 by omega)]
    simp only
    omega

/-- The owners of semaphores stand in page SEM alone. -/
theorem owner_wr_ports (m : Mach) {f : Field} (v n : Nat) (hf : f.off < 4096) (hn : n < 64) : (m.wr P.ports f v).owner n = m.owner n :=
  m.rd_wr_off v hf (by simp only [Field.nth_off, F.SEM_OWNER_OWNER]; omega) (.inl (by decide))

theorem aliveField_off (p : Nat) : (aliveField p).off = 0x050 := by unfold aliveField; split <;> rfl

theorem wasLostField_off (p : Nat) : (wasLostField p).off = 0x050 := by unfold wasLostField; split <;> rfl

/-- A semaphore released where port `p` holds it. -/
def releaseSem (p : Nat) (m : Mach) (n : Nat) : Mach := if m.owner n = p + 1 then m.wr P.sem (F.SEM_OWNER_OWNER.nth n) 0 else m

theorem owner_releaseSem (p : Nat) (m : Mach) {n k : Nat} (hn : n < 64) (hk : k < 64) :
    (releaseSem p m n).owner k = if k = n ∧ m.owner k = p + 1 then 0 else m.owner k := by
  unfold releaseSem
  by_cases hkn : k = n
  · subst hkn
    by_cases ho : m.owner k = p + 1 <;> simp [ho, owner_wr_same]
  · have hne : ¬ (k = n ∧ m.owner k = p + 1) := fun h => hkn h.1
    rw [if_neg hne]
    split
    · exact m.owner_wr_ne 0 hn hk hkn
    · rfl

theorem owner_foldl_releaseSem (p : Nat) (l : List Nat) (hl : ∀ n ∈ l, n < 64) (m : Mach) {k : Nat} (hk : k < 64) :
    (l.foldl (releaseSem p) m).owner k = if k ∈ l ∧ m.owner k = p + 1 then 0 else m.owner k := by
  induction l generalizing m with
  | nil => simp
  | cons n l ih =>
    rw [List.foldl_cons, ih (fun x hx => hl x (List.mem_cons_of_mem _ hx)), owner_releaseSem p m (hl n List.mem_cons_self) hk]
    by_cases ho : m.owner k = p + 1
    · by_cases hkn : k = n
      · subst hkn
        simp [ho]
      · simp [ho, hkn]
    · simp [ho]

/-- The registers of page SEM. -/
def InSem (pk _off : Nat) : Prop := pk = P.sem

/-- What the release of semaphores leaves: every word outside page SEM, and all but the words. -/
theorem sameOutsideSem_foldl_releaseSem (p : Nat) (l : List Nat) (hl : ∀ n ∈ l, n < 64) (m : Mach) :
    SameBut InSem m (l.foldl (releaseSem p) m) ∧ (l.foldl (releaseSem p) m).dram = m.dram ∧
      (l.foldl (releaseSem p) m).tiles = m.tiles := by
  induction l generalizing m with
  | nil => exact ⟨.refl m, rfl, rfl⟩
  | cons n l ih =>
    have hn : n < 64 := hl n List.mem_cons_self
    obtain ⟨hsame, hdram, htiles⟩ := ih (fun x hx => hl x (List.mem_cons_of_mem _ hx)) (releaseSem p m n)
    have hstep : SameBut InSem m (releaseSem p m n) ∧ (releaseSem p m n).dram = m.dram ∧
        (releaseSem p m n).tiles = m.tiles := by
      unfold releaseSem
      split
      · have ho : (F.SEM_OWNER_OWNER.nth n).off < 4096 := by simp only [Field.nth_off, F.SEM_OWNER_OWNER]; omega
        exact ⟨sameBut_wr (C := InSem) ho rfl m 0, rfl, rfl⟩
      · exact ⟨.refl m, rfl, rfl⟩
    exact ⟨hstep.1.trans hsame, hdram.trans hstep.2.1, htiles.trans hstep.2.2⟩

/-- What the end of a port's window does once its clock stands there (R126). -/
theorem keepaliveExpiry_due {m : Mach} {p : Nat} (hd : m.declarer.isSome = true) (ha : m.alive p = true) (hend : m.kaEnd p ≤ m.kaClock) :
    m.keepaliveExpiry p = ((((List.range 64).foldl (releaseSem p) m).wr P.ports (aliveField p) 0).wr P.ports (wasLostField p) 1).raise
      P.ports p := by
  have hnone : m.declarer.isNone = false := by simpa using hd
  unfold keepaliveExpiry
  rw [if_neg (by simp [hnone, ha])]
  dsimp only
  rw [if_pos hend]
  rfl

end Mach

theorem exec_keepalive {s : State} {p : Port} (v : Word) (h : s.start.writable p 14 0x02 0x044 = true) :
    exec (.keepalive p v) s = .next (s.settled (s.start.keepalive (portNo p))) := by
  have hview := Mach.viewOf_of_takes (Mach.takes_of_writable h)
  have heff := effect_globalWrite (v := v) h (by decide) (by decide) (by decide) (by decide) (by decide) (by decide)
  have hw : s.start.globalWrite (portNo p) (pageKey 14 0x02) 0x044 v = s.start.keepalive (portNo p) := by
    unfold Mach.globalWrite Mach.writePorts
    rw [hview]
    rfl
  rw [hw] at heff
  exact heff

/-- Settles O19: KEEPALIVE sets one bit and one window's end; the end of a window releases the port's semaphores one by one. -/
theorem keepaliveCommands : Obligations.KeepaliveCommands := by
  constructor
  · intro s p v h
    have hp := portNo_lt p
    refine ⟨_, exec_keepalive v h, ?_⟩
    obtain ⟨a, ha⟩ : ∃ a, a = s.start.wr P.ports (aliveField (portNo p)) true.toNat := ⟨_, rfl⟩
    have hka : s.start.keepalive (portNo p) = if portNo p = 0 then
        { a with kaWinA := s.start.kaClock + s.start.kaWindow (portNo p) * 500000 }
        else { a with kaWinB := s.start.kaClock + s.start.kaWindow (portNo p) * 500000 } := by subst ha; rfl
    have halive : a.alive (portNo p) = true := ha ▸ s.start.alive_wr_same true hp
    have hother : a.alive (1 - portNo p) = s.start.alive (1 - portNo p) := ha ▸ s.start.alive_wr_other _ hp
    have howner : ∀ n, n < 64 → a.owner n = s.start.owner n := fun n hn =>
      ha ▸ s.start.owner_wr_ports _ n (by rw [Mach.aliveField_off]; decide) hn
    have hrest : a.dram = s.start.dram ∧ a.tiles = s.start.tiles ∧ a.clus = s.start.clus ∧ a.kaWinA = s.start.kaWinA ∧
        a.kaWinB = s.start.kaWinB := by subst ha; exact ⟨rfl, rfl, rfl, rfl, rfl⟩
    obtain ⟨hdram, htiles, hclus, hwinA, hwinB⟩ := hrest
    generalize s.start.kaClock + s.start.kaWindow (portNo p) * 500000 = n at hka ⊢
    cases p
    · rw [hka, if_pos (show portNo .a = 0 from rfl)]
      exact ⟨halive, rfl, hwinB, hother, howner, hdram, htiles, hclus⟩
    · rw [hka, if_neg (show portNo .b ≠ 0 by decide)]
      exact ⟨halive, rfl, hwinA, hother, howner, hdram, htiles, hclus⟩
  · intro s p hd ha hend
    have hp := portNo_lt p
    have heff : exec (.keepaliveExpiry p) s = .next (s.settled (s.start.keepaliveExpiry (portNo p))) := by cases p <;> rfl
    rw [Mach.keepaliveExpiry_due hd ha hend] at heff
    obtain ⟨b, hb⟩ : ∃ b, b = (List.range 64).foldl (Mach.releaseSem (portNo p)) s.start := ⟨_, rfl⟩
    rw [← hb] at heff
    have hl : ∀ n ∈ List.range 64, n < 64 := fun n => List.mem_range.1
    obtain ⟨hsame, hdram, htiles⟩ := Mach.sameOutsideSem_foldl_releaseSem (portNo p) _ hl s.start
    rw [← hb] at hsame hdram htiles
    have hoffA := Mach.aliveField_off
    have hoffL := Mach.wasLostField_off
    refine ⟨_, heff, ?_, fun n hn => ?_, ?_, ?_, ?_, by simpa using hdram, by simpa using htiles⟩
    · rw [Mach.alive_eq, Mach.flag_raise_off _ (by rw [hoffA]; decide) (.inr (by rw [hoffA]; decide)), Mach.flag_wr_apart, ← Mach.alive_eq]
      · exact b.alive_wr_same false hp
      · rw [wasLostField_eq hp]
      · rw [wasLostField_eq hp]; exact show portNo p + 2 < 32 by omega
      · rw [hoffA, hoffL]
      · rw [wasLostField_eq hp, aliveField_eq hp]; exact .inl (show portNo p < portNo p + 2 by omega)
    · have hraise : ∀ m : Mach, (m.raise P.ports (portNo p)).owner n = m.owner n := fun m =>
        m.rd_raise_off (by simp only [Field.nth_off, F.SEM_OWNER_OWNER]; omega) (.inl (by decide))
      rw [hraise, Mach.owner_wr_ports _ _ _ (by rw [hoffL]; decide) hn, Mach.owner_wr_ports _ _ _ (by rw [hoffA]; decide) hn, hb,
        Mach.owner_foldl_releaseSem _ _ hl _ hn]
      simp [hn]
    · exact Mach.raise_testBit _ _ (by omega)
    · have hlost : ∀ m : Mach, ((m.wr P.ports (wasLostField (portNo p)) 1).raise P.ports (portNo p)).flag P.ports
          (wasLostField (portNo p)) = true := fun m => by
        rw [Mach.flag_raise_off _ (by rw [hoffL]; decide) (.inr (by rw [hoffL]; decide))]
        exact m.flag_wr_same _ true (by rw [wasLostField_eq hp]) (by rw [wasLostField_eq hp]; exact show portNo p + 2 < 32 by omega)
      clear heff
      cases p <;> exact hlost _
    · have hp1 : 1 - portNo p < 2 := by omega
      rw [Mach.alive_eq, Mach.flag_raise_off _ (by rw [hoffA]; decide) (.inr (by rw [hoffA]; decide)), Mach.flag_wr_apart, ← Mach.alive_eq,
        Mach.alive_wr_other _ _ hp, Mach.alive_eq, Mach.alive_eq]
      · unfold Mach.flag
        rw [hsame.rd (by rw [hoffA]; decide) (show ¬ P.ports = P.sem by decide)]
      · rw [wasLostField_eq hp]
      · rw [wasLostField_eq hp]; exact show portNo p + 2 < 32 by omega
      · rw [hoffA, hoffL]
      · rw [wasLostField_eq hp, aliveField_eq hp1]; exact .inl (show 1 - portNo p < portNo p + 2 by omega)

end Sys2Proof.Machine

/-!
PROOFS. Control port A's commands and control port B's frames.
-/

namespace Sys2Proof.Machine

/-- A command's effect, where it is known. -/
theorem effect_next {s : State} {f : Mach → Mach} {a : Mach} (h : f s.start = a) : s.effect f = .next (s.settled a) :=
  congrArg (fun a => Host.Outcome.next (s.settled a)) h

/-! ### Control port A (R110, R111, R130) -/

namespace Mach

/-- A page that takes the access, awake, is read with no effect. -/
theorem readEffect_page {m : Mach} {e addr : Nat} (hi : m.islandOf e = none)
    (hs : m.asleep (readField addr) (fieldPage addr) = false)
    (ht : m.target e (readField addr) (fieldPage addr) (fieldOff addr) = .page) : m.readEffect e addr = m := by
  rw [readEffect, inSeg_primary hi, ht]
  exact accessWake_awake hs

theorem foreign_of_attached {m : Mach} {t : Nat} (h : m.attachedAt t = true) : m.foreign t = false := by
  simp only [attachedAt, Bool.and_eq_true, decide_eq_true_eq] at h
  simp [foreign, h.2]

/-- A request at the endpoint that carries port A goes to the pages behind it (R110, R111). -/
theorem bar0Request_attached {m : Mach} {t : Nat} (addr : Nat) (req : Bar0Req) (hwire : m.wireUp t = true) (hmode : m.hostMode t = 1)
    (hmem : m.memServed t = true) (hctrl : m.ctrlCapable t = true) (hi : m.islandOf t = none) (hatt : m.attachedAt t = true) :
    m.bar0Request t addr req false = match req with
      | .read n =>
        if ((List.range n).any fun i => m.waits t ((addr / 4 * 4 + 4 * i) % 2 ^ 24)) || m.portWaits 0
        then { m with heldAcc := m.heldAcc ++ [.pcieRead t (addr / 4 * 4) n] } else m.pcieRead0 t (addr / 4 * 4) n
      | .write ws => m.pcieWrite0 t (addr / 4 * 4) ws := by
  unfold bar0Request
  simp only [hwire, hmode, hmem, hctrl, viewed_primary hi, inSeg_primary hi, foreign_of_attached hatt, hatt]
  cases req <;> rfl

end Mach

/-- Settles O20: each command comes down to one access of a page. -/
theorem portACommands : Obligations.PortACommands := by
  refine ⟨fun s t addr hheld _ hwire hmode hmem hctrl hi hatt hw hs ht => ?_,
    fun s t addr v hheld _ hwire hmode hmem hctrl hi hatt hans h4 => ?_, fun s p v h hpath => ?_, fun s p v h => ?_⟩
  case refine_1 =>
    have hlt : addr.toNat / 4 * 4 % 16777216 = addr.toNat / 4 * 4 := Nat.mod_eq_of_lt (by omega)
    have heff : s.start.readEffect t (addr.toNat / 4 * 4) = s.start := by
      apply Mach.readEffect_page hi <;>
        simpa only [Mach.readField, Mach.fieldTile_aligned, Mach.fieldPage_aligned, Mach.fieldOff_aligned]
    have hreq := Mach.bar0Request_attached addr.toNat (.read 1) hwire hmode hmem hctrl hi hatt
    have hread : s.start.bar0Request t addr.toNat (.read 1) false =
        s.start.emitOut (.completion t [s.start.hostRead 0 t addr.toNat]) := by
      rw [hreq]
      simp [Mach.portWaits_of_none _ hheld, hlt, hw, Mach.pcieRead0, heff, Mach.hostRead_aligned]
    rw [← hread]
    rfl
  case refine_2 =>
    have hreq := Mach.bar0Request_attached addr.toNat (.write [(v, true)]) hwire hmode hmem hctrl hi hatt
    have halign : addr.toNat / 4 * 4 = addr.toNat := by omega
    have hlt : addr.toNat % 16777216 = addr.toNat := Nat.mod_eq_of_lt addr.isLt
    simp only [Mach.attachedAt, Bool.and_eq_true, decide_eq_true_eq] at hatt
    obtain ⟨hpath, htile⟩ := hatt
    have hentry : s.start.portEntry 0 = some t.val := by
      simp [Mach.portEntry, Mach.entryTile, hpath, htile, hans]
    have hwrite : s.start.bar0Request t addr.toNat (.write [(v, true)]) false = s.start.portWrite .a addr.toNat v := by
      rw [hreq]
      simp [Mach.pcieWrite0, Mach.portWrite, hentry, halign, hlt]
    rw [exec_registerWrite_eq, ← hwrite]
    rfl
  case refine_3 =>
    have hview := Mach.viewOf_of_takes (Mach.takes_of_writable h)
    have heff := effect_globalWrite (v := v ||| 1) h (by decide) (by decide) (by decide) (by decide) (by decide) (by decide)
    have hw : s.start.globalWrite (portNo p) (pageKey 14 0x02) 0x054 (v ||| 1) =
        ((s.start.wr P.ports F.PORTS_STAT_A_PATH 0).wr P.ports F.PORTS_STAT_A_TILE 0).raise P.ports 3 := by
      have hbit : bit (v ||| 1).toNat 0 = true := by simpa using bit_or_two_pow v 0 0
      calc _ = s.start.writePorts (portNo p) 0x054 (v ||| 1) := rfl
        _ = s.start.detach := by simp only [Mach.writePorts, hview, hbit]; rfl
        _ = _ := by simp [Mach.detach, hpath]
    rw [← hw, ← heff]
    rfl
  case refine_4 =>
    have heff := effect_globalWrite (v := v) h (by decide) (by decide) (by decide) (by decide) (by decide) (by decide)
    exact heff

/-! ### Control port B (R112–R117, R119) -/

namespace Mach

/-- The part with another state of a read that port B has under way. -/
def withReading (m : Mach) (r : Option (Nat × Nat)) (x : Option Word) : Mach := { m with cpb := { m.cpb with reading := r, result := x } }

section
variable (m : Mach) (r : Option (Nat × Nat)) (x : Option Word)

theorem vcRead_withReading (g off : Nat) : (m.withReading r x).vcRead g off = m.vcRead g off := by
  have hword : ∀ pk off, (m.withReading r x).word pk off = m.word pk off := fun _ _ => rfl
  have hruns : ∀ g v, (m.withReading r x).stepRuns g v = m.stepRuns g v := fun _ _ => rfl
  have hslice : ∀ v, (m.withReading r x).posSlice g v = m.posSlice g v := fun _ => rfl
  have hfactors : ∀ v s, (m.withReading r x).factors g v s = m.factors g v s := fun _ _ => rfl
  have hbaseline : ∀ v s, (m.withReading r x).baseline g v s = m.baseline g v s := fun _ _ => rfl
  simp only [vcRead, hword, hruns, hslice, hfactors, hbaseline]

theorem queRead_withReading (t off : Nat) : (m.withReading r x).queRead t off = m.queRead t off := by
  have hkit : (m.withReading r x).kit t = m.kit t := rfl
  have hqueue : ∀ q, (m.withReading r x).queue t q = m.queue t q := fun _ => rfl
  have hreap : ∀ q, (m.withReading r x).reaping t q = m.reaping t q := fun _ => rfl
  have hfree : ∀ q, (m.withReading r x).queFree t q = m.queFree t q := fun _ => rfl
  simp only [queRead, hkit, hqueue, hreap, hfree]

theorem repay_withReading (t n k : Nat) : repay t n k (m.withReading r x) = (repay t n k m).withReading r x := by
  induction k generalizing m with
  | zero => rfl
  | succ k ih =>
    have hpanic : (m.withReading r x).dramPanic t = m.dramPanic t := rfl
    have hrd : (m.withReading r x).rd (P.dram t) F.DRAM_REF_OWED_NOW = m.rd (P.dram t) F.DRAM_REF_OWED_NOW := rfl
    have htile : (m.withReading r x).tile t = m.tile t := rfl
    simp only [repay, hpanic, hrd, htile]
    split
    · rfl
    · rw [← ih]; rfl

theorem dramRegRead_withReading (t off : Nat) : (m.withReading r x).dramRegRead t off = m.dramRegRead t off := by
  have hcap : (m.withReading r x).dramCap t = m.dramCap t := rfl
  have hword : ∀ (a : Mach) pk off, (a.withReading r x).word pk off = a.word pk off := fun _ _ _ => rfl
  have htile : (m.withReading r x).tile t = m.tile t := rfl
  have hnow : (m.withReading r x).now t = m.now t := rfl
  simp only [dramRegRead, hcap, hword, htile, hnow, repay_withReading]

theorem measSettle_withReading (t o : Nat) : (m.withReading r x).measSettle t o = (m.measSettle t o).withReading r x := by
  have htile : (m.withReading r x).tile t = m.tile t := rfl
  have hnow : (m.withReading r x).now t = m.now t := rfl
  have hperiod : (m.withReading r x).measPeriod t o = m.measPeriod t o := rfl
  unfold measSettle
  simp only [htile, hnow, hperiod]
  cases (vget (m.tile t).meas o).next with
  | none => rfl
  | some p =>
    dsimp only
    split <;> rfl

theorem measRead_withReading (t off : Nat) : (m.withReading r x).measRead t off = m.measRead t off := by
  simp only [measRead, measSettle_withReading]
  rfl

theorem blockRead_withReading (pk off : Nat) : (m.withReading r x).blockRead pk off = m.blockRead pk off := by
  unfold blockRead
  dsimp only
  rw [vcRead_withReading, queRead_withReading, dramRegRead_withReading, measRead_withReading]
  split <;> rfl

/-- No register shows a read of port B that waits, nor its word. -/
theorem regRead_withReading (p pk off : Nat) : (m.withReading r x).regRead p pk off = m.regRead p pk off := by
  have hglobal : (m.withReading r x).globalRead p pk off = m.globalRead p pk off := rfl
  have hheader : (m.withReading r x).readHeader pk off = m.readHeader pk off := rfl
  have hword : (m.withReading r x).word pk off = m.word pk off := rfl
  have hinside : (m.withReading r x).winInside pk = m.winInside pk := rfl
  unfold regRead
  rw [blockRead_withReading, hglobal, hheader, hword, hinside]

theorem hostRead_withReading (p e addr : Nat) (h : m.islandOf e = none) : (m.withReading r x).hostRead p e addr = m.hostRead p e addr := by
  have hi : (m.withReading r x).islandOf e = none := h
  have htarget : ∀ tf pg off, (m.withReading r x).target e tf pg off = m.target e tf pg off := fun _ _ _ => rfl
  unfold hostRead
  rw [viewed_primary h, viewed_primary hi]
  simp only [htarget, regRead_withReading]

end

end Mach

/-- The CRC byte of a frame is right where it is the CRC of its bytes. -/
theorem toNat_crc8 (l : List Byte) : (BitVec.ofNat 8 (crc8 l)).toNat = crc8 l := by
  obtain ⟨_, _, _, _, _, hlt⟩ := portBCrcWorkedExample
  rw [BitVec.toNat_ofNat, Nat.mod_eq_of_lt (hlt l)]

namespace Mach

/-- A frame with the right CRC takes effect (R115, R116). -/
theorem cpbFrame_taken {m : Mach} (l : List Byte) (f : Mach → Mach) (h : m.cpb.usable = true) :
    m.cpbFrame l (BitVec.ofNat 8 (crc8 l)).toNat f = f m := by
  simp only [cpbFrame, h, toNat_crc8]; rfl

theorem cpbFrame_refused {m : Mach} {l : List Byte} {crc : Nat} (f : Mach → Mach) (h : m.cpb.usable = true) (hc : crc8 l ≠ crc) :
    m.cpbFrame l crc f = m.cpbCrcBad := by
  simp [cpbFrame, h, hc]

/-- The page that answers an access shows no address error. -/
theorem addrErr_page {m : Mach} {e addr : Nat} (hi : m.islandOf e = none)
    (ht : m.target e (readField addr) (fieldPage addr) (fieldOff addr) = .page) : m.addrErr e addr = false := by
  rw [addrErr, viewed_primary hi]
  simp [ht]

/-- A READ frame made at once is answered with its word. -/
theorem cpbRead_ready {m : Mach} {addr : Nat} (hu : m.cpb.usable = true) (hr : m.cpb.reading = none) (hw : m.cpb.writes = [])
    (hans : m.answers 0 = true) (hwait : m.waits 0 addr = false) (hi : m.islandOf 0 = none)
    (hs : m.asleep (readField addr) (fieldPage addr) = false)
    (ht : m.target 0 (readField addr) (fieldPage addr) (fieldOff addr) = .page) :
    m.cpbRead addr (BitVec.ofNat 8 (crc8 (0x0B#8 :: beBytes 3 addr))).toNat true false =
      (m.withReading none (some (m.hostRead 1 0 addr))).cpbAnswer false (m.hostRead 1 0 addr) := by
  have hread : (m.withReading (some (addr, 0)) none).hostRead 1 0 addr = m.hostRead 1 0 addr := hostRead_withReading _ _ _ _ _ _ hi
  have heffect : (m.withReading (some (addr, 0)) none).readEffect 0 addr = m.withReading (some (addr, 0)) none := readEffect_page hi hs ht
  have herr : (m.withReading (some (addr, 0)) none).addrErr 0 addr = false := addrErr_page hi ht
  have hans' : (m.withReading (some (addr, 0)) none).answers 0 = true := hans
  have hwait' : (m.withReading (some (addr, 0)) none).waits 0 addr = false := hwait
  have hstart : (m.modCpb fun s => { s with reading := some (addr, s.writes.length), result := none }) = m.withReading (some (addr, 0)) none := by
    simp [modCpb, withReading, hw]
  have hdone : (m.withReading (some (addr, 0)) none).cpbReadDone = m.withReading none (some (m.hostRead 1 0 addr)) := by
    unfold cpbReadDone
    rw [show (m.withReading (some (addr, 0)) none).cpb.reading = some (addr, 0) from rfl]
    simp only [hans', hwait', hread, herr, heffect]
    simp [modCpb, withReading]
  unfold cpbRead
  rw [cpbFrame_taken _ _ hu]
  simp only [hr, Option.isSome_none, Bool.false_eq_true, if_false, if_true, hstart, hdone]
  rfl

end Mach

/-- The STAT byte of control port B has its flags where R117 puts them. -/
theorem cpbStat_toNat (c : CpbSt) (reject : Bool) :
    (BitVec.ofNat 8 (Mach.cpbStat c false reject)).toNat =
      reject.toNat * 64 + c.crcErr.toNat * 32 + c.addrErr.toNat * 16 + c.blocked.toNat * 8 + c.wseq % 8 := by
  have hr := Bool.toNat_le reject
  have hc := Bool.toNat_le c.crcErr
  have ha := Bool.toNat_le c.addrErr
  have hb := Bool.toNat_le c.blocked
  rw [BitVec.toNat_ofNat, Mach.cpbStat, Bool.toNat_false]
  omega

/-- Settles O21: a frame the port takes goes to its command; what it reads is the word that the page shows. -/
theorem portBFrames : Obligations.PortBFrames := by
  refine ⟨fun s addr data hu => ?_, fun s addr hu hr hw hae hans hwait hi hs ht _ => ?_, fun s hu hr => ?_, fun s hu => ?_, fun s hu => ?_,
    fun s hu hi => ?_, fun s addr v rest hw hr hans hwait => ?_, fun s addr hr hans hwait hi hs ht => ?_, fun s addr data crc hu hi hcrc => ?_⟩
  case refine_1 =>
    refine effect_next (f := fun m => m.cpbWrite _ _ _) ((Mach.cpbFrame_taken _ _ hu).trans ?_)
    simp only [Mach.modCpb, BitVec.ofNat_toNat, BitVec.setWidth_eq]
  case refine_2 =>
    refine ⟨_, effect_next (f := fun m => m.cpbRead _ _ _ _) (Mach.cpbRead_ready hu hr hw hans hwait hi hs ht),
      ⟨_, rfl, ?_⟩, rfl, rfl, rfl, rfl, rfl, rfl, rfl⟩
    rw [cpbStat_toNat, show ∀ x, (s.start.withReading none x).cpb.addrErr = false from fun _ => hae]
    simp [Mach.withReading]
  case refine_3 =>
    have hfetch : s.start.cpbFetch (BitVec.ofNat 8 (crc8 [0x0D#8, 0, 0, 0])).toNat =
        s.start.cpbAnswer false (s.start.cpb.result.getD 0) := by
      rw [Mach.cpbFetch, Mach.cpbFrame_taken _ _ hu, hr]
      rfl
    refine ⟨_, effect_next (f := fun m => m.cpbFetch _) hfetch, ⟨_, rfl, ?_⟩, rfl, rfl, rfl⟩
    rw [cpbStat_toNat]
    have hr := Bool.toNat_le s.start.cpb.reject
    have hc := Bool.toNat_le s.start.cpb.crcErr
    have ha := Bool.toNat_le s.start.cpb.addrErr
    have hb := Bool.toNat_le s.start.cpb.blocked
    omega
  case refine_4 => exact effect_next (f := fun m => m.cpbLanes _ _ _) (Mach.cpbFrame_taken _ _ hu)
  case refine_5 => exact effect_next (f := fun m => m.cpbLanes _ _ _) (Mach.cpbFrame_taken _ _ hu)
  case refine_6 =>
    refine effect_next (f := Mach.cpbDiscard) ?_
    simp [Mach.cpbDiscard, hu, Mach.inSeg_primary hi]
  case refine_7 =>
    refine effect_next (f := Mach.cpbWriteApply) ?_
    simp [Mach.cpbWriteApply, hw, hr, hans, hwait, Mach.modCpb]
  case refine_8 =>
    refine effect_next (f := Mach.cpbReadDone) ?_
    simp [Mach.cpbReadDone, hr, hans, hwait, Mach.modCpb, Mach.readEffect_page hi hs ht]
  case refine_9 =>
    refine effect_next (f := fun m => m.cpbWrite _ _ _) ?_
    rw [Mach.cpbWrite, Mach.cpbFrame_refused _ hu (Ne.symm hcrc), Mach.cpbCrcBad, Mach.inSeg_primary hi, Mach.modCpb, Mach.inc_cpb]

end Sys2Proof.Machine

/-!
PROOFS. Power-on, package and tile resets, start-up and the election of a declarer.
-/

namespace Sys2Proof.Machine

namespace Mach

/-- What each step of a fold keeps, the fold keeps. -/
theorem foldl_keeps {α β : Type} (g : Mach → β) {f : Mach → α → Mach} (l : List α) (hf : ∀ m x, x ∈ l → g (f m x) = g m) (m : Mach) :
    g (l.foldl f m) = g m := by
  induction l generalizing m with
  | nil => rfl
  | cons x l ih => exact (ih (fun m y hy => hf m y (List.mem_cons_of_mem _ hy)) _).trans (hf m x List.mem_cons_self)

/-- What one step of a fold makes true and the others keep, holds after it. -/
theorem foldl_makes {α : Type} {P : Mach → Prop} {f : Mach → α → Mach} (l : List α) {x : α} (hx : x ∈ l) (hmake : ∀ m, P (f m x))
    (hkeep : ∀ m y, y ∈ l → P m → P (f m y)) (m : Mach) : P (l.foldl f m) := by
  have hall : ∀ (l : List α), (∀ m y, y ∈ l → P m → P (f m y)) → ∀ m, P m → P (l.foldl f m) := by
    intro l hl
    induction l with
    | nil => exact fun _ h => h
    | cons y l ih => exact fun m h => ih (fun m z hz => hl m z (List.mem_cons_of_mem _ hz)) _ (hl m y List.mem_cons_self h)
  induction l generalizing m with
  | nil => cases hx
  | cons y l ih =>
    rcases List.mem_cons.1 hx with rfl | hx
    · exact hall l (fun m z hz => hkeep m z (List.mem_cons_of_mem _ hz)) _ (hmake m)
    · exact ih hx (fun m z hz => hkeep m z (List.mem_cons_of_mem _ hz)) _

/-! ### Power-on and package reset (R55–R58) -/

/-- What a power-on reset makes of a tile: the levels at its inputs stay. -/
def resetTile (ts : TileSt) : TileSt :=
  { trig := ts.trig, gpioIn := ts.gpioIn, host := { perstLow := ts.host.perstLow },
    twc := { scl := ts.twc.scl, sda := ts.twc.sda, alertLow := ts.twc.alertLow } }

theorem nTiles_le (m : Mach) : m.nTiles ≤ 8 := by unfold nTiles; split <;> decide

theorem tile_map (m : Mach) (f : TileSt → TileSt) {t : Nat} (ht : t < 8) :
    vget (m.tiles.map f) t = f (m.tile t) := by
  simp [vget, tile, ht]

/-- The part as a power-on reset makes it, before the words that it keeps or writes. -/
def resetPart (m : Mach) : Mach :=
  { part := m.part, refLost := m.refLost, free := m.free, out := m.out, tiles := m.tiles.map resetTile,
    clus := m.clus.map fun c => { dlckIn := c.dlckIn, axis := { lim := c.axis.lim, drvFault := c.axis.drvFault } } }

/-- A power-on reset keeps RAIL_STAT of a tile and writes the cause. -/
def markReset (m : Mach) (cause : Word) (a : Mach) (t : Nat) : Mach :=
  (a.setWord (P.pwr t) 0x060 (m.word (P.pwr t) 0x060)).setWord (P.pwr t) 0x054 cause

theorem powerOn_eq (m : Mach) (pkg : Bool) :
    m.powerOn pkg = (List.range m.nTiles).foldl (m.markReset (if pkg then 2 else 1)) m.resetPart := rfl

theorem markReset_word_off (m : Mach) (cause : Word) (a : Mach) {t pk off : Nat} (ho : off < 4096) (h : pk ≠ P.pwr t) :
    (m.markReset cause a t).word pk off = a.word pk off := by
  unfold markReset
  rw [word_setWord_off _ _ (by decide) ho (.inl h), word_setWord_off _ _ (by decide) ho (.inl h)]

/-- What a power-on reset leaves: nothing but words of the pages PWR. -/
theorem powerOn_spec (m : Mach) (pkg : Bool) :
    (∀ t, t < 8 → ((m.powerOn pkg).tile t).life = .por) ∧
    (∀ t, t < m.nTiles → (m.powerOn pkg).word (P.pwr t) 0x054 = if pkg then 2 else 1) ∧ (m.powerOn pkg).part = m.part ∧
    (m.powerOn pkg).dram = [] ∧ (m.powerOn pkg).arr = [] ∧ (m.powerOn pkg).cpb.usable = false ∧ (m.powerOn pkg).jtag = {} ∧
    (∀ h, h < 16 → (m.powerOn pkg).handState h = 0) := by
  rw [powerOn_eq]
  generalize (if pkg then (2 : Word) else 1) = cause
  have hkeep : ∀ {β : Type} (g : Mach → β), (∀ (a : Mach) pk off w, g (a.setWord pk off w) = g a) →
      g ((List.range m.nTiles).foldl (m.markReset cause) m.resetPart) = g m.resetPart :=
    fun g hg => foldl_keeps g _ (fun _ _ _ => (hg _ _ _ _).trans (hg _ _ _ _)) _
  refine ⟨fun t ht => ?_, fun t ht => ?_, hkeep part fun _ _ _ _ => rfl, hkeep dram fun _ _ _ _ => rfl,
    hkeep arr fun _ _ _ _ => rfl, congrArg CpbSt.usable (hkeep cpb fun _ _ _ _ => rfl), hkeep jtag fun _ _ _ _ => rfl, fun h hh => ?_⟩
  · have htiles := hkeep tiles fun _ _ _ _ => rfl
    rw [tile, htiles]
    exact congrArg TileSt.life (tile_map m resetTile ht)
  · refine foldl_makes (P := fun a => a.word (P.pwr t) 0x054 = cause) _ (List.mem_range.2 ht)
      (fun a => word_setWord_same _ _ _ _) (fun a u _ ha => ?_) _
    by_cases hut : u = t
    · rw [hut]; exact word_setWord_same _ _ _ _
    · refine (markReset_word_off m cause a (by decide) ?_).trans ha
      simp only [P.pwr, pageKey]
      omega
  · refine (foldl_keeps (fun a => a.handState h) _ (fun a t ht => ?_) _).trans ?_
    · have htn := List.mem_range.1 ht
      have hn := m.nTiles_le
      have hoff : (F.MODE_HAND_STAT_STATE.nth h).off < 4096 := by rw [Field.nth_off]; simp only [F.MODE_HAND_STAT_STATE]; omega
      simp only [handState, rd]
      rw [markReset_word_off m cause a hoff]
      simp only [P.pwr, P.mode, pageKey]
      omega
    · have hzero : ∀ h : Fin 16, ({} : Mach).handState h = 0 := by decide +kernel
      exact hzero ⟨h, hh⟩

end Mach

/-- Settles O23: a long dip is a power-on reset, a short one nothing. -/
theorem powerOnAndPackageReset : Obligations.PowerOnAndPackageReset :=
  ⟨fun s => ⟨_, rfl, s.start.powerOn_spec false⟩, fun s => ⟨_, rfl, s.start.powerOn_spec true⟩, fun _ _ => rfl, fun _ => rfl⟩

/-! ### Start-up (R42, R56, R58) -/

namespace Mach

/-- The sequencer touches two words of its page PWR and its own step. -/
theorem seqKick_keeps {β : Type} (g : Mach → β) {t : Nat} (hword : ∀ a off w, off < 4096 → g (a.setWord (P.pwr t) off w) = g a)
    (hseq : ∀ a x, g (a.modTile t fun ts => { ts with seq := x }) = g a) (m : Mach) : g (m.seqKick t) = g m := by
  unfold seqKick
  split
  · rfl
  · split
    · exact (hword _ _ _ (by decide)).trans (hseq _ _)
    · split
      · exact (hword _ _ _ (by decide)).trans (hword _ _ _ (by decide))
      · rfl

/-- A view of a tile that its sequencer's step is no part of. -/
theorem tileView_modSeq {β : Type} (g : TileSt → β) (hg : ∀ ts x, g { ts with seq := x } = g ts) (m : Mach) (t u : Nat)
    (x : Option SeqStep) : g ((m.modTile t fun ts => { ts with seq := x }).tile u) = g (m.tile u) := by
  by_cases hut : u = t
  · subst hut
    by_cases hu : u < 8
    · rw [tile_modTile_same _ _ hu, hg]
    · rw [show (m.modTile u fun ts => { ts with seq := x }).tile u = m.tile u by simp [tile, modTile, vmod, hu]]
  · rw [tile_modTile_ne _ _ hut]

theorem seqKick_tileView {β : Type} (g : TileSt → β) (hg : ∀ ts x, g { ts with seq := x } = g ts) (m : Mach) (t u : Nat) :
    g ((m.seqKick t).tile u) = g (m.tile u) :=
  seqKick_keeps (fun a => g (a.tile u)) (fun a _ _ _ => congrArg g (a.setWord_tile ..)) (fun a x => tileView_modSeq g hg a t u x) m

/-- The start of tile `t` at the release (R56, R58). -/
def startTile (boot hmode : Nat) (m : Mach) (t : Nat) : Mach :=
  let m := m.modTile t fun ts => { ts with life := .starting, n := 0, sub := 0 }
  let m := m.wr (P.clk t) F.CLK_STAT_REF_OK 1
  let m := if t = boot && hmode ≠ 0 then (m.setReq t 4 true).setReq t 5 true else m
  m.seqKick t

/-- The part as the straps are taken. -/
def strapped (m : Mach) (boot hmode : Nat) (quad : Bool) : Mach :=
  (({ m with testHeld := false, refLost := false, cpb := { quad } }.wr P.pkg F.PKG_STRAPS_BOOT boot).wr P.pkg F.PKG_STRAPS_HMODE hmode).wrb
    P.pkg F.PKG_STRAPS_CPB_QUAD quad

theorem porRelease_held {m : Mach} (boot hmode : Nat) (quad testEn : Bool) (h : ∀ t, t < 8 → (m.tile t).life = .por) :
    m.porRelease boot hmode quad testEn = if testEn then { m with testHeld := true, jtag := {} }
      else (List.range (m.strapped boot hmode quad).nTiles).foldl (startTile boot hmode) (m.strapped boot hmode quad) := by
  have hall : (List.range 8).all (fun t => decide ((m.tile t).life = .por)) = true := by simpa using h
  simp only [porRelease, hall, Bool.not_true, Bool.false_eq_true, if_false]
  rfl

/-- Starting a tile touches words of its pages CLK and PWR and the tile's own state. -/
theorem startTile_keeps {β : Type} (g : Mach → β) {t : Nat} (boot hmode : Nat)
    (hword : ∀ a pk off w, off < 4096 → pk = P.clk t ∨ pk = P.pwr t → g (a.setWord pk off w) = g a)
    (htile : ∀ a f, g (a.modTile t f) = g a) (m : Mach) : g (startTile boot hmode m t) = g m := by
  unfold startTile
  refine (seqKick_keeps g (fun a off w ho => hword a _ off w ho (.inr rfl)) (fun a _ => htile a _) _).trans ?_
  have hstat : ∀ f, g ((m.modTile t f).wr (P.clk t) F.CLK_STAT_REF_OK 1) = g m :=
    fun f => (hword _ _ _ _ (by decide) (.inl rfl)).trans (htile m f)
  split
  · exact ((hword _ _ _ _ (by decide) (.inr rfl)).trans (hword _ _ _ _ (by decide) (.inr rfl))).trans (hstat _)
  · exact hstat _

/-- What of a tile the start sets. -/
def lifeAndTime (ts : TileSt) : Life × Nat × Nat := (ts.life, ts.n, ts.sub)

theorem startTile_same (boot hmode : Nat) (m : Mach) {t : Nat} (ht : t < 8) :
    lifeAndTime ((startTile boot hmode m t).tile t) = (.starting, 0, 0) := by
  unfold startTile
  rw [seqKick_tileView lifeAndTime fun _ _ => rfl]
  split <;> simp only [setReq, setWord_tile, wr_tile, tile_modTile_same _ _ ht, lifeAndTime]

theorem startTile_other (boot hmode : Nat) (m : Mach) {t u : Nat} (h : u ≠ t) :
    lifeAndTime ((startTile boot hmode m t).tile u) = lifeAndTime (m.tile u) := by
  unfold startTile
  rw [seqKick_tileView lifeAndTime fun _ _ => rfl]
  split <;> simp only [setReq, setWord_tile, wr_tile, tile_modTile_ne _ _ h]

/-- The words of the global pages stand apart from those of the tiles. -/
theorem globalPage_ne {t pg pg' : Nat} (ht : t < 8) (hp : pg < 256) : pageKey 14 pg' ≠ pageKey t pg := by
  simp only [pageKey]; omega

theorem strapBoot_shown (m : Mach) (boot : Fin 8) (hmode quad : Nat) :
    (((m.wr P.pkg F.PKG_STRAPS_BOOT boot).wr P.pkg F.PKG_STRAPS_HMODE hmode).wr P.pkg F.PKG_STRAPS_CPB_QUAD quad).rd P.pkg
      F.PKG_STRAPS_BOOT = boot := by
  have hw : boot.val % 2 ^ F.PKG_STRAPS_BOOT.width = boot := Nat.mod_eq_of_lt boot.isLt
  rw [rd_wr_apart (f := F.PKG_STRAPS_CPB_QUAD) (f' := F.PKG_STRAPS_BOOT) _ _ _ (by decide) (by decide) rfl (by decide),
    rd_wr_apart (f := F.PKG_STRAPS_HMODE) (f' := F.PKG_STRAPS_BOOT) _ _ _ (by decide) (by decide) rfl (by decide),
    rd_wr_same (f := F.PKG_STRAPS_BOOT) _ _ _ (by decide) (by decide), hw]

theorem strapHmode_shown (m : Mach) (hmode : Fin 4) (quad : Nat) :
    ((m.wr P.pkg F.PKG_STRAPS_HMODE hmode).wr P.pkg F.PKG_STRAPS_CPB_QUAD quad).rd P.pkg F.PKG_STRAPS_HMODE = hmode := by
  have hw : hmode.val % 2 ^ F.PKG_STRAPS_HMODE.width = hmode := Nat.mod_eq_of_lt hmode.isLt
  rw [rd_wr_apart (f := F.PKG_STRAPS_CPB_QUAD) (f' := F.PKG_STRAPS_HMODE) _ _ _ (by decide) (by decide) rfl (by decide),
    rd_wr_same (f := F.PKG_STRAPS_HMODE) _ _ _ (by decide) (by decide), hw]

/-- The release without TEST_EN starts every tile of the part and takes the straps (R42, R56). -/
theorem porRelease_spec {m : Mach} (boot : Fin 8) (hmode : Fin 4) (quad : Bool) (h : ∀ t, t < 8 → (m.tile t).life = .por) :
    let a := m.porRelease boot hmode quad false
    a.rd P.pkg F.PKG_STRAPS_BOOT = boot ∧ a.rd P.pkg F.PKG_STRAPS_HMODE = hmode ∧ a.flag P.pkg F.PKG_STRAPS_CPB_QUAD = quad ∧
    a.cpb = { quad := quad } ∧
    (∀ t, t < m.nTiles → (a.tile t).life = .starting ∧ (a.tile t).n = 0 ∧ (a.tile t).sub = 0) ∧
    a.dram = m.dram ∧ a.clus = m.clus := by
  intro a
  have ha : a = (List.range m.nTiles).foldl (startTile boot hmode) (m.strapped boot hmode quad) := porRelease_held _ _ _ _ h
  have hlt : ∀ t, t ∈ List.range m.nTiles → t < 8 := fun t ht => by have := m.nTiles_le; have := List.mem_range.1 ht; omega
  have hword : a.word P.pkg 0x044 = (m.strapped boot hmode quad).word P.pkg 0x044 := by
    rw [ha]
    refine foldl_keeps (fun a => a.word P.pkg 0x044) _ (fun a t ht => ?_) _
    refine startTile_keeps (fun a => a.word P.pkg 0x044) boot hmode (fun a pk off w ho hpk => ?_) (fun _ _ => rfl) a
    refine a.word_setWord_off w ho (by decide) (.inl ?_)
    rcases hpk with rfl | rfl <;> exact globalPage_ne (hlt t ht) (by decide)
  have hkeep : ∀ {β : Type} (g : Mach → β), (∀ a pk off w, g (a.setWord pk off w) = g a) → (∀ a t f, g (a.modTile t f) = g a) →
      g a = g (m.strapped boot hmode quad) := fun g hw ht => by
    rw [ha]
    exact foldl_keeps g _ (fun a t _ => startTile_keeps g boot hmode (fun a pk off w _ _ => hw a pk off w) (fun a f => ht a t f) a) _
  have hrd : ∀ {f : Field}, f.off = 0x044 → a.rd P.pkg f = (m.strapped boot hmode quad).rd P.pkg f := fun hf => by
    rw [rd, rd, hf, hword]
  refine ⟨(hrd rfl).trans ?_, (hrd rfl).trans ?_, ?_, hkeep cpb (fun _ _ _ _ => rfl) fun _ _ _ => rfl, fun t ht => ?_,
    hkeep dram (fun _ _ _ _ => rfl) fun _ _ _ => rfl, hkeep clus (fun _ _ _ _ => rfl) fun _ _ _ => rfl⟩
  · rw [strapped]
    exact strapBoot_shown _ boot _ _
  · rw [strapped]
    exact strapHmode_shown _ hmode _
  · rw [flag_eq_decide rfl, hrd rfl, ← flag_eq_decide rfl, strapped]
    exact flag_wr_same _ _ _ rfl (by decide)
  · have hstart : lifeAndTime (a.tile t) = (.starting, 0, 0) := by
      rw [ha]
      refine foldl_makes (P := fun a => lifeAndTime (a.tile t) = (.starting, 0, 0)) _ (List.mem_range.2 ht)
        (fun a => startTile_same _ _ _ (hlt t (List.mem_range.2 ht))) (fun a u hu h => ?_) _
      by_cases hut : t = u
      · subst hut; exact startTile_same _ _ _ (hlt t hu)
      · rw [startTile_other _ _ _ hut, h]
    simpa [lifeAndTime] using hstart

/-- The tile's part in the ports becoming usable (R58). -/
def answerTile (m : Mach) (t : Nat) : Mach :=
  (m.modTile t fun ts => { ts with life := if ts.life = .starting then .up else ts.life }).seqKick t

theorem answerTile_same (m : Mach) {t : Nat} (ht : t < 8) :
    ((answerTile m t).tile t).life = if (m.tile t).life = .starting then .up else (m.tile t).life := by
  unfold answerTile
  rw [seqKick_tileView TileSt.life fun _ _ => rfl, tile_modTile_same _ _ ht]

theorem answerTile_other (m : Mach) {t u : Nat} (h : u ≠ t) : ((answerTile m t).tile u).life = (m.tile u).life := by
  unfold answerTile
  rw [seqKick_tileView TileSt.life fun _ _ => rfl, tile_modTile_ne _ _ h]

/-- The ports becoming usable starts the pages of every tile that was starting (R58). -/
theorem portsUsable_spec {m : Mach} (hu : m.cpb.usable = false) (h0 : (m.tile 0).life = .starting) :
    m.portsUsable.cpb = { m.cpb with usable := true } ∧
    (∀ t, t < m.nTiles → (m.tile t).life = .starting → (m.portsUsable.tile t).life = .up) ∧
    m.portsUsable.dram = m.dram ∧ m.portsUsable.clus = m.clus := by
  have heq : m.portsUsable = (List.range m.nTiles).foldl answerTile { m with cpb := { m.cpb with usable := true } } := by
    have hpor : ((m.tile 0).life = .por) ↔ False := by simp [h0]
    unfold portsUsable
    rw [hu, if_neg (by simp [hpor])]
    rfl
  have hkeep : ∀ {β : Type} (g : Mach → β), (∀ a pk off w, g (a.setWord pk off w) = g a) → (∀ a t f, g (a.modTile t f) = g a) →
      g m.portsUsable = g { m with cpb := { m.cpb with usable := true } } := fun g hw ht => by
    rw [heq]
    exact foldl_keeps g _ (fun a t _ => (seqKick_keeps g (fun a off w _ => hw a _ off w) (fun a _ => ht a t _) _).trans (ht a t _)) _
  refine ⟨hkeep cpb (fun _ _ _ _ => rfl) fun _ _ _ => rfl, fun t ht hl => ?_, hkeep dram (fun _ _ _ _ => rfl) fun _ _ _ => rfl,
    hkeep clus (fun _ _ _ _ => rfl) fun _ _ _ => rfl⟩
  have ht8 : t < 8 := lt_of_lt_of_le ht m.nTiles_le
  have hup : ∀ (l : List Nat) (a : Mach), (a.tile t).life = .up ∨ (t ∈ l ∧ (a.tile t).life = .starting) →
      ((l.foldl answerTile a).tile t).life = .up := by
    intro l
    induction l with
    | nil => simp
    | cons u l ih =>
      intro a h
      refine ih _ ?_
      by_cases hut : t = u
      · subst hut
        left
        rw [answerTile_same a ht8]
        rcases h with h | ⟨_, h⟩ <;> simp [h]
      · rw [answerTile_other a hut]
        simpa [hut] using h
  rw [heq]
  exact hup _ _ (.inr ⟨List.mem_range.2 ht, hl⟩)

end Mach

/-- Settles O24: the release and the ports becoming usable start the tiles one by one. -/
theorem startUpEvents : Obligations.StartUpEvents := by
  refine ⟨fun s boot hmode quad h => ⟨_, rfl, Mach.porRelease_spec boot hmode quad h⟩,
    fun s boot hmode quad h => effect_next (f := fun m => m.porRelease _ _ _ _) (Mach.porRelease_held _ _ _ _ h),
    fun s t h => effect_next (f := fun m => m.pllLock _) (if_pos h), fun s t pass h => effect_next (f := fun m => m.selfTest _ _) (if_pos h),
    fun s hu h0 => ⟨_, rfl, Mach.portsUsable_spec hu h0⟩⟩

end Sys2Proof.Machine

/-!
PROOFS. Tile resets, and the election of a declarer.
-/

namespace Sys2Proof.Machine

/-! ### Tile reset (R62, R69, R83) -/

namespace Mach

theorem word_resetPage_other (m : Mach) {pk pk' off : Nat} (ho : off < 4096) (h : pk' ≠ pk) :
    (m.resetPage pk).word pk' off = m.word pk' off := by
  refine Store.get_filter _ _ (fun k => !(pk * 4096 ≤ k && k < pk * 4096 + 4096)) ?_
  simp only [Bool.not_eq_true', Bool.and_eq_false_iff, decide_eq_false_iff_not]
  omega

/-- The last part of a tile reset: what the tile's state and its pages PWR, TB and the control pages become. -/
def endTileReset (m : Mach) (t : Nat) : Mach :=
  let m := ((m.wr (P.pwr t) F.PWR_DOM_STAT_ON 3).wr (P.pwr t) F.PWR_DOM_STAT_SEQ_BUSY 0).modTile t fun ts =>
    { ts with life := .reset, seq := none, sht0 := .off, sht1 := .off, dormant := false, held := [], islLog := [],
              ring := { ts.ring with view := [], rate := none, wdFails := 0, missNow := false } }
  let m := ((m.unsync t).wr (P.tb t) F.TB_STAT_MASTER 0).wrb (P.tb t) F.TB_STAT_DEGRADED m.refLost
  m.resetCtrl t

theorem tileReset_ends {m : Mach} {t : Nat} (causes : Nat) (hp : m.present t = true) (hl : (m.tile t).life = .up) :
    ∃ a : Mach, m.tileReset t causes = a.endTileReset t := by
  have ht : t < 8 := lt_of_lt_of_le (of_decide_eq_true hp) m.nTiles_le
  unfold tileReset
  generalize hm : (m.modTile t fun ts => { ts with rstDue := ts.rstDue &&& (255 ^^^ causes) }) = m1
  have hp1 : m1.present t = true := by rw [← hm]; exact hp
  have hl1 : (m1.tile t).life = .up := by rw [← hm, tile_modTile_same _ _ ht]; exact hl
  dsimp only
  rw [hl1, hp1]
  exact ⟨_, rfl⟩

theorem tile_unsync (m : Mach) (t u : Nat) : (m.unsync t).tile u = m.tile u := by
  unfold unsync; split <;> rfl

theorem word_unsync_off (m : Mach) {t pk off : Nat} (ho : off < 4096) (h : pk ≠ P.tb t) : (m.unsync t).word pk off = m.word pk off := by
  unfold unsync
  split
  · rw [word_raise_off _ ho (.inl h), word_wr_off _ _ (by decide) ho (.inl h)]
  · rfl

theorem endTileReset_tile (m : Mach) {t : Nat} (ht : t < 8) :
    ((m.endTileReset t).tile t).life = .reset ∧ ((m.endTileReset t).tile t).seq = none ∧ ((m.endTileReset t).tile t).sht0 = .off ∧
    ((m.endTileReset t).tile t).sht1 = .off ∧ ((m.endTileReset t).tile t).dormant = false := by
  have hpage : ∀ (m : Mach) pk, (m.resetPage pk).tile t = m.tile t := fun _ _ => rfl
  unfold endTileReset resetCtrl
  simp only [wr_tile, setWord_tile, wrb_tile, hpage, tile_unsync, tile_modTile_same _ _ ht, and_self]

theorem endTileReset_domains (m : Mach) (t : Nat) : (m.endTileReset t).rd (P.pwr t) F.PWR_DOM_STAT_ON = 3 := by
  have h1 : P.pwr t ≠ P.tile t := by simp [P.pwr, P.tile, pageKey]
  have h2 : P.pwr t ≠ P.clk t := by simp [P.pwr, P.clk, pageKey]
  have h3 : P.pwr t ≠ P.tb t := by simp [P.pwr, P.tb, pageKey]
  have h4 : P.pwr t ≠ P.decl t := by simp [P.pwr, P.decl, pageKey]
  unfold endTileReset resetCtrl
  dsimp only
  rw [rd_wr_off _ _ (by decide) (by decide) (.inl h4), rd_setWord_off _ _ (by decide) (by decide) (.inl h2), rd,
    word_resetPage_other _ (by decide) h4, word_resetPage_other _ (by decide) h2, word_resetPage_other _ (by decide) h1, wrb,
    word_wr_off _ _ (by decide) (by decide) (.inl h3), word_wr_off _ _ (by decide) (by decide) (.inl h3),
    word_unsync_off _ (by decide) h3, modTile_word, ← rd,
    rd_wr_apart (f := F.PWR_DOM_STAT_SEQ_BUSY) (f' := F.PWR_DOM_STAT_ON) _ _ _ (by decide) (by decide) rfl (by decide), rd_wr_same _ _ _ (by decide) (by decide)]
  rfl

end Mach

/-- A field of a written word without the bit that is set in it. -/
theorem bits_or_two_pow (v : Word) (k : Fin 32) {hi lo : Nat} (h : k.val < lo ∨ hi < k.val) :
    bits (v ||| BitVec.ofNat 32 (2 ^ k.val)).toNat hi lo = bits v.toNat hi lo := by
  apply Nat.eq_of_testBit_eq
  intro i
  have hbit := bit_or_two_pow v (lo + i) k
  simp only [bit] at hbit
  simp only [testBit_bits, hbit]
  by_cases hlt : i < hi + 1 - lo
  · simp [show lo + i ≠ k.val by omega]
  · simp [hlt]

/-- A write of TILE_RST is judged by its key. -/
theorem tileRst {s : State} {p : Port} {t : Fin 8} {v : Word} {a : Mach} (h : s.start.writable p t 0x01 0x058 = true)
    (ha : (if bits v.toNat 31 16 = 0x5A1E then s.start.modTile t fun ts => { ts with rstDue := ts.rstDue ||| 4 }
      else s.start.errCount (P.pwr t)) = a) : exec (.tileRstGo p t v) s = .next (s.settled a) := by
  have hkey : bits (v ||| 1).toNat 31 16 = bits v.toNat 31 16 := bits_or_two_pow v 0 (.inl (by decide))
  have hbit : bit (v ||| 1).toNat 0 = true := by simpa using bit_or_two_pow v 0 0
  refine effect_blockWrite h (by omega) (by decide) (by decide) (by decide) (by decide) (by decide) (by omega) ?_
    (Mach.asleep_never (by decide))
  have hwrite : s.start.writePwr t 0x058 (v ||| 1) = some a := by
    simp only [Mach.writePwr, hbit, hkey, Bool.not_true, Bool.false_eq_true, if_false, ha]
  rw [Mach.blockWrite, tileOf_pageKey _ _ (by decide), pageOf_pageKey _ _ (by decide), blockCode_tilePage _ (by omega)]
  exact hwrite

/-- Settles O26: TILE_RST notes its cause; the reset ends in `endTileReset` whatever it met. -/
theorem tileResetCommands : Obligations.TileResetCommands := by
  refine ⟨fun s p t v h hkey => ?_, fun s p t v h hkey => ?_, fun s t hp hl hdue hd => ?_,
    fun s t hl => effect_next (f := fun m => m.tileRelease _) ?_, fun s t hl => effect_next (f := fun m => m.tilePagesAnswer _) (if_pos hl)⟩
  case refine_1 =>
    exact tileRst (a := s.start.modTile t fun ts => { ts with rstDue := ts.rstDue ||| 4 }) h (if_pos hkey)
  case refine_2 => exact tileRst h (if_neg hkey)
  case refine_3 =>
    obtain ⟨a, ha⟩ := Mach.tileReset_ends (s.start.tile t).rstDue hp hl
    have hend : s.start.tileResetDue t = a.endTileReset t := by
      simp [Mach.tileResetDue, hdue, hl, hd, ha]
    refine ⟨_, effect_next (f := fun m => m.tileResetDue _) hend, ?_⟩
    obtain ⟨h1, h2, h3, h4, h5⟩ := a.endTileReset_tile t.isLt
    exact ⟨h1, a.endTileReset_domains t, h2, h3, h4, h5⟩
  case refine_4 =>
    rw [Mach.tileRelease, if_neg (by simp [hl])]

/-! ### Election (R500) -/

namespace Mach

/-- A tile that is healthy once the maps are taken: what the election changes before it looks for a successor is no part of that. -/
theorem takeMaps_keeps {β : Type} (g : Mach → β) (hword : ∀ a t off w, t < 8 → off < 4096 → g (a.setWord (P.ring t) off w) = g a) (m : Mach) :
    g m.takeMaps = g m := by
  refine foldl_keeps g _ (fun a t ht => ?_) m
  have ht := List.mem_range.1 ht
  dsimp only
  split
  · rfl
  · refine (hword _ t _ _ ht (by decide)).trans ?_
    split
    · rfl
    · exact (hword _ t _ _ ht (by decide)).trans (hword _ t _ _ ht (by decide))

/-- What of a tile's own state the election looks at. -/
def electView (ts : TileSt) : Life × Bool × Bool × Option SeqStep × Option Nat := (ts.life, ts.selfOk, ts.dormant, ts.seq, ts.ring.recov)

/-- What the steps of an election leave: memories and clusters, what `electView` shows, and the pages RING and PWR. -/
structure ElectionKeeps (m m' : Mach) : Prop where
  part : m'.part = m.part
  dram : m'.dram = m.dram
  arr : m'.arr = m.arr
  clus : m'.clus = m.clus
  cpb : m'.cpb = m.cpb
  tile : ∀ t, electView (m'.tile t) = electView (m.tile t)
  ring : ∀ t off, off < 4096 → m'.word (P.ring t) off = m.word (P.ring t) off
  pwr : ∀ t off, off < 4096 → m'.word (P.pwr t) off = m.word (P.pwr t) off

namespace ElectionKeeps

theorem refl (m : Mach) : ElectionKeeps m m := ⟨rfl, rfl, rfl, rfl, rfl, fun _ => rfl, fun _ _ _ => rfl, fun _ _ _ => rfl⟩

theorem trans {a b c : Mach} (h : ElectionKeeps a b) (k : ElectionKeeps b c) : ElectionKeeps a c :=
  ⟨k.part.trans h.part, k.dram.trans h.dram, k.arr.trans h.arr, k.clus.trans h.clus, k.cpb.trans h.cpb,
    fun t => (k.tile t).trans (h.tile t), fun t off ho => (k.ring t off ho).trans (h.ring t off ho),
    fun t off ho => (k.pwr t off ho).trans (h.pwr t off ho)⟩

theorem foldl {α : Type} {f : Mach → α → Mach} (l : List α) (hf : ∀ m x, ElectionKeeps m (f m x)) (m : Mach) :
    ElectionKeeps m (l.foldl f m) := by
  induction l generalizing m with
  | nil => exact refl m
  | cons x l ih => exact (hf m x).trans (ih _)

theorem setWord (m : Mach) {t pg off : Nat} (w : Word) (ho : off < 4096) (hp : pg < 256) (hr : pg ≠ 0x04) (hw : pg ≠ 0x01) :
    ElectionKeeps m (m.setWord (pageKey t pg) off w) :=
  ⟨rfl, rfl, rfl, rfl, rfl, fun _ => rfl,
    fun u _ ho' => m.word_setWord_off w ho ho' (.inl (by simp only [P.ring, pageKey]; omega)),
    fun u _ ho' => m.word_setWord_off w ho ho' (.inl (by simp only [P.pwr, pageKey]; omega))⟩

theorem modTile (m : Mach) (t : Nat) {f : TileSt → TileSt} (hf : ∀ ts, electView (f ts) = electView ts) : ElectionKeeps m (m.modTile t f) := by
  refine ⟨rfl, rfl, rfl, rfl, rfl, fun u => ?_, fun _ _ _ => rfl, fun _ _ _ => rfl⟩
  by_cases hut : u = t
  · subst hut
    by_cases hu : u < 8
    · rw [tile_modTile_same _ _ hu, hf]
    · rw [show (m.modTile u f).tile u = m.tile u by simp [Mach.tile, Mach.modTile, vmod, hu]]
  · rw [tile_modTile_ne _ _ hut]

variable {m m' : Mach}

theorem life (h : ElectionKeeps m m') (t : Nat) : (m'.tile t).life = (m.tile t).life := congrArg (·.1) (h.tile t)

theorem awake (h : ElectionKeeps m m') (t : Nat) : m'.awake t = m.awake t := by
  unfold Mach.awake present nTiles
  rw [h.part, h.life t]

theorem healthy (h : ElectionKeeps m m') (t : Nat) : m'.healthy t = m.healthy t := by
  have hself : (m'.tile t).selfOk = (m.tile t).selfOk := congrArg (·.2.1) (h.tile t)
  have hdorm : (m'.tile t).dormant = (m.tile t).dormant := congrArg (·.2.2.1) (h.tile t)
  have hrecov : (m'.ringS t).recov = (m.ringS t).recov := congrArg (·.2.2.2.2) (h.tile t)
  have hflag : ∀ f : Field, f.off < 4096 → m'.flag (P.ring t) f = m.flag (P.ring t) f := fun f hf => by
    unfold flag rd
    rw [h.ring t f.off hf]
  simp only [Mach.healthy, fit, h.awake t, hself, hdorm, hrecov, hflag F.RING_STAT_U_UP (by decide), hflag F.RING_STAT_L_UP (by decide)]

theorem ringLive (h : ElectionKeeps m m') (t : Nat) : m'.ringLive t = m.ringLive t := by
  have hseq : (m'.tile t).seq = (m.tile t).seq := congrArg (·.2.2.2.1) (h.tile t)
  have hon : m'.rd (P.pwr t) F.PWR_DOM_STAT_ON = m.rd (P.pwr t) F.PWR_DOM_STAT_ON := by
    rw [rd, rd, h.pwr t F.PWR_DOM_STAT_ON.off (by decide)]
  simp only [Mach.ringLive, live, goingOff, domOn, h.awake t, hseq, hon]

end ElectionKeeps

theorem electionKeeps_setRole (m : Mach) (t r : Nat) : ElectionKeeps m (m.setRole t r) := by
  unfold setRole
  split
  · exact .refl m
  · exact (ElectionKeeps.setWord (t := t) (pg := 0x05) (off := 0x040) _ _ (by decide) (by decide) (by decide) (by decide)).trans
      (.setWord (t := t) (pg := 0x05) (off := 0x010) _ _ (by decide) (by decide) (by decide) (by decide))

theorem electionKeeps_becomeDeclarer (m : Mach) (d : Nat) : ElectionKeeps m (m.becomeDeclarer d) := by
  have hstamp : ElectionKeeps m { m with declStamp := m.declStamp + 1 } :=
    ⟨rfl, rfl, rfl, rfl, rfl, fun _ => rfl, fun _ _ _ => rfl, fun _ _ _ => rfl⟩
  exact (hstamp.trans (electionKeeps_setRole _ d 1)).trans (.modTile _ _ fun _ => rfl)

theorem electionKeeps_showDecl (m : Mach) (s d : Nat) : ElectionKeeps m (m.showDecl s d) := by
  refine .foldl _ (fun a t => ?_) m
  split
  · exact (ElectionKeeps.setWord (t := t) (pg := 0x05) (off := 0x040) _ _ (by decide) (by decide) (by decide) (by decide)).trans
      (.setWord (t := t) (pg := 0x03) (off := 0x060) _ _ (by decide) (by decide) (by decide) (by decide))
  · exact .refl a

theorem electionKeeps_showSucc (m : Mach) (s : Nat) (x : Option Nat) : ElectionKeeps m (m.showSucc s x) := by
  refine .foldl _ (fun a t => ?_) m
  split
  · exact .setWord (t := t) (pg := 0x05) (off := 0x040) _ _ (by decide) (by decide) (by decide) (by decide)
  · exact .refl a

/-- The first declarer's time base goes to a tile of its segment. -/
def takeTime (base : TileSt) (m : Mach) (t : Nat) : Mach :=
  (m.modTile t fun ts => { ts with n := base.n, sub := base.sub }).wr (P.tb t) F.TB_STAT_SYNCED 1

theorem electionKeeps_takeTime (base : TileSt) (m : Mach) (t : Nat) : ElectionKeeps m (takeTime base m t) :=
  (ElectionKeeps.modTile m t (f := fun ts => { ts with n := base.n, sub := base.sub }) fun _ => rfl).trans
    (.setWord (t := t) (pg := 0x03) (off := 0x060) _ _ (by decide) (by decide) (by decide) (by decide))

/-- The declarer shown in its segment, with its time. -/
def crown (m : Mach) (d : Nat) : Mach :=
  let a := (m.becomeDeclarer d).showDecl (m.reach d) d
  (tilesOf (m.reach d)).foldl (takeTime (a.tile d)) a

theorem electionKeeps_crown (m : Mach) (d : Nat) : ElectionKeeps m (m.crown d) :=
  ((electionKeeps_becomeDeclarer m d).trans (electionKeeps_showDecl _ _ d)).trans (.foldl _ (electionKeeps_takeTime _) _)

/-- The election's last part: the successor, and an ISLAND of every segment out of reach. -/
def nameSuccessor (m : Mach) (d s : Nat) : Mach :=
  let succ := m.nextHealthy d s
  let m := m.showSucc s succ
  let m := match succ with | some x => m.setRole x 2 | none => m
  let rest := ((List.range 8).filter fun t => m.ringLive t && !bit s t).foldl
    (fun a t => if a.contains (m.reach t) then a else a ++ [m.reach t]) ([] : List Nat)
  rest.foldl (fun m s => m.formIsland s) m

theorem takeMaps_electable (m : Mach) : (m.takeMaps.dram, m.takeMaps.arr, m.takeMaps.clus, m.takeMaps.cpb) = (m.dram, m.arr, m.clus, m.cpb) :=
  takeMaps_keeps (fun a => (a.dram, a.arr, a.clus, a.cpb)) (fun _ _ _ _ _ _ => rfl) m

/-- The first election with one healthy tile, in reach of every live one (R500). -/
theorem election_only {m : Mach} {d : Nat} (hd : d < 8) (hnone : ∀ t, t < 8 → m.awake t = true → m.role t % 2 = 0)
    (hfirst : m.cpb.usable = false) (hone : ∀ t, t < 8 → m.takeMaps.healthy t = decide (t = d))
    (hreach : ∀ t, t < 8 → m.takeMaps.ringLive t = true → bit (m.takeMaps.reach d) t = true) :
    m.election = (m.takeMaps.crown d).showSucc (m.takeMaps.reach d) none := by
  have hany : ((List.range 8).any fun t => m.awake t && decide (m.role t % 2 = 1)) = false := by
    simp only [List.any_eq_false, List.mem_range, Bool.and_eq_true, decide_eq_true_eq, not_and]
    exact fun t ht ha => by rw [hnone t ht ha]; decide
  have hfind : (List.range 8).find? m.takeMaps.healthy = some d := by
    have honly : ∀ d : Fin 8, (List.range 8).find? (fun t => decide (t = d.val)) = some d.val := by decide
    rw [← honly ⟨d, hd⟩]
    exact List.find?_congr fun t ht => hone t (List.mem_range.1 ht)
  have husable : m.takeMaps.cpb.usable = false := by
    have hcpb : m.takeMaps.cpb = m.cpb := congrArg (·.2.2.2) m.takeMaps_electable
    rw [hcpb, hfirst]
  have hsucc : (m.takeMaps.crown d).nextHealthy d (m.takeMaps.reach d) = none := by
    refine List.find?_eq_none.2 fun u hu => ?_
    obtain ⟨i, hi, rfl⟩ := List.mem_map.1 hu
    have hn := (m.takeMaps.crown d).nTiles_le
    have hlt := Nat.mod_lt (d + 1 + i) (Nat.zero_lt_of_lt (List.mem_range.1 hi))
    rw [(electionKeeps_crown _ d).healthy, hone _ (by omega)]
    simp +contextual
  have hrest : ((List.range 8).filter fun t =>
      ((m.takeMaps.crown d).showSucc (m.takeMaps.reach d) none).ringLive t && !bit (m.takeMaps.reach d) t) = [] := by
    refine List.filter_eq_nil_iff.2 fun t ht => ?_
    rw [((electionKeeps_crown _ d).trans (electionKeeps_showSucc _ _ none)).ringLive]
    simpa using hreach t (List.mem_range.1 ht)
  unfold election
  rw [hany, if_neg Bool.false_ne_true]
  dsimp only
  rw [hfind]
  dsimp only
  rw [husable]
  refine (show _ = (m.takeMaps.crown d).nameSuccessor d (m.takeMaps.reach d) from rfl).trans ?_
  unfold nameSuccessor
  rw [hsucc]
  dsimp only
  rw [hrest]
  rfl

theorem role_setWord_other (m : Mach) {pk off : Nat} (d : Nat) (w : Word) (ho : off < 4096) (h : P.decl d ≠ pk ∨ 0x040 ≠ off) :
    (m.setWord pk off w).role d = m.role d := rd_setWord_off _ _ ho (by decide) h

/-- Showing a declarer or a successor leaves the roles. -/
theorem role_wr_apart (m : Mach) (t d : Nat) {f : Field} (v : Nat) (ho : f.off = 0x040) (hlo : 1 < f.lo) (h : f.lo ≤ f.hi) (hk : f.hi < 32) :
    (m.wr (P.decl t) f v).role d = m.role d := by
  by_cases htd : t = d
  · subst htd
    exact rd_wr_apart m (P.decl t) (f' := F.DECL_ROLE_ROLE) v h hk ho.symm (.inl hlo)
  · exact role_setWord_other m d _ (by omega) (.inl (by simp only [P.decl, pageKey]; omega))

theorem role_tbPage (m : Mach) (t d off : Nat) (w : Word) (ho : off < 4096) : (m.setWord (P.tb t) off w).role d = m.role d :=
  role_setWord_other m d w ho (.inl (by simp only [P.decl, P.tb, pageKey]; omega))

theorem becomeDeclarer_role (m : Mach) (d : Nat) : (m.becomeDeclarer d).role d = 1 := by
  have hset : ∀ a : Mach, (a.setRole d 1).role d = 1 := by
    intro a
    unfold setRole
    split
    next h => exact h
    next h =>
      have hwr := rd_wr_same a (P.decl d) (f := F.DECL_ROLE_ROLE) 1 (by decide) (by decide)
      exact (rd_raise_off _ (by decide) (.inr (by decide))).trans hwr
  exact hset { m with declStamp := m.declStamp + 1 }

theorem crown_role (m : Mach) (d : Nat) : (m.crown d).role d = 1 := by
  have htime : ∀ (base : TileSt) (a : Mach) (t : Nat), (takeTime base a t).role d = a.role d :=
    fun base a t => role_tbPage (a.modTile t _) t d 0x060 _ (by decide)
  have hshow : (((m.becomeDeclarer d)).showDecl (m.reach d) d).role d = (m.becomeDeclarer d).role d := by
    refine foldl_keeps (fun a => a.role d) _ (fun a t _ => ?_) _
    split
    · exact (role_tbPage _ t d 0x060 _ (by decide)).trans (role_wr_apart a t d _ rfl (by decide) (by decide) (by decide))
    · rfl
  exact (foldl_keeps (fun a => a.role d) _ (fun a t _ => htime _ a t) _).trans (hshow.trans (becomeDeclarer_role m d))

theorem showSucc_role (m : Mach) (s d : Nat) (x : Option Nat) : (m.showSucc s x).role d = m.role d := by
  refine foldl_keeps (fun a => a.role d) _ (fun a t _ => ?_) m
  split
  · exact role_wr_apart a t d _ rfl (by decide) (by decide) (by decide)
  · rfl

theorem showSucc_shown (m : Mach) {s d : Nat} (hd : d < 8) (hs : bit s d = true) (ha : m.awake d = true) :
    (m.showSucc s none).rd (P.decl d) F.DECL_ROLE_SUCC = 15 := by
  have hmem : d ∈ tilesOf s := List.mem_filter.2 ⟨List.mem_range.2 hd, hs⟩
  have hshown : ∀ (a : Mach) (t : Nat), t = d ∨ a.rd (P.decl d) F.DECL_ROLE_SUCC = 15 →
      (a.wr (P.decl t) F.DECL_ROLE_SUCC 15).rd (P.decl d) F.DECL_ROLE_SUCC = 15 := by
    intro a t h
    by_cases htd : t = d
    · subst htd
      exact rd_wr_same a (P.decl t) 15 (by decide) (by decide)
    · rw [rd_wr_off _ _ (by decide) (by decide) (.inl (by simp only [P.decl, pageKey]; omega))]
      simpa [htd] using h
  have hfold : (m.showSucc s none).awake d = true → (m.showSucc s none).rd (P.decl d) F.DECL_ROLE_SUCC = 15 := by
    refine foldl_makes (P := fun a => a.awake d = true → a.rd (P.decl d) F.DECL_ROLE_SUCC = 15) _ hmem (fun a => ?_) (fun a t _ h => ?_) m
    · split
      next => exact fun _ => hshown a d (.inl rfl)
      next hno => exact fun h => absurd h hno
    · split
      · exact fun hawake => hshown a t (.inr (h (by rwa [wr_awake] at hawake)))
      · exact h
  exact hfold (by rw [(electionKeeps_showSucc m s none).awake, ha])

end Mach

/-- Settles O25: the first election names the one healthy tile, and no successor. -/
theorem electionNamesTheHealthyTile : Obligations.ElectionNamesTheHealthyTile := by
  intro s d hnone hfirst hone hlive hreach
  have hd : d.val < 8 := d.isLt
  have hawake : (s.start.takeMaps.crown d).awake d = true := by
    have hhealthy := hone d hd
    simp only [Mach.healthy, Mach.fit, Bool.and_eq_true, decide_true] at hhealthy
    rw [(Mach.electionKeeps_crown _ _).awake]
    exact hhealthy.1.1.1.1
  have hkeeps := (Mach.electionKeeps_crown s.start.takeMaps d).trans (Mach.electionKeeps_showSucc _ (s.start.takeMaps.reach d) none)
  have htake := s.start.takeMaps_electable
  simp only [Prod.mk.injEq] at htake
  obtain ⟨hdram, harr, hclus, _⟩ := htake
  refine ⟨_, effect_next (f := Mach.election) (Mach.election_only hd hnone hfirst hone hreach), ?_,
    Mach.showSucc_shown _ hd (hreach d hd hlive) hawake, hkeeps.dram.trans hdram, hkeeps.arr.trans harr, hkeeps.clus.trans hclus⟩
  rw [Mach.showSucc_role, Mach.crown_role]

end Sys2Proof.Machine

/-!
PROOFS. REFCLK, the time base, rails and the test port.
-/

namespace Sys2Proof.Machine

namespace Mach

/-- A fold whose steps keep `Q`, make `G` of their own element and keep it of the others. -/
theorem foldl_each {α : Type} {Q : Mach → Prop} {G : α → Mach → Prop} {f : Mach → α → Mach} (l : List α)
    (hQ : ∀ m x, x ∈ l → Q m → Q (f m x)) (hG : ∀ m x, x ∈ l → Q m → G x (f m x))
    (hk : ∀ m x y, x ∈ l → Q m → G y m → G y (f m x)) (m : Mach) (hm : Q m) :
    Q (l.foldl f m) ∧ ∀ y, (y ∈ l ∨ G y m) → G y (l.foldl f m) := by
  induction l generalizing m with
  | nil => exact ⟨hm, fun y hy => by simpa using hy⟩
  | cons x l ih =>
    have hx : x ∈ x :: l := List.mem_cons_self
    obtain ⟨h1, h2⟩ := ih (fun m y hy => hQ m y (List.mem_cons_of_mem _ hy)) (fun m y hy => hG m y (List.mem_cons_of_mem _ hy))
      (fun m y z hy => hk m y z (List.mem_cons_of_mem _ hy)) (f m x) (hQ m x hx hm)
    refine ⟨h1, fun y hy => h2 y ?_⟩
    rcases hy with hy | hy
    · rcases List.mem_cons.1 hy with rfl | hy
      · exact .inr (hG m y hx hm)
      · exact .inl hy
    · exact .inr (hk m x y hx hm hy)

/-! ### Time base commands (R78–R81) -/

theorem rd2_wr2_same (m : Mach) (pk : Nat) {lo hi : Field} (v : Nat) (hlo : lo.hi = 31 ∧ lo.lo = 0) (hhi : hi.hi = 31 ∧ hi.lo = 0)
    (h1 : lo.off < 4096) (h2 : hi.off < 4096) (hne : lo.off ≠ hi.off) : (m.wr2 pk lo hi v).rd2 pk lo hi = v % 2 ^ 64 := by
  unfold rd2 wr2
  rw [rd_wr_off _ _ h2 h1 (.inr hne), rd_wr_same _ _ _ (by omega) (by omega), rd_wr_same _ _ _ (by omega) (by omega)]
  simp only [Field.width, hlo, hhi]
  omega

end Mach

/-- A write of TB.CTRL. -/
theorem tbCtrl {s : State} {p : Port} {t : Fin 8} {v : Word} (h : s.start.writable p t 0x03 0x040 = true) :
    s.effect (fun m => m.portWrite p (regAddr t 0x03 0x040) v) = .next (s.settled (s.start.writeTbCtrl t v)) := by
  refine effect_blockWrite h (by omega) (by decide) (by decide) (by decide) (by decide) (by decide) (by omega) ?_
    (Mach.asleep_never (by decide))
  rw [Mach.blockWrite, tileOf_pageKey _ _ (by decide), pageOf_pageKey _ _ (by decide), blockCode_tilePage _ (by omega)]
  rfl

namespace Mach

/-- TB.CTRL with CAPTURE alone of its actions. -/
theorem writeTbCtrl_capture (m : Mach) (t : Nat) {v : Word} (h0 : bit v.toNat 0 = true) (h1 : bit v.toNat 1 = false) (h2 : bit v.toNat 2 = false) :
    m.writeTbCtrl t v = (((((m.wrb (P.tb t) F.TB_CTRL_PPS_OUT_EN (bit v.toNat 3)).wr (P.tb t) F.TB_CAP_FRAC_F (m.fracF t)).wr2 (P.tb t)
      F.TB_CAP_LO_N_LO F.TB_CAP_HI_N_HI (m.now t)).wrb (P.tb t) F.TB_CTRL_ALARM_EN false).wr (P.tb t) F.TB_STAT_ALARM_HIT 0) := by
  unfold writeTbCtrl
  simp only [h0, h1, h2, Bool.false_eq_true, if_true, if_false]
  rfl

theorem anyRunning_congr {m m' : Mach} (h : ∀ h, h < 16 → m'.handState h = m.handState h) : m'.anyRunning = m.anyRunning := by
  rw [Bool.eq_iff_iff]
  simp only [anyRunning, List.any_eq_true, List.mem_range, decide_eq_true_eq]
  exact exists_congr fun x => and_congr_right fun hx => by rw [h x hx]

/-- A tile's page shows no hand. -/
theorem handState_setWord_tilePage (m : Mach) {t pg off h : Nat} (w : Word) (hh : h < 16) (ht : t < 8) (hp : pg < 256) (ho : off < 4096) :
    (m.setWord (pageKey t pg) off w).handState h = m.handState h := by
  refine rd_setWord_off _ _ ho ?_ (.inl (globalPage_ne ht hp))
  rw [Field.nth_off]
  simp only [F.MODE_HAND_STAT_STATE]
  omega

/-- TB.CTRL with LOAD alone of its actions, on the time master with every hand in READY. -/
theorem writeTbCtrl_load (m : Mach) (t : Nat) {v : Word} (h0 : bit v.toNat 0 = false) (h1 : bit v.toNat 1 = true) (h2 : bit v.toNat 2 = false)
    (hm : m.flag (P.tb t) F.TB_STAT_MASTER = true) (hr : m.anyRunning = false) (ht : t < 8) :
    m.writeTbCtrl t v = (((((m.wrb (P.tb t) F.TB_CTRL_PPS_OUT_EN (bit v.toNat 3)).wr (P.tb t) F.TB_CTRL_LOAD 1).wr (P.tb t)
      F.TB_STAT_LOAD_PEND 1).wrb (P.tb t) F.TB_CTRL_ALARM_EN false).wr (P.tb t) F.TB_STAT_ALARM_HIT 0) := by
  have hm' : (m.wrb (P.tb t) F.TB_CTRL_PPS_OUT_EN (bit v.toNat 3)).flag (P.tb t) F.TB_STAT_MASTER = true := by
    rw [wrb, flag_wr_off _ _ (by decide) (by decide) (.inr (by decide)), hm]
  have hr' : (m.wrb (P.tb t) F.TB_CTRL_PPS_OUT_EN (bit v.toNat 3)).anyRunning = false := by
    rw [← hr]
    exact anyRunning_congr fun h hh => handState_setWord_tilePage _ _ hh ht (by decide) (by decide)
  unfold writeTbCtrl
  simp only [h0, h1, h2, Bool.false_eq_true, if_true, if_false, hm', hr', Bool.not_false, Bool.and_self]

/-- What CAPTURE leaves. -/
theorem captured_shown (m : Mach) (pk x y n : Nat) :
    let a := (((m.wr pk F.TB_CAP_FRAC_F x).wr2 pk F.TB_CAP_LO_N_LO F.TB_CAP_HI_N_HI n).wrb pk F.TB_CTRL_ALARM_EN false).wr pk F.TB_STAT_ALARM_HIT y
    a.rd2 pk F.TB_CAP_LO_N_LO F.TB_CAP_HI_N_HI = n % 2 ^ 64 ∧ a.rd pk F.TB_CAP_FRAC_F = x % 16 := by
  have hrest : ∀ (b : Mach) (f : Field), f.off < 0x050 → 0x040 < f.off →
      ((b.wrb pk F.TB_CTRL_ALARM_EN false).wr pk F.TB_STAT_ALARM_HIT y).rd pk f = b.rd pk f := by
    intro b f hf hf'
    have h60 : F.TB_STAT_ALARM_HIT.off = 0x060 := rfl
    have h40 : F.TB_CTRL_ALARM_EN.off = 0x040 := rfl
    rw [rd_wr_off _ _ (by decide) (by omega) (.inr (by omega)), wrb, rd_wr_off _ _ (by decide) (by omega) (.inr (by omega))]
  intro a
  refine ⟨?_, ?_⟩
  · have h2 := rd2_wr2_same (m.wr pk F.TB_CAP_FRAC_F x) pk (lo := F.TB_CAP_LO_N_LO) (hi := F.TB_CAP_HI_N_HI) n (by decide) (by decide)
      (by decide) (by decide) (by decide)
    unfold rd2 at h2 ⊢
    rw [hrest _ _ (by decide) (by decide), hrest _ _ (by decide) (by decide), h2]
  · rw [hrest _ _ (by decide) (by decide), wr2, rd_wr_off _ _ (by decide) (by decide) (.inr (by decide)),
      rd_wr_off _ _ (by decide) (by decide) (.inr (by decide)), rd_wr_same _ _ _ (by decide) (by decide)]
    rfl

/-- What LOAD leaves. -/
theorem loading_shown (m : Mach) (pk : Nat) :
    let a := (((m.wr pk F.TB_CTRL_LOAD 1).wr pk F.TB_STAT_LOAD_PEND 1).wrb pk F.TB_CTRL_ALARM_EN false).wr pk F.TB_STAT_ALARM_HIT 0
    a.flag pk F.TB_STAT_LOAD_PEND = true ∧ a.flag pk F.TB_CTRL_LOAD = true := by
  intro a
  refine ⟨?_, ?_⟩
  · rw [flag_wr_apart (f := F.TB_STAT_ALARM_HIT) (f' := F.TB_STAT_LOAD_PEND) _ _ _ (by decide) (by decide) rfl (by decide), wrb,
      flag_wr_off _ _ (by decide) (by decide) (.inr (by decide))]
    exact flag_wr_same _ pk true rfl (by decide)
  · rw [flag_wr_off _ _ (by decide) (by decide) (.inr (by decide)), wrb,
      flag_wr_apart (f := F.TB_CTRL_ALARM_EN) (f' := F.TB_CTRL_LOAD) _ _ _ (by decide) (by decide) rfl (by decide),
      flag_wr_off _ _ (by decide) (by decide) (.inr (by decide))]
    exact flag_wr_same _ pk true rfl (by decide)

theorem alarmReached_due {m : Mach} {t : Nat} (hl : (m.tile t).life ≠ .por) (hd : (m.tile t).dormant = false)
    (he : m.flag (P.tb t) F.TB_CTRL_ALARM_EN = true) (hh : m.flag (P.tb t) F.TB_STAT_ALARM_HIT = false) (hn : m.alarmAt t ≤ m.now t) :
    m.alarmReached t = (m.wr (P.tb t) F.TB_STAT_ALARM_HIT 1).raise (P.tb t) 0 := by
  have hadv : m.advance t (m.alarmAt t) = m := if_pos hn
  have hlt : decide (m.now t < m.alarmAt t) = false := by simpa using hn
  have hwake : ∀ c, ((m.wr (P.tb t) F.TB_STAT_ALARM_HIT 1).raise (P.tb t) 0).wakeUp t c = (m.wr (P.tb t) F.TB_STAT_ALARM_HIT 1).raise (P.tb t) 0 := by
    intro c
    unfold wakeUp
    rw [raise_tile, wr_tile, hd]
    rfl
  unfold alarmReached
  simp only [hl, he, hh, hadv, alarmFire, hlt, hwake]
  simp

/-! ### REFCLK (R74) -/

namespace ElectionKeeps

theorem wr (m : Mach) {t pg : Nat} {f : Field} (v : Nat) (ho : f.off < 4096) (hp : pg < 256) (hr : pg ≠ 0x04) (hw : pg ≠ 0x01) :
    ElectionKeeps m (m.wr (pageKey t pg) f v) := setWord m _ ho hp hr hw

theorem raise (m : Mach) {t pg : Nat} (b : Nat) (hp : pg < 256) (hr : pg ≠ 0x04) (hw : pg ≠ 0x01) :
    ElectionKeeps m (m.raise (pageKey t pg) b) := setWord m _ (by decide) hp hr hw

end ElectionKeeps

/-- The counts of the package log take a record more (R519). -/
def countRecord (m : Mach) : Mach :=
  let a := (m.incW P.faultlog F.FAULTLOG_HEAD_SEQ).raise P.faultlog 0
  if m.rd P.faultlog F.FAULTLOG_HELD_COUNT = 1024 then (a.inc P.faultlog F.FAULTLOG_OVERWRITTEN_COUNT).raise P.faultlog 1
  else a.wr P.faultlog F.FAULTLOG_HELD_COUNT (a.rd P.faultlog F.FAULTLOG_HELD_COUNT + 1)

theorem logPackage_eq (m : Mach) (r : FaultRec) : ∃ l, m.logPackage r = { m with pkgLog := l }.countRecord := ⟨_, rfl⟩

theorem electionKeeps_countRecord (m : Mach) : ElectionKeeps m m.countRecord := by
  have hhead : ElectionKeeps m ((m.incW P.faultlog F.FAULTLOG_HEAD_SEQ).raise P.faultlog 0) :=
    (ElectionKeeps.wr (t := 14) (pg := 0x05) (f := F.FAULTLOG_HEAD_SEQ) m _ (by decide) (by decide) (by decide) (by decide)).trans
      (.raise (t := 14) (pg := 0x05) _ 0 (by decide) (by decide) (by decide))
  unfold countRecord
  refine hhead.trans ?_
  split
  · exact (ElectionKeeps.wr (t := 14) (pg := 0x05) (f := F.FAULTLOG_OVERWRITTEN_COUNT) _ _ (by decide) (by decide) (by decide) (by decide)).trans
      (.raise (t := 14) (pg := 0x05) _ 1 (by decide) (by decide) (by decide))
  · exact .wr (t := 14) (pg := 0x05) (f := F.FAULTLOG_HELD_COUNT) _ _ (by decide) (by decide) (by decide) (by decide)

theorem electionKeeps_logPackage (m : Mach) (r : FaultRec) : ElectionKeeps m (m.logPackage r) := by
  obtain ⟨l, hl⟩ := m.logPackage_eq r
  have hlog : ElectionKeeps m { m with pkgLog := l } := ⟨rfl, rfl, rfl, rfl, rfl, fun _ => rfl, fun _ _ _ => rfl, fun _ _ _ => rfl⟩
  rw [hl]
  exact hlog.trans (electionKeeps_countRecord _)

theorem word_countRecord_other (m : Mach) {pk off : Nat} (ho : off < 4096) (h : pk ≠ P.faultlog) :
    m.countRecord.word pk off = m.word pk off := by
  unfold countRecord
  dsimp only
  split
  · rw [word_raise_off _ ho (.inl h), inc, incBy, word_wr_off _ _ (by decide) ho (.inl h), word_raise_off _ ho (.inl h), incW,
      word_wr_off _ _ (by decide) ho (.inl h)]
  · rw [word_wr_off _ _ (by decide) ho (.inl h), word_raise_off _ ho (.inl h), incW, word_wr_off _ _ (by decide) ho (.inl h)]

theorem word_logPackage_other (m : Mach) (r : FaultRec) {pk off : Nat} (ho : off < 4096) (h : pk ≠ P.faultlog) :
    (m.logPackage r).word pk off = m.word pk off := by
  obtain ⟨l, hl⟩ := m.logPackage_eq r
  rw [hl, word_countRecord_other _ ho h]
  rfl

theorem queueOfProd_off {m : Mach} {t : Nat} (prod : Nat) (h : m.domOn t D.dmaq = false) : m.queueOfProd t prod = none := by
  simp [queueOfProd, live, h]

theorem emitRaw_unqueued {m : Mach} {t prod : Nat} (h : m.queueOfProd t prod = none) (cap pk : Nat) (lost : Field) (ev : Option Nat) (tr : Trick) :
    m.emitRaw t prod cap pk lost ev tr = m := by
  unfold emitRaw
  rw [h]

/-- The record as it stands in the logs of a tile whose queues are off. -/
def recordLogged (m : Mach) (t : Nat) (r : FaultRec) : Mach :=
  ((m.logPackage r).modTile t fun ts => { ts with aonLog := (ts.aonLog ++ [r]).drop (ts.aonLog.length - 15) }).incW (P.decl t)
    F.DECL_AON_SEQ_K

theorem electionKeeps_recordLogged (m : Mach) (t : Nat) (r : FaultRec) : ElectionKeeps m (m.recordLogged t r) :=
  ((electionKeeps_logPackage m r).trans
    (.modTile _ t (f := fun ts => { ts with aonLog := (ts.aonLog ++ [r]).drop (ts.aonLog.length - 15) }) fun _ => rfl)).trans
    (.wr (t := t) (pg := 0x05) (f := F.DECL_AON_SEQ_K) _ _ (by decide) (by decide) (by decide) (by decide))

theorem word_recordLogged_other (m : Mach) (t : Nat) (r : FaultRec) {pk off : Nat} (ho : off < 4096) (h : pk ≠ P.faultlog) (hd : pk ≠ P.decl t) :
    (m.recordLogged t r).word pk off = m.word pk off := by
  unfold recordLogged
  rw [incW, word_wr_off _ _ (by decide) ho (.inl hd), modTile_word, word_logPackage_other _ _ ho h]

/-- A fault record of a tile whose queues are off and whose segment is the package's goes to the package log and its AON copy alone. -/
theorem record_unqueued {m : Mach} {t : Nat} (code unit subA subB detail : Nat) (hi : m.islandOf t = none) (hq : m.domOn t D.dmaq = false) :
    ∃ r : FaultRec, m.record t code unit subA subB detail = m.recordLogged t r := by
  refine ⟨{ time := m.now t, seq := m.rd (P.decl t) F.DECL_AON_SEQ_K, code, tile := t, isl := (m.islandOf t).isSome || m.viewOf.isSome,
            aon := false, unit, subA, subB, detail }, ?_⟩
  have hafter : ∀ r : FaultRec, (m.recordLogged t r).queueOfProd t 0x0A = none := fun r => by
    refine queueOfProd_off _ ?_
    unfold domOn rd
    rw [(electionKeeps_recordLogged m t r).pwr t _ (by decide)]
    exact hq
  have hlog : ∀ r : FaultRec, m.logSegment t r = m.logPackage r := fun r => by rw [logSegment, hi]
  unfold record recordRaw
  rw [queueOfProd_off _ hq]
  dsimp only
  rw [hlog]
  exact emitRaw_unqueued (hafter _) _ _ _ _ _

/-- What the loss of REFCLK finds in the tiles, as it is shown: one segment, and lamps, ring and queues off. -/
def Unclocked (m : Mach) : Prop :=
  ∀ t, t < 8 → m.flag (P.ring t) F.RING_STAT_OUTSIDE = false ∧ m.domOn t D.lamp = false ∧ m.domOn t D.ring = false ∧ m.domOn t D.dmaq = false

theorem Unclocked.of_keeps {m m' : Mach} (h : Unclocked m) (hk : ElectionKeeps m m') : Unclocked m' := by
  intro t ht
  unfold flag domOn rd
  rw [hk.ring t _ (by decide), hk.pwr t _ (by decide)]
  exact h t ht

/-- The clock page of a tile, and its time base, as REFCLK is lost. -/
def clocksFall (m : Mach) (t : Nat) : Mach :=
  ((m.setWord (P.clk t) 0x040 (m.word (P.clk t) 0x040 &&& 0xFFFF0000)).inc (P.clk t) F.CLK_STAT_REF_LOSS_CNT).wr (P.tb t) F.TB_STAT_DEGRADED 1

theorem electionKeeps_clocksFall (m : Mach) (t : Nat) : ElectionKeeps m (m.clocksFall t) :=
  ((ElectionKeeps.setWord (t := t) (pg := 0x02) (off := 0x040) m _ (by decide) (by decide) (by decide) (by decide)).trans
    (.wr (t := t) (pg := 0x02) (f := F.CLK_STAT_REF_LOSS_CNT) _ _ (by decide) (by decide) (by decide) (by decide))).trans
    (.wr (t := t) (pg := 0x03) (f := F.TB_STAT_DEGRADED) _ _ (by decide) (by decide) (by decide) (by decide))

/-- At the loss a tile in power-on reset, or that the part does not have, does nothing; any other loses its clocks and records it. -/
theorem refLossTile_cases {m : Mach} {t : Nat} (h : Unclocked m) (ht : t < 8) :
    (((m.tile t).life = .por ∨ m.present t = false) ∧ m.refLossTile t = m) ∨ ∃ r, m.refLossTile t = (m.clocksFall t).recordLogged t r := by
  obtain ⟨_, hlamp, hring, _⟩ := h t ht
  have hlive : m.live t D.lamp = false := by simp [live, hlamp]
  have hrlive : m.ringLive t = false := by simp [ringLive, live, hring]
  have hafter := h.of_keeps (electionKeeps_clocksFall m t)
  obtain ⟨hout, _, _, hdmaq⟩ := hafter t ht
  have hi : (m.clocksFall t).islandOf t = none := by simp [islandOf, hout]
  by_cases hskip : (m.tile t).life = .por || !m.present t
  · left
    refine ⟨by simpa using hskip, ?_⟩
    unfold refLossTile
    rw [if_pos hskip]
  · right
    obtain ⟨r, hr⟩ := record_unqueued 0x01 t 0 0 0 hi hdmaq
    refine ⟨r, ?_⟩
    rw [← hr]
    unfold refLossTile
    rw [if_neg hskip]
    simp only [hrlive, List.foldl, hlive, Bool.false_eq_true, if_false]
    rfl

/-- The clocks of a tile as they show while REFCLK is lost (R74). -/
def ClocksDown (t : Nat) (m : Mach) : Prop :=
  bits (m.word (P.clk t) 0x040).toNat 15 0 = 0 ∧ m.flag (P.tb t) F.TB_STAT_DEGRADED = true

theorem bits_lowCleared (w : Word) : bits (w &&& 0xFFFF0000).toNat 15 0 = 0 := by
  have hmask : ∀ i, i < 16 → Nat.testBit 0xFFFF0000 i = false := by decide
  apply Nat.eq_of_testBit_eq
  intro i
  rw [testBit_bits, Nat.zero_testBit, BitVec.toNat_and, Nat.testBit_and, Nat.zero_add]
  by_cases hi : i < 16
  · rw [show (0xFFFF0000 : Word).toNat = 0xFFFF0000 from rfl, hmask i hi]
    simp
  · simp [hi]

theorem clocksFall_down (m : Mach) (t : Nat) : ClocksDown t (m.clocksFall t) := by
  have hdeg : (m.clocksFall t).flag (P.tb t) F.TB_STAT_DEGRADED = true := by
    unfold clocksFall
    exact flag_wr_same (f := F.TB_STAT_DEGRADED) _ (P.tb t) true rfl (by decide)
  refine ⟨?_, hdeg⟩
  have hne : P.clk t ≠ P.tb t := by simp [P.clk, P.tb, pageKey]
  have hlow : (m.clocksFall t).rd (P.clk t) ⟨0x040, 15, 0, 0⟩ = 0 := by
    unfold clocksFall
    rw [rd_wr_off _ _ (by decide) (by decide) (.inl hne), inc, incBy,
      rd_wr_apart (f := F.CLK_STAT_REF_LOSS_CNT) (f' := ⟨0x040, 15, 0, 0⟩) _ _ _ (by decide) (by decide) rfl (by decide), rd,
      word_setWord_same]
    exact bits_lowCleared _
  exact hlow

theorem ClocksDown.congr {m m' : Mach} {t : Nat} (h : ClocksDown t m) (hclk : m'.word (P.clk t) 0x040 = m.word (P.clk t) 0x040)
    (htb : m'.word (P.tb t) 0x060 = m.word (P.tb t) 0x060) : ClocksDown t m' := by
  unfold ClocksDown flag rd at h ⊢
  rw [hclk, show F.TB_STAT_DEGRADED.off = 0x060 from rfl, htb]
  exact h

theorem ClocksDown.recordLogged {m : Mach} {t : Nat} (h : ClocksDown t m) (u : Nat) (r : FaultRec) (ht : t < 8) : ClocksDown t (m.recordLogged u r) := by
  have hdecl : ∀ pg, pg ≠ 5 → pg < 256 → pageKey t pg ≠ P.decl u := fun pg h1 h2 => by simp only [P.decl, pageKey]; omega
  have hlog : ∀ pg, pg < 256 → pageKey t pg ≠ P.faultlog := fun pg h => (globalPage_ne ht h).symm
  exact h.congr (word_recordLogged_other m u r (by decide) (hlog 2 (by decide)) (hdecl 2 (by decide) (by decide)))
    (word_recordLogged_other m u r (by decide) (hlog 3 (by decide)) (hdecl 3 (by decide) (by decide)))

theorem ClocksDown.clocksFall {m : Mach} {t : Nat} (h : ClocksDown t m) (u : Nat) : ClocksDown t (m.clocksFall u) := by
  by_cases hut : u = t
  · rw [hut]; exact clocksFall_down m t
  · have hword : ∀ pg off, pg < 256 → off < 4096 → (m.clocksFall u).word (pageKey t pg) off = m.word (pageKey t pg) off := by
      intro pg off hp ho
      unfold Mach.clocksFall
      have hclk : pageKey t pg ≠ P.clk u := by simp only [P.clk, pageKey]; omega
      have htb : pageKey t pg ≠ P.tb u := by simp only [P.tb, pageKey]; omega
      rw [word_wr_off _ _ (by decide) ho (.inl htb), inc, incBy, word_wr_off _ _ (by decide) ho (.inl hclk),
        word_setWord_off _ _ (by decide) ho (.inl hclk)]
    exact h.congr (hword 2 _ (by decide) (by decide)) (hword 3 _ (by decide) (by decide))

theorem recordLogged_refLost (m : Mach) (t : Nat) (r : FaultRec) : (m.recordLogged t r).refLost = m.refLost := by
  obtain ⟨l, hl⟩ := m.logPackage_eq r
  unfold recordLogged
  rw [incW, wr_refLost, modTile_refLost, hl]
  unfold countRecord
  dsimp only
  split <;> simp only [incW, raise_refLost, inc_refLost, wr_refLost]

theorem refLossAxes_off {m : Mach} {t : Nat} (h : m.domOn t D.mot = false) : m.refLossAxes t = m := by
  have haxis : ∀ g, g / 2 = t → m.axLive g = false := fun g hg => by simp [axLive, live, hg, h]
  simp [refLossAxes, haxis (2 * t) (by omega), haxis (2 * t + 1) (by omega)]

/-- The loss of REFCLK takes the clocks of every tile of the part that is out of power-on reset. -/
theorem refLoss_spec {m : Mach} (hlost : m.refLost = false) (h : Unclocked m) (hmot : ∀ t, t < 8 → m.domOn t D.mot = false) :
    m.refLoss.refLost = true ∧ (∀ t, t < m.nTiles → (m.tile t).life ≠ .por → ClocksDown t m.refLoss) ∧ ElectionKeeps m m.refLoss := by
  have hlt : ∀ t, t ∈ List.range m.nTiles → t < 8 := fun t ht => by have := m.nTiles_le; have := List.mem_range.1 ht; omega
  have haxes : (List.range m.nTiles).foldl refLossAxes m = m :=
    List.foldlRecOn (motive := fun a => a = m) _ _ rfl fun a ha t ht => by rw [ha]; exact refLossAxes_off (hmot t (hlt t ht))
  have hloss : m.refLoss = (List.range m.nTiles).foldl refLossTile { m with refLost := true } := by
    unfold refLoss
    rw [if_neg (by rw [hlost]; decide), haxes]
  have hstart : ElectionKeeps m { m with refLost := true } := ⟨rfl, rfl, rfl, rfl, rfl, fun _ => rfl, fun _ _ _ => rfl, fun _ _ _ => rfl⟩
  have hstep : ∀ a t, t < 8 → a.refLost = true ∧ ElectionKeeps m a → (a.refLossTile t).refLost = true ∧ ElectionKeeps m (a.refLossTile t) := by
    intro a t ht ⟨hl, hk⟩
    rcases refLossTile_cases (h.of_keeps hk) ht with ⟨_, heq⟩ | ⟨r, heq⟩
    · rw [heq]; exact ⟨hl, hk⟩
    · rw [heq, recordLogged_refLost]
      exact ⟨hl, (hk.trans (electionKeeps_clocksFall a t)).trans (electionKeeps_recordLogged _ t r)⟩
  have hfold := foldl_each (Q := fun a => a.refLost = true ∧ ElectionKeeps m a)
    (G := fun t a => t < m.nTiles → (m.tile t).life ≠ .por → ClocksDown t a) (f := refLossTile) (List.range m.nTiles)
    (fun a t ht => hstep a t (hlt t ht)) (fun a t ht hq hn hl => ?_) (fun a t u ht hq hg hn hl => ?_) { m with refLost := true } ⟨rfl, hstart⟩
  · rw [hloss]
    obtain ⟨⟨hl, hk⟩, hdown⟩ := hfold
    exact ⟨hl, fun t ht hpor => hdown t (.inl (List.mem_range.2 ht)) ht hpor, hk⟩
  · rcases refLossTile_cases (h.of_keeps hq.2) (hlt t ht) with ⟨hno, _⟩ | ⟨r, heq⟩
    · exfalso
      rcases hno with hno | hno
      · exact hl ((hq.2.life t).symm.trans hno)
      · have hpres : a.present t = m.present t := by unfold present nTiles; rw [hq.2.part]
        rw [hpres] at hno
        exact of_decide_eq_false hno hn
    · rw [heq]
      exact (clocksFall_down a t).recordLogged t r (hlt t ht)
  · have hu : u < 8 := lt_of_lt_of_le hn m.nTiles_le
    rcases refLossTile_cases (h.of_keeps hq.2) (hlt t ht) with ⟨_, heq⟩ | ⟨r, heq⟩
    · rw [heq]; exact hg hn hl
    · rw [heq]
      exact ((hg hn hl).clocksFall t).recordLogged t r hu

/-- The clocks of a tile as REFCLK is back. -/
def clocksUp (m : Mach) (t : Nat) : Mach :=
  ((m.wr (P.clk t) F.CLK_STAT_REF_OK 1).wr (P.clk t) F.CLK_STAT_MAIN_LOCK 1).wr (P.tb t) F.TB_STAT_DEGRADED 0

/-- A tile reset that falls due at a tile held in reset already adds its cause (R83). -/
def causeAdded (m : Mach) (t causes : Nat) : Mach :=
  (m.modTile t fun ts => { ts with rstDue := ts.rstDue &&& (255 ^^^ causes) }).setWord (P.pwr t) 0x054
    (m.word (P.pwr t) 0x054 ||| BitVec.ofNat 32 causes)

theorem tileReset_held {m : Mach} {t : Nat} (causes : Nat) (hp : m.present t = true) (hl : (m.tile t).life = .reset) :
    m.tileReset t causes = m.causeAdded t causes := by
  have ht : t < 8 := lt_of_lt_of_le (of_decide_eq_true hp) m.nTiles_le
  unfold tileReset causeAdded
  generalize hm : (m.modTile t fun ts => { ts with rstDue := ts.rstDue &&& (255 ^^^ causes) }) = m1
  have hp1 : m1.present t = true := by rw [← hm]; exact hp
  have hl1 : (m1.tile t).life = .reset := by rw [← hm, tile_modTile_same _ _ ht]; exact hl
  have hw1 : m1.word (P.pwr t) 0x054 = m.word (P.pwr t) 0x054 := by rw [← hm]; rfl
  dsimp only
  rw [hl1, hp1, hw1]
  rfl

/-- The return of REFCLK at a tile held in reset. -/
def clocksReturn (m : Mach) (t : Nat) : Mach := (m.clocksUp t).causeAdded t 0x20

/-- What the return shows of a tile held in reset. -/
def ClocksBack (w : Nat → Word) (t : Nat) (m : Mach) : Prop :=
  m.flag (P.clk t) F.CLK_STAT_REF_OK = true ∧ m.flag (P.clk t) F.CLK_STAT_MAIN_LOCK = true ∧ m.flag (P.tb t) F.TB_STAT_DEGRADED = false ∧
    m.word (P.pwr t) 0x054 = w t ||| 0x20

theorem word_clocksUp_off (m : Mach) {t pk off : Nat} (ho : off < 4096) (hc : pk ≠ P.clk t) (ht : pk ≠ P.tb t) :
    (m.clocksUp t).word pk off = m.word pk off := by
  unfold clocksUp
  rw [word_wr_off _ _ (by decide) ho (.inl ht), word_wr_off _ _ (by decide) ho (.inl hc), word_wr_off _ _ (by decide) ho (.inl hc)]

theorem word_causeAdded_off (m : Mach) {t pk off causes : Nat} (ho : off < 4096) (h : pk ≠ P.pwr t) :
    (m.causeAdded t causes).word pk off = m.word pk off := by
  unfold causeAdded
  rw [word_setWord_off _ _ (by decide) ho (.inl h), modTile_word]

theorem clocksReturn_same (m : Mach) (t : Nat) :
    (m.clocksReturn t).part = m.part ∧ (m.clocksReturn t).refLost = m.refLost ∧ (m.clocksReturn t).dram = m.dram := by
  unfold clocksReturn causeAdded clocksUp
  simp only [setWord_part, modTile_part, wr_part, setWord_refLost, modTile_refLost, wr_refLost, setWord_dram, modTile_dram, wr_dram, and_self]

theorem word_clocksReturn_other (m : Mach) {t u pg off : Nat} (hp : pg < 256) (ho : off < 4096) (h : t ≠ u) :
    (m.clocksReturn u).word (pageKey t pg) off = m.word (pageKey t pg) off := by
  have hclk : pageKey t pg ≠ P.clk u := by simp only [P.clk, pageKey]; omega
  have htb : pageKey t pg ≠ P.tb u := by simp only [P.tb, pageKey]; omega
  have hpwr : pageKey t pg ≠ P.pwr u := by simp only [P.pwr, pageKey]; omega
  rw [clocksReturn, word_causeAdded_off _ ho hpwr, word_clocksUp_off _ ho hclk htb]

theorem clocksReturn_life (m : Mach) (t u : Nat) : ((m.clocksReturn t).tile u).life = (m.tile u).life := by
  have htile : (m.clocksReturn t).tile u = (m.modTile t fun ts => { ts with rstDue := ts.rstDue &&& (255 ^^^ 0x20) }).tile u := rfl
  rw [htile]
  by_cases hut : u = t
  · subst hut
    by_cases hu : u < 8
    · rw [tile_modTile_same _ _ hu]
    · rw [show ∀ f, (m.modTile u f).tile u = m.tile u by simp [tile, modTile, vmod, hu]]
  · rw [tile_modTile_ne _ _ hut]

theorem clocksUp_shown (m : Mach) (t : Nat) : (m.clocksUp t).flag (P.clk t) F.CLK_STAT_REF_OK = true ∧
    (m.clocksUp t).flag (P.clk t) F.CLK_STAT_MAIN_LOCK = true ∧ (m.clocksUp t).flag (P.tb t) F.TB_STAT_DEGRADED = false := by
  have hne : P.clk t ≠ P.tb t := by simp [P.clk, P.tb, pageKey]
  unfold clocksUp
  refine ⟨?_, ?_, flag_wr_same (f := F.TB_STAT_DEGRADED) _ _ false rfl (by decide)⟩
  · rw [flag_wr_off _ _ (by decide) (by decide) (.inl hne),
      flag_wr_apart (f := F.CLK_STAT_MAIN_LOCK) (f' := F.CLK_STAT_REF_OK) _ _ _ (by decide) (by decide) rfl (by decide)]
    exact flag_wr_same _ _ true rfl (by decide)
  · rw [flag_wr_off _ _ (by decide) (by decide) (.inl hne)]
    exact flag_wr_same _ _ true rfl (by decide)

theorem clocksReturn_back (m : Mach) (w : Nat → Word) {t : Nat}
    (h : m.word (P.pwr t) 0x054 = w t ∨ m.word (P.pwr t) 0x054 = w t ||| 0x20) : ClocksBack w t (m.clocksReturn t) := by
  have hpc : P.pwr t ≠ P.clk t := by simp [P.clk, P.pwr, pageKey]
  have hpt : P.pwr t ≠ P.tb t := by simp [P.tb, P.pwr, pageKey]
  have hflag : ∀ pk (f : Field), f.off < 4096 → pk ≠ P.pwr t → (m.clocksReturn t).flag pk f = (m.clocksUp t).flag pk f := fun pk f ho hpk => by
    unfold flag rd
    rw [clocksReturn, word_causeAdded_off _ ho hpk]
  obtain ⟨href, hmain, hdeg⟩ := m.clocksUp_shown t
  refine ⟨(hflag _ _ (by decide) hpc.symm).trans href, (hflag _ _ (by decide) hpc.symm).trans hmain,
    (hflag _ _ (by decide) hpt.symm).trans hdeg, ?_⟩
  rw [clocksReturn, causeAdded, word_setWord_same, word_clocksUp_off _ (by decide) hpc hpt]
  rcases h with h | h
  · rw [h]
    rfl
  · rw [h, BitVec.or_assoc]
    rfl

theorem ClocksBack.other {w : Nat → Word} {m : Mach} {t u : Nat} (h : ClocksBack w t m) (hut : t ≠ u) : ClocksBack w t (m.clocksReturn u) := by
  unfold ClocksBack flag rd at h ⊢
  rw [show P.clk t = pageKey t 2 from rfl, show P.tb t = pageKey t 3 from rfl, show P.pwr t = pageKey t 1 from rfl,
    word_clocksReturn_other _ (by decide) (by decide) hut, word_clocksReturn_other _ (by decide) (by decide) hut,
    word_clocksReturn_other _ (by decide) (by decide) hut, word_clocksReturn_other _ (by decide) (by decide) hut]
  exact h

/-- The return of REFCLK at a part whose tiles are held in reset. -/
theorem refReturn_spec {m : Mach} (hlost : m.refLost = true) (hres : ∀ t, t < m.nTiles → (m.tile t).life = .reset) :
    m.refReturn.refLost = false ∧ m.refReturn.dram = m.dram ∧ ∀ t, t < m.nTiles →
      ClocksBack (fun t => m.word (P.pwr t) 0x054) t m.refReturn ∧ (m.refReturn.tile t).life = .reset := by
  have hlt : ∀ t, t < m.nTiles → t < 8 := fun t ht => lt_of_lt_of_le ht m.nTiles_le
  have hreturn : m.refReturn = (List.range m.nTiles).foldl (fun a t => if (a.tile t).life = .por then a
      else (a.clocksUp t).tileReset t 0x20) { m with refLost := false } := by
    unfold refReturn
    rw [hlost]
    rfl
  have hstep : ∀ (a : Mach) t, a.part = m.part → t < m.nTiles → (a.tile t).life = .reset →
      (if (a.tile t).life = .por then a else (a.clocksUp t).tileReset t 0x20) = a.clocksReturn t := by
    intro a t hpart ht hl
    have hp : (a.clocksUp t).present t = true := by
      refine decide_eq_true ?_
      have hn : (a.clocksUp t).nTiles = a.nTiles := rfl
      rw [hn]
      unfold nTiles at ht ⊢
      rwa [hpart]
    rw [hl, if_neg (by decide), tileReset_held _ hp hl]
    rfl
  have hfold := foldl_each
    (Q := fun a => a.part = m.part ∧ a.refLost = false ∧ a.dram = m.dram ∧ (∀ t, t < m.nTiles → (a.tile t).life = .reset) ∧
      ∀ t, t < m.nTiles → a.word (P.pwr t) 0x054 = m.word (P.pwr t) 0x054 ∨ a.word (P.pwr t) 0x054 = m.word (P.pwr t) 0x054 ||| 0x20)
    (G := fun t a => t < m.nTiles → ClocksBack (fun t => m.word (P.pwr t) 0x054) t a)
    (f := fun a t => if (a.tile t).life = .por then a else (a.clocksUp t).tileReset t 0x20) (List.range m.nTiles)
    (fun a t ht hq => ?_) (fun a t ht hq hn => ?_) (fun a t u ht hq hg hn => ?_) { m with refLost := false }
    ⟨rfl, rfl, rfl, hres, fun _ _ => .inl rfl⟩
  · rw [hreturn]
    obtain ⟨⟨_, hl, hdram, hlife, _⟩, hback⟩ := hfold
    exact ⟨hl, hdram, fun t ht => ⟨hback t (.inl (List.mem_range.2 ht)) ht, hlife t ht⟩⟩
  · obtain ⟨hpart, hl, hdram, hlife, hcause⟩ := hq
    have htn := List.mem_range.1 ht
    rw [hstep a t hpart htn (hlife t htn)]
    obtain ⟨hpart', hl', hdram'⟩ := clocksReturn_same a t
    refine ⟨hpart'.trans hpart, hl'.trans hl, hdram'.trans hdram, fun u hu => (clocksReturn_life a t u).trans (hlife u hu), fun u hu => ?_⟩
    by_cases hut : u = t
    · subst hut
      exact .inr (clocksReturn_back a (fun t => m.word (P.pwr t) 0x054) (hcause u hu)).2.2.2
    · have hsame : (a.clocksReturn t).word (P.pwr u) 0x054 = a.word (P.pwr u) 0x054 := word_clocksReturn_other a (by decide) (by decide) hut
      rw [hsame]
      exact hcause u hu
  · obtain ⟨hpart, _, _, hlife, hcause⟩ := hq
    rw [hstep a t hpart hn (hlife t hn)]
    exact clocksReturn_back a (fun t => m.word (P.pwr t) 0x054) (hcause t hn)
  · obtain ⟨hpart, _, _, hlife, hcause⟩ := hq
    have htn := List.mem_range.1 ht
    rw [hstep a t hpart htn (hlife t htn)]
    by_cases hut : u = t
    · subst hut
      exact clocksReturn_back a (fun t => m.word (P.pwr t) 0x054) (hcause u hn)
    · exact (hg hn).other hut

end Mach

/-- Settles O28. -/
theorem refclkCommands : Obligations.RefclkCommands := by
  refine ⟨fun s hlost hview hoff => ?_, fun s hlost hres => ?_, fun s hlost => ?_, fun s p t v h h1 h2 => ?_, fun s p t v h h0 h2 hm hr => ?_,
    fun s t hl hd he hh hn => ?_, fun s n hl hn => ?_⟩
  case refine_1 =>
    obtain ⟨hl, hdown, hk⟩ := Mach.refLoss_spec hlost (fun t ht => by obtain ⟨h1, _, h2, h3, h4⟩ := hoff t ht; exact ⟨h1, h2, h3, h4⟩)
      (fun t ht => (hoff t ht).2.1)
    exact ⟨_, rfl, hl, hdown, hk.dram, hk.arr, hk.clus⟩
  case refine_2 =>
    obtain ⟨hl, hdram, hback⟩ := Mach.refReturn_spec hlost hres
    refine ⟨_, rfl, hl, fun t ht => ?_, hdram⟩
    obtain ⟨⟨href, hmain, hdeg, hcause⟩, hlife⟩ := hback t ht
    exact ⟨href, hmain, hdeg, hcause, hlife⟩
  case refine_3 =>
    exact effect_next (f := Mach.refReturn) (if_pos (by rw [hlost]; rfl))
  case refine_4 =>
    have hbits : ∀ i : Nat, i ≠ 0 → bit (v ||| 1).toNat i = bit v.toNat i := fun i hi => by
      simpa [hi] using bit_or_two_pow v i 0
    have hwrite := tbCtrl (v := v ||| 1) h
    rw [Mach.writeTbCtrl_capture _ _ (by simpa using bit_or_two_pow v 0 0) (by rw [hbits 1 (by decide), h1])
      (by rw [hbits 2 (by decide), h2])] at hwrite
    obtain ⟨hn, hf⟩ := Mach.captured_shown (s.start.wrb (P.tb t) F.TB_CTRL_PPS_OUT_EN (bit (v ||| 1).toNat 3)) (P.tb t) (s.start.fracF t) 0
      (s.start.now t)
    refine ⟨_, hwrite, hn, hf, by simp only [Mach.wr2, Mach.wrb_tiles, Mach.wr_tiles], by simp only [Mach.wr2, Mach.wrb_dram, Mach.wr_dram],
      fun pk off ho hpk => ?_⟩
    simp only [Mach.wrb, Mach.wr2]
    rw [Mach.word_wr_off _ _ (by decide) ho (.inl hpk), Mach.word_wr_off _ _ (by decide) ho (.inl hpk),
      Mach.word_wr_off _ _ (by decide) ho (.inl hpk), Mach.word_wr_off _ _ (by decide) ho (.inl hpk),
      Mach.word_wr_off _ _ (by decide) ho (.inl hpk), Mach.word_wr_off _ _ (by decide) ho (.inl hpk)]
  case refine_5 =>
    have hbits : ∀ i : Nat, i ≠ 1 → bit (v ||| 2).toNat i = bit v.toNat i := fun i hi => by
      simpa [hi] using bit_or_two_pow v i 1
    have hwrite := tbCtrl (v := v ||| 2) h
    rw [Mach.writeTbCtrl_load _ _ (by rw [hbits 0 (by decide), h0]) (by simpa using bit_or_two_pow v 1 1)
      (by rw [hbits 2 (by decide), h2]) hm hr t.isLt] at hwrite
    obtain ⟨hpend, hload⟩ := Mach.loading_shown (s.start.wrb (P.tb t) F.TB_CTRL_PPS_OUT_EN (bit (v ||| 2).toNat 3)) (P.tb t)
    exact ⟨_, hwrite, hpend, hload, by simp only [Mach.wrb_tiles, Mach.wr_tiles], by simp only [Mach.wrb_dram, Mach.wr_dram]⟩
  case refine_6 => exact effect_next (f := fun m => m.alarmReached _) (Mach.alarmReached_due hl hd he hh hn)
  case refine_7 =>
    refine effect_next (f := fun m => m.ppsIn _) ?_
    have hadv : s.start.advance 0 n.toNat = s.start := if_pos hn
    simp only [Mach.ppsIn, hadv, hl, Bool.not_true, Bool.false_eq_true, if_false]

end Sys2Proof.Machine

/-!
PROOFS. Rails, balls and the test port.
-/

namespace Sys2Proof.Machine

namespace Mach

/-! ### Balls (R44–R49) -/

theorem inBlock_fst_lt {base len step p c q : Nat} (h : inBlock base len step p = some (c, q)) : c < 2 := by
  unfold inBlock at h
  split at h
  · cases h; decide
  · split at h
    · cases h; decide
    · cases h

/-- The host lanes, released where no lane works. -/
theorem resetLevel_lanes : ∀ i, i < 8 → resetLevel (220 + i) = .z := by decide

/-- A ball whose domains all rest holds its reset level. -/
theorem ballOut_resting {m : Mach} {t p n : Nat} (hlive : ∀ d, d < 21 → 3 ≤ d → m.live t d = false)
    (haon : p = 273 → (m.tile t).dramAon = none) : m.ballOut t p n = some (resetLevel p) := by
  have hrest : ∀ d, d < 21 → 3 ≤ d → ∀ l, m.whileLive t d p l = some (resetLevel p) := fun d h1 h2 l => by
    rw [whileLive, hlive d h1 h2]; rfl
  have hpower : m.hostPower t = false := by rw [hostPower, hlive _ (by decide) (by decide)]; rfl
  unfold ballOut
  split
  next c q hb =>
    have hc := inBlock_fst_lt hb
    exact hrest _ (by simp only [D.sport]; omega) (by simp only [D.sport]; omega) _
  next =>
    split
    next => exact hrest _ (by decide) (by decide) _
    next =>
      split
      next => exact hrest _ (by decide) (by decide) _
      next =>
        split
        next => exact hrest _ (by decide) (by decide) _
        next =>
          rw [hrest _ (by decide) (by decide), hrest _ (by decide) (by decide), hrest _ (by decide) (by decide),
            hrest _ (by decide) (by decide), hrest _ (by decide) (by decide), hrest _ (by decide) (by decide)]
          have htail : (if 220 ≤ p ∧ p ≤ 227 then (if m.laneIdle t ((p - 220) / 2) then some .z else none)
              else if p = 273 then m.dramResetPin t else if p = 313 then some (.openDrain (m.clkreqLow t))
              else some (resetLevel p)) = some (resetLevel p) := by
            split
            next h =>
              rw [show m.laneIdle t ((p - 220) / 2) = true by simp [laneIdle, hpower], ← resetLevel_lanes (p - 220) (by omega),
                Nat.add_sub_cancel' h.1]
              rfl
            next =>
              split
              next h =>
                rw [dramResetPin, haon h, hlive D.dram (by decide) (by decide), h]
                rfl
              next =>
                split
                next h =>
                  rw [clkreqLow, hpower, h]
                  rfl
                next => rfl
          rw [htail]
          simp only [ite_self]

/-- MCLK_P and MCLK_N of a port whose domain works. -/
theorem ballOut_mclk {m : Mach} {t n : Nat} (c : Fin 2) (h : m.live t (D.sport c) = true) :
    m.ballOut t (62 * c + 30) n = some (.of (m.mclkPin (2 * t + c) n)) ∧ m.ballOut t (62 * c + 31) n = some (.of (m.mclkNPin (2 * t + c) n)) := by
  have hb : ∀ c : Fin 2, ∀ q, q < 53 → inBlock 0 53 62 (62 * c + q) = some (c.val, q) := by decide
  unfold ballOut
  rw [hb c 30 (by decide), hb c 31 (by decide)]
  simp [whileLive, h]

/-- The CA and WCK balls that LPDDR4X does not use are low. -/
theorem ballOut_lpddr4x {m : Mach} (t n : Nat) (c : Fin 2) {q : Nat} (hq : q ∈ [23, 24, 25, 34]) (h : m.rd (P.dram t) F.DRAM_CFG_TYPE = 2) :
    m.ballOut t (236 + 38 * c + q) n = some .low := by
  have hb : ∀ c : Fin 2, ∀ q, q ∈ [23, 24, 25, 34] → inBlock 0 53 62 (236 + 38 * c + q) = none ∧ inBlock 53 9 62 (236 + 38 * c + q) = none ∧
      inBlock 124 14 14 (236 + 38 * c + q) = none ∧ inBlock 236 37 38 (236 + 38 * c + q) = some (c.val, q) ∧
      resetLevel (236 + 38 * c + q) = .low ∧ (q = 23 || q = 24 || q = 25 || q = 34) = true := by decide
  obtain ⟨h1, h2, h3, h4, h5, h6⟩ := hb c q hq
  unfold ballOut
  rw [h1, h2, h3, h4]
  simp only [whileLive, dramBall, h, h5, h6]
  split <;> rfl

/-! ### Rails (R44, R69) -/

/-- A bank rail that has ramped to a voltage below 3.3 V. -/
def bankUp (m : Mach) (t b : Nat) : Mach :=
  let m := m.wr (P.pwr t) F.PWR_RAIL_STAT_BANK_OK (putBit (m.rd (P.pwr t) F.PWR_RAIL_STAT_BANK_OK) b true)
  m.wr (P.pwr t) F.PWR_RAIL_STAT_BANK_33 (putBit (m.rd (P.pwr t) F.PWR_RAIL_STAT_BANK_33) b false)

theorem railRamp_bank {m : Mach} {t : Fin 8} (b : Fin 4) (h : m.present t = true) : m.railRamp (.bank t b) false = m.bankUp t b := by
  unfold railRamp
  simp only [h, Bool.not_true, Bool.false_eq_true, if_false, Bool.false_and]
  rfl

theorem bit_putBit_same {n i k : Nat} (x : Bool) (h : i < k) : bit (putBit n i x % 2 ^ k) i = x := by
  rw [bit, Nat.testBit_mod_two_pow, putBit, testBit_putBits _ _ _ (le_refl i)]
  cases x <;> simp [h]

theorem bankUp_shown (m : Mach) (t : Nat) (b : Fin 4) :
    bit ((m.bankUp t b).rd (P.pwr t) F.PWR_RAIL_STAT_BANK_OK) b = true ∧ bit ((m.bankUp t b).rd (P.pwr t) F.PWR_RAIL_STAT_BANK_33) b = false := by
  unfold bankUp
  dsimp only
  refine ⟨?_, ?_⟩
  · rw [rd_wr_apart (f := F.PWR_RAIL_STAT_BANK_33) (f' := F.PWR_RAIL_STAT_BANK_OK) _ _ _ (by decide) (by decide) rfl (by decide),
      rd_wr_same _ _ _ (by decide) (by decide)]
    exact bit_putBit_same true b.isLt
  · rw [rd_wr_same _ _ _ (by decide) (by decide)]
    exact bit_putBit_same false b.isLt

/-! ### The test port (R41) -/

/-- What fills a chain keeps the levels it is given and only takes free values (log entry 90). -/
theorem fillFree_spec (l : List (Option Bool)) (m : Mach) : (fillFree l m).1.length = l.length ∧
    (∀ (k : Nat) (b : Bool), l[k]? = some (some b) → (fillFree l m).1[k]? = some b) ∧ ∃ n, (fillFree l m).2 = { m with free := n } := by
  induction l generalizing m with
  | nil => exact ⟨rfl, by simp, m.free, rfl⟩
  | cons x l ih =>
    cases x with
    | some b =>
      obtain ⟨hlen, hget, hfree⟩ := ih m
      refine ⟨by simp [fillFree, hlen], fun k b' hk => ?_, hfree⟩
      cases k with
      | zero => simpa [fillFree] using hk
      | succ k => simpa [fillFree] using hget k b' (by simpa using hk)
    | none =>
      obtain ⟨hlen, hget, n, hfree⟩ := ih m.freeBool.2
      refine ⟨by simp [fillFree, hlen], fun k b' hk => ?_, n, hfree⟩
      cases k with
      | zero => simp at hk
      | succ k => simpa [fillFree] using hget k b' (by simpa using hk)

/-- In a state that neither captures nor shifts a rising edge moves the controller alone. -/
theorem tapAction_still {m : Mach} (tdi : Bool) (h : m.jtag.tap ∈ [Tap.reset, .idle, .selDr, .ex1Dr, .pauDr, .ex2Dr, .updDr,
      .selIr, .ex1Ir, .pauIr, .ex2Ir, .updIr]) : m.tapAction tdi = m := by
  unfold tapAction
  dsimp only
  split
  next htap => rw [htap] at h; exact absurd h (by decide)
  next htap => rw [htap] at h; exact absurd h (by decide)
  next htap => rw [htap] at h; exact absurd h (by decide)
  next htap => rw [htap] at h; exact absurd h (by decide)
  next => rfl

theorem jtagEdge_rising {m : Mach} (tms tdi : Bool) (hh : m.testHeld = false) (hl : (m.tile 0).life ≠ .por) :
    m.jtagEdge true tms tdi false = { m.tapAction tdi with jtag := { (m.tapAction tdi).jtag with tap := Tap.next (m.tapAction tdi).jtag.tap tms } } := by
  unfold jtagEdge
  rw [hh, if_neg (by simp [hl])]
  rfl

/-- Capture-DR: the chain takes the levels of its cells, or the bypass bit takes 0. -/
theorem tapAction_capDr {m : Mach} (tdi : Bool) (h : m.jtag.tap = .capDr) : m.tapAction tdi =
    if chainSelected m.jtag then { (fillFree (m.scanCells.map m.scanLevel) m).2 with jtag :=
        { m.jtag with chain := (fillFree (m.scanCells.map m.scanLevel) m).1 } }
      else { m with jtag := { m.jtag with bypass := false } } := by
  unfold tapAction
  simp only [h]

end Mach

/-- Settles O29: each ball by the block of its number; the test port by the state of its controller. -/
theorem railAndTestPortCommands : Obligations.RailAndTestPortCommands := by
  refine ⟨fun s t v33 hp => effect_next (f := fun m => m.railRamp _ _) (if_pos hp), fun s t b hp => ?_, fun s tms tdi hh hl htap => ?_,
    fun s rising tms tdi hh hl => ?_, fun s tms tdi hh hl htap => ?_, fun m t p n hlive _ haon => Mach.ballOut_resting hlive haon, ?_, ?_, ?_,
    fun m t n c h => ?_, fun m t n c q hq h => Mach.ballOut_lpddr4x t n c hq h⟩
  case refine_1 =>
    obtain ⟨hok, h33⟩ := s.start.bankUp_shown t b
    refine ⟨_, effect_next (f := fun m => m.railRamp _ _) (Mach.railRamp_bank b hp), hok, h33, fun pk off ho hne => ?_, ?_, ?_⟩
    · unfold Mach.bankUp
      have hoff : pk ≠ P.pwr t ∨ off ≠ 0x060 := by tauto
      rw [Mach.word_wr_off _ _ (by decide) ho hoff, Mach.word_wr_off _ _ (by decide) ho hoff]
    · simp only [Mach.bankUp, Mach.wr_tiles]
    · simp only [Mach.bankUp, Mach.wr_dram]
  case refine_2 =>
    refine effect_next (f := fun m => m.jtagEdge _ _ _ _) ?_
    rw [Mach.jtagEdge_rising tms tdi hh hl, Mach.tapAction_still tdi htap]
  case refine_3 =>
    refine effect_next (f := fun m => m.jtagEdge _ _ _ _) ?_
    rw [Mach.jtagEdge, if_neg (by simp [hh, hl]), if_pos rfl]
  case refine_4 =>
    refine ⟨_, effect_next (f := fun m => m.jtagEdge _ _ _ _) (Mach.jtagEdge_rising tms tdi hh hl), ?_⟩
    obtain ⟨hlen, hget, n, hfree⟩ := Mach.fillFree_spec (s.start.scanCells.map s.start.scanLevel) s.start
    rw [Mach.tapAction_capDr tdi htap, hfree]
    cases hsel : Mach.chainSelected s.start.jtag with
    | false =>
      exact ⟨congrArg (Mach.Tap.next · tms) htap, fun _ => ⟨rfl, rfl⟩, fun h => (Bool.false_ne_true h).elim, rfl, rfl, rfl, rfl⟩
    | true =>
      refine ⟨congrArg (Mach.Tap.next · tms) htap, fun h => (Bool.false_ne_true h.symm).elim,
        fun _ => ⟨hlen.trans (List.length_map _), fun k t p _ hcell => ⟨fun hhigh => ?_, fun hlow => ?_⟩⟩, rfl, rfl, rfl, rfl⟩
      · refine hget k true ?_
        rw [List.getElem?_map, hcell, Option.map_some, Mach.scanLevel, hhigh]
      · refine hget k false ?_
        rw [List.getElem?_map, hcell, Option.map_some, Mach.scanLevel, hlow]
  case refine_5 => decide
  case refine_6 => decide
  case refine_7 => decide
  case refine_8 =>
    obtain ⟨hP, hN⟩ := Mach.ballOut_mclk (n := n) c h
    rw [hP, hN]
    refine ⟨fun hlvds => ?_, fun hlvds hdrive => ?_⟩
    · rw [Mach.mclkNPin, hlvds, Bool.and_false]
      rfl
    · rw [Mach.mclkNPin, hlvds, hdrive]
      cases m.mclkPin (2 * t + c) n <;> rfl

end Sys2Proof.Machine

/-!
PROOFS. Hands: forming one, its queue of commands, its transitions and its deals' boundaries.
-/

namespace Sys2Proof.Machine

/-! ### Forming a hand (R134, R138) -/

namespace Mach

/-- The row of HAND_CFG: VALID, POS_KIND, POS_CLUSTER, MEMBERS and CLAMP are RW (R134). -/
theorem rowOf_handCfg (h : Fin 16) : rowOf P.mode (0x040 + 4 * h) = some ⟨0x040, 4, 16, 0x8CF0FFFF, 0, 0, 0, 0⟩ := by revert h; decide

theorem word_lampMember_mode (m : Mach) {g off : Nat} (hg : g < 16) (ho : off < 4096) : (m.lampMember g).word P.mode off = m.word P.mode off := by
  unfold lampMember
  split
  · have hne : P.mode ≠ P.lamp g := globalPage_ne (by omega) (by omega)
    exact word_wr_off m _ (by decide) ho (.inl hne)
  · rfl

theorem word_lampMembers_mode (m : Mach) {l : List Nat} (hl : ∀ g ∈ l, g < 16) {off : Nat} (ho : off < 4096) :
    (l.foldl (fun m g => m.lampMember g) m).word P.mode off = m.word P.mode off :=
  foldl_keeps (fun a => a.word P.mode off) l (fun a g hg => word_lampMember_mode a (hl g hg) ho) m

theorem mem_members_lt {m : Mach} {h g : Nat} (hg : g ∈ m.members h) : g < 16 := List.mem_range.1 (List.mem_filter.1 hg).1

/-- The word of HAND_CFG written (R134). -/
def withHandCfg (m : Mach) (h : Nat) (v : Word) : Mach := ((m.runAxes (List.range 16)).genericWrite P.mode (0x040 + 4 * h) v).paceForms h

/-- A hand formed, in READY. -/
def formHand (m : Mach) (h : Nat) (v : Word) : Mach :=
  let a := (m.withHandCfg h v).setHandState h 1
  (a.members h).foldl (fun m g => m.lampMember g) a

theorem word_paceForms (m : Mach) (h pk off : Nat) : (m.paceForms h).word pk off = m.word pk off := by
  unfold paceForms
  exact foldl_keeps (fun a => a.word pk off) (f := fun a t => a.modPace t h fun _ => {}) _ (fun _ _ _ => rfl) m

theorem bits_withHandCfg {m : Mach} (h : Fin 16) (v : Word) {hi lo : Nat} (hk : bits (0x8CF0FFFF : Word).toNat hi lo = 2 ^ (hi + 1 - lo) - 1) :
    bits ((m.withHandCfg h v).word P.mode (0x040 + 4 * h)).toNat hi lo = bits v.toNat hi lo := by
  unfold withHandCfg
  rw [word_paceForms, genericWrite_of_taken v (rowOf_handCfg h) (by decide), word_setWord_same]
  generalize ((m.runAxes (List.range 16)).word P.mode (0x040 + 4 * h)) = old
  have hw : ((old &&& ~~~(BitVec.ofNat 32 (0x8CF0FFFF ||| 0))) ||| (v &&& BitVec.ofNat 32 (0x8CF0FFFF ||| 0))) &&& ~~~(v &&& BitVec.ofNat 32 0) =
      (v &&& 0x8CF0FFFF) ||| (old &&& ~~~0x8CF0FFFF) := by
    rw [BitVec.ofNat_eq_ofNat, BitVec.and_zero, BitVec.not_zero, BitVec.and_allOnes, BitVec.or_comm]
    rfl
  rw [hw]
  exact bits_copied hk

theorem setHandState_shown (m : Mach) {h : Nat} (hh : h < 16) : (m.setHandState h 1).handState h = 1 := by
  have hoff : (F.MODE_HAND_STAT_STATE.nth h).off < 4096 ∧ (F.MODE_HAND_STAT_STATE.nth h).off ≠ 0x010 := by
    rw [Field.nth_off]; simp only [F.MODE_HAND_STAT_STATE]; omega
  unfold setHandState
  split
  next hs => exact hs
  next =>
    unfold handState
    rw [rd_raise_off _ hoff.1 (.inr hoff.2), rd_wr_same _ _ _ (by simp [F.MODE_HAND_STAT_STATE]) (by simp [F.MODE_HAND_STAT_STATE])]
    rfl

theorem word_setHandState_cfg (m : Mach) {h : Nat} (hh : h < 16) (s : Nat) :
    (m.setHandState h s).word P.mode (0x040 + 4 * h) = m.word P.mode (0x040 + 4 * h) := by
  have hoff : (F.MODE_HAND_STAT_STATE.nth h).off = 0x200 + 4 * h := by rw [Field.nth_off]; simp only [F.MODE_HAND_STAT_STATE]; omega
  unfold setHandState
  split
  next => rfl
  next => rw [word_raise_off _ (by omega) (.inr (by omega)), word_wr_off _ _ (by omega) (by omega) (.inr (by omega))]

theorem withHandCfg_valid {m : Mach} (h : Fin 16) {v : Word} (hv : bit v.toNat 31 = true) :
    (m.withHandCfg h v).flag P.mode (F.MODE_HAND_CFG_VALID.nth h) = true := by
  have hbits := bits_withHandCfg (m := m) h v (hi := 31) (lo := 31) (by decide)
  have hone : bits v.toNat 31 31 = 1 := by
    rw [bit_eq_decide, decide_eq_true_eq] at hv
    rw [bits_eq]
    exact hv
  have hrd : (m.withHandCfg h v).rd P.mode (F.MODE_HAND_CFG_VALID.nth h) = 1 := by
    rw [rd, Field.nth_off, Field.nth_hi, Field.nth_lo, show F.MODE_HAND_CFG_VALID.off + h * F.MODE_HAND_CFG_VALID.stride = 0x040 + 4 * h by
      simp only [F.MODE_HAND_CFG_VALID]; omega]
    exact hbits.trans hone
  rw [flag, hrd]
  decide

theorem handOf_ne {m : Mach} {h g : Nat} (hno : m.flag P.mode (F.MODE_HAND_CFG_VALID.nth h) = false) (hcut : (m.clu g).cut = none) :
    m.handOf g ≠ some h := by
  rw [handOf, hcut]
  intro hfind
  have hvalid := List.find?_some hfind
  rw [hno, Bool.false_and] at hvalid
  exact Bool.false_ne_true hvalid

/-- A HAND_CFG value that meets the conditions forms a hand that is not formed. -/
theorem writeHandCfg_forms {m : Mach} (h : Fin 16) {v : Word} (hno : m.flag P.mode (F.MODE_HAND_CFG_VALID.nth h) = false)
    (hok : m.handCfgOk h v = true) (hv : bit v.toNat 31 = true) (hcut : ∀ g, g < 16 → (m.clu g).cut = none) :
    m.writeHandCfg h v = m.formHand h v := by
  have hhad : (List.range 16).filter (fun g => decide (m.handOf g = some h.val)) = [] :=
    List.filter_eq_nil_iff.2 fun g hg => by simpa using handOf_ne hno (hcut g (List.mem_range.1 hg))
  have hopen : m.handOpen h = true := by simp [handOpen, hno]
  have hcfg : ((m.runAxes (List.range 16)).genericWrite P.mode (0x040 + 4 * h) v).paceForms h = m.withHandCfg h v := rfl
  unfold writeHandCfg
  rw [hopen, hok, if_neg (by decide)]
  dsimp only
  rw [hhad, hcfg, withHandCfg_valid h hv]
  rfl

theorem word_formHand_cfg (m : Mach) (h : Fin 16) (v : Word) :
    (m.formHand h v).word P.mode (0x040 + 4 * h) = (m.withHandCfg h v).word P.mode (0x040 + 4 * h) := by
  unfold formHand
  dsimp only
  rw [word_lampMembers_mode _ (fun _ => mem_members_lt) (by omega), word_setHandState_cfg _ h.isLt]

theorem formHand_state (m : Mach) (h : Fin 16) (v : Word) : (m.formHand h v).handState h = 1 := by
  have hoff : (F.MODE_HAND_STAT_STATE.nth h).off < 4096 := by rw [Field.nth_off]; simp only [F.MODE_HAND_STAT_STATE]; omega
  rw [← setHandState_shown (m.withHandCfg h v) h.isLt]
  unfold formHand handState rd
  dsimp only
  rw [word_lampMembers_mode _ (fun _ => mem_members_lt) hoff]

theorem formHand_members (m : Mach) (h : Fin 16) (v : Word) : (m.formHand h v).members h = (List.range 16).filter (fun g => bit v.toNat g) := by
  refine List.filter_congr fun g hg => ?_
  have hlt := List.mem_range.1 hg
  have hrd : (m.formHand h v).rd P.mode (F.MODE_HAND_CFG_MEMBERS.nth h) = bits v.toNat 15 0 := by
    rw [rd, Field.nth_off, Field.nth_hi, Field.nth_lo, show F.MODE_HAND_CFG_MEMBERS.off + h * F.MODE_HAND_CFG_MEMBERS.stride = 0x040 + 4 * h by
      simp only [F.MODE_HAND_CFG_MEMBERS]; omega]
    exact (congrArg (fun w : Word => bits w.toNat 15 0) (word_formHand_cfg m h v)).trans (bits_withHandCfg h v (by decide))
  rw [hrd, bit, testBit_bits]
  simp [hlt, bit]

/-- Forming a hand keeps what neither the words, nor the clusters, nor the pace states of the tiles are part of. -/
theorem formHand_keeps {β : Type} (f : Mach → β) {m : Mach} (h : Fin 16) (v : Word) (haxes : ∀ g, g < 16 → m.axLive g = false)
    (hword : ∀ a pk off w, f (a.setWord pk off w) = f a) (hclu : ∀ a g x, f (a.modClu g x) = f a)
    (hpace : ∀ a t x, f (a.modPace t h x) = f a) : f (m.formHand h v) = f m := by
  have hrun : m.runAxes (List.range 16) = m := by
    unfold runAxes
    exact List.foldlRecOn (motive := fun a => a = m) _ _ rfl fun a ha g hg => by
      rw [ha, haxes g (List.mem_range.1 hg)]; rfl
  have hlamp : ∀ a g, f (lampMember a g) = f a := fun a g => by
    unfold lampMember
    split
    · exact (hclu _ _ _).trans (hword _ _ _ _)
    · rfl
  have hstate : ∀ a : Mach, f (a.setHandState h 1) = f a := fun a => by
    unfold setHandState
    split
    · rfl
    · exact (hword _ _ _ _).trans (hword _ _ _ _)
  unfold formHand
  dsimp only
  rw [foldl_keeps f _ (fun a g _ => hlamp a g), hstate, withHandCfg, hrun, paceForms,
    foldl_keeps f _ (fun a t _ => hpace a t _), genericWrite_of_taken v (rowOf_handCfg h) (by decide), hword]

theorem tile_modPace_rest (m : Mach) (t u h : Nat) (x : PaceHand → PaceHand) (p : Vector PaceHand 16) :
    { (m.modPace t h x).tile u with pace := p } = { m.tile u with pace := p } := by
  unfold modPace
  by_cases hut : u = t
  · subst hut
    by_cases hu : u < 8
    · rw [tile_modTile_same _ _ hu]
    · rw [show ∀ f, (m.modTile u f).tile u = m.tile u by simp [tile, modTile, vmod, hu]]
  · rw [tile_modTile_ne _ _ hut]

end Mach

/-- A write of a register of page MODE. -/
theorem modeWrite {s : State} {p : Port} {off : Nat} (v : Word) (h : s.start.writable p 14 0x03 off = true) (hlo : 0x040 ≤ off) (hhi : off < 0x800)
    (h4 : off % 4 = 0) (hr : (rowOf (pageKey 14 0x03) off).isSome = true) :
    s.effect (fun m => m.portWrite p (regAddr 14 0x03 off) v) = .next (s.settled (s.start.writeMode off v)) := by
  rw [effect_globalWrite h (by decide) hlo hhi h4 hr (by simp [hasWindow])]
  rfl

theorem exec_handCfgWrite {s : State} {p : Port} {h : Fin 16} (v : Word) (hw : s.start.writable p 14 0x03 (0x040 + 4 * h) = true) :
    exec (.handCfgWrite p h v) s = .next (s.settled (s.start.writeHandCfg h v)) := by
  have hr : (rowOf (pageKey 14 0x03) (0x040 + 4 * h)).isSome = true := by
    have hrow := Mach.rowOf_handCfg h
    rw [show P.mode = pageKey 14 0x03 from rfl] at hrow
    rw [hrow]
    rfl
  have hwrite : s.start.writeMode (0x040 + 4 * h) v = s.start.writeHandCfg h v := by
    have h1 : (0x040 + 4 * h.val) / 0x40 = 1 := by omega
    have h2 : (0x040 + 4 * h.val) % 0x40 / 4 = h := by omega
    unfold Mach.writeMode
    rw [h1, h2]
    rfl
  rw [← hwrite]
  exact modeWrite v hw (by omega) (by omega) (by omega) hr

/-- Settles O30: HAND_CFG is written first; the rest reads it from there. -/
theorem handIsFormed : Obligations.HandIsFormed := by
  refine ⟨fun s p h v hw hno hok hv hcut => ⟨s.start.formHand h v, ?_, Mach.formHand_state _ h v, ?_, Mach.formHand_members _ h v⟩,
    fun s p h v hw hno hok hv hq => ⟨s.start.formHand h v, ?_, ?_, ?_, ?_, fun t ht => ?_⟩⟩
  case refine_1 => rw [exec_handCfgWrite v hw, Mach.writeHandCfg_forms h hno hok hv hcut]
  case refine_2 =>
    have hoff : (F.MODE_HAND_CFG_VALID.nth h).off = 0x040 + 4 * h := by rw [Field.nth_off]; simp only [F.MODE_HAND_CFG_VALID]; omega
    rw [← Mach.withHandCfg_valid (m := s.start) h hv, Mach.flag, Mach.flag, Mach.rd, Mach.rd, hoff, Mach.word_formHand_cfg]
  case refine_3 => rw [exec_handCfgWrite v hw, Mach.writeHandCfg_forms h hno hok hv fun g hg => (hq g hg).1]
  case refine_4 =>
    exact Mach.formHand_keeps Mach.dram h v (fun g hg => (hq g hg).2) (fun _ _ _ _ => rfl) (fun _ _ _ => rfl) (fun _ _ _ => rfl)
  case refine_5 =>
    exact Mach.formHand_keeps Mach.arr h v (fun g hg => (hq g hg).2) (fun _ _ _ _ => rfl) (fun _ _ _ => rfl) (fun _ _ _ => rfl)
  case refine_6 =>
    exact Mach.formHand_keeps Mach.hands h v (fun g hg => (hq g hg).2) (fun _ _ _ _ => rfl) (fun _ _ _ => rfl) (fun _ _ _ => rfl)
  case refine_7 =>
    exact Mach.formHand_keeps (fun a => { a.tile t with pace := (s.start.tile t).pace }) h v (fun g hg => (hq g hg).2) (fun _ _ _ _ => rfl)
      (fun _ _ _ => rfl) (fun a u x => Mach.tile_modPace_rest a u t h x _)

/-! ### The queue of commands (R138–R140) -/

namespace Mach

theorem joinQueue_length (n : Nat) (c : HandCmd) (q : List (Nat × HandCmd)) : (joinQueue n c q).length = q.length + 1 := by
  have htake := (List.takeWhile_prefix (l := q) fun e => decide (e.1 < n) || (e.1 = n && (fromHost c || !fromHost e.2))).length_le
  unfold joinQueue
  rw [List.length_append, List.length_cons, List.length_drop]
  omega

/-- An entry that nothing in the queue follows joins it last. -/
theorem joinQueue_last {n : Nat} {c : HandCmd} {q : List (Nat × HandCmd)} (h : ∀ e ∈ q, e.1 < n ∨ (e.1 = n ∧ fromHost c = true)) :
    joinQueue n c q = q ++ [(n, c)] := by
  have htake : (q.takeWhile fun e => decide (e.1 < n) || (e.1 = n && (fromHost c || !fromHost e.2))) = q := by
    refine List.takeWhile_eq_self_iff.2 fun e he => ?_
    rcases h e he with hlt | ⟨heq, hc⟩
    · simp [hlt]
    · simp [heq, hc]
  unfold joinQueue
  rw [htake]
  dsimp only
  rw [List.drop_length]

/-- An entry joins before the first that follows it. -/
theorem joinQueue_before {n k : Nat} {c d : HandCmd} {q r : List (Nat × HandCmd)} (hq : ∀ e ∈ q, e.1 < n)
    (h : n < k ∨ (k = n ∧ fromHost c = false ∧ fromHost d = true)) : joinQueue n c (q ++ (k, d) :: r) = q ++ (n, c) :: (k, d) :: r := by
  have htake : ((q ++ (k, d) :: r).takeWhile fun e => decide (e.1 < n) || (e.1 = n && (fromHost c || !fromHost e.2))) = q := by
    rw [List.takeWhile_append_of_pos fun e he => by simp [hq e he], List.takeWhile_cons_of_neg, List.append_nil]
    rcases h with hlt | ⟨rfl, hc, hd⟩
    · simp [show ¬ k < n by omega, show k ≠ n by omega]
    · simp [hc, hd]
  unfold joinQueue
  rw [htake]
  dsimp only
  rw [List.drop_left]

/-- A queued command of the host joins its hand's queue, or finds it full (R139, R140). -/
theorem handCommand_queued {m : Mach} {n : Nat} {c : HandCmd} (h : Nat) (hc : queuedCmd n = some c) : m.handCommand h n =
    if 4 ≤ (m.hand h).queue.length then m.refuse P.mode 0
    else (m.modHand h fun x => { x with queue := joinQueue (m.now (m.declarer.getD 0)) c (m.hand h).queue }).wr P.mode
      (F.MODE_HAND_STAT_QUEUED.nth h) ((m.hand h).queue.length + 1) := by
  rw [handCommand, hc]
  dsimp only
  rw [enqueue, setQueue, joinQueue_length]
  rfl

theorem handCommand_hold {m : Mach} (h : Nat) {n : Nat} (hn : n = 6 ∨ n = 7) : m.handCommand h n =
    if 3 ≤ m.handState h then m.wr P.mode (F.MODE_HAND_STAT_HOLD_HOST.nth h) (if n = 6 then 1 else 0) else m.refuse P.mode 0 := by
  have hq : queuedCmd n = none := by rcases hn with rfl | rfl <;> rfl
  have hn' : (n = 6 || n = 7) = true := by simpa using hn
  rw [handCommand, hq]
  simp [hn', refuseMode]

end Mach

/-- A write of HAND_CMD is its code's. -/
theorem handCmdWrite {s : State} {p : Port} {h : Fin 16} (v : Word) (hw : s.start.writable p 14 0x03 (0x0C0 + 4 * h) = true) :
    s.effect (fun m => m.portWrite p (regAddr 14 0x03 (0x0C0 + 4 * h)) v) = .next (s.settled (s.start.handCommand h (bits v.toNat 3 0))) := by
  have hr : ∀ h : Fin 16, (rowOf (pageKey 14 0x03) (0x0C0 + 4 * h)).isSome = true := by decide
  have hwrite : s.start.writeMode (0x0C0 + 4 * h) v = s.start.handCommand h (bits v.toNat 3 0) := by
    have h1 : (0x0C0 + 4 * h.val) / 0x40 = 3 := by omega
    have h2 : (0x0C0 + 4 * h.val) % 0x40 / 4 = h := by omega
    unfold Mach.writeMode
    rw [h1, h2]
    rfl
  rw [← hwrite]
  exact modeWrite v hw (by omega) (by omega) (by omega) (hr h)

/-- Settles O31: HAND_CMD queues by its code; the queue's order is that of `joinQueue`. -/
theorem handCommandsQueue : Obligations.HandCommandsQueue := by
  refine ⟨fun s p h i c hi hw => ?_, fun n c q hq => Mach.joinQueue_last hq, fun n c d q r k hq h => Mach.joinQueue_before hq h,
    fun s p h hw => ⟨?_, ?_⟩⟩
  case refine_1 =>
    have hcmd : ∀ v : Word, Mach.queuedCmd (bits v.toNat 3 0) = some c →
        s.effect (fun m => m.portWrite p (regAddr 14 0x03 (0x0C0 + 4 * h)) v) = .next (s.settled (
          if 4 ≤ (s.start.hand h).queue.length then s.start.refuse P.mode 0
          else (s.start.modHand h fun x => { x with queue := Mach.joinQueue (s.start.now (s.start.declarer.getD 0)) c (s.start.hand h).queue }).wr
            P.mode (F.MODE_HAND_STAT_QUEUED.nth h) ((s.start.hand h).queue.length + 1))) := fun v hc => by
      rw [handCmdWrite v hw, Mach.handCommand_queued h hc]
    simp only [List.mem_cons, Prod.mk.injEq, List.not_mem_nil, or_false] at hi
    rcases hi with ⟨rfl, rfl⟩ | ⟨rfl, rfl⟩ | ⟨rfl, rfl⟩ | ⟨rfl, rfl⟩ | ⟨rfl, rfl⟩ | ⟨rfl, rfl⟩ | ⟨rfl, rfl⟩
    exacts [hcmd 1 rfl, hcmd 2 rfl, hcmd 3 rfl, hcmd 4 rfl, hcmd 5 rfl, hcmd 8 rfl, hcmd 9 rfl]
  case refine_2 => exact (handCmdWrite 6 hw).trans (congrArg (fun a => Host.Outcome.next (s.settled a)) (Mach.handCommand_hold h (.inl rfl)))
  case refine_3 => exact (handCmdWrite 7 hw).trans (congrArg (fun a => Host.Outcome.next (s.settled a)) (Mach.handCommand_hold h (.inr rfl)))

/-! ### The tile that serves a hand, and what does not move it -/

namespace Mach

theorem declarer_congr {m m' : Mach} (hv : m'.viewOf = m.viewOf) (ha : ∀ t, t < 8 → m'.answers t = m.answers t)
    (hw : ∀ t, t < 8 → m'.word (P.decl t) 0x040 = m.word (P.decl t) 0x040) : m'.declarer = m.declarer := by
  have hrole : ∀ t, t < 8 → m'.rd (P.decl t) F.DECL_ROLE_ROLE = m.rd (P.decl t) F.DECL_ROLE_ROLE := fun t ht => by
    rw [rd, rd, show F.DECL_ROLE_ROLE.off = 0x040 from rfl, hw t ht]
  unfold declarer
  rw [hv, List.find?_congr fun t ht => by rw [ha t (List.mem_range.1 ht), hrole t (List.mem_range.1 ht)]]

/-- A step that leaves tiles, and of the words those of HAND_CFG and of the tiles' pages, serves the hand from the same tile. -/
theorem handTile_congr {m m' : Mach} {h : Nat} (ht : m'.tiles = m.tiles) (hp : m'.part = m.part) (hv : m'.viewOf = m.viewOf)
    (hlost : (m'.hand h).lost = (m.hand h).lost) (hgrid : (m'.hand h).gridHeld = (m.hand h).gridHeld)
    (hcfg : m'.word P.mode (0x040 + 4 * h) = m.word P.mode (0x040 + 4 * h))
    (hdecl : ∀ t, t < 8 → m'.word (P.decl t) 0x040 = m.word (P.decl t) 0x040) : m'.handTile h = m.handTile h := by
  have htile : ∀ t, m'.tile t = m.tile t := fun t => by unfold tile; rw [ht]
  have hawake : ∀ t, m'.awake t = m.awake t := fun t => by unfold awake present nTiles; rw [hp, htile]
  have hanswers : ∀ t, m'.answers t = m.answers t := fun t => by unfold answers present nTiles; rw [hp, htile]
  have hmembers : m'.members h = m.members h := by
    have hoff : (F.MODE_HAND_CFG_MEMBERS.nth h).off = 0x040 + 4 * h := by rw [Field.nth_off]; simp only [F.MODE_HAND_CFG_MEMBERS]; omega
    unfold members rd
    rw [hoff, hcfg]
  have hleader : m'.leader h = m.leader h := by unfold leader; rw [hmembers]
  unfold handTile leaderLost
  rw [hleader, hlost, hgrid, hawake, declarer_congr hv (fun t _ => hanswers t) hdecl]

/-- Page MODE is none of the pages DECL. -/
theorem word_setWord_mode_decl (m : Mach) {off t off' : Nat} (w : Word) (ht : t < 8) (ho : off < 4096) (ho' : off' < 4096) :
    (m.setWord P.mode off w).word (P.decl t) off' = m.word (P.decl t) off' :=
  word_setWord_off m w ho ho' (.inl (globalPage_ne ht (by decide)).symm)

theorem handTile_setWord_mode (m : Mach) {h off : Nat} (w : Word) (hh : h < 16) (hlo : 0x080 ≤ off) (ho : off < 4096) :
    (m.setWord P.mode off w).handTile h = m.handTile h :=
  handTile_congr rfl rfl rfl rfl rfl (word_setWord_off m w ho (by omega) (.inr (by omega)))
    fun t ht => word_setWord_mode_decl m w ht ho (by decide)

theorem handTile_modHand (m : Mach) {h : Nat} {f : Hand → Hand} (hh : h < 16) (hl : ∀ s, (f s).lost = s.lost) (hg : ∀ s, (f s).gridHeld = s.gridHeld) :
    (m.modHand h f).handTile h = m.handTile h := by
  refine handTile_congr rfl rfl rfl ?_ ?_ rfl fun _ _ => rfl
  · rw [hand_modHand_same _ _ hh, hl]
  · rw [hand_modHand_same _ _ hh, hg]

/-! ### Fields of a hand's status -/

theorem rd_wr_nth_apart (m : Mach) (pk h : Nat) {f f' : Field} (v : Nat) (ho : f'.off = f.off) (hs : f'.stride = f.stride) (hle : f.lo ≤ f.hi)
    (hk : f.hi < 32) (hd : f'.hi < f.lo ∨ f.hi < f'.lo) : (m.wr pk (f.nth h) v).rd pk (f'.nth h) = m.rd pk (f'.nth h) := by
  refine rd_wr_apart m pk v ?_ ?_ ?_ ?_
  · simpa only [Field.nth_lo, Field.nth_hi] using hle
  · simpa only [Field.nth_hi] using hk
  · rw [Field.nth_off, Field.nth_off, ho, hs]
  · simpa only [Field.nth_lo, Field.nth_hi] using hd

theorem rd_wr_nth_same (m : Mach) (pk h : Nat) {f : Field} (v : Nat) (hle : f.lo ≤ f.hi) (hk : f.hi < 32) :
    (m.wr pk (f.nth h) v).rd pk (f.nth h) = v % 2 ^ (f.hi + 1 - f.lo) := by
  have hsame := rd_wr_same m pk (f := f.nth h) v (by simpa only [Field.nth_lo, Field.nth_hi] using hle) (by simpa only [Field.nth_hi] using hk)
  rwa [Field.width, Field.nth_lo, Field.nth_hi] at hsame

/-- A write to a register array of page MODE leaves those of the other arrays. -/
theorem rd_wr_nth_off (m : Mach) (pk : Nat) {h k : Nat} {f f' : Field} (v : Nat) (hh : h < 16) (hk : k < 16) (hs : f.stride = 4 ∧ f'.stride = 4)
    (ho : f.off + 64 ≤ f'.off ∨ f'.off + 64 ≤ f.off) (h1 : f.off < 0xC00 ∧ f'.off < 0xC00) :
    (m.wr pk (f.nth h) v).rd pk (f'.nth k) = m.rd pk (f'.nth k) := by
  obtain ⟨hs1, hs2⟩ := hs
  have e1 : (f.nth h).off = f.off + h * 4 := by rw [Field.nth_off, hs1]
  have e2 : (f'.nth k).off = f'.off + k * 4 := by rw [Field.nth_off, hs2]
  exact rd_wr_off m v (by omega) (by omega) (.inr (by omega))

/-! ### Transitions (R138, R140, R145) -/

/-- A command that may take effect leaves the queue and becomes current. -/
theorem leaveQueue_taken {m : Mach} {h k : Nat} {c : HandCmd} {r : List (Nat × HandCmd)} (hq : (m.hand h).queue = (k, c) :: r)
    (hcur : (m.hand h).current = none) (hdrain : m.flag P.mode (F.MODE_HAND_STAT_DRAINING.nth h) = false) (hok : m.commandOk h c = true)
    (hstart : c = .dealStart → m.dealOpen h = false) :
    ∃ cause, m.leaveQueue h = (m.setQueue h r).modHand h fun s =>
      { s with current := some c, endCause := cause, at_ := m.now (m.handTile h) } := by
  have hno : (decide (c = .dealStart) && m.dealOpen h) = false := by
    by_cases hc : c = .dealStart
    · rw [hstart hc, Bool.and_false]
    · simp [hc]
  unfold leaveQueue
  dsimp only
  rw [hq]
  dsimp only
  rw [hcur, hdrain, hok, hno]
  exact ⟨_, rfl⟩

theorem leaveQueue_refused {m : Mach} {h k : Nat} {c : HandCmd} {r : List (Nat × HandCmd)} (hq : (m.hand h).queue = (k, c) :: r)
    (hcur : (m.hand h).current = none) (hdrain : m.flag P.mode (F.MODE_HAND_STAT_DRAINING.nth h) = false) (hok : m.commandOk h c = false) :
    m.leaveQueue h = ((m.modHand h fun x => { x with queue := r }).wr P.mode (F.MODE_HAND_STAT_QUEUED.nth h) r.length).refuse P.mode 0 := by
  unfold leaveQueue
  dsimp only
  rw [hq]
  dsimp only
  rw [hcur, hdrain, hok]
  rfl

/-- The state in which a command that is due takes effect. -/
def taken (m : Mach) (h : Nat) : Mach := m.modHand h fun s => { s with current := none }

/-- What a command does at its grid point (R138, R143). -/
def takeEffect (m : Mach) (h : Nat) : HandCmd → Mach
  | .arm => m.armHand h
  | .disarm => m.disarmHand h
  | .toCalibrate => m.setHandState h 2
  | .toScan => m.setHandState h 3
  | .toReady => if m.dealOpen h then (m.endDeal h).modHand h fun s => { s with readyAfter := true } else m.readyNow h
  | .dealStart | .pinStart => m.startDeal h
  | .dealEnd | .pinEnd | .linesEnd => m.endDeal h

/-- A command whose grid point has come takes effect now. -/
theorem handTransition_due {m : Mach} {h : Nat} {c : HandCmd} (hc : (m.hand h).current = some c)
    (hdue : m.gridPoint h ((m.hand h).at_ + 4000) ≤ m.now (m.handTile h)) : m.handTransition h = (m.taken h).takeEffect h c := by
  have hadv : m.advance (m.handTile h) (m.gridPoint h ((m.hand h).at_ + 4000)) = m := if_pos hdue
  unfold handTransition
  rw [hc]
  dsimp only
  rw [hadv]
  cases c <;> rfl

/-- A new state of a hand leaves the rest of its status, and everything but two words. -/
theorem setHandState_spec (m : Mach) {h s : Nat} (hh : h < 16) (hs : s < 8) : (m.setHandState h s).handState h = s ∧
    (m.setHandState h s).handArmed h = m.handArmed h ∧ (m.setHandState h s).dealOpen h = m.dealOpen h ∧
    (m.setHandState h s).hands = m.hands ∧ (m.setHandState h s).dram = m.dram ∧ (m.setHandState h s).tiles = m.tiles ∧
    (m.setHandState h s).clus = m.clus := by
  have hoff : ∀ f : Field, f.off = 0x200 → f.stride = 4 → (f.nth h).off < 4096 ∧ (f.nth h).off ≠ 0x010 := fun f ho hs => by
    rw [Field.nth_off, ho, hs]; omega
  unfold setHandState
  split
  next heq => exact ⟨heq, rfl, rfl, rfl, rfl, rfl, rfl⟩
  next =>
    obtain ⟨ho, hr⟩ := hoff F.MODE_HAND_STAT_STATE rfl rfl
    refine ⟨?_, ?_, ?_, rfl, rfl, rfl, rfl⟩
    · rw [handState, rd_raise_off _ ho (.inr hr), rd_wr_nth_same _ _ _ _ (by decide) (by decide)]
      exact Nat.mod_eq_of_lt hs
    · obtain ⟨ho, hr⟩ := hoff F.MODE_HAND_STAT_ARMED rfl rfl
      unfold handArmed flag
      rw [rd_raise_off _ ho (.inr hr), rd_wr_nth_apart _ _ _ _ (by decide) (by decide) (by decide) (by decide) (by decide)]
    · obtain ⟨ho, hr⟩ := hoff F.MODE_HAND_STAT_DEAL_OPEN rfl rfl
      unfold dealOpen flag
      rw [rd_raise_off _ ho (.inr hr), rd_wr_nth_apart _ _ _ _ (by decide) (by decide) (by decide) (by decide) (by decide)]

/-- The status of a hand as its deal ends. -/
def closeDeal (m : Mach) (h : Nat) : Mach :=
  let a := ((m.wr P.mode (F.MODE_HAND_STAT_DEAL_OPEN.nth h) 0).wr P.mode (F.MODE_HAND_STAT_LEADIN.nth h) 0).wr P.mode
    (F.MODE_HAND_STAT_DRAINING.nth h) 1
  a.modHand h fun s => { s with endTime := a.now (a.handTile h), drained := false }

/-- The rest of a deal's end is the clusters' own (R145). -/
theorem endDeal_keeps {β : Type} (f : Mach → β) (m : Mach) (h : Nat) (hclu : ∀ a g x, f (a.modClu g x) = f a) : f (m.endDeal h) = f (m.closeDeal h) := by
  unfold endDeal
  dsimp only
  rw [foldl_keeps f, foldl_keeps f (f := fun a g => a.latchOutput g) _ fun a g _ => hclu a g _]
  · rfl
  · intro a g _
    split
    · split
      · exact hclu _ _ _
      · rfl
    · rfl

theorem closeDeal_spec (m : Mach) {h : Nat} (hh : h < 16) : (m.closeDeal h).dealOpen h = false ∧
    (m.closeDeal h).flag P.mode (F.MODE_HAND_STAT_DRAINING.nth h) = true ∧ ((m.closeDeal h).hand h).endTime = m.now (m.handTile h) ∧
    ((m.closeDeal h).hand h).current = (m.hand h).current ∧ (m.closeDeal h).handState h = m.handState h ∧
    (m.closeDeal h).dram = m.dram ∧ (m.closeDeal h).tiles = m.tiles := by
  have hoff : 0x080 ≤ (F.MODE_HAND_STAT_DEAL_OPEN.nth h).off ∧ (F.MODE_HAND_STAT_DEAL_OPEN.nth h).off < 4096 := by
    rw [Field.nth_off]; simp only [F.MODE_HAND_STAT_DEAL_OPEN]; omega
  obtain ⟨hlo, hhi⟩ := hoff
  unfold closeDeal
  generalize ha : ((m.wr P.mode (F.MODE_HAND_STAT_DEAL_OPEN.nth h) 0).wr P.mode (F.MODE_HAND_STAT_LEADIN.nth h) 0).wr P.mode
    (F.MODE_HAND_STAT_DRAINING.nth h) 1 = a
  have htile : a.handTile h = m.handTile h := by
    rw [← ha]
    exact (handTile_setWord_mode _ _ hh hlo hhi).trans ((handTile_setWord_mode _ _ hh hlo hhi).trans (handTile_setWord_mode _ _ hh hlo hhi))
  have hrd : ∀ f : Field, f.off = 0x200 → f.stride = 4 → (f.hi < 5 ∨ 7 < f.lo) → a.rd P.mode (f.nth h) = m.rd P.mode (f.nth h) := fun f ho hs hd => by
    rw [← ha, rd_wr_nth_apart (f := F.MODE_HAND_STAT_DRAINING) _ _ _ _ ho hs (by decide) (by decide) (hd.imp (by simp only [F.MODE_HAND_STAT_DRAINING]; omega) (by simp only [F.MODE_HAND_STAT_DRAINING]; omega)),
      rd_wr_nth_apart (f := F.MODE_HAND_STAT_LEADIN) _ _ _ _ ho hs (by decide) (by decide) (hd.imp (by simp only [F.MODE_HAND_STAT_LEADIN]; omega) (by simp only [F.MODE_HAND_STAT_LEADIN]; omega)),
      rd_wr_nth_apart (f := F.MODE_HAND_STAT_DEAL_OPEN) _ _ _ _ ho hs (by decide) (by decide) (hd.imp (by simp only [F.MODE_HAND_STAT_DEAL_OPEN]; omega) (by simp only [F.MODE_HAND_STAT_DEAL_OPEN]; omega))]
  have hnow : a.now (a.handTile h) = m.now (m.handTile h) := by rw [htile, ← ha]; simp only [wr_now]
  have hhand : a.hand h = m.hand h := by rw [← ha]; simp only [wr_hand]
  have hopen : a.rd P.mode (F.MODE_HAND_STAT_DEAL_OPEN.nth h) = 0 := by
    rw [← ha, rd_wr_nth_apart (f := F.MODE_HAND_STAT_DRAINING) (f' := F.MODE_HAND_STAT_DEAL_OPEN) _ _ _ _ rfl rfl (by decide) (by decide) (by decide),
      rd_wr_nth_apart (f := F.MODE_HAND_STAT_LEADIN) (f' := F.MODE_HAND_STAT_DEAL_OPEN) _ _ _ _ rfl rfl (by decide) (by decide) (by decide),
      rd_wr_nth_same _ _ _ _ (by decide) (by decide)]
    rfl
  have hdrain : a.rd P.mode (F.MODE_HAND_STAT_DRAINING.nth h) = 1 := by
    rw [← ha, rd_wr_nth_same _ _ _ _ (by decide) (by decide)]
    rfl
  have hstate : a.handState h = m.handState h := hrd F.MODE_HAND_STAT_STATE rfl rfl (.inl (by decide))
  have hdram : a.dram = m.dram := by rw [← ha]; simp only [wr_dram]
  have htiles : a.tiles = m.tiles := by rw [← ha]; simp only [wr_tiles]
  refine ⟨?_, ?_, ?_, ?_, hstate, hdram, htiles⟩
  · rw [dealOpen, flag, modHand_rd, hopen]; rfl
  · rw [flag, modHand_rd, hdrain]; rfl
  · rw [hand_modHand_same _ _ hh, hnow]
  · rw [hand_modHand_same _ _ hh, hhand]

/-- A deal's start before its members begin (R144). -/
def openDeal (m : Mach) (h : Nat) : Mach :=
  let next := m.rd P.mode (F.MODE_HAND_NEXT_NEXT.nth h)
  let m := ((m.wr P.mode (F.MODE_HAND_DEAL_DEAL.nth h) next).wr P.mode (F.MODE_HAND_NEXT_NEXT.nth h) (next + 1)).wr P.mode
    (F.MODE_HAND_LINES_LINES.nth h) 0
  let m := ((m.wr P.mode (F.MODE_HAND_STAT_DEAL_OPEN.nth h) 1).wr P.mode (F.MODE_HAND_STAT_LEADIN.nth h) 1).raise P.mode 2
  m.modHand h fun s =>
    { s with speed := m.rd P.mode (F.MODE_HAND_SPEED_SPEED.nth h),
             leadInLen := max 16 (m.rd P.mode (F.MODE_HAND_DEALCFG_LEADIN.nth h)),
             maxLines := m.rd P.mode (F.MODE_HAND_MAXLINES_MAX_LINES.nth h),
             startN := m.now (m.handTile h), drained := false, linesDone := false, lineTime := none }

theorem startDeal_eq (m : Mach) (h : Nat) : m.startDeal h = ((m.openDeal h).active h).foldl (fun m g => m.startMember h g) (m.openDeal h) := rfl

theorem openDeal_spec (m : Mach) {h : Nat} (hh : h < 16) :
    (m.openDeal h).rd P.mode (F.MODE_HAND_DEAL_DEAL.nth h) = m.rd P.mode (F.MODE_HAND_NEXT_NEXT.nth h) ∧
    (m.openDeal h).rd P.mode (F.MODE_HAND_NEXT_NEXT.nth h) = (m.rd P.mode (F.MODE_HAND_NEXT_NEXT.nth h) + 1) % 2 ^ F.MODE_HAND_NEXT_NEXT.width ∧
    (m.openDeal h).rd P.mode (F.MODE_HAND_LINES_LINES.nth h) = 0 ∧ (m.openDeal h).dealOpen h = true ∧
    (m.openDeal h).flag P.mode (F.MODE_HAND_STAT_LEADIN.nth h) = true ∧
    (m.openDeal h).dram = m.dram ∧ (m.openDeal h).tiles = m.tiles ∧ (m.openDeal h).clus = m.clus := by
  have hoff : ∀ f : Field, 0x040 ≤ f.off → f.off < 0xC00 → f.stride = 4 → (f.nth h).off < 4096 ∧ (f.nth h).off ≠ 0x010 := fun f h1 h2 hs => by
    rw [Field.nth_off, hs]; omega
  have hraise : ∀ (a : Mach) (f : Field), 0x040 ≤ f.off → f.off < 0xC00 → f.stride = 4 → (a.raise P.mode 2).rd P.mode (f.nth h) = a.rd P.mode (f.nth h) :=
    fun a f h1 h2 hs => rd_raise_off _ (hoff f h1 h2 hs).1 (.inr (hoff f h1 h2 hs).2)
  unfold openDeal
  dsimp only
  refine ⟨?_, ?_, ?_, ?_, ?_, ?_, ?_, ?_⟩
  · rw [modHand_rd, hraise _ _ (by decide) (by decide) (by decide),
      rd_wr_nth_off _ _ _ hh hh (by decide) (by decide) (by decide), rd_wr_nth_off _ _ _ hh hh (by decide) (by decide) (by decide),
      rd_wr_nth_off _ _ _ hh hh (by decide) (by decide) (by decide), rd_wr_nth_off _ _ _ hh hh (by decide) (by decide) (by decide),
      rd_wr_nth_same _ _ _ _ (by decide) (by decide)]
    exact Nat.mod_eq_of_lt (bits_lt _ _ _)
  · rw [modHand_rd, hraise _ _ (by decide) (by decide) (by decide),
      rd_wr_nth_off _ _ _ hh hh (by decide) (by decide) (by decide), rd_wr_nth_off _ _ _ hh hh (by decide) (by decide) (by decide),
      rd_wr_nth_off _ _ _ hh hh (by decide) (by decide) (by decide), rd_wr_nth_same _ _ _ _ (by decide) (by decide)]
    rfl
  · rw [modHand_rd, hraise _ _ (by decide) (by decide) (by decide),
      rd_wr_nth_off _ _ _ hh hh (by decide) (by decide) (by decide), rd_wr_nth_off _ _ _ hh hh (by decide) (by decide) (by decide),
      rd_wr_nth_same _ _ _ _ (by decide) (by decide)]
    rfl
  · rw [dealOpen, flag, modHand_rd, hraise _ _ (by decide) (by decide) (by decide),
      rd_wr_nth_apart (f := F.MODE_HAND_STAT_LEADIN) (f' := F.MODE_HAND_STAT_DEAL_OPEN) _ _ _ _ rfl rfl (by decide) (by decide) (by decide),
      rd_wr_nth_same _ _ _ _ (by decide) (by decide)]
    rfl
  · rw [flag, modHand_rd, hraise _ _ (by decide) (by decide) (by decide), rd_wr_nth_same _ _ _ _ (by decide) (by decide)]
    rfl
  · simp only [modHand_dram, raise_dram, wr_dram]
  · simp only [modHand_tiles, raise_tiles, wr_tiles]
  · simp only [modHand_clus, raise_clus, wr_clus]

theorem taken_handTile (m : Mach) {h : Nat} (hh : h < 16) : (m.taken h).handTile h = m.handTile h := handTile_modHand m hh (fun _ => rfl) fun _ => rfl

theorem taken_current (m : Mach) {h : Nat} (hh : h < 16) : ((m.taken h).hand h).current = none := by rw [taken, hand_modHand_same _ _ hh]

end Mach

/-- Settles O32: a command leaves the queue by `leaveQueue`, and takes effect by `takeEffect`. -/
theorem handTransitions : Obligations.HandTransitions := by
  refine ⟨fun s h seg k c r hi hq hcur hdrain hok hstart => ?_, fun s h seg k c r hi hq hcur hdrain hok => ?_, fun s h seg c hi hc hmem hdue => ?_,
    fun s h seg hi hc hdue => ?_, fun s h seg hi hc hdue => ?_⟩
  case refine_1 =>
    obtain ⟨cause, hleave⟩ := Mach.leaveQueue_taken hq hcur hdrain hok hstart
    refine ⟨_, effect_next (f := fun m => m.inSeg seg fun m => m.leaveQueue h) ((Mach.inSeg_primary hi _).trans hleave), ?_⟩
    have hqueue : ((s.start.setQueue h r).hand h).queue = r := by rw [Mach.setQueue, Mach.wr_hand, Mach.hand_modHand_same _ _ h.isLt]
    refine ⟨?_, ?_, ?_, ?_, ?_, ?_, ?_, ?_⟩
    · rw [Mach.hand_modHand_same _ _ h.isLt]; exact hqueue
    · rw [Mach.hand_modHand_same _ _ h.isLt]
    · rw [Mach.hand_modHand_same _ _ h.isLt]
    · rw [Mach.modHand_rd, Mach.setQueue, Mach.rd_wr_nth_same _ _ _ _ (by decide) (by decide)]
      rfl
    · rw [Mach.handState, Mach.modHand_rd, Mach.setQueue,
        Mach.rd_wr_nth_apart (f := F.MODE_HAND_STAT_QUEUED) (f' := F.MODE_HAND_STAT_STATE) _ _ _ _ rfl rfl (by decide) (by decide) (by decide),
        Mach.modHand_rd]
      rfl
    · simp only [Mach.setQueue, Mach.modHand_dram, Mach.wr_dram]
    · simp only [Mach.setQueue, Mach.modHand_tiles, Mach.wr_tiles]
    · simp only [Mach.setQueue, Mach.modHand_clus, Mach.wr_clus]
  case refine_2 =>
    refine effect_next (f := fun m => m.inSeg seg fun m => m.leaveQueue h) ?_
    rw [Mach.inSeg_primary hi, Mach.leaveQueue_refused hq hcur hdrain hok]
  case refine_3 =>
    have htrans := Mach.handTransition_due hc hdue
    have heffect : ∃ n, n < 8 ∧ (s.start.taken h).takeEffect h c = (s.start.taken h).setHandState h n ∧ n = (if c = .toScan then 3 else 2) := by
      simp only [List.mem_cons, List.not_mem_nil, or_false] at hmem
      rcases hmem with rfl | rfl
      · exact ⟨3, by decide, rfl, rfl⟩
      · exact ⟨2, by decide, rfl, rfl⟩
    obtain ⟨n, hn, hset, hval⟩ := heffect
    obtain ⟨hstate, harmed, hopen, hhands, hdram, htiles, hclus⟩ := (s.start.taken h).setHandState_spec h.isLt hn
    refine ⟨_, effect_next (f := fun m => m.inSeg seg fun m => m.handTransition h) (((Mach.inSeg_primary hi _).trans htrans).trans hset),
      ?_, hstate.trans hval, harmed, hopen, hdram, htiles, hclus⟩
    rw [Mach.hand, hhands]
    exact s.start.taken_current h.isLt
  case refine_4 =>
    have hkeep : ∀ {β : Type} (f : Mach → β), (∀ a g x, f (a.modClu g x) = f a) → f ((s.start.taken h).endDeal h) = f ((s.start.taken h).closeDeal h) :=
      fun f hf => Mach.endDeal_keeps f _ _ hf
    obtain ⟨hopen, hdrain, hend, hcur, hstate, hdram, htiles⟩ := (s.start.taken h).closeDeal_spec h.isLt
    rw [Mach.taken_handTile _ h.isLt] at hend
    rw [Mach.taken_current _ h.isLt] at hcur
    exact ⟨_, effect_next (f := fun m => m.inSeg seg fun m => m.handTransition h) ((Mach.inSeg_primary hi _).trans (Mach.handTransition_due hc hdue)),
      (hkeep (fun a => (a.hand h).current) fun _ _ _ => rfl).trans hcur, (hkeep (fun a => a.dealOpen h) fun _ _ _ => rfl).trans hopen,
      (hkeep (fun a => a.flag P.mode (F.MODE_HAND_STAT_DRAINING.nth h)) fun _ _ _ => rfl).trans hdrain,
      (hkeep (fun a => (a.hand h).endTime) fun _ _ _ => rfl).trans hend, (hkeep (fun a => a.handState h) fun _ _ _ => rfl).trans hstate,
      (hkeep Mach.dram fun _ _ _ => rfl).trans hdram, (hkeep Mach.tiles fun _ _ _ => rfl).trans htiles⟩
  case refine_5 =>
    refine ⟨_, effect_next (f := fun m => m.inSeg seg fun m => m.handTransition h) ?_, (s.start.taken h).openDeal_spec h.isLt⟩
    rw [Mach.inSeg_primary hi, Mach.handTransition_due hc hdue]
    exact Mach.startDeal_eq _ _

/-! ### Deal boundaries (R143–R145) -/

namespace Mach

theorem enqueue_room {m : Mach} {h : Nat} (n : Nat) (c : HandCmd) (hroom : (m.hand h).queue.length < 4) :
    m.enqueue h n c = m.setQueue h (joinQueue n c (m.hand h).queue) := if_neg (by omega)

/-- A pin edge of the selected polarity queues a start while no deal is open. -/
theorem dealPin_start {m : Mach} {h : Nat} {rising : Bool} (hview : m.viewOf = none) (hstate : m.handState h ≠ 0)
    (hsel : m.rd P.mode (F.MODE_HAND_DEALCFG_PIN_SEL.nth h) < 4) (hreach : m.reachable (m.rd P.mode (F.MODE_HAND_DEALCFG_PIN_TILE.nth h)) = true)
    (hlive : m.live (m.rd P.mode (F.MODE_HAND_DEALCFG_PIN_TILE.nth h)) D.aux = true)
    (hedge : m.flag P.mode (F.MODE_HAND_DEALCFG_PIN_EDGE.nth h) ≠ rising) (hopen : m.dealOpen h = false)
    (hpin : m.flag P.mode (F.MODE_HAND_DEALCFG_START_PIN.nth h) = true) :
    m.dealPin h rising = m.enqueue h (m.now (m.rd P.mode (F.MODE_HAND_DEALCFG_PIN_TILE.nth h))) .pinStart := by
  have hbound : m.noBoundary h = false := by simp [noBoundary, hview]
  unfold dealPin
  dsimp only
  rw [if_neg, hopen, hpin]
  · rfl
  · simp [hstate, hbound, show ¬ 4 ≤ m.rd P.mode (F.MODE_HAND_DEALCFG_PIN_SEL.nth h) by omega, hreach, hlive, hedge]

/-- MAX_LINES released queues an end (R143). -/
theorem maxLinesReached_due {m : Mach} {h : Nat} (hview : m.viewOf = none) (hopen : m.dealOpen h = true) (hdone : (m.hand h).linesDone = false)
    (hmax : (m.hand h).maxLines ≠ 0) (href : (m.refCluster h).isSome = true)
    (hlines : (m.hand h).maxLines ≤ m.rd P.mode (F.MODE_HAND_LINES_LINES.nth h)) :
    m.maxLinesReached h = (m.modHand h fun s => { s with linesDone := true }).enqueue h
      ((m.hand h).lineTime.getD (m.now (m.handTile h))) .linesEnd := by
  have hbound : m.noBoundary h = false := by simp [noBoundary, hview]
  unfold maxLinesReached
  dsimp only
  rw [if_neg]
  simp [hopen, hbound, hdone, hmax, hlines, Option.isSome_iff_ne_none.1 href]

/-- A drain of a hand without pixels completes at once (R145). -/
theorem drainComplete_pixelless {m : Mach} {h : Nat} (hdrain : m.flag P.mode (F.MODE_HAND_STAT_DRAINING.nth h) = true)
    (hno : (m.hand h).drained = false) (hall : ∀ g, g ∈ m.active h → (m.clu g).recEnd = none ∧ m.pixelless g = true) :
    m.drainComplete h = m.modHand h fun x => { x with drained := true } := by
  have hrejoined : m.drainRejoined h = m := by
    unfold drainRejoined
    exact List.foldlRecOn (motive := fun a => a = m) _ _ rfl fun a ha g hg => by rw [ha, (hall g hg).1]
  have hmine : ((m.active h).filter fun g => !m.pixelless g && (m.clu g).recEnd.isNone) = [] :=
    List.filter_eq_nil_iff.2 fun g hg => by simp [(hall g hg).2]
  unfold drainComplete
  rw [hrejoined]
  dsimp only
  rw [hmine, hdrain, hno]
  rfl

/-- The drain window ends once its time has come and every stream has sent all (R145). -/
theorem drainWindowEnd_due {m : Mach} {h : Nat} (hdrain : m.flag P.mode (F.MODE_HAND_STAT_DRAINING.nth h) = true)
    (hdone : (m.hand h).drained = true) (hready : (m.hand h).readyAfter = false)
    (hall : ∀ g, g ∈ m.active h → m.pixelless g = true ∨ m.streamsDone g = true) (hdue : m.drainFrom h + 128000 ≤ m.now (m.handTile h)) :
    m.drainWindowEnd h = (m.wr P.mode (F.MODE_HAND_STAT_DRAINING.nth h) 0).raise P.mode 3 := by
  have hadv : m.advance (m.handTile h) (m.drainFrom h + 128000) = m := if_pos hdue
  have hsent : ((m.active h).any fun g => !m.pixelless g && !m.streamsDone g) = false := by
    rw [List.any_eq_false]
    intro g hg
    rcases hall g hg with hp | hs
    · simp [hp]
    · simp [hs]
  unfold drainWindowEnd
  rw [hdrain, hdone, hsent, if_neg (by decide), hadv]
  dsimp only
  rw [raise_hand, wr_hand, hready]
  rfl

end Mach

/-- Settles O33: each boundary where its conditions hold. -/
theorem dealBoundaryEvents : Obligations.DealBoundaryEvents := by
  refine ⟨fun s h n rising t ht hi hview hn hstate hsel hreach hlive hedge hopen hpin hroom => ?_,
    fun s h seg hi hview hopen hdone hmax href hlines hroom => ?_, fun s h seg g hi hlead hg htrigs => ?_,
    fun s h seg hi hdrain hno hall => ?_, fun s h seg hi hdrain hdone hready hall hdue => ?_⟩
  case refine_1 =>
    subst ht
    refine effect_next (f := fun m => m.inSeg (m.rd P.mode (F.MODE_HAND_DEALCFG_PIN_TILE.nth h)) fun m => m.dealPinEdge h n.toNat rising) ?_
    have hadv : s.start.advance (s.start.rd P.mode (F.MODE_HAND_DEALCFG_PIN_TILE.nth h)) n.toNat = s.start := if_pos hn
    rw [Mach.inSeg_primary hi, Mach.dealPinEdge, hadv, Mach.dealPin_start hview hstate hsel hreach hlive hedge hopen hpin, Mach.enqueue_room _ _ hroom]
  case refine_2 =>
    have hhand : (s.start.modHand h fun x => { x with linesDone := true }).hand h = { s.start.hand h with linesDone := true } :=
      Mach.hand_modHand_same _ _ h.isLt
    have hdue := Mach.maxLinesReached_due hview hopen hdone hmax href hlines
    rw [Mach.enqueue_room _ _ (by rw [hhand]; exact hroom), hhand] at hdue
    refine ⟨_, effect_next (f := fun m => m.inSeg seg fun m => m.maxLinesReached h) ((Mach.inSeg_primary hi _).trans hdue), ?_, ?_, ?_, ?_, ?_, ?_, ?_⟩
    · rw [Mach.setQueue, Mach.wr_hand, Mach.hand_modHand_same _ _ h.isLt]
    · rw [Mach.setQueue, Mach.wr_hand, Mach.hand_modHand_same _ _ h.isLt, hhand]
    · rw [Mach.setQueue, Mach.rd_wr_nth_same _ _ _ _ (by decide) (by decide), Mach.joinQueue_length]
      exact Nat.mod_eq_of_lt (lt_of_lt_of_le (Nat.succ_lt_succ hroom) (by decide))
    · rw [← hopen, Mach.dealOpen, Mach.flag, Mach.setQueue,
        Mach.rd_wr_nth_apart (f := F.MODE_HAND_STAT_QUEUED) (f' := F.MODE_HAND_STAT_DEAL_OPEN) _ _ _ _ rfl rfl (by decide) (by decide) (by decide),
        Mach.modHand_rd, Mach.modHand_rd]
      rfl
    · simp only [Mach.setQueue, Mach.wr_dram, Mach.modHand_dram]
    · simp only [Mach.setQueue, Mach.wr_tiles, Mach.modHand_tiles]
    · simp only [Mach.setQueue, Mach.wr_clus, Mach.modHand_clus]
  case refine_3 =>
    refine effect_next (f := fun m => m.inSeg seg fun m => m.leadInDone h) ((Mach.inSeg_primary hi _).trans (if_pos ?_))
    rw [Bool.and_eq_true, List.any_eq_true]
    exact ⟨hlead, g, hg, decide_eq_true htrigs⟩
  case refine_4 =>
    exact effect_next (f := fun m => m.inSeg seg fun m => m.drainComplete h) ((Mach.inSeg_primary hi _).trans (Mach.drainComplete_pixelless hdrain hno hall))
  case refine_5 =>
    exact effect_next (f := fun m => m.inSeg seg fun m => m.drainWindowEnd h)
      ((Mach.inSeg_primary hi _).trans (Mach.drainWindowEnd_due hdrain hdone hready hall hdue))

end Sys2Proof.Machine

/-!
PROOFS. Bytes of DRAM (R480): a fabric address names one device byte of its tile, so what is written is read there and nowhere else.
-/

namespace Sys2Proof.Machine

/-- R480: device addresses rise with the fabric address, in the protected span and above it. -/
theorem dramDev_strictMono (m : Mach) (t : Nat) : StrictMono (m.dramDev t) := by
  have hprot : ∃ k, m.dramProt t = k * 2 ^ 30 := by
    unfold Mach.dramProt
    split
    · exact ⟨_, rfl⟩
    · exact ⟨0, (Nat.zero_mul _).symm⟩
  obtain ⟨k, hk⟩ := hprot
  intro f g hfg
  unfold Mach.dramDev
  rw [hk]
  split <;> split <;> omega

theorem dramKey_inj (m : Mach) (t : Nat) {f g : Nat} (h : m.dramKey t f = m.dramKey t g) : f = g :=
  (dramDev_strictMono m t).injective (Nat.add_left_cancel h)

/-- The state with one byte stored: the word that holds it is no longer marked as in error. -/
def byteStored (m : Mach) (t f : Nat) (b : Byte) : Mach :=
  { m with dram := Store.set 0 m.dram (m.dramKey t f) b, dramMark := m.dramMark.erase (m.dramKey t f / 8) }

theorem dramWrite_cons (m : Mach) (t f : Nat) (b : Byte) (bs : List Byte) :
    m.dramWrite t f (b :: bs) = (byteStored m t f b).dramWrite t (f + 1) bs := rfl

/-- A write of bytes leaves the registers, the windows, the tiles and the clusters as they were. -/
theorem dramWrite_frame (bs : List Byte) : ∀ (m : Mach) (t f : Nat), (m.dramWrite t f bs).regs = m.regs ∧
    (m.dramWrite t f bs).arr = m.arr ∧ (m.dramWrite t f bs).tiles = m.tiles ∧ (m.dramWrite t f bs).clus = m.clus := by
  induction bs with
  | nil => exact fun m t f => ⟨rfl, rfl, rfl, rfl⟩
  | cons b bs ih => exact fun m t f => ih _ t (f + 1)

/-- A key depends on the registers only. -/
theorem dramKey_congr {m m' : Mach} (h : m'.regs = m.regs) (t f : Nat) : m'.dramKey t f = m.dramKey t f := by
  have hflag (pk : Nat) (fd : Field) : m'.flag pk fd = m.flag pk fd := by unfold Mach.flag Mach.rd Mach.word; rw [h]
  have hrd (pk : Nat) (fd : Field) : m'.rd pk fd = m.rd pk fd := by unfold Mach.rd Mach.word; rw [h]
  unfold Mach.dramKey Mach.dramDev Mach.dramProt
  rw [hflag, hrd]

theorem dramKey_dramWrite (m : Mach) (t f : Nat) (bs : List Byte) (t' g : Nat) :
    (m.dramWrite t f bs).dramKey t' g = m.dramKey t' g := dramKey_congr (dramWrite_frame bs m t f).1 t' g

/-- A byte of DRAM that no written address names is as before. -/
theorem dramWrite_other (bs : List Byte) : ∀ (m : Mach) (t f k : Nat), (∀ j, j < bs.length → k ≠ m.dramKey t (f + j)) →
    Store.get 0 (m.dramWrite t f bs).dram k = Store.get 0 m.dram k := by
  induction bs with
  | nil => exact fun m t f k _ => rfl
  | cons b bs ih =>
    intro m t f k hk
    have hrest : ∀ j, j < bs.length → k ≠ m.dramKey t (f + 1 + j) := fun j hj => by
      have := hk (j + 1) (Nat.succ_lt_succ hj)
      rwa [show f + (j + 1) = f + 1 + j by omega] at this
    exact (ih (byteStored m t f b) t (f + 1) k hrest).trans (Store.get_set_ne _ _ _ _ (hk 0 (Nat.succ_pos _)))

/-- A mark that is not set stays so: a write only clears marks (log entry 70). -/
theorem dramWrite_unmarked (bs : List Byte) : ∀ (m : Mach) (t f k : Nat), Store.get 0 m.dramMark k = 0 →
    Store.get 0 (m.dramWrite t f bs).dramMark k = 0 := by
  induction bs with
  | nil => exact fun m t f k h => h
  | cons b bs ih =>
    intro m t f k h
    refine ih _ t (f + 1) k ?_
    by_cases hk : k = m.dramKey t f / 8
    · exact hk ▸ Store.get_erase_same _ _ _
    · exact (Store.get_erase_ne _ _ hk).trans h

/-- No word that a write touches stays marked as in error. -/
theorem dramWrite_clears_mark (bs : List Byte) : ∀ (m : Mach) (t f j : Nat), j < bs.length →
    Store.get 0 (m.dramWrite t f bs).dramMark (m.dramKey t (f + j) / 8) = 0 := by
  induction bs with
  | nil => exact fun m t f j hj => absurd hj (Nat.not_lt_zero _)
  | cons b bs ih =>
    intro m t f j hj
    cases j with
    | zero => exact dramWrite_unmarked bs _ t (f + 1) _ (Store.get_erase_same _ _ _)
    | succ j =>
      have := ih (byteStored m t f b) t (f + 1) j (Nat.lt_of_succ_lt_succ hj)
      rwa [dramKey_congr (m := m) (m' := byteStored m t f b) rfl, show f + 1 + j = f + (j + 1) by omega] at this

/-- What is written is what is read back. -/
theorem dramRead_dramWrite (bs : List Byte) : ∀ (m : Mach) (t f : Nat), (m.dramWrite t f bs).dramRead t f bs.length = bs := by
  induction bs with
  | nil => exact fun m t f => rfl
  | cons b bs ih =>
    intro m t f
    have hfirst : ((byteStored m t f b).dramWrite t (f + 1) bs).dramByte t f = b := by
      unfold Mach.dramByte
      rw [dramKey_dramWrite, dramWrite_other bs (byteStored m t f b) t (f + 1) _ fun j _ h => absurd (dramKey_inj _ t h) (by omega)]
      exact Store.get_set_same _ _ _ _
    exact congrArg₂ List.cons hfirst (ih (byteStored m t f b) t (f + 1))

/-- Settles O59, byte by byte: fabric addresses of a tile name different keys, so a later byte leaves an earlier one as it was
written. -/
theorem dramReadsWhatWasWritten : Obligations.DramReadsWhatWasWritten := by
  unfold Obligations.DramReadsWhatWasWritten
  intro m t f bs _
  exact ⟨dramRead_dramWrite bs m t f, dramWrite_other bs m t f, dramWrite_clears_mark bs m t f, Mach.wf_dramWrite m t f bs,
    dramWrite_frame bs m t f⟩

end Sys2Proof.Machine

/-!
PROOFS. What uses of the queues leave as it was: a trick, an event or a fault record of a tile touches the words of its pages QUE, KITTY,
DRAM and DECL, the package log, and the queues, the kitty and the AON copy of the log that the tiles keep; nothing else.
-/

namespace Sys2Proof.Machine

/-- A tile without its queues, its kitty, the events that its producers hold and its copy of the fault log. -/
def TileSt.sansQueues (ts : TileSt) : TileSt := { ts with queues := default, kitty := default, held := [], aonLog := [] }

namespace Mach

/-- The part without its words, its queues and its package log. -/
def sansQueues (m : Mach) : Mach := { m with regs := [], pkgLog := [], tiles := m.tiles.map TileSt.sansQueues }

/-- `m'` differs from `m` in words of the pages that `C` names, in queues and in logs only. -/
structure Confined (C : Nat → Prop) (m m' : Mach) : Prop where
  rest : m'.sansQueues = m.sansQueues
  word : ∀ pk off, off < 4096 → ¬ C pk → m'.word pk off = m.word pk off

section
variable {C : Nat → Prop} {m m' : Mach}

theorem tile_sansQueues (m : Mach) (t : Nat) : m.sansQueues.tile t = (m.tile t).sansQueues := by
  unfold sansQueues tile vget
  by_cases ht : t < 8
  · simp [ht]
  · simp [ht]; rfl

namespace Confined

theorem refl (m : Mach) : Confined C m m := ⟨rfl, fun _ _ _ _ => rfl⟩

theorem trans {a b c : Mach} (h : Confined C a b) (k : Confined C b c) : Confined C a c :=
  ⟨k.rest.trans h.rest, fun pk off ho hc => (k.word pk off ho hc).trans (h.word pk off ho hc)⟩

theorem foldl {α : Type} {f : Mach → α → Mach} (l : List α) (hf : ∀ m x, x ∈ l → Confined C m (f m x)) (m : Mach) :
    Confined C m (l.foldl f m) := by
  induction l generalizing m with
  | nil => exact refl m
  | cons x l ih => exact (hf m x List.mem_cons_self).trans (ih (fun m y hy => hf m y (List.mem_cons_of_mem _ hy)) _)

theorem setWord {pk off : Nat} (h : C pk) (ho : off < 4096) (m : Mach) (w : Word) : Confined C m (m.setWord pk off w) :=
  ⟨rfl, fun _ _ ho' hc => m.word_setWord_off w ho ho' (.inl fun heq => hc (heq ▸ h))⟩

theorem wr {pk : Nat} {f : Field} (h : C pk) (ho : f.off < 4096) (m : Mach) (v : Nat) : Confined C m (m.wr pk f v) := setWord h ho m _

theorem raise {pk : Nat} (h : C pk) (m : Mach) (b : Nat) : Confined C m (m.raise pk b) := setWord h (by decide) m _

theorem inc {pk : Nat} {f : Field} (h : C pk) (ho : f.off < 4096) (m : Mach) : Confined C m (m.inc pk f) := setWord h ho m _

theorem incW {pk : Nat} {f : Field} (h : C pk) (ho : f.off < 4096) (m : Mach) : Confined C m (m.incW pk f) := setWord h ho m _

theorem modTile (m : Mach) (t : Nat) {f : TileSt → TileSt} (hf : ∀ ts, (f ts).sansQueues = ts.sansQueues) :
    Confined C m (m.modTile t f) := by
  refine ⟨?_, fun _ _ _ _ => rfl⟩
  simp only [sansQueues, Mach.modTile]
  rw [map_vmod_forgotten m.tiles t f TileSt.sansQueues hf]

theorem modQueue (m : Mach) (t q : Nat) (f : Queue → Queue) : Confined C m (m.modQueue t q f) := modTile m t fun _ => rfl

theorem modKit (m : Mach) (t : Nat) (f : KittySt → KittySt) : Confined C m (m.modKit t f) := modTile m t fun _ => rfl

/-! What a confined change keeps. -/

theorem clus (h : Confined C m m') : m'.clus = m.clus := show m'.sansQueues.clus = m.sansQueues.clus from congrArg Mach.clus h.rest
theorem hands (h : Confined C m m') : m'.hands = m.hands := show m'.sansQueues.hands = m.sansQueues.hands from congrArg Mach.hands h.rest
theorem arr (h : Confined C m m') : m'.arr = m.arr := show m'.sansQueues.arr = m.sansQueues.arr from congrArg Mach.arr h.rest
theorem dram (h : Confined C m m') : m'.dram = m.dram := show m'.sansQueues.dram = m.sansQueues.dram from congrArg Mach.dram h.rest
theorem out (h : Confined C m m') : m'.out = m.out := show m'.sansQueues.out = m.sansQueues.out from congrArg Mach.out h.rest
theorem viewOf (h : Confined C m m') : m'.viewOf = m.viewOf := show m'.sansQueues.viewOf = m.sansQueues.viewOf from congrArg Mach.viewOf h.rest
theorem part (h : Confined C m m') : m'.part = m.part := show m'.sansQueues.part = m.sansQueues.part from congrArg Mach.part h.rest

theorem tile (h : Confined C m m') (t : Nat) : (m'.tile t).sansQueues = (m.tile t).sansQueues := by
  rw [← tile_sansQueues, ← tile_sansQueues, h.rest]

theorem rd (h : Confined C m m') {pk : Nat} {f : Field} (ho : f.off < 4096) (hc : ¬ C pk) : m'.rd pk f = m.rd pk f := by
  unfold Mach.rd
  rw [h.word pk f.off ho hc]

theorem flag (h : Confined C m m') {pk : Nat} {f : Field} (ho : f.off < 4096) (hc : ¬ C pk) : m'.flag pk f = m.flag pk f := by
  unfold Mach.flag
  rw [h.rd ho hc]

theorem islandOf (h : Confined C m m') {t : Nat} (hring : ¬ C (P.ring t)) (hi : m.islandOf t = none) : m'.islandOf t = none := by
  unfold Mach.islandOf at hi ⊢
  rw [h.viewOf, h.flag (by decide) hring]
  by_cases hout : (m.viewOf.isNone && m.flag (P.ring t) F.RING_STAT_OUTSIDE) = true
  · simp [hout] at hi
  · rw [if_neg hout]

end Confined
end

/-- The pages that uses of tile `t`'s queues may touch are among those that `C` names. -/
structure QueuePages (C : Nat → Prop) (t : Nat) : Prop where
  que : C (P.que t)
  kitty : C (P.kitty t)
  dram : C (P.dram t)
  decl : C (P.decl t)

/-- The pages of tile `t` that an event may touch, `pk0` among them, which counts those lost, and the package log. -/
def eventPages (t pk0 pk : Nat) : Prop := pk ∈ [P.que t, P.kitty t, P.dram t, P.decl t, P.faultlog, pk0]

theorem queuePages_eventPages (t pk0 : Nat) : QueuePages (eventPages t pk0) t :=
  ⟨by simp [eventPages], by simp [eventPages], by simp [eventPages], by simp [eventPages]⟩

/-- A relation between states that holds of what a tile's queues change in their own state: none of it ends a self-test of the kitty
or makes its pool ready. -/
structure QueueSteps (R : Mach → Mach → Prop) (t : Nat) : Prop where
  refl : ∀ m, R m m
  trans : ∀ {a b c}, R a b → R b c → R a c
  tile : ∀ (m : Mach) {f : TileSt → TileSt}, (∀ ts, (f ts).sansQueues = ts.sansQueues) →
    (∀ ts, (f ts).kitty.testing = ts.kitty.testing ∧ (f ts).kitty.sramReady = ts.kitty.sramReady) → R m (m.modTile t f)

/-- And of everything that uses of the queues `q` with `ok q` are made of: words of the pages QUE, DRAM and DECL, the events and the
count of pointer errors of page KITTY, and the log of the tile's segment. -/
structure QueueParts (R : Mach → Mach → Prop) (ok : Nat → Prop) (t : Nat) : Prop extends QueueSteps R t where
  log : ∀ (m : Mach) (r : FaultRec), R m (m.logSegment t r)
  small : ∀ {q}, q < 32 → ok q
  queAt : ∀ {q off}, ok q → (q < 32 → off < 4096) → ∀ (m : Mach) (w : Word), R m (m.setWord (P.que t) off w)
  que : ∀ {off}, off < 4096 → ∀ (m : Mach) (w : Word), R m (m.setWord (P.que t) off w)
  dram : ∀ {off}, off < 4096 → ∀ (m : Mach) (w : Word), R m (m.setWord (P.dram t) off w)
  decl : ∀ {off}, off < 4096 → ∀ (m : Mach) (w : Word), R m (m.setWord (P.decl t) off w)
  ptrCount : ∀ m : Mach, R m (m.inc (P.kitty t) F.KITTY_PTR_ERR_COUNT)
  kittyRaise : ∀ (m : Mach) (b : Nat), R m (m.raise (P.kitty t) b)

section
variable {R : Mach → Mach → Prop} {C ok : Nat → Prop} {t : Nat}

namespace QueueSteps
variable (hR : QueueSteps R t)
include hR

theorem foldl {α : Type} {f : Mach → α → Mach} (l : List α) (hf : ∀ m x, x ∈ l → R m (f m x)) (m : Mach) : R m (l.foldl f m) := by
  induction l generalizing m with
  | nil => exact hR.refl m
  | cons x l ih => exact hR.trans (hf m x List.mem_cons_self) (ih (fun m y hy => hf m y (List.mem_cons_of_mem _ hy)) _)

theorem modQueue (m : Mach) (q : Nat) (f : Queue → Queue) : R m (m.modQueue t q f) := hR.tile m (fun _ => rfl) fun _ => ⟨rfl, rfl⟩

theorem modKit (m : Mach) {f : KittySt → KittySt} (hf : ∀ k, (f k).testing = k.testing ∧ (f k).sramReady = k.sramReady) : R m (m.modKit t f) :=
  hR.tile m (fun _ => rfl) fun ts => hf ts.kitty

theorem pushCell (m : Mach) (q : Nat) (hdr filled : Bool) (dc : Nat) (ws : List Word) : R m (m.pushCell t q hdr filled dc ws) := by
  unfold Mach.pushCell
  split
  · split
    · exact hR.refl m
    · exact hR.trans (hR.modKit m fun _ => by exact ⟨rfl, rfl⟩) (hR.modQueue _ q _)
  · exact hR.modQueue m q _

theorem openRaw (m : Mach) (q r prod : Nat) (tr : Trick) : R m (m.openRaw t q r prod tr) := by
  unfold Mach.openRaw
  split
  · exact hR.refl m
  · exact hR.trans (hR.pushCell m q true false 0 _) (hR.modQueue _ q _)

theorem writeData (q k : Nat) (m : Mach) : R m (m.writeData t q k) := by
  induction k generalizing m with
  | zero => exact hR.refl m
  | succ k ih =>
    unfold Mach.writeData
    split
    · exact hR.refl m
    · split
      · exact hR.refl m
      · exact hR.trans (hR.trans (hR.pushCell m q false true 0 _) (hR.modQueue _ q _)) (ih _)

theorem closeRaw (m : Mach) (q : Nat) : R m (m.closeRaw t q) := by
  unfold Mach.closeRaw
  split
  · exact hR.refl m
  · exact hR.trans (hR.writeData q _ m) (hR.modQueue _ q _)

/-- A producer's event: in its queue, or held, or lost, counted and raised as the page of the producer does. -/
theorem emitRaw (m : Mach) (prod cap : Nat) {pk : Nat} {lost : Field} (hinc : ∀ a : Mach, R a (a.inc pk lost)) (ev : Option Nat)
    (hraise : ∀ (a : Mach) b, ev = some b → R a (a.raise pk b)) (tr : Trick) : R m (m.emitRaw t prod cap pk lost ev tr) := by
  unfold Mach.emitRaw
  split
  · exact hR.refl m
  · dsimp only
    split
    · exact hR.trans (hR.openRaw m _ _ prod tr) (hR.closeRaw _ _)
    · split
      · exact hR.tile m (fun _ => rfl) fun _ => ⟨rfl, rfl⟩
      · split
        · exact hR.trans (hinc m) (hraise _ _ rfl)
        · exact hinc m

end QueueSteps

namespace QueueParts
variable (hR : QueueParts R ok t)
include hR

theorem recordRaw (m : Mach) (code unit subA subB detail : Nat) : R m (m.recordRaw t code unit subA subB detail) := by
  have haon : ∀ (a : Mach) (r : FaultRec), R a (a.modTile t fun ts => { ts with aonLog := (ts.aonLog ++ [r]).drop (ts.aonLog.length - 15) }) :=
    fun a r => hR.tile a (fun _ => rfl) fun _ => ⟨rfl, rfl⟩
  have hemit : ∀ (a : Mach) tr, R a (a.emitRaw t 0x0A 4 (P.decl t) F.DECL_LOG_LOST_COUNT none tr) := fun a tr =>
    hR.emitRaw a 0x0A 4 (fun b => hR.decl (by decide) b _) none (fun _ _ h => nomatch h) tr
  unfold Mach.recordRaw
  dsimp only
  exact hR.trans (hR.trans (hR.trans (hR.log m _) (haon _ _)) (hR.decl (by decide) _ _)) (hemit _ _)

theorem dramCheck (m : Mach) (f len : Nat) : R m (m.dramCheck t f len).1 := by
  have hfold : ∀ (step : Mach × Bool → Nat → Mach × Bool), (∀ s i, R s.1 (step s i).1) → ∀ (l : List Nat) (s : Mach × Bool),
      R s.1 (l.foldl step s).1 := by
    intro step hstep l
    induction l with
    | nil => exact fun s => hR.refl s.1
    | cons i l ih => exact fun s => hR.trans (hstep s i) (ih _)
  have hword : ∀ {f : Field}, f.off < 4096 → ∀ (a : Mach) v, R a (a.wr (P.dram t) f v) := fun ho a v => hR.dram ho a _
  have hraise : ∀ (a : Mach) b, R a (a.raise (P.dram t) b) := fun a b => hR.dram (by decide) a _
  have hcount : ∀ (a : Mach) x, R a (((a.inc (P.dram t) F.DRAM_ECC_DED_COUNT).raise (P.dram t) 6).wr2 (P.dram t) F.DRAM_ECC_LAST_LO_ADDR
      F.DRAM_ECC_LAST_HI_ADDR x) := fun a x =>
    hR.trans (hR.trans (hword (by decide) a _) (hraise _ 6)) (hR.trans (hword (by decide) _ _) (hword (by decide) _ _))
  unfold Mach.dramCheck
  dsimp only
  split
  · exact hR.refl m
  · refine hfold _ (fun s i => ?_) _ (m, false)
    split
    · exact hR.refl s.1
    · exact hR.trans (hword (by decide) _ _) (hraise _ 5)
    · exact hR.trans (hcount s.1 _) (hR.recordRaw _ _ _ _ _ _)

theorem checkStop (m : Mach) (k i : Nat) : R m (m.checkStop t k i) := by
  unfold Mach.checkStop
  split
  · exact hR.dramCheck m _ _
  · exact hR.refl m

theorem abandon (m : Mach) {q : Nat} (hq : ok q) : R m (m.abandon t q) := by
  have hinc : ∀ a : Mach, R a (a.inc (P.que t) (F.QUE_Q_ERRS_ABANDONED.nth q)) := fun a =>
    hR.queAt hq (fun hlt => by rw [Field.nth_off]; simp only [F.QUE_Q_ERRS_ABANDONED]; omega) a _
  have hraise : ∀ a : Mach, R a (a.raise (P.que t) 2) := fun a => hR.que (by decide) a _
  unfold Mach.abandon
  split
  · exact hR.refl m
  · dsimp only
    split
    · exact hR.trans (hR.trans (hR.modKit m fun _ => by exact ⟨rfl, rfl⟩) (hR.modQueue _ q _)) (hR.trans (hinc _) (hraise _))
    · exact hR.trans (hR.modQueue m q _) (hR.trans (hinc _) (hraise _))

theorem emptyQueue (m : Mach) {q : Nat} (hq : ok q) : R m (m.emptyQueue t q) := by
  have hword : ∀ a : Mach, R a (a.setWord (P.que t) (0x100 + 0x20 * q + 0x1C) 0) := fun a => hR.queAt hq (fun hlt => by omega) a 0
  have hshown : ∀ a : Mach, R a (if (a.kit t).shownQueue = q then a.modKit t fun k => { k with shown := none } else a) := fun a => by
    split
    · exact hR.modKit a fun _ => by exact ⟨rfl, rfl⟩
    · exact hR.refl a
  unfold Mach.emptyQueue
  exact hR.trans (hR.trans (hR.trans (hR.abandon m hq) (hR.modQueue _ q _)) (hword _)) (hshown _)

theorem updateFull (m : Mach) (waiting : Bool) : R m (m.updateFull t waiting) := by
  have hraise : ∀ (c : Bool) (a : Mach) (b : Nat), R a (if c = true then a.raise (P.kitty t) b else a) := fun c a b => by
    split
    · exact hR.kittyRaise a b
    · exact hR.refl a
  unfold Mach.updateFull
  exact hR.trans (hR.trans (hraise _ _ 0) (hraise _ _ 1)) (hR.modKit _ fun _ => by exact ⟨rfl, rfl⟩)

theorem queueReset (m : Mach) {q : Nat} (hq : ok q) (cause : Nat) : R m (m.queueReset t q cause) := by
  unfold Mach.queueReset
  split
  · exact hR.refl m
  · unfold Mach.noteReset
    exact hR.trans (hR.trans (hR.emptyQueue m hq) (hR.updateFull _ false)) (hR.trans (hR.que (by decide) _ _) (hR.recordRaw _ _ _ _ _ _))

theorem ptrErr (m : Mach) : R m (m.ptrErr t) := hR.trans (hR.ptrCount m) (hR.kittyRaise _ 2)

theorem reinitSram (m : Mach) : R m (m.reinitSram t) :=
  hR.trans (hR.modKit m fun _ => by exact ⟨rfl, rfl⟩) (hR.foldl _ (fun a q _ => hR.modQueue a q _) _)

theorem reinitDram (m : Mach) : R m (m.reinitDram t) :=
  hR.trans (hR.modKit m fun _ => by exact ⟨rfl, rfl⟩) (hR.foldl _ (fun a q _ => hR.modQueue a q _) _)

theorem poolReset (m : Mach) (dram : Bool) : R m (m.poolReset t dram) := by
  have hresets : ∀ (p : Nat → Bool) (a : Mach), R a (((List.range 32).filter p).foldl (fun m q => m.queueReset t q 4) a) := fun p a =>
    hR.foldl _ (fun b q hq => hR.queueReset b (hR.small (List.mem_range.1 (List.mem_of_mem_filter hq))) 4) a
  unfold Mach.poolReset
  dsimp only
  split
  · exact hR.trans (hR.trans (hR.ptrErr m) (hresets _ _)) (hR.trans (hR.reinitDram _) (hR.updateFull _ false))
  · exact hR.trans (hR.trans (hR.ptrErr m) (hresets _ _)) (hR.trans (hR.reinitSram _) (hR.updateFull _ false))

theorem checkQueue {m a : Mach} {q : Nat} (hq : ok q) (dram : Bool) (h : m.checkQueue t q dram = some a) : R m a := by
  unfold Mach.checkQueue at h
  split at h
  · obtain rfl := Option.some.inj h
    exact hR.poolReset m _
  · split at h
    · obtain rfl := Option.some.inj h
      exact hR.trans (hR.trans (hR.checkStop m _ _) (hR.ptrErr _)) (hR.queueReset _ hq _)
    · cases h

theorem useQueue (m : Mach) {q : Nat} (hq : ok q) : R m (m.useQueue t q) := by
  unfold Mach.useQueue
  cases h : m.checkQueue t q false with
  | none => exact hR.refl m
  | some a => exact hR.checkQueue hq false h

end QueueParts

/-- A relation between states that holds of everything that uses of tile `t`'s queues are made of: words of the pages that `C` names,
the tile's queues and its AON copy of the log, and the log of its segment. -/
structure QueueClosed (R : Mach → Mach → Prop) (C : Nat → Prop) (t : Nat) : Prop where
  refl : ∀ m, R m m
  trans : ∀ {a b c}, R a b → R b c → R a c
  setWord : ∀ {pk off}, C pk → off < 4096 → ∀ (m : Mach) (w : Word), R m (m.setWord pk off w)
  modTile : ∀ (m : Mach) {f : TileSt → TileSt}, (∀ ts, (f ts).sansQueues = ts.sansQueues) → R m (m.modTile t f)
  log : ∀ (m : Mach) (r : FaultRec), R m (m.logSegment t r)

namespace QueueClosed
variable (hR : QueueClosed R C t)
include hR

theorem steps : QueueSteps R t := ⟨hR.refl, hR.trans, fun m _ hf _ => hR.modTile m hf⟩

theorem foldl {α : Type} {f : Mach → α → Mach} (l : List α) (hf : ∀ m x, x ∈ l → R m (f m x)) (m : Mach) :
    R m (l.foldl f m) := hR.steps.foldl l hf m

theorem wr {pk : Nat} {f : Field} (h : C pk) (ho : f.off < 4096) (m : Mach) (v : Nat) : R m (m.wr pk f v) := hR.setWord h ho m _

theorem raise {pk : Nat} (h : C pk) (m : Mach) (b : Nat) : R m (m.raise pk b) := hR.setWord h (by decide) m _

theorem inc {pk : Nat} {f : Field} (h : C pk) (ho : f.off < 4096) (m : Mach) : R m (m.inc pk f) := hR.setWord h ho m _

theorem incW {pk : Nat} {f : Field} (h : C pk) (ho : f.off < 4096) (m : Mach) : R m (m.incW pk f) := hR.setWord h ho m _

theorem modQueue (m : Mach) (q : Nat) (f : Queue → Queue) : R m (m.modQueue t q f) := hR.modTile m fun _ => rfl

theorem openRaw (m : Mach) (q r prod : Nat) (tr : Trick) : R m (m.openRaw t q r prod tr) := hR.steps.openRaw m q r prod tr

theorem writeData (q k : Nat) (m : Mach) : R m (m.writeData t q k) := hR.steps.writeData q k m

theorem closeRaw (m : Mach) (q : Nat) : R m (m.closeRaw t q) := hR.steps.closeRaw m q

theorem emitRaw (m : Mach) (prod cap : Nat) {pk : Nat} (hpk : C pk) {lost : Field} (ho : lost.off < 4096) (ev : Option Nat) (tr : Trick) :
    R m (m.emitRaw t prod cap pk lost ev tr) := hR.steps.emitRaw m prod cap (hR.inc hpk ho) ev (fun a b _ => hR.raise hpk a b) tr

/-- A word of a page or of those after it, where an index beyond the page's registers leads. -/
theorem setWord_up {pk : Nat} (hup : ∀ k, C (pk + k)) (off : Nat) (m : Mach) (w : Word) : R m (m.setWord pk off w) := by
  have hkey : (pk + off / 4096) * 4096 + off % 4096 = pk * 4096 + off := by omega
  have hset : m.setWord pk off w = m.setWord (pk + off / 4096) (off % 4096) w := by rw [Mach.setWord, Mach.setWord, hkey]
  rw [hset]
  exact hR.setWord (hup _) (Nat.mod_lt _ (by decide)) m w

variable (hC : QueuePages C t)
include hC

/-- A word of the tile's page QUE. -/
theorem setQueue {q : Nat} (hq : q < 32 ∨ ∀ k, C (P.que t + k)) {off : Nat} (ho : q < 32 → off < 4096) (m : Mach) (w : Word) :
    R m (m.setWord (P.que t) off w) :=
  hq.elim (fun hlt => hR.setWord hC.que (ho hlt) m w) fun hup => hR.setWord_up hup off m w

theorem parts : QueueParts R (fun q => q < 32 ∨ ∀ k, C (P.que t + k)) t where
  toQueueSteps := hR.steps
  log := hR.log
  small := .inl
  queAt hq ho := hR.setQueue hC hq ho
  que := hR.setWord hC.que
  dram := hR.setWord hC.dram
  decl := hR.setWord hC.decl
  ptrCount := hR.inc hC.kitty (by decide)
  kittyRaise := hR.raise hC.kitty

theorem updateFull (m : Mach) (waiting : Bool) : R m (m.updateFull t waiting) := (hR.parts hC).updateFull m waiting

theorem queueReset (m : Mach) {q : Nat} (hq : q < 32 ∨ ∀ k, C (P.que t + k)) (cause : Nat) : R m (m.queueReset t q cause) :=
  (hR.parts hC).queueReset m hq cause

theorem recordRaw (m : Mach) (code unit subA subB detail : Nat) : R m (m.recordRaw t code unit subA subB detail) :=
  (hR.parts hC).recordRaw m code unit subA subB detail

theorem useQueue (m : Mach) {q : Nat} (hq : q < 32 ∨ ∀ k, C (P.que t + k)) : R m (m.useQueue t q) := (hR.parts hC).useQueue m hq

end QueueClosed

theorem queueOfProd_lt {m : Mach} {prod q : Nat} (h : m.queueOfProd t prod = some q) : q < 32 :=
  List.mem_range.1 (List.mem_of_find?_eq_some h)

/-- A fault record (R518). -/
theorem QueueParts.record (hR : QueueParts R ok t) (m : Mach) (code unit subA subB detail : Nat) :
    R m (m.record t code unit subA subB detail) := by
  unfold Mach.record
  split
  next q hq => exact hR.trans (hR.useQueue m (hR.small (queueOfProd_lt hq))) (hR.recordRaw _ _ _ _ _ _)
  · exact hR.recordRaw _ _ _ _ _ _

/-- A producer's event (R299). -/
theorem QueueClosed.emitEvent (hR : QueueClosed R C t) (hC : QueuePages C t) (m : Mach) (prod cap : Nat) {pk : Nat} (hpk : C pk)
    {lost : Field} (ho : lost.off < 4096) (ev : Option Nat) (tr : Trick) : R m (m.emitEvent t prod cap pk lost ev tr) := by
  unfold Mach.emitEvent
  split
  · exact hR.refl m
  next q hq => exact hR.trans (hR.useQueue hC m (.inl (queueOfProd_lt hq))) (hR.emitRaw _ prod cap hpk ho ev tr)

theorem QueueClosed.record (hR : QueueClosed R C t) (hC : QueuePages C t) (m : Mach) (code unit subA subB detail : Nat) :
    R m (m.record t code unit subA subB detail) := (hR.parts hC).record m code unit subA subB detail

/-- In one segment, what uses of a tile's queues are made of is confined to the pages named and to the package log. -/
theorem queueClosed_confined (hlog : C P.faultlog) (hring : ¬ C (P.ring t)) :
    QueueClosed (fun m m' => m.islandOf t = none → Confined C m m') C t where
  refl m _ := .refl m
  trans hab hbc hi := (hab hi).trans (hbc ((hab hi).islandOf hring hi))
  setWord h ho m w _ := .setWord h ho m w
  modTile m _ hf _ := .modTile m t hf
  log m r hi := by
    have hcount : ∀ a : Mach, Confined C a a.countRecord := fun a => by
      have hhead : Confined C a ((a.incW P.faultlog F.FAULTLOG_HEAD_SEQ).raise P.faultlog 0) :=
        (Confined.incW hlog (by decide) a).trans (.raise hlog _ 0)
      unfold countRecord
      refine hhead.trans ?_
      split
      · exact (Confined.inc hlog (by decide) _).trans (.raise hlog _ 1)
      · exact .wr hlog (by decide) _ _
    have hentered : ∀ l, Confined C m { m with pkgLog := l } := fun l => ⟨rfl, fun _ _ _ _ => rfl⟩
    obtain ⟨l, hl⟩ := m.logPackage_eq r
    rw [logSegment, hi, hl]
    exact (hentered l).trans (hcount _)

/-- A word of a tile's page that differs from its reset value stays, whatever the words of the view that takes its place. -/
theorem word_swapView_low {m : Mach} (d : Nat) {pk off : Nat} (hlow : pk * 4096 + off < globalBase)
    (h : m.word pk off ≠ resetWord (pk * 4096 + off)) : (m.swapView d).word pk off = m.word pk off := by
  have happend : ∀ (l l' : Store Word) (x : Word) (k : Nat), Store.get x l k ≠ x → Store.get x (l ++ l') k = Store.get x l k := by
    intro l l' x k
    induction l with
    | nil => exact fun h => absurd rfl h
    | cons e l ih =>
      intro h
      simp only [Store.get, List.cons_append] at h ⊢
      split
      · rfl
      next hne => exact ih (by rwa [if_neg hne] at h)
  have hfilter : Store.get (resetWord (pk * 4096 + off)) (m.regs.filter fun e => e.1 < globalBase) (pk * 4096 + off) = m.word pk off :=
    Store.get_filter _ m.regs (fun k => decide (k < globalBase)) (decide_eq_true hlow)
  exact (happend _ _ _ _ (by rw [hfilter]; exact h)).trans hfilter

/-- A word of a tile's page outside those named, once it differs from its reset value, stays through every use of the queues, in one
segment or in an island. -/
theorem queueClosed_word {pk off : Nat} (hpk : ¬ C pk) (ho : off < 4096) (hlow : pk < 14 * 256) : QueueClosed
    (fun m m' => m.word pk off ≠ resetWord (pk * 4096 + off) → m'.word pk off = m.word pk off) C t where
  refl _ _ := rfl
  trans hab hbc h := (hbc ((hab h).symm ▸ h)).trans (hab h)
  setWord hc ho' m w _ := m.word_setWord_off w ho' ho (.inl fun h => hpk (h ▸ hc))
  modTile _ _ _ _ := rfl
  log m r h := by
    have hbase : pk * 4096 + off < globalBase := by simp only [globalBase]; omega
    have hfault : pk ≠ P.faultlog := by simp only [P.faultlog, pageKey]; omega
    unfold logSegment
    split
    next d _ =>
      have hin := word_swapView_low d hbase h
      have hlog : ((m.swapView d).logPackage r).word pk off = m.word pk off := (word_logPackage_other _ r ho hfault).trans hin
      exact (word_swapView_low d hbase (hlog ▸ h)).trans hlog
    · exact word_logPackage_other m r ho hfault

/-- A producer's event in one segment is confined to the pages of its tile's queues and the page that counts those lost (R299). -/
theorem confined_emitEvent {m : Mach} {pk : Nat} (hi : m.islandOf t = none) (hring : pk ≠ P.ring t) (prod cap : Nat) {lost : Field}
    (ho : lost.off < 4096) (ev : Option Nat) (tr : Trick) : Confined (eventPages t pk) m (m.emitEvent t prod cap pk lost ev tr) := by
  refine (queueClosed_confined (by simp [eventPages]) ?_).emitEvent (queuePages_eventPages t pk) m prod cap (by simp [eventPages]) ho ev tr hi
  simp only [eventPages, List.mem_cons, List.not_mem_nil, or_false, hring.symm]
  simp only [P.ring, P.que, P.kitty, P.dram, P.decl, P.faultlog, pageKey]
  omega

/-- A fault record in one segment is confined to the pages of its tile's queues and the package log (R518). -/
theorem confined_record {m : Mach} (hi : m.islandOf t = none) (code unit subA subB detail : Nat) :
    Confined (eventPages t (P.decl t)) m (m.record t code unit subA subB detail) := by
  refine (queueClosed_confined (by simp [eventPages]) ?_).record (queuePages_eventPages t _) m code unit subA subB detail hi
  simp only [eventPages, List.mem_cons, List.not_mem_nil, or_false]
  simp only [P.ring, P.que, P.kitty, P.dram, P.decl, P.faultlog, pageKey]
  omega

end
end Mach
end Sys2Proof.Machine

/-!
PROOFS. Triggers (R148–R151, R170–R174): what an issued trigger's line leaves as it was, and the captures it begins.
-/

namespace Sys2Proof.Machine
namespace Mach

/-! ### The line of an issued trigger -/

/-- What the line of a trigger of member `g` keeps: SPORT.CFG, where the port is one with pixels. -/
structure LineKeeps (g : Nat) (m m' : Mach) : Prop where
  cfg : m.word (P.sport g) 0x040 ≠ resetWord (P.sport g * 4096 + 0x040) → m'.word (P.sport g) 0x040 = m.word (P.sport g) 0x040

namespace LineKeeps
variable {g : Nat}

theorem refl (m : Mach) : LineKeeps g m m := ⟨fun _ => rfl⟩

theorem trans {a b c : Mach} (h : LineKeeps g a b) (k : LineKeeps g b c) : LineKeeps g a c :=
  ⟨fun hne => (k.cfg ((h.cfg hne).symm ▸ hne)).trans (h.cfg hne)⟩

theorem foldl {α : Type} {f : Mach → α → Mach} (l : List α) (hf : ∀ m x, x ∈ l → LineKeeps g m (f m x)) (m : Mach) :
    LineKeeps g m (l.foldl f m) := by
  induction l generalizing m with
  | nil => exact refl m
  | cons x l ih => exact (hf m x List.mem_cons_self).trans (ih (fun m y hy => hf m y (List.mem_cons_of_mem _ hy)) _)

/-- A word at another offset than that of SPORT.CFG. -/
theorem setWord {pk off : Nat} (ho : off < 4096) (h0 : off ≠ 0x040) (m : Mach) (w : Word) : LineKeeps g m (m.setWord pk off w) :=
  ⟨fun _ => m.word_setWord_off w ho (by decide) (.inr h0.symm)⟩

theorem wr {pk : Nat} {f : Field} (ho : f.off < 4096) (h0 : f.off ≠ 0x040) (m : Mach) (v : Nat) : LineKeeps g m (m.wr pk f v) :=
  setWord ho h0 m _

theorem raise (pk : Nat) (m : Mach) (b : Nat) : LineKeeps g m (m.raise pk b) := setWord (by decide) (by decide) m _

theorem modClu (m : Mach) (k : Nat) (f : Cluster → Cluster) : LineKeeps g m (m.modClu k f) := ⟨fun _ => rfl⟩

theorem emitOut (m : Mach) (o : Out) : LineKeeps g m (m.emitOut o) := ⟨fun _ => rfl⟩

theorem setEl (m : Mach) (pk a i v : Nat) : LineKeeps g m (m.setEl pk a i v) := ⟨fun _ => rfl⟩

/-- A port with pixels stays one: the reset value of SPORT.CFG names none. -/
theorem pixelless {m m' : Mach} (hg : g < 16) (h : LineKeeps g m m') (hpix : m.pixelless g = false) : m'.pixelless g = false := by
  have hresets : ∀ k : Fin 16, bits (resetWord (P.sport k * 4096 + 0x040)).toNat 1 0 = 0 := by decide +kernel
  have hreset := hresets ⟨g, hg⟩
  have hne : m.word (P.sport g) 0x040 ≠ resetWord (P.sport g * 4096 + 0x040) := fun heq => by
    have hkind : m.kind g = bits (m.word (P.sport g) 0x040).toNat 1 0 := rfl
    rw [Mach.pixelless, hkind, heq, hreset] at hpix
    exact absurd hpix (by decide)
  unfold Mach.pixelless Mach.kind rd at hpix ⊢
  rw [show F.SPORT_CFG_KIND.off = 0x040 from rfl, h.cfg hne]
  exact hpix

end LineKeeps

section
variable {g : Nat}

/-- The copies of a commit lie from offset 0x840 on. -/
theorem lineKeeps_copyShadows (m : Mach) (pk : Nat) : LineKeeps g m (m.copyShadows pk) := by
  unfold copyShadows
  refine .foldl _ (fun a r hr => ?_) m
  split
  · exact .refl a
  · refine .foldl _ (fun a i hi => ?_) a
    obtain ⟨hlo, hhi, -⟩ := pageRegs_fit _ _ r hr
    have hlast : i * r.stride ≤ (r.count - 1) * r.stride := Nat.mul_le_mul_right _ (Nat.le_sub_one_of_lt (List.mem_range.1 hi))
    exact .setWord (by omega) (by omega) a _

theorem lineKeeps_lineBoundary (m : Mach) (k : Nat) : LineKeeps g m (m.lineBoundary k) := by
  unfold lineBoundary
  refine .foldl _ (fun a pk _ => ?_) m
  split
  · exact (lineKeeps_copyShadows a pk).trans ((LineKeeps.wr (by decide) (by decide) _ 0).trans
      (.wr (by decide) (by decide) _ 0))
  · exact .refl a

theorem lineKeeps_bgFollow (m : Mach) (k : Nat) (was : Bool) : LineKeeps g m (m.bgFollow k was) := by
  unfold bgFollow abandonSteps
  split
  · refine .foldl _ (fun a v hv => ?_) m
    have hlt : v < 6 := List.mem_range.1 hv
    have ho : (F.VC_CONV_BG_SHADOW_POS.nth v).off = 0x084 + 16 * v := by rw [Field.nth_off]; simp only [F.VC_CONV_BG_SHADOW_POS]; omega
    dsimp only
    split
    · exact (LineKeeps.wr (by omega) (by omega) a _).trans (.modClu _ k _)
    · exact .modClu a k _
  · exact .refl m

theorem lineKeeps_startEdges (m : Mach) (k n : Nat) : LineKeeps g m (m.startEdges k n) := by
  unfold startEdges
  dsimp only
  split
  · exact .modClu m k _
  · exact (LineKeeps.wr (by decide) (by decide) m _).trans ((LineKeeps.raise _ _ 5).trans (.modClu _ k _))

theorem lineKeeps_applyBridge (m : Mach) (k : Nat) : LineKeeps g m (m.applyBridge k) := by
  unfold applyBridge
  refine .foldl _ (fun a v _ => ?_) m
  unfold applyDiff
  dsimp only
  split
  · exact .refl a
  · exact (LineKeeps.foldl _ (fun b _ _ => .setEl b _ _ _ _) a).trans (.modClu _ k _)

theorem lineKeeps_spiStart (m : Mach) (k n : Nat) (held : Bool) : LineKeeps g m (m.spiStart k n held) := by
  unfold spiStart
  split
  · exact (LineKeeps.modClu m k _).trans (.emitOut _ _)
  · exact .refl m

theorem lineKeeps_spiLine (m : Mach) (k n : Nat) : LineKeeps g m (m.spiLine k n) := by
  unfold spiLine
  split
  · exact .refl m
  · dsimp only
    refine LineKeeps.trans ?_ (lineKeeps_spiStart _ k _ false)
    exact .modClu m k _

theorem lineKeeps_emitEvent (hg : g < 16) (m : Mach) {pk0 : Nat} (h0 : pk0 ≠ P.sport g) (prod cap : Nat) {lost : Field} (ho : lost.off < 4096)
    (ev : Option Nat) (tr : Trick) : LineKeeps g m (m.emitEvent (g / 2) prod cap pk0 lost ev tr) := by
  refine ⟨(queueClosed_word (C := eventPages (g / 2) pk0) ?_ (by decide) ?_).emitEvent (queuePages_eventPages _ _) m prod cap
    (by simp [eventPages]) ho ev tr⟩
  · simp only [eventPages, List.mem_cons, List.not_mem_nil, or_false, h0.symm]
    simp only [P.sport, P.que, P.kitty, P.dram, P.decl, P.faultlog, pageKey]
    omega
  · simp only [P.sport, pageKey]
    omega

/-- The boost's voltage follows the headroom `h` (R379). -/
def boostFollow (m : Mach) (g h : Nat) : Mach :=
  let pk := P.lamp g
  let target := m.rd pk F.LAMP_HR_TARGET
  let vset := m.rd pk F.LAMP_STAT_VSET
  let vmax := m.rd pk F.LAMP_BST_V_VMAX
  if !m.flag pk F.LAMP_STAT_BST_RUN then m
  else if h < target then
    (m.wr pk F.LAMP_STAT_VSET (min vmax (vset + (target - h + 9) / 10))).modLamp g fun s => { s with above := 0 }
  else if target + m.rd pk F.LAMP_HR_BAND < h then
    if (m.lampS g).above = 15 then
      (m.wr pk F.LAMP_STAT_VSET (max (m.rd pk F.LAMP_BST_V_VMIN) (vset - 2))).modLamp g fun s => { s with above := 0 }
    else m.modLamp g fun s => { s with above := s.above + 1 }
  else m.modLamp g fun s => { s with above := 0 }

/-- HR_LOW shown, its rise counted and reported (R379). -/
def showLow (m : Mach) (g : Nat) (low : Bool) : Mach :=
  let pk := P.lamp g
  if !low then m.wr pk F.LAMP_STAT_HR_LOW 0
  else
    let first := !m.flag pk F.LAMP_STAT_HR_LOW
    let m := (m.wr pk F.LAMP_STAT_HR_LOW 1).inc pk F.LAMP_HR_LOW_CNT_COUNT
    if first then (m.raise pk 2).lampEvent g 3 0 else m

theorem headroom_cases (m : Mach) (g : Nat) (mv : List Nat) : m.headroom g mv = m ∨
    ∃ h low, m.headroom g mv = ((m.wr (P.lamp g) F.LAMP_HR_MIN_MV h).boostFollow g h).showLow g low := by
  unfold headroom
  dsimp only
  split
  · exact .inl rfl
  · exact .inr ⟨_, _, rfl⟩

theorem lineKeeps_boostFollow (m : Mach) (k h : Nat) : LineKeeps g m (m.boostFollow k h) := by
  have hset : ∀ (v : Nat) (f : Cluster → Cluster), LineKeeps g m ((m.wr (P.lamp k) F.LAMP_STAT_VSET v).modClu k f) := fun v f =>
    (LineKeeps.wr (by decide) (by decide) m v).trans (.modClu _ k f)
  unfold boostFollow
  dsimp only
  split
  · exact .refl m
  · split
    · exact hset _ _
    · split
      · split
        · exact hset _ _
        · exact .modClu m k _
      · exact .modClu m k _

theorem lamp_ne_sport (g k : Nat) : P.lamp g ≠ P.sport k := by simp only [P.lamp, P.sport, pageKey]; omega

theorem lineKeeps_lampEvent (hg : g < 16) (m : Mach) (code cause : Nat) : LineKeeps g m (m.lampEvent g code cause) := by
  unfold lampEvent
  dsimp only
  exact LineKeeps.trans (.modClu m g _) (lineKeeps_emitEvent hg _ (lamp_ne_sport g g) _ _ (by decide) _ _)

theorem lineKeeps_showLow (hg : g < 16) (m : Mach) (low : Bool) : LineKeeps g m (m.showLow g low) := by
  unfold showLow
  dsimp only
  split
  · exact .wr (by decide) (by decide) m 0
  · have hlow : LineKeeps g m ((m.wr (P.lamp g) F.LAMP_STAT_HR_LOW 1).inc (P.lamp g) F.LAMP_HR_LOW_CNT_COUNT) :=
      (LineKeeps.wr (by decide) (by decide) m 1).trans (.wr (by decide) (by decide) _ _)
    split
    · exact (hlow.trans (.raise (P.lamp g) _ 2)).trans (lineKeeps_lampEvent hg _ 3 0)
    · exact hlow

theorem lineKeeps_headroom (hg : g < 16) (m : Mach) (mv : List Nat) : LineKeeps g m (m.headroom g mv) := by
  obtain heq | ⟨h, low, heq⟩ := m.headroom_cases g mv
  · rw [heq]
    exact .refl m
  · rw [heq]
    exact ((LineKeeps.wr (by decide) (by decide) m h).trans (lineKeeps_boostFollow _ g h)).trans (lineKeeps_showLow hg _ low)

theorem lineKeeps_formCodes (m : Mach) (k : Nat) : LineKeeps g m (m.formCodes k) := by
  unfold formCodes
  refine .foldl _ (fun a n hn => ?_) m
  have hlt : n < 6 := List.mem_range.1 hn
  have ho : (F.LAMP_EFF_CODE.nth n).off = 0x110 + 4 * n := by rw [Field.nth_off]; simp only [F.LAMP_EFF_CODE]; omega
  have hcode : ∀ v, LineKeeps g a (a.wr (P.lamp k) (F.LAMP_EFF_CODE.nth n) v) := fun v => .wr (by omega) (by omega) a v
  dsimp only
  split
  · exact (hcode _).trans ((LineKeeps.wr (by decide) (by decide) _ _).trans (.raise _ _ 7))
  · exact hcode _

theorem lineKeeps_countCut (m : Mach) (k n : Nat) : LineKeeps g m (m.countCut k n) := by
  unfold countCut
  split
  · exact .refl m
  · exact (LineKeeps.wr (by decide) (by decide) m _).trans (.raise _ _ 6)

theorem lineKeeps_lampLine (hg : g < 16) (m : Mach) (n : Nat) (mv : List Nat) : LineKeeps g m (m.lampLine g n mv) := by
  unfold lampLine
  split
  · exact .refl m
  · dsimp only
    refine LineKeeps.trans ?_ (.foldl _ (fun a _ _ => .emitOut a _) _)
    refine LineKeeps.trans ?_ (.modClu _ g _)
    refine LineKeeps.trans ?_ (.modClu _ g _)
    exact ((LineKeeps.modClu m g _).trans (lineKeeps_headroom hg _ mv)).trans ((lineKeeps_formCodes _ g).trans (lineKeeps_countCut _ g _))

theorem lineKeeps_startLine (hg : g < 16) (m : Mach) (n : Nat) (hr : List Nat) : LineKeeps g m (m.startLine g n hr) := by
  have hstamp : LineKeeps g m ((m.incW (P.deal g) F.DEAL_TRIG_CNT_COUNT).wr2 (P.deal g) F.DEAL_LAST_LO_N F.DEAL_LAST_HI_N n) :=
    (LineKeeps.wr (by decide) (by decide) m _).trans ((LineKeeps.wr (by decide) (by decide) _ _).trans (.wr (by decide) (by decide) _ _))
  have hspi := hstamp.trans ((lineKeeps_lineBoundary _ g).trans ((lineKeeps_bgFollow _ g (m.actFlag (P.vc g) F.VC_BGCAL_EN)).trans
    ((LineKeeps.modClu _ g fun s => { s with lastTrig := some n }).trans ((lineKeeps_startEdges _ g n).trans
      ((lineKeeps_applyBridge _ g).trans (lineKeeps_spiLine _ g n))))))
  exact hspi.trans ((lineKeeps_lampLine hg _ n hr).trans (.emitOut _ _))

theorem trigger_mem_startLine (m : Mach) (g n : Nat) (hr : List Nat) : Out.trigger g n ∈ (m.startLine g n hr).out :=
  List.mem_append_right _ (List.mem_singleton.2 rfl)

/-! ### The capture of an issued trigger -/

theorem startCapture_eq (m : Mach) (g n : Nat) (legacy : Option Int) : ∃ (cap : Capture) (f : Cluster → Cluster) (c : Bool) (fa : AccSt → AccSt),
    cap.n = n ∧ cap.legacy = legacy ∧ (∀ s, (f s).reading = some cap) ∧
      m.startCapture g n legacy = if c then (m.modClu g f).modAcc g fa else m.modClu g f :=
  ⟨_, _, _, _, rfl, rfl, fun _ => rfl, rfl⟩

/-- The capture that begins bears the trigger's instant and boundary, and nothing leaves the part. -/
theorem startCapture_spec (m : Mach) {g : Nat} (hg : g < 16) (n : Nat) (legacy : Option Int) :
    (((m.startCapture g n legacy).clu g).reading.map fun c => (c.n, c.legacy)) = some (n, legacy) ∧
      (m.startCapture g n legacy).out = m.out := by
  obtain ⟨cap, f, c, fa, rfl, rfl, hf, heq⟩ := m.startCapture_eq g n legacy
  rw [heq]
  split
  · refine ⟨?_, rfl⟩
    rw [modAcc, clu_modClu_same _ _ hg, clu_modClu_same _ _ hg, hf]
    rfl
  · refine ⟨?_, rfl⟩
    rw [clu_modClu_same _ _ hg, hf]
    rfl

/-- A member that may capture, with its port idle, issues its trigger. -/
theorem trigger_issued {m : Mach} (n : Nat) (hr : List Nat) (legacy : Option Int) (harmed : m.armed g = true) (href : m.refLost = false)
    (hidle : m.idleMember g = false) (hlive : m.live (g / 2) (D.sport (g % 2)) = true) (hon : m.enabled (P.deal g) = true)
    (hdrop : (m.clu g).dropNext = false) (hbusy : m.portBusy g = false) (hpix : m.pixelless g = false) (hg : g < 16) :
    m.trigger g n hr legacy = (m.startLine g n hr).startCapture g n legacy := by
  have hpix' : (m.startLine g n hr).pixelless g = false := (lineKeeps_startLine hg m n hr).pixelless hg hpix
  simp [trigger, harmed, href, hidle, hlive, hon, hdrop, hbusy, hpix']

/-- A trigger of a busy port of an open deal is an overrun, and its capture is missing (R174). -/
theorem trigger_overrun {m : Mach} (n : Nat) (hr : List Nat) (legacy : Option Int) (harmed : m.armed g = true) (href : m.refLost = false)
    (hidle : m.idleMember g = false) (hlive : m.live (g / 2) (D.sport (g % 2)) = true) (hon : m.enabled (P.deal g) = true)
    (hdrop : (m.clu g).dropNext = false) (hbusy : m.portBusy g = true) (hdeal : m.inDeal g = true) :
    m.trigger g n hr legacy = ((m.inc (P.deal g) F.DEAL_OVERRUN_COUNT).raise (P.deal g) 0).missTrigger g n := by
  simp [trigger, harmed, href, hidle, hlive, hon, hdrop, hbusy, hdeal]

/-- The hand of a member, and whether its deal is open, are read from the clusters and from page MODE. -/
theorem handOf_congr {m m' : Mach} (hclus : m'.clus = m.clus) (hmode : ∀ off, off < 4096 → m'.word P.mode off = m.word P.mode off) (g : Nat) :
    m'.handOf g = m.handOf g := by
  have hclu : m'.clu g = m.clu g := by unfold clu; rw [hclus]
  have hfind : ∀ h ∈ List.range 16, (m'.flag P.mode (F.MODE_HAND_CFG_VALID.nth h) && bit (m'.rd P.mode (F.MODE_HAND_CFG_MEMBERS.nth h)) g) =
      (m.flag P.mode (F.MODE_HAND_CFG_VALID.nth h) && bit (m.rd P.mode (F.MODE_HAND_CFG_MEMBERS.nth h)) g) := fun h hh => by
    have hlt : h < 16 := List.mem_range.1 hh
    have hv : (F.MODE_HAND_CFG_VALID.nth h).off < 4096 := by rw [Field.nth_off]; simp only [F.MODE_HAND_CFG_VALID]; omega
    have hm : (F.MODE_HAND_CFG_MEMBERS.nth h).off < 4096 := by rw [Field.nth_off]; simp only [F.MODE_HAND_CFG_MEMBERS]; omega
    unfold flag rd
    rw [hmode _ hv, hmode _ hm]
  unfold handOf
  rw [hclu, List.find?_congr hfind]

theorem inDeal_congr {m m' : Mach} (hclus : m'.clus = m.clus) (hmode : ∀ off, off < 4096 → m'.word P.mode off = m.word P.mode off) (g : Nat) :
    m'.inDeal g = m.inDeal g := by
  have hclu : m'.clu g = m.clu g := by unfold clu; rw [hclus]
  unfold inDeal
  rw [hclu]
  cases hcut : (m.clu g).cut with
  | some c => rfl
  | none =>
    rw [handOf_congr hclus hmode]
    cases hh : m.handOf g with
    | none => rfl
    | some h =>
      have hlt : h < 16 := by
        unfold handOf at hh
        rw [hcut] at hh
        exact List.mem_range.1 (List.mem_of_find?_eq_some hh)
      have ho : (F.MODE_HAND_STAT_DEAL_OPEN.nth h).off < 4096 := by rw [Field.nth_off]; simp only [F.MODE_HAND_STAT_DEAL_OPEN]; omega
      dsimp only
      unfold dealOpen flag rd
      rw [hmode _ ho]

/-- A word that is neither of page MODE nor SPORT.CFG leaves an open deal open and a port with pixels one. -/
theorem missTrigger_open (hg : g < 16) {m : Mach} {n : Nat} (hdeal : m.inDeal g = true) (hpix : m.pixelless g = false) :
    ((m.inc (P.deal g) F.DEAL_OVERRUN_COUNT).raise (P.deal g) 0).missTrigger g n =
      ((m.inc (P.deal g) F.DEAL_OVERRUN_COUNT).raise (P.deal g) 0).modClu g fun c => { c with pendMissing := c.pendMissing ++ [n] } := by
  have hne : P.mode ≠ P.deal g := by simp only [P.mode, P.deal, pageKey]; omega
  have hmode : ∀ off, off < 4096 → ((m.inc (P.deal g) F.DEAL_OVERRUN_COUNT).raise (P.deal g) 0).word P.mode off = m.word P.mode off :=
    fun off ho => (word_raise_off _ ho (.inl hne)).trans (word_wr_off m _ (by decide) ho (.inl hne))
  have hcfg : LineKeeps g m ((m.inc (P.deal g) F.DEAL_OVERRUN_COUNT).raise (P.deal g) 0) :=
    (LineKeeps.wr (by decide) (by decide) m _).trans (.raise _ _ 0)
  have hclus : ((m.inc (P.deal g) F.DEAL_OVERRUN_COUNT).raise (P.deal g) 0).clus = m.clus := by simp only [raise_clus, inc_clus]
  have hopen := (inDeal_congr hclus hmode g).trans hdeal
  unfold missTrigger
  rw [hopen, hcfg.pixelless hg hpix]
  rfl

theorem advance_past {m : Mach} {t n : Nat} (h : n ≤ m.now t) : m.advance t n = m := if_pos h

/-- A grid point of an INTERNAL or EXT_PHASE hand, after its member's last trigger, with no switch pending, is a trigger (R170). -/
theorem captureTrigger_onGrid {m : Mach} {h n : Nat} (hr : List Nat) (hh : m.handOf g = some h) (hsrc : m.handSrc h < 2)
    (hgrid : onGrid (m.handGrid h) n = true) (hsw : (m.clu (m.leader h)).phaseSwitch = none)
    (hlast : ∀ l, (m.clu g).lastTrig = some l → l < n) (hn : n ≤ m.now (g / 2)) : m.captureTrigger g n hr = m.trigger g n hr none := by
  cases hl : (m.clu g).lastTrig with
  | none => simp [captureTrigger, hh, hsrc, hgrid, hsw, hl, advance_past hn]
  | some l => simp [captureTrigger, hh, hsrc, hgrid, hsw, hl, advance_past hn, hlast l hl]

end

/-! ### Edges of TRIG pins, and the switch of a phase -/

/-- A fold in which one element alone acts. -/
theorem foldl_only {α : Type} {f : Mach → α → Mach} {l : List α} (hnd : l.Nodup) {x : α} (hx : x ∈ l) {m : Mach}
    (hbefore : ∀ y ∈ l, y ≠ x → f m y = m) (hafter : ∀ y ∈ l, y ≠ x → f (f m x) y = f m x) : l.foldl f m = f m x := by
  have hrest : ∀ (l : List α), (∀ y ∈ l, f (f m x) y = f m x) → l.foldl f (f m x) = f m x := by
    intro l hl
    induction l with
    | nil => rfl
    | cons y l ih => rw [List.foldl_cons, hl y List.mem_cons_self, ih fun z hz => hl z (List.mem_cons_of_mem _ hz)]
  induction l with
  | nil => cases hx
  | cons y l ih =>
    obtain ⟨hy, hnd⟩ := List.nodup_cons.1 hnd
    by_cases hyx : y = x
    · subst hyx
      exact hrest l fun z hz => hafter z (List.mem_cons_of_mem _ hz) fun h => hy (h ▸ hz)
    · rw [List.foldl_cons, hbefore y List.mem_cons_self hyx]
      exact ih hnd ((List.mem_cons.1 hx).resolve_left (Ne.symm hyx)) (fun z hz => hbefore z (List.mem_cons_of_mem _ hz))
        fun z hz => hafter z (List.mem_cons_of_mem _ hz)

theorem tile_modTile_congr {β : Type} (v : TileSt → β) (m : Mach) (t u : Nat) {f : TileSt → TileSt} (hf : ∀ ts, v (f ts) = v ts) :
    v ((m.modTile t f).tile u) = v (m.tile u) := by
  by_cases hut : u = t
  · subst hut
    by_cases hu : u < 8
    · rw [tile_modTile_same _ _ hu, hf]
    · rw [show (m.modTile u f).tile u = m.tile u by simp [tile, modTile, vmod, hu]]
  · rw [tile_modTile_ne _ _ hut]

/-- The level that a TRIG pin takes (R171). -/
def trigLevel (m : Mach) (t pin : Nat) (rising : Bool) : Mach := m.modTile t fun ts => { ts with trig := putBit ts.trig pin rising }

section
variable (m : Mach) (t pin : Nat) (rising : Bool)

@[simp] theorem trigLevel_rd (pk : Nat) (f : Field) : (m.trigLevel t pin rising).rd pk f = m.rd pk f := rfl
@[simp] theorem trigLevel_flag (pk : Nat) (f : Field) : (m.trigLevel t pin rising).flag pk f = m.flag pk f := rfl
@[simp] theorem trigLevel_clu (g : Nat) : (m.trigLevel t pin rising).clu g = m.clu g := rfl
@[simp] theorem trigLevel_leader (h : Nat) : (m.trigLevel t pin rising).leader h = m.leader h := rfl
@[simp] theorem trigLevel_handArmed (h : Nat) : (m.trigLevel t pin rising).handArmed h = m.handArmed h := rfl
@[simp] theorem trigLevel_leaderLost (h : Nat) : (m.trigLevel t pin rising).leaderLost h = m.leaderLost h := rfl
@[simp] theorem trigLevel_handSrc (h : Nat) : (m.trigLevel t pin rising).handSrc h = m.handSrc h := rfl
@[simp] theorem trigLevel_gridPoint (h n : Nat) : (m.trigLevel t pin rising).gridPoint h n = m.gridPoint h n := rfl

@[simp] theorem trigLevel_now (u : Nat) : (m.trigLevel t pin rising).now u = m.now u := tile_modTile_congr TileSt.n m t u fun _ => rfl

@[simp] theorem trigLevel_live (u d : Nat) : (m.trigLevel t pin rising).live u d = m.live u d := by
  have hlife := tile_modTile_congr TileSt.life m t u (f := fun ts => { ts with trig := putBit ts.trig pin rising }) fun _ => rfl
  have hseq := tile_modTile_congr TileSt.seq m t u (f := fun ts => { ts with trig := putBit ts.trig pin rising }) fun _ => rfl
  unfold live awake goingOff trigLevel
  rw [hlife, hseq]
  rfl

end

/-- An edge that qualifies at `e`, the first of its hand and with no switch pending, sets a switch 8 µs on (R172). -/
theorem phaseEdge_first {m : Mach} {h g e : Nat} (hedge : (m.clu g).lastEdge = none) (hsw : (m.clu g).phaseSwitch = none) :
    m.phaseEdge h g e = m.modClu g fun c => { c with lastEdge := some e, phaseSwitch := some (e, m.gridPoint h (e + 4000)) } := by
  simp [phaseEdge, hedge, hsw]

/-- What an edge does to hand `h`: nothing while the hand is not armed (R171). -/
def edgeOf (t pin : Nat) (rising : Bool) (n held : Nat) (hr : List (List Nat)) (m : Mach) (h : Nat) : Mach :=
  let g := m.leader h
  let pk := P.deal g
  let filt := m.rd pk F.DEAL_TRIG_FILT_FILT
  let e := n + filt
  if !m.handArmed h || m.leaderLost h || g / 2 ≠ t || m.rd pk F.DEAL_SRC_PIN ≠ pin || m.flag pk F.DEAL_SRC_POL = rising ||
      decide (held ≤ filt) then m
  else match m.handSrc h with
    | 1 => (m.advance t e).phaseEdge h g e
    | 2 => if m.tooClose h e then (m.advance t e).ignoreTrigger g else (m.advance t (e + 2)).triggerAll h (e + 2) hr none
    | _ => m

theorem trigPinEdge_live {m : Mach} {t n : Nat} (pin : Nat) (rising : Bool) (held : Nat) (hr : List (List Nat)) (hn : n ≤ m.now t)
    (hlive : m.live t D.aux = true) : m.trigPinEdge t pin rising n held hr =
      (List.range 16).foldl (edgeOf t pin rising n held hr) (m.trigLevel t pin rising) := by
  unfold trigPinEdge
  rw [advance_past hn]
  exact if_neg (show ¬ (!(m.trigLevel t pin rising).live t D.aux) = true by simp [hlive])

theorem edgeOf_unarmed {t pin n held : Nat} {rising : Bool} {hr : List (List Nat)} {m : Mach} {h : Nat} (ha : m.handArmed h = false) :
    edgeOf t pin rising n held hr m h = m := by simp [edgeOf, ha]

/-- The edge of an EXT_PHASE hand's pin, held for longer than the filter asks, qualifies (R171, R172). -/
theorem edgeOf_extPhase {t pin n held : Nat} {rising : Bool} {hr : List (List Nat)} {m : Mach} {h : Nat}
    (ha : m.handArmed h = true) (hlost : m.leaderLost h = false) (ht : m.leader h / 2 = t)
    (hpin : m.rd (P.deal (m.leader h)) F.DEAL_SRC_PIN = pin) (hpol : m.flag (P.deal (m.leader h)) F.DEAL_SRC_POL ≠ rising)
    (hheld : m.rd (P.deal (m.leader h)) F.DEAL_TRIG_FILT_FILT < held) (hsrc : m.handSrc h = 1)
    (hn : n + m.rd (P.deal (m.leader h)) F.DEAL_TRIG_FILT_FILT ≤ m.now t) : edgeOf t pin rising n held hr m h =
      m.phaseEdge h (m.leader h) (n + m.rd (P.deal (m.leader h)) F.DEAL_TRIG_FILT_FILT) := by
  simp [edgeOf, ha, hlost, ht, hpin, hpol, Nat.not_le_of_lt hheld, hsrc, advance_past hn]

/-- The switch whose new grid has begun takes effect (R172). -/
theorem phaseSwitch_due {m : Mach} {h e k : Nat} (hsw : (m.clu (m.leader h)).phaseSwitch = some (e, k)) (ha : m.handArmed h = true)
    (hlost : m.leaderLost h = false) (hdue : m.newFirst (m.leader h) e k ≤ m.now (m.leader h / 2)) :
    m.phaseSwitch h = m.switchPhase (m.leader h) e := by
  simp [phaseSwitch, hsw, ha, hlost, advance_past hdue]

/-! ### Crossings of a LEGACY_POS hand -/

/-- The boundary that member `g` has crossed is the top of those behind it (R173). -/
def crossed (m : Mach) (g : Nat) (k : Int) : Mach := m.modClu g fun s => { s with legacyTop := k }

theorem clu_crossed {β : Type} (v : Cluster → β) (hv : ∀ s k, v { s with legacyTop := k } = v s) (m : Mach) (g : Nat) (k : Int) (j : Nat) :
    v ((m.crossed g k).clu j) = v (m.clu j) := by
  by_cases hj : j = g
  · subst hj
    by_cases h16 : j < 16
    · rw [crossed, clu_modClu_same _ _ h16, hv]
    · rw [show (m.crossed j k).clu j = m.clu j by simp [clu, crossed, modClu, vmod, h16]]
  · rw [crossed, clu_modClu_ne _ _ hj]

section
variable (m : Mach) (g : Nat) (k : Int)

theorem handOf_crossed (j : Nat) : (m.crossed g k).handOf j = m.handOf j := by
  unfold handOf
  rw [clu_crossed Cluster.cut fun _ _ => rfl]
  rfl

theorem armed_crossed (j : Nat) : (m.crossed g k).armed j = m.armed j := by
  unfold armed
  rw [clu_crossed Cluster.cut (fun _ _ => rfl), handOf_crossed]
  rfl

theorem idleMember_crossed (j : Nat) : (m.crossed g k).idleMember j = m.idleMember j := by
  unfold idleMember
  rw [handOf_crossed]
  rfl

theorem portBusy_crossed (j : Nat) : (m.crossed g k).portBusy j = m.portBusy j := by
  unfold portBusy
  rw [clu_crossed Cluster.reading fun _ _ => rfl]

theorem followers_crossed (h : Nat) : (m.crossed g k).followers h = m.followers h := by
  unfold followers
  simp only [clu_crossed Cluster.cut fun _ _ => rfl]
  rfl

theorem tooClose_crossed (h n : Nat) : (m.crossed g k).tooClose h n = m.tooClose h n := by
  unfold tooClose
  simp only [followers_crossed, clu_crossed Cluster.lastTrig fun _ _ => rfl]
  rfl

end

/-- A hand of one member, placed by its encoder, whose position has reached the next boundary: the member triggers 2 ticks on (R173). -/
theorem positionCrossing_reached {m : Mach} {h g n : Nat} (hr : List (List Nat)) (hf : m.followers h = [g]) (hl : m.leader h = g)
    (ha : m.handArmed h = true) (hsrc : m.handSrc h = 3) (hkind : m.rd P.mode (F.MODE_HAND_CFG_POS_KIND.nth h) = 0)
    (hn : n + 2 ≤ m.now (g / 2))
    (hpos : (m.clu g).legacyOrg + ((m.clu g).legacyTop + 1) * m.rd (P.acc g) F.ACC_PITCH_PITCH ≤ m.legacyPos h)
    (hclose : m.tooClose h n = false) : m.positionCrossing h n hr =
      (m.crossed g ((m.clu g).legacyTop + 1)).trigger g (n + 2) (hr.getD (g % 2) []) (some ((m.clu g).legacyTop + 1)) := by
  have hnow : n ≤ m.now (g / 2) := by omega
  have hkind1 : ¬ m.rd P.mode (F.MODE_HAND_CFG_POS_KIND.nth h) = 1 := by rw [hkind]; decide
  have hcross : (m.followers h).foldl (fun a g' => a.modClu g' fun s => { s with legacyTop := (m.clu g).legacyTop + 1 }) m =
      m.crossed g ((m.clu g).legacyTop + 1) := by rw [hf]; rfl
  have hnow2 : n + 2 ≤ (m.crossed g ((m.clu g).legacyTop + 1)).now (g / 2) := hn
  unfold positionCrossing
  dsimp only
  rw [hl, if_neg (by simp [ha, hsrc]), advance_past hnow, if_neg hkind1, if_neg (Int.not_lt.2 hpos), hcross, tooClose_crossed,
    hclose, if_neg Bool.false_ne_true, if_pos hkind, advance_past hnow2, triggerAll, followers_crossed, hf]
  rfl

end Mach

/-- Settles O35, with each kind of event's own rule (R170–R173) and the capture that an issued trigger begins. -/
theorem triggerEvents : Obligations.TriggerEvents := by
  refine ⟨fun s g n hr h hi hh hsrc hgrid hsw hlast hn harmed href hidle hlive hon hdrop hbusy hpix => ?_,
    fun s g n hr h hi hh hsrc hgrid hsw hlast hn harmed href hidle hlive hon hdrop hbusy hdeal hpix => ?_,
    fun s t pin rising n held filt hr h hi hfilt hheld hn hlive hothers ha hlost hlt ht hpin hpol hsrc hedge hsw => ?_,
    fun s h seg e k per hi hsw ha hlost hper hdue => ?_,
    fun s h seg n hr g hi hg hf hl ha hsrc hon hkind hn hpos hclose harmed href hidle hlive hdrop hbusy hpix => ?_⟩
  case refine_1 =>
    have hissue := Mach.trigger_issued n.toNat hr none harmed href hidle hlive hon hdrop hbusy hpix g.isLt
    obtain ⟨hread, hout⟩ := (s.start.startLine g n.toNat hr).startCapture_spec g.isLt n.toNat none
    refine ⟨(s.start.startLine g n.toNat hr).startCapture g n.toNat none,
      effect_next (f := fun m => m.inSeg (g / 2) fun m => m.captureTrigger g n.toNat hr) ?_, ?_, ?_⟩
    · exact (Mach.inSeg_primary hi _).trans ((Mach.captureTrigger_onGrid hr hh hsrc hgrid hsw hlast hn).trans hissue)
    · simpa using congrArg (Option.map Prod.fst) hread
    · rw [hout]
      exact s.start.trigger_mem_startLine g n.toNat hr
  case refine_2 =>
    refine effect_next (f := fun m => m.inSeg (g / 2) fun m => m.captureTrigger g n.toNat hr) ?_
    refine (Mach.inSeg_primary hi _).trans ((Mach.captureTrigger_onGrid hr hh hsrc hgrid hsw hlast hn).trans ?_)
    rw [Mach.trigger_overrun n.toNat hr none harmed href hidle hlive hon hdrop hbusy hdeal]
    exact Mach.missTrigger_open g.isLt hdeal hpix
  case refine_3 =>
    subst hfilt
    refine effect_next (f := fun m => m.inSeg t fun m => m.trigPinEdge t pin rising n.toNat held hr) ?_
    refine (Mach.inSeg_primary hi _).trans ((Mach.trigPinEdge_live pin rising held hr (by omega) hlive).trans ?_)
    have hact := (Mach.edgeOf_extPhase (m := s.start.trigLevel t pin rising) (n := n.toNat) (hr := hr) ha hlost ht hpin hpol hheld hsrc
      (by rw [Mach.trigLevel_now]; exact hn)).trans (Mach.phaseEdge_first hedge hsw)
    refine (Mach.foldl_only List.nodup_range (List.mem_range.2 h.isLt) (fun j hj hne => ?_) fun j hj hne => ?_).trans hact
    · exact Mach.edgeOf_unarmed (hothers j (List.mem_range.1 hj) hne)
    · rw [hact]
      exact Mach.edgeOf_unarmed (hothers j (List.mem_range.1 hj) hne)
  case refine_4 =>
    subst hper
    refine effect_next (f := fun m => m.inSeg seg fun m => m.phaseSwitch h) ?_
    exact (Mach.inSeg_primary hi _).trans (Mach.phaseSwitch_due hsw ha hlost hdue)
  case refine_5 =>
    have hissue := Mach.trigger_issued (m := s.start.crossed g ((s.start.clu g).legacyTop + 1)) (n.toNat + 2) (hr.getD (g % 2) [])
      (some ((s.start.clu g).legacyTop + 1)) (by rw [Mach.armed_crossed, harmed]) href (by rw [Mach.idleMember_crossed, hidle]) hlive hon
      (by rw [Mach.clu_crossed Cluster.dropNext fun _ _ => rfl, hdrop]) (by rw [Mach.portBusy_crossed, hbusy]) hpix
    have hcross := Mach.positionCrossing_reached hr hf hl ha hsrc hkind hn hpos hclose
    obtain ⟨hread, hout⟩ := ((s.start.crossed g ((s.start.clu g).legacyTop + 1)).startLine g (n.toNat + 2) (hr.getD (g % 2) [])).startCapture_spec
      hg (n.toNat + 2) (some ((s.start.clu g).legacyTop + 1))
    refine ⟨_, effect_next (a := Mach.startCapture _ g _ _) (f := fun m => m.inSeg seg fun m => m.positionCrossing h n.toNat hr) ?_, hread, ?_⟩
    · exact (Mach.inSeg_primary hi _).trans (hcross.trans (hissue hg))
    · rw [hout]
      exact Mach.trigger_mem_startLine _ g _ _

end Sys2Proof.Machine

/-!
PROOFS. Readouts (R150, R156, R159–R161): a captured line that ends, completes, fails or is lost changes the one cluster and, where it
failed, the error's count and event.
-/

namespace Sys2Proof.Machine
namespace Mach

/-! ### Changes of one cluster -/

/-- Two changes of a cluster are one. -/
theorem modClu_modClu (m : Mach) (g : Nat) (f f' : Cluster → Cluster) : (m.modClu g f).modClu g f' = m.modClu g fun s => f' (f s) := by
  unfold modClu
  congr 1
  by_cases h : g < 16
  · simp [vmod, h]
  · simp [vmod, h]

/-- What a change of a cluster keeps of it, every cluster keeps. -/
theorem clu_modClu_congr {β : Type} (v : Cluster → β) (m : Mach) (g j : Nat) {f : Cluster → Cluster} (hf : ∀ s, v (f s) = v s) :
    v ((m.modClu g f).clu j) = v (m.clu j) := by
  by_cases hj : j = g
  · subst hj
    by_cases h16 : j < 16
    · rw [clu_modClu_same _ _ h16, hf]
    · rw [show (m.modClu j f).clu j = m.clu j by simp [clu, modClu, vmod, h16]]
  · rw [clu_modClu_ne _ _ hj]

/-! ### The end of a readout -/

/-- The instant at which the last capture of a deal was over, with the one in readout over at `n`. -/
def capEndAt (n : Nat) (s : Cluster) : Nat :=
  match s.reading with
  | some c => if c.counted then n else s.capEnd
  | none => s.capEnd

/-- A cluster with its readout over at `n`. -/
def readEnded (n : Nat) (s : Cluster) : Cluster := { s with capEnd := capEndAt n s, reading := none, started := 0, failed := false }

/-- A cluster whose capture `c` in readout has failed at `n`: its trigger is a missing capture, and the port stays busy. -/
def lineFailed (n : Nat) (c : Capture) (s : Cluster) : Cluster :=
  { s with capEnd := capEndAt n s, pendMissing := c.missing ++ [c.n] ++ s.pendMissing, failed := true,
           reading := some { c with counted := false, missing := [] } }

theorem endReading_eq (m : Mach) (g : Nat) : m.endReading g = m.modClu g (readEnded (m.now (g / 2))) :=
  m.modClu_modClu g _ _

/-- FRAME_ERR counted and raised (R161). -/
def frameErr (m : Mach) (g : Nat) : Mach := (m.inc (P.sport g) F.SPORT_FRAME_ERR_COUNT).raise (P.sport g) 0

/-- What the error of a line and a change of its cluster leave as it was. -/
theorem frameErr_modClu (m : Mach) (g : Nat) (f : Cluster → Cluster) : ((m.frameErr g).modClu g f).regs = (m.frameErr g).regs ∧
    ((m.frameErr g).modClu g f).arr = m.arr ∧ ((m.frameErr g).modClu g f).dram = m.dram ∧ ((m.frameErr g).modClu g f).tiles = m.tiles := by
  simp only [frameErr, modClu_regs, modClu_arr, modClu_dram, modClu_tiles, raise_arr, raise_dram, raise_tiles, inc_arr, inc_dram, inc_tiles,
    and_self]

theorem clu_frameErr_modClu (m : Mach) {g : Nat} (hg : g < 16) (f : Cluster → Cluster) :
    ((m.frameErr g).modClu g f).clu g = f (m.clu g) := by
  rw [clu_modClu_same _ _ hg, frameErr, raise_clu, inc_clu]

theorem failLine_open {m : Mach} {g : Nat} {c : Capture} (hr : (m.clu g).reading = some c) (hc : c.counted = true)
    (hf : (m.clu g).failed = false) : m.failLine g = (m.frameErr g).modClu g (lineFailed (m.now (g / 2)) c) := by
  unfold failLine
  rw [hr]
  dsimp only
  rw [hf, if_neg Bool.false_ne_true, loseCapture, if_pos hc, captureOver]
  rw [modClu_modClu, modClu_modClu]
  rfl

theorem failLine_failed {m : Mach} {g : Nat} (hf : (m.clu g).failed = true) : m.failLine g = m := by
  unfold failLine
  split
  · rfl
  · rw [if_pos hf]

theorem failLine_idle {m : Mach} {g : Nat} (hr : (m.clu g).reading = none) : m.failLine g = m := by
  unfold failLine
  rw [hr]

/-! ### A line that completes at stage 1 -/

/-- The end of a line for the converters: held levels, and factors that served it, are for the next. -/
def lineOver (m : Mach) (g : Nat) (data : LineData) : Mach :=
  (List.range 6).foldl (fun m v => m.modConv g v fun c => { c with hist := [] }) (m.captureClamp g data)

theorem lineOver_eq (m : Mach) (g : Nat) (data : LineData) : ∃ f : Cluster → Cluster, m.lineOver g data = m.modClu g f ∧
    ∀ s, (f s).reading = s.reading ∧ (f s).slot = s.slot ∧ (f s).capEnd = s.capEnd ∧ (f s).pendMissing = s.pendMissing ∧
      (f s).released = s.released := by
  have hfold : ∀ (k : Cluster → Cluster), (List.range 6).foldl (fun m v => m.modConv g v fun c => { c with hist := [] }) (m.modClu g k) =
      m.modClu g fun s => (List.range 6).foldl (fun s v => { s with convs := vmod s.convs v fun c => { c with hist := [] } }) (k s) := by
    have hall : ∀ (l : List Nat) (k : Cluster → Cluster), l.foldl (fun m v => m.modConv g v fun c => { c with hist := [] }) (m.modClu g k) =
        m.modClu g fun s => l.foldl (fun s v => { s with convs := vmod s.convs v fun c => { c with hist := [] } }) (k s) := by
      intro l
      induction l with
      | nil => exact fun k => rfl
      | cons v l ih => exact fun k => (congrArg (List.foldl _ · l) (m.modClu_modClu g k _)).trans (ih _)
    exact hall _
  have hid : m.modClu g id = m := by
    unfold modClu
    have hv : vmod m.clus g id = m.clus := by simp [vmod]
    rw [hv]
  unfold lineOver captureClamp
  split
  · exact ⟨_, (congrArg (List.foldl _ · _) hid.symm).trans (hfold id), fun s => ⟨rfl, rfl, rfl, rfl, rfl⟩⟩
  · exact ⟨_, hfold _, fun s => ⟨rfl, rfl, rfl, rfl, rfl⟩⟩

section
variable {m : Mach} {g : Nat} {f : Cluster → Cluster}

theorem afeResult_modClu (hf : ∀ s, (f s).clampRef = s.clampRef) (n p i : Nat) (x : InputData) :
    (m.modClu g f).afeResult g n p i x = m.afeResult g n p i x := by
  have hclamp := clu_modClu_congr Cluster.clampRef m g g hf
  unfold afeResult
  rw [hclamp]
  rfl

theorem laneLines_modClu (hf : ∀ s, (f s).laneSkew = s.laneSkew) (lanes : List (List Nat)) (i : Nat) :
    (m.modClu g f).laneLines g lanes i = m.laneLines g lanes i := by
  have hentries : ∀ i raw, (m.modClu g f).laneEntries g i raw = m.laneEntries g i raw := fun i raw => by
    unfold laneEntries
    rw [clu_modClu_congr Cluster.laneSkew m g g hf]
    rfl
  unfold laneLines
  simp only [hentries]
  rfl

theorem lineValues_modClu (hclamp : ∀ s, (f s).clampRef = s.clampRef) (hskew : ∀ s, (f s).laneSkew = s.laneSkew) (data : LineData) :
    (m.modClu g f).lineValues g data = m.lineValues g data := by
  unfold lineValues
  simp only [afeResult_modClu hclamp, laneLines_modClu hskew]
  rfl

theorem stage1_modClu (hf : ∀ s, (f s).convs = s.convs) (vals : List (List (List Nat))) (p x : Nat) :
    (m.modClu g f).stage1 g vals p x = m.stage1 g vals p x := by
  have hconvs := clu_modClu_congr Cluster.convs m g g hf
  have hsource : ∀ src i, (m.modClu g f).sourceValue g vals p src i = m.sourceValue g vals p src i := fun src i => by
    unfold sourceValue usedFactor conv
    rw [hconvs]
    rfl
  unfold stage1
  simp only [hsource]
  rfl

end

/-- The planes of a captured line without the optical-black clamp: stage 1 of its values (R201). -/
theorem stages12_unclamped {m : Mach} {g : Nat} (data : LineData) (h : m.actFlag (P.sport g) F.SPORT_OBC_EN = false) :
    m.stages12 g data = (m, (List.range (m.phases g)).map fun p => (List.range (m.width g)).map fun x => m.stage1 g (m.lineValues g data) p x) := by
  simp [stages12, h]

/-! ### The line of a capture -/

section
variable {m : Mach} {g : Nat} {data : LineData} {c : Capture}

/-- A cluster whose line of capture `c` has ended at `n` without failing. -/
def lineRead (n : Nat) (c : Capture) (s : Cluster) : Cluster := { readEnded n s with lastOfs := c.cents.map fun x => x - 16 * c.n }

/-- The part when the line of capture `c` has ended without failing. -/
def lineEnded (m : Mach) (g : Nat) (c : Capture) : Mach := m.modClu g (lineRead (m.now (g / 2)) c)

theorem lineEnded_eq (m : Mach) (g : Nat) (c : Capture) :
    (m.endReading g).modClu g (fun s => { s with lastOfs := c.cents.map fun x => x - 16 * c.n }) = m.lineEnded g c := by
  rw [endReading_eq, modClu_modClu]
  rfl

/-- A line in readout that has ended well, with its converters on, is over for the port. -/
theorem lineComplete_ended (hr : (m.clu g).reading = some c) (hover : m.kind g = 3 →
      m.windowOver g ((m.dataLanes g).map (m.laneLines g data.lanes)) = true ∧ (m.clu g).failed = false ∧
        m.lanesGood g ((m.dataLanes g).map (m.laneLines g data.lanes)) = true)
    (hon : m.enabled (P.vc g) = true) (hdom : m.domOn (g / 2) (D.vc (g % 2)) = true) : m.lineComplete g data =
      if !c.counted then (m.lineEnded g c).lineOver g data
      else
        let a := ((m.lineEnded g c).stages12 g data).1.lineOver g data
        if (a.clu g).slot.isSome || (!(a.clu g).released.isEmpty && (a.clu g).inMeld.isSome) then
          ((a.inc (P.deal g) F.DEAL_OVERRUN_COUNT).raise (P.deal g) 0).loseCapture g c
        else a.modClu g fun s => { s with slot := some { cap := c, planes := ((m.lineEnded g c).stages12 g data).2 } } := by
  have hworks : ((m.endReading g).enabled (P.vc g) && (m.endReading g).domOn (g / 2) (D.vc (g % 2))) = true :=
    show (m.enabled (P.vc g) && m.domOn (g / 2) (D.vc (g % 2))) = true by rw [hon, hdom]; rfl
  have hgoes : (decide (m.kind g = 3) && !m.windowOver g ((m.dataLanes g).map (m.laneLines g data.lanes))) = false := by
    by_cases hk : m.kind g = 3
    · simp [(hover hk).1]
    · simp [hk]
  have hgood : (decide (m.kind g = 3) && ((m.clu g).failed || !m.lanesGood g ((m.dataLanes g).map (m.laneLines g data.lanes)))) = false := by
    by_cases hk : m.kind g = 3
    · obtain ⟨-, hfail, hlanes⟩ := hover hk
      simp [hfail, hlanes]
    · simp [hk]
  unfold lineComplete
  rw [hr]
  dsimp only
  rw [hgoes, if_neg Bool.false_ne_true, hgood, if_neg Bool.false_ne_true, hworks, if_neg (show ¬ (!true) = true by decide), lineEnded_eq]
  rfl

/-- The planes of the line, without the optical-black clamp. -/
def linePlanes (m : Mach) (g : Nat) (data : LineData) : List (List Nat) :=
  (List.range (m.phases g)).map fun p => (List.range (m.width g)).map fun x => m.stage1 g (m.lineValues g data) p x

theorem stages12_lineEnded (hobc : m.actFlag (P.sport g) F.SPORT_OBC_EN = false) :
    (m.lineEnded g c).stages12 g data = (m.lineEnded g c, m.linePlanes g data) := by
  rw [stages12_unclamped (m := m.lineEnded g c) data hobc]
  unfold lineEnded
  rw [lineValues_modClu (f := lineRead (m.now (g / 2)) c) (fun _ => rfl) (fun _ => rfl)]
  simp only [stage1_modClu (f := lineRead (m.now (g / 2)) c) fun _ => rfl]
  rfl

theorem lineEnded_lineOver (m : Mach) (g : Nat) (c : Capture) (data : LineData) : ∃ f : Cluster → Cluster,
    (m.lineEnded g c).lineOver g data = m.modClu g f ∧ ∀ s, (f s).reading = none ∧ (f s).slot = s.slot ∧
      (f s).capEnd = capEndAt (m.now (g / 2)) s ∧ (f s).pendMissing = s.pendMissing ∧ (f s).released = s.released := by
  obtain ⟨f, hf, hkeep⟩ := (m.lineEnded g c).lineOver_eq g data
  refine ⟨_, hf.trans (m.modClu_modClu g _ f), fun s => ?_⟩
  obtain ⟨h1, h2, h3, h4, h5⟩ := hkeep (lineRead (m.now (g / 2)) c s)
  exact ⟨h1, h2, h3, h4, h5⟩

theorem capEndAt_counted {s : Cluster} {n : Nat} (hr : s.reading = some c) (hc : c.counted = true) : capEndAt n s = n := by
  simp [capEndAt, hr, hc]

/-- Stage 3 takes the line of a capture of the deal where it holds none (R150). -/
theorem lineComplete_taken (hg : g < 16) (hr : (m.clu g).reading = some c) (hover : m.kind g = 3 →
      m.windowOver g ((m.dataLanes g).map (m.laneLines g data.lanes)) = true ∧ (m.clu g).failed = false ∧
        m.lanesGood g ((m.dataLanes g).map (m.laneLines g data.lanes)) = true)
    (hon : m.enabled (P.vc g) = true) (hdom : m.domOn (g / 2) (D.vc (g % 2)) = true) (hc : c.counted = true)
    (hobc : m.actFlag (P.sport g) F.SPORT_OBC_EN = false) (hslot : (m.clu g).slot = none) (hrel : (m.clu g).released = []) :
    ∃ f : Cluster → Cluster, m.lineComplete g data = m.modClu g f ∧ (f (m.clu g)).reading = none ∧
      (f (m.clu g)).slot = some { cap := c, planes := m.linePlanes g data } ∧ (f (m.clu g)).capEnd = m.now (g / 2) := by
  obtain ⟨f, hf, hkeep⟩ := m.lineEnded_lineOver g c data
  obtain ⟨h1, h2, h3, -, h5⟩ := hkeep (m.clu g)
  have hfree : (((m.modClu g f).clu g).slot.isSome || (!((m.modClu g f).clu g).released.isEmpty && ((m.modClu g f).clu g).inMeld.isSome)) =
      false := by
    rw [clu_modClu_same _ _ hg, h2, h5, hslot, hrel]
    rfl
  refine ⟨fun s => { f s with slot := some { cap := c, planes := m.linePlanes g data } }, ?_, h1, rfl, h3.trans (capEndAt_counted hr hc)⟩
  rw [lineComplete_ended hr hover hon hdom, hc, if_neg (show ¬ (!true) = true by decide), stages12_lineEnded hobc]
  dsimp only
  rw [hf, hfree, if_neg Bool.false_ne_true, modClu_modClu]

/-- A digital line that ends badly is a missing capture, its port idle again (R161). -/
theorem failLine_endReading (hr : (m.clu g).reading = some c) (hc : c.counted = true) (hf : (m.clu g).failed = false) :
    (m.failLine g).endReading g = (m.frameErr g).modClu g fun s => readEnded (m.now (g / 2)) (lineFailed (m.now (g / 2)) c s) := by
  rw [failLine_open hr hc hf, endReading_eq, modClu_modClu]
  rfl

/-! ### The lock of DLCK (R156, R157) -/

/-- DLCK has left its lock range. -/
def unlocked (m : Mach) (g : Nat) : Mach := m.modClu g fun s => { s with dlckIn := false }

theorem clu_unlocked {β : Type} (v : Cluster → β) (m : Mach) (g : Nat) (hv : ∀ s : Cluster, v { s with dlckIn := false } = v s) :
    v ((m.unlocked g).clu g) = v (m.clu g) := clu_modClu_congr v m g g hv

theorem lockLost_unheeded (h : (m.clu g).dlckIn = false ∨ m.kind g ≠ 3 ∨ m.live (g / 2) (D.sport (g % 2)) = false) :
    m.lockLost g = m.unlocked g := by
  unfold lockLost
  refine if_pos (show (!(m.clu g).dlckIn || decide (m.kind g ≠ 3) || !m.live (g / 2) (D.sport (g % 2))) = true from ?_)
  rcases h with h | h | h <;> simp [h]

theorem lockLost_heeded (hd : (m.clu g).dlckIn = true) (hk : m.kind g = 3) (hlive : m.live (g / 2) (D.sport (g % 2)) = true) :
    m.lockLost g = (((m.unlocked g).wr (P.sport g) F.SPORT_DESKEW_STAT_DESKEWED 0).raise (P.sport g) 1).failLine g := by
  unfold lockLost
  refine if_neg (show ¬ (!(m.clu g).dlckIn || decide (m.kind g ≠ 3) || !m.live (g / 2) (D.sport (g % 2))) = true from ?_)
  simp [hd, hk, hlive]

/-- An event stays raised when another one is. -/
theorem raise_keeps_testBit (m : Mach) (pk : Nat) {b b' : Nat} (h : (m.word pk 0x010).toNat.testBit b = true) :
    ((m.raise pk b').word pk 0x010).toNat.testBit b = true := by
  rw [raise, word_setWord_same, BitVec.toNat_or, Nat.testBit_or, h, Bool.true_or]

/-- The lost lane lock on the port's page with FRAME_ERR after it. -/
theorem lockLost_frameErr (m : Mach) (pk : Nat) :
    let a := (((m.wr pk F.SPORT_DESKEW_STAT_DESKEWED 0).raise pk 1).inc pk F.SPORT_FRAME_ERR_COUNT).raise pk 0
    a.flag pk F.SPORT_DESKEW_STAT_DESKEWED = false ∧ (a.word pk 0x010).toNat.testBit 0 = true ∧
      (a.word pk 0x010).toNat.testBit 1 = true ∧ a.arr = m.arr ∧ a.dram = m.dram ∧ a.tiles = m.tiles := by
  refine ⟨?_, raise_testBit _ _ (by decide), raise_keeps_testBit _ _ ?_, ?_, ?_, ?_⟩
  · rw [flag_raise_off _ (by decide) (.inr (by decide)), inc, incBy, flag_wr_off _ _ (by decide) (by decide) (.inr (by decide)),
      flag_raise_off _ (by decide) (.inr (by decide))]
    exact flag_wr_same m pk false rfl (by decide)
  · rw [inc, incBy, word_wr_off _ _ (by decide) (by decide) (.inr (by decide))]
    exact raise_testBit _ _ (by decide)
  all_goals simp only [raise_arr, raise_dram, raise_tiles, inc_arr, inc_dram, inc_tiles, wr_arr, wr_dram, wr_tiles]

end
end Mach

/-- Settles O36. -/
theorem readoutEvents : Obligations.ReadoutEvents := by
  refine ⟨fun s g data c hr hover hon hdom hc hobc hslot hrel => ?_, fun s g data c hr hkind hon hdom hc => ?_,
    fun s g data hr hkind hover => ?_, fun s g data c hr hkind hover hfail hgood hc => ?_, fun s g data hr => ?_,
    fun s g n words hlive hkind hn hstart hopen hearly => ?_, fun s g n words c hlive hkind hn hstart hopen hearly hr hc hfail => ?_,
    fun s g n words hlive hkind hn hstart hopen => ?_, fun s g n words hn hstart => ?_, fun s g c hkind hr hc hfail hn => ?_,
    fun s g c hkind hr hfail hn => ?_, fun s g => rfl, fun s g hd hkind hlive hr => ?_, fun s g c hd hkind hlive hr hc hfail => ?_,
    fun s g h => ?_⟩
  case refine_1 =>
    obtain ⟨f, hf, hread, hslot', hend⟩ := Mach.lineComplete_taken (data := data) g.isLt hr hover hon hdom hc hobc hslot hrel
    refine ⟨_, effect_next (f := fun m => m.lineComplete g data) hf, ?_⟩
    rw [Mach.clu_modClu_same _ _ g.isLt]
    exact ⟨hread, hslot', hend, rfl, rfl, rfl, rfl⟩
  case refine_2 =>
    obtain ⟨f, hf, hkeep⟩ := s.start.lineEnded_lineOver g c data
    obtain ⟨h1, h2, -, h4, -⟩ := hkeep (s.start.clu g)
    have heq := Mach.lineComplete_ended (data := data) hr (fun h => absurd h hkind) hon hdom
    rw [hc, if_pos (show (!false) = true from rfl), hf] at heq
    refine ⟨_, effect_next (f := fun m => m.lineComplete g data) heq, ?_⟩
    rw [Mach.clu_modClu_same _ _ g.isLt]
    exact ⟨h1, h2, h4, rfl, rfl, rfl, rfl⟩
  case refine_3 =>
    obtain ⟨c, hc⟩ := Option.isSome_iff_exists.1 hr
    refine effect_next (f := fun m => m.lineComplete g data) ?_
    simp [Mach.lineComplete, hc, hkind, hover]
  case refine_4 =>
    have hbad : s.start.lineComplete g data = (s.start.failLine g).endReading g := by
      simp [Mach.lineComplete, hr, hkind, hover, hfail, hgood]
    refine ⟨_, effect_next (f := fun m => m.lineComplete g data) (hbad.trans (Mach.failLine_endReading hr hc hfail)), ?_⟩
    rw [Mach.clu_frameErr_modClu _ g.isLt]
    exact ⟨rfl, rfl, rfl, Mach.frameErr_modClu _ _ _⟩
  case refine_5 =>
    refine effect_next (f := fun m => m.lineComplete g data) ?_
    simp [Mach.lineComplete, hr]
  case refine_6 =>
    refine effect_next (f := fun m => m.digitalLineStart g n.toNat words) ?_
    simp [Mach.digitalLineStart, Mach.advance_past hn, hlive, hkind, hstart, hopen, hearly]
  case refine_7 =>
    have heq : s.start.digitalLineStart g n.toNat words = (s.start.modClu g fun c =>
        { c with started := min (s.start.framingLines g words).starts.length (s.start.phases g) }).failLine g := by
      simp [Mach.digitalLineStart, Mach.advance_past hn, hlive, hkind, hstart, hopen, hearly]
    have hclu := Mach.clu_modClu_same s.start (fun c => { c with started := min (s.start.framingLines g words).starts.length (s.start.phases g) }) g.isLt
    have hline := Mach.failLine_open (c := c) (by rw [hclu]; exact hr) hc (by rw [hclu]; exact hfail)
    refine ⟨_, effect_next (f := fun m => m.digitalLineStart g n.toNat words) (heq.trans hline), ?_⟩
    rw [Mach.clu_frameErr_modClu _ g.isLt, hclu]
    obtain ⟨hregs, harr, hdram, htiles⟩ := Mach.frameErr_modClu (s.start.modClu g fun c =>
      { c with started := min (s.start.framingLines g words).starts.length (s.start.phases g) }) g (Mach.lineFailed (s.start.now (g / 2)) c)
    exact ⟨rfl, rfl, rfl, hregs, harr, hdram, htiles⟩
  case refine_8 =>
    refine effect_next (f := fun m => m.digitalLineStart g n.toNat words) ?_
    simp [Mach.digitalLineStart, Mach.advance_past hn, hlive, hkind, hstart, hopen]
  case refine_9 =>
    refine effect_next (f := fun m => m.digitalLineStart g n.toNat words) ?_
    simp [Mach.digitalLineStart, Mach.advance_past hn, hstart]
  case refine_10 =>
    have heq : s.start.readoutTimeout g = (s.start.failLine g).endReading g := by
      simp [Mach.readoutTimeout, hr, hkind, Mach.advance_past hn]
    refine ⟨_, effect_next (f := fun m => m.readoutTimeout g) (heq.trans (Mach.failLine_endReading hr hc hfail)), ?_⟩
    rw [Mach.clu_frameErr_modClu _ g.isLt]
    exact ⟨rfl, rfl, rfl, Mach.frameErr_modClu _ _ _⟩
  case refine_11 =>
    have heq : s.start.readoutTimeout g = s.start.endReading g := by
      simp [Mach.readoutTimeout, hr, hkind, Mach.advance_past hn, Mach.failLine_failed hfail]
    refine ⟨_, effect_next (f := fun m => m.readoutTimeout g) (heq.trans (Mach.endReading_eq _ g)), ?_⟩
    rw [Mach.clu_modClu_same _ _ g.isLt]
    exact ⟨rfl, rfl, rfl, rfl, rfl, rfl, rfl⟩
  case refine_12 =>
    have hidle : ((s.start.unlocked g).clu g).reading = none :=
      (Mach.clu_unlocked Cluster.reading _ _ fun _ => rfl).trans hr
    exact effect_next (f := fun m => m.lockLost g) ((Mach.lockLost_heeded hd hkind hlive).trans (Mach.failLine_idle hidle))
  case refine_13 =>
    have hread : ((s.start.unlocked g).clu g).reading = some c :=
      (Mach.clu_unlocked Cluster.reading _ _ fun _ => rfl).trans hr
    have hsound : ((s.start.unlocked g).clu g).failed = false :=
      (Mach.clu_unlocked Cluster.failed _ _ fun _ => rfl).trans hfail
    have heq := (Mach.lockLost_heeded hd hkind hlive).trans (Mach.failLine_open hread hc hsound)
    refine ⟨_, effect_next (f := fun m => m.lockLost g) heq, ?_⟩
    obtain ⟨hflag, hbit0, hbit1, harr, hdram, htiles⟩ := (s.start.unlocked g).lockLost_frameErr (P.sport g)
    rw [Mach.clu_frameErr_modClu _ g.isLt]
    refine ⟨?_, rfl, ?_, ?_, ?_, ?_, ?_, ?_, ?_⟩
    · exact congrArg Cluster.dlckIn (Mach.clu_modClu_same s.start _ g.isLt)
    · exact congrArg (c.missing ++ [c.n] ++ ·) (Mach.clu_unlocked Cluster.pendMissing _ _ fun _ => rfl)
    · exact (Mach.modClu_flag _ _ _ _ _).trans hflag
    · exact (congrArg (fun w : Word => w.toNat.testBit 0) (Mach.modClu_word _ _ _ _ _)).trans hbit0
    · exact (congrArg (fun w : Word => w.toNat.testBit 1) (Mach.modClu_word _ _ _ _ _)).trans hbit1
    · exact (Mach.modClu_arr _ _ _).trans harr
    · exact (Mach.modClu_dram _ _ _).trans hdram
    · exact (Mach.modClu_tiles _ _ _).trans htiles
  case refine_14 => exact effect_next (f := fun m => m.lockLost g) (Mach.lockLost_unheeded h)

end Sys2Proof.Machine

/-!
PROOFS. Deskew and the sensor SPI controllers (R157, R178–R181), with the writes of a tile page that leave its tile as awake as it was.
-/

namespace Sys2Proof.Machine

/-- A write to a tile register with a behaviour of its own gives what that gives, where the tile stays as awake as it was. -/
theorem effect_tileWrite {s : State} {p : Port} {t pg off : Nat} {v : Word} {a : Mach} (h : s.start.writable p t pg off = true)
    (ht : t < 14) (hp : pg < 256) (hlo : 0x040 ≤ off) (hhi : off < 0x800) (h4 : off % 4 = 0)
    (hr : (rowOf (pageKey 0 pg) off).isSome = true) (hwin : ¬ (0x200 ≤ off ∧ off < 0x21C ∧ hasWindow t pg = true))
    (hb : s.start.blockWrite (pageKey t pg) off v = some a) (hd : (a.tile t).dormant = (s.start.tile t).dormant) :
    s.effect (fun m => m.portWrite p (regAddr t pg off) v) = .next (s.settled a) :=
  effect_blockWrite h ht hp hlo hhi h4 hr hwin hb
    ((Mach.asleep_congr pg hd).trans (Mach.asleep_of_takes (Mach.takes_of_writable h)))

/-- A field that a register's RW and RWS bits cover, and its W1C bits do not, takes the written value (R94). -/
theorem bits_written {w v k c : Word} {hi lo : Nat} (hk : bits k.toNat hi lo = 2 ^ (hi + 1 - lo) - 1) (hc : bits c.toNat hi lo = 0) :
    bits (((w &&& ~~~k) ||| (v &&& k)) &&& ~~~(v &&& c)).toNat hi lo = bits v.toNat hi lo := by
  apply Nat.eq_of_testBit_eq
  intro i
  have hkbit := congrArg (Nat.testBit · i) hk
  have hcbit := congrArg (Nat.testBit · i) hc
  simp only [testBit_bits, Nat.testBit_two_pow_sub_one, Nat.zero_testBit] at hkbit hcbit ⊢
  by_cases hlt : i < hi + 1 - lo
  · have hone : k.getLsbD (lo + i) = true := by simpa [hlt, BitVec.testBit_toNat] using hkbit
    have hzero : c.getLsbD (lo + i) = false := by simpa [hlt, BitVec.testBit_toNat] using hcbit
    simp only [BitVec.testBit_toNat, BitVec.getLsbD_or, BitVec.getLsbD_and, BitVec.getLsbD_not, hone, hzero]
    by_cases hwide : lo + i < 32
    · simp [hwide]
    · simp [BitVec.getLsbD_of_ge v (lo + i) (by omega)]
  · simp [hlt]

namespace Mach

/-! ### Deskew (R157) -/

/-- What the finding of a lane writes: words of LANE_TAP and the counter of free values. -/
structure LanesTapped (g : Nat) (m m' : Mach) : Prop where
  rest : { m' with regs := m.regs, free := m.free } = m
  word : ∀ pk off, off < 4096 → ¬ (pk = P.sport g ∧ 0x0A0 ≤ off ∧ off < 0x0C0) → m'.word pk off = m.word pk off

section
variable {m m' : Mach} {g : Nat}

namespace LanesTapped

theorem refl (g : Nat) (m : Mach) : LanesTapped g m m := ⟨rfl, fun _ _ _ _ => rfl⟩

theorem keeps (h : LanesTapped g m m') : m'.clus = m.clus ∧ m'.arr = m.arr ∧ m'.dram = m.dram ∧ m'.tiles = m.tiles := by
  have hrest := h.rest
  exact ⟨by rw [← hrest], by rw [← hrest], by rw [← hrest], by rw [← hrest]⟩

theorem trans {a b c : Mach} (h : LanesTapped g a b) (k : LanesTapped g b c) : LanesTapped g a c where
  rest := by
    have hab := h.rest
    have hbc := k.rest
    rw [← hab, ← hbc]
  word pk off ho hne := (k.word pk off ho hne).trans (h.word pk off ho hne)

theorem rd (h : LanesTapped g m m') {pk : Nat} {f : Field} (ho : f.off < 4096) (hf : f.off < 0x0A0) : m'.rd pk f = m.rd pk f := by
  rw [Mach.rd, Mach.rd, h.word pk f.off ho (by omega)]

theorem flag (h : LanesTapped g m m') {pk : Nat} {f : Field} (ho : f.off < 4096) (hf : f.off < 0x0A0) : m'.flag pk f = m.flag pk f := by
  rw [Mach.flag, Mach.flag, h.rd ho hf]

theorem slipOf (h : LanesTapped g m m') (w : Option Nat) : m'.slipOf g w = m.slipOf g w := by
  have htrain := h.rd (pk := P.sport g) (f := F.SPORT_DESKEW_TRAIN) (by decide) (by decide)
  have hword := h.rd (pk := P.sport g) (f := F.SPORT_DIG_CFG_WORD) (by decide) (by decide)
  have hlsb := h.flag (pk := P.sport g) (f := F.SPORT_DIG_CFG_LSB_FIRST) (by decide) (by decide)
  have hbits : m'.wordBits g = m.wordBits g := by rw [wordBits, wordBits, hword]
  have hlane : ∀ w, m'.laneWord g w = m.laneWord g w := fun w => by simp only [laneWord, hbits, hlsb]
  cases w with
  | none => rfl
  | some w => simp only [Mach.slipOf, hbits, hlane, htrain]

theorem wr (m : Mach) {i : Nat} (hi : i < 8) {f : Field} (ho : f.off = 0x0A0) (hs : f.stride = 4) (v : Nat) :
    LanesTapped g m (m.wr (P.sport g) (f.nth i) v) where
  rest := rfl
  word pk off hoff hne := by
    have hnth : (f.nth i).off = 0x0A0 + i * 4 := by rw [Field.nth_off, ho, hs]
    exact word_wr_off m v (by omega) hoff (by omega)

end LanesTapped

/-- All windows of greatest width have the width of the first. -/
theorem widest_width (taps k : Nat) (x : Nat) : ((widest taps).getD (k % max 1 (widest taps).length) (x, 0)).2 =
    ((widest taps).map Prod.snd).headD 0 := by
  obtain ⟨w, hw⟩ : ∃ w, ∀ r ∈ widest taps, r.2 = w := ⟨((runsOf taps).map Prod.snd).foldl max 0, fun r hr => of_decide_eq_true (List.mem_filter.1 hr).2⟩
  cases hl : widest taps with
  | nil => rfl
  | cons r rs =>
    have hk : k % max 1 (r :: rs).length < (r :: rs).length := by
      rw [max_eq_right (show 1 ≤ (r :: rs).length from Nat.succ_le_succ (Nat.zero_le rs.length))]
      exact Nat.mod_lt _ (Nat.succ_pos _)
    rw [hl] at hw
    rw [List.getD_eq_getElem _ _ hk, hw _ (List.getElem_mem hk)]
    exact (hw r List.mem_cons_self).symm

/-- A lane is found when TRAIN arrived at four taps in a row and some slip brings it to a word boundary. -/
theorem deskewLane_spec {i : Nat} (hi : i < 8) (taps : Nat) (word : Option Nat) : LanesTapped g m (m.deskewLane g i taps word).1 ∧
    (m.deskewLane g i taps word).2 = (decide (4 ≤ ((widest taps).map Prod.snd).headD 0) && (m.slipOf g word).isSome) := by
  have hdraw : LanesTapped g m m.freeNat.2.freeBool.2.freeNat.2 := ⟨rfl, fun _ _ _ _ => rfl⟩
  have hslip := hdraw.slipOf word
  unfold deskewLane
  dsimp only
  refine ⟨((hdraw.trans (.wr _ hi rfl rfl _)).trans (.wr _ hi rfl rfl _)).trans (.wr _ hi rfl rfl _), ?_⟩
  rw [widest_width]

/-- Lane `i` is enabled and found, from the findings of the lanes. -/
def laneFound (m : Mach) (g : Nat) (lanes : List LaneFind) (i : Nat) : Bool :=
  bit (m.rd (P.sport g) F.SPORT_CFG_LANE_EN) i &&
    (decide (4 ≤ ((widest (lanes.getD i default).taps.toNat).map Prod.snd).headD 0) && (m.slipOf g (lanes.getD i default).word).isSome)

/-- The step of a deskew at lane `i`: the lane's words, and its bit among those found. -/
def deskewStep (g en : Nat) (lanes : List LaneFind) (a : Mach × Nat) (i : Nat) : Mach × Nat :=
  if bit en i then
    let d := a.1.deskewLane g i (lanes.getD i default).taps.toNat (lanes.getD i default).word
    (d.1, a.2 + d.2.toNat * 2 ^ i)
  else a

theorem bit_add_two_pow {n k : Nat} (hn : n < 2 ^ k) (b : Bool) : n + b.toNat * 2 ^ k < 2 ^ (k + 1) ∧
    ∀ i, bit (n + b.toNat * 2 ^ k) i = (bit n i || (decide (i = k) && b)) := by
  cases b with
  | false =>
    refine ⟨?_, fun i => ?_⟩
    · simp only [Bool.toNat_false, Nat.zero_mul, Nat.add_zero, Nat.pow_succ]; omega
    · simp
  | true =>
    have hor : n + true.toNat * 2 ^ k = n ||| 2 ^ k := by
      have hdisj := Nat.two_pow_add_eq_or_of_lt hn 1
      rw [Nat.mul_one] at hdisj
      rw [Bool.toNat_true, Nat.one_mul, Nat.add_comm, hdisj, Nat.or_comm]
    refine ⟨?_, fun i => ?_⟩
    · simp only [Bool.toNat_true, Nat.one_mul, Nat.pow_succ]; omega
    · rw [hor, bit, Nat.testBit_or, Nat.testBit_two_pow, Bool.and_true]
      simp only [bit, eq_comm]

/-- The lanes up to lane `n`: their words are written, and the bits of those found gathered. -/
theorem deskewLanes (lanes : List LaneFind) {n : Nat} (hn : n ≤ 8) :
    let r := (List.range n).foldl (deskewStep g (m.rd (P.sport g) F.SPORT_CFG_LANE_EN) lanes) (m, 0)
    LanesTapped g m r.1 ∧ r.2 < 2 ^ n ∧ ∀ i, bit r.2 i = (decide (i < n) && m.laneFound g lanes i) := by
  induction n with
  | zero => exact ⟨.refl g m, Nat.one_pos, fun i => by simp [bit]⟩
  | succ n ih =>
    obtain ⟨hkept, hlt, hbits⟩ := ih (by omega)
    simp only [List.range_succ, List.foldl_append, List.foldl_cons, List.foldl_nil]
    generalize (List.range n).foldl (deskewStep g (m.rd (P.sport g) F.SPORT_CFG_LANE_EN) lanes) (m, 0) = r at hkept hlt hbits
    have hstep : ∃ a, deskewStep g (m.rd (P.sport g) F.SPORT_CFG_LANE_EN) lanes r n = (a, r.2 + (m.laneFound g lanes n).toNat * 2 ^ n) ∧
        LanesTapped g m a := by
      unfold deskewStep laneFound
      split
      next hen =>
        obtain ⟨htap, hfound⟩ := deskewLane_spec (m := r.1) (g := g) (by omega : n < 8) (lanes.getD n default).taps.toNat (lanes.getD n default).word
        exact ⟨_, by dsimp only; rw [hfound, hkept.slipOf, hen, Bool.true_and], hkept.trans htap⟩
      next hen => exact ⟨r.1, by simp [hen], hkept⟩
    obtain ⟨a, hstep, hkept'⟩ := hstep
    obtain ⟨hlt', hbits'⟩ := bit_add_two_pow hlt (m.laneFound g lanes n)
    rw [hstep]
    refine ⟨hkept', hlt', fun i => ?_⟩
    rw [hbits', hbits]
    by_cases hi : i = n
    · simp [hi]
    · simp [hi, show i < n + 1 ↔ i < n by omega]

end

/-! ### Changes of one cluster or tile -/

theorem vmod_eq_of_at {α : Type} [Inhabited α] {n : Nat} (v : Vector α n) (i : Nat) {f f' : α → α} (h : f (vget v i) = f' (vget v i)) :
    vmod v i f = vmod v i f' := by
  unfold vmod
  split
  next hi =>
    have hat : vget v i = v[i] := by simp [vget, hi]
    rw [hat] at h
    rw [h]
  · rfl

/-- A change of a cluster is what it makes of that cluster. -/
theorem modClu_eq_of_at {m : Mach} {g : Nat} {f f' : Cluster → Cluster} (h : f (m.clu g) = f' (m.clu g)) : m.modClu g f = m.modClu g f' := by
  rw [modClu, modClu, vmod_eq_of_at m.clus g h]

/-- A change of a tile is what it makes of that tile. -/
theorem modTile_eq_of_at {m : Mach} {t : Nat} {f f' : TileSt → TileSt} (h : f (m.tile t) = f' (m.tile t)) : m.modTile t f = m.modTile t f' := by
  rw [modTile, modTile, vmod_eq_of_at m.tiles t h]

/-! ### Registers of pages SPORT and SSPI -/

theorem blockWrite_sspi (m : Mach) {t : Nat} (ht : t < 14) (off : Nat) (v : Word) : m.blockWrite (pageKey t 0x36) off v = m.writeSspi t off v := by
  rw [blockWrite, tileOf_pageKey _ _ (by decide), pageOf_pageKey _ _ (by decide), blockCode_tilePage _ ht]
  rfl

theorem blockWrite_sport (m : Mach) (g : Fin 16) (off : Nat) (v : Word) : m.blockWrite (P.sport g) off v = m.writeSport g off v := by
  have hp : 0x08 + g.val % 2 < 256 := by omega
  have hg : 2 * (g.val / 2) + (8 + g.val % 2) % 2 = g.val := by omega
  have hcode : blockCode 0 (8 + g.val % 2) = 0x48 := by
    rcases Nat.mod_two_eq_zero_or_one g.val with h | h <;> rw [h] <;> rfl
  rw [blockWrite, P.sport, tileOf_pageKey _ _ hp, pageOf_pageKey _ _ hp, blockCode_tilePage _ (by omega), hcode, hg]
  rfl

section
variable {m : Mach} {g : Fin 16} {v : Word}

/-- Frame `f` joins the TX FIFO. -/
def frameQueued (f : Nat) (c : Cluster) : Cluster := { c with spi := { c.spi with tx := c.spi.tx ++ [f] } }

theorem writeSspi_tx (hl : m.spiTxLvl g < 16) : m.writeSspi (g.val / 2) (0x048 + 0x40 * (g.val % 2)) v = some ((m.modClu g
    (frameQueued (v.toNat % 2 ^ (m.rd (P.sspi (g.val / 2)) (F.SSPI_CFG_BITS.nth (g.val % 2)) + 1)))).spiKick g) := by
  unfold writeSspi
  rcases Nat.mod_two_eq_zero_or_one g.val with h | h
  · have hg : 2 * (g.val / 2) = g.val := by omega
    simp [h, hg, Nat.not_le.2 hl]
    rfl
  · have hg : 2 * (g.val / 2) + 1 = g.val := by omega
    simp [h, hg, Nat.not_le.2 hl]
    rfl

/-- CMD of a controller drops the oldest received frame, or, the shifter idle, empties the controller (R179, R181). -/
theorem writeSspi_pop (h0 : bit v.toNat 0 = true) (h1 : bit v.toNat 1 = false) : m.writeSspi (g.val / 2) (0x050 + 0x40 * (g.val % 2)) v =
    some (m.modClu g fun s => { s with spi := { s.spi with rx := s.spi.rx.tail } }) := by
  unfold writeSspi
  rcases Nat.mod_two_eq_zero_or_one g.val with h | h
  · have hg : 2 * (g.val / 2) = g.val := by omega
    simp [h, hg, h0, h1]
  · have hg : 2 * (g.val / 2) + 1 = g.val := by omega
    simp [h, hg, h0, h1]

theorem writeSspi_flush (h0 : bit v.toNat 0 = false) (h1 : bit v.toNat 1 = true) (hs : (m.clu g).spi.shift = none) :
    m.writeSspi (g.val / 2) (0x050 + 0x40 * (g.val % 2)) v = some (m.modClu g fun s => { s with spi := {} }) := by
  unfold writeSspi
  rcases Nat.mod_two_eq_zero_or_one g.val with h | h
  · have hg : 2 * (g.val / 2) = g.val := by omega
    simp [h, hg, h0, h1, hs]
  · have hg : 2 * (g.val / 2) + 1 = g.val := by omega
    simp [h, hg, h0, h1, hs]

/-- The shifter takes no frame while one is in it. -/
theorem spiStart_shifting {g : Nat} {n : Nat} {held : Bool} (hs : (m.clu g).spi.shift.isSome = true) : m.spiStart g n held = m := by
  obtain ⟨f, hf⟩ := Option.isSome_iff_exists.1 hs
  simp [spiStart, hf]

theorem spiKick_shifting {g : Nat} (hs : (m.clu g).spi.shift.isSome = true) : m.spiKick g = m := by
  simp only [spiKick, spiStart_shifting hs]
  split
  · rfl
  · split
    · exact ite_self m
    · rfl

/-- The frame in the shifter has ended, with word `w` read. -/
def frameRead (w : Nat) (c : Cluster) : Cluster := { c with spi := { c.spi with shift := none, rx := c.spi.rx ++ [w] } }

/-- A frame that has ended goes into the RX FIFO, and with no frame queued the controller is idle (R179). -/
theorem spiDone_idle {g : Nat} {miso : Nat} (hs : (m.clu g).spi.shift.isSome = true) (hr : (m.clu g).spi.rx.length < 16)
    (hf : (m.clu g).spi.flush = false) (ht : (m.clu g).spi.tx = []) (hg : g < 16) : m.spiDone g miso =
      (m.modClu g (frameRead (if m.spiLsb g then revBits (m.spiBits g) miso else miso % 2 ^ m.spiBits g))).raise
        (P.sspi (g / 2)) (8 * (g % 2)) := by
  have hnone : (m.clu g).spi.shift.isNone = false := by rw [← Option.not_isSome, hs]; rfl
  simp only [spiDone, hnone, Bool.false_eq_true, if_false, if_neg (Nat.not_le.2 hr)]
  rw [modClu_eq_of_at (f' := frameRead (if m.spiLsb g then revBits (m.spiBits g) miso else miso % 2 ^ m.spiBits g)), clu_modClu_same _ _ hg]
  · simp [frameRead, ht]
  · simp [frameRead, hf, hr]

/-- A change of a cluster that keeps its part in a hand leaves every cluster's hand and its arming as they were. -/
theorem armed_modClu (m : Mach) (g j : Nat) {f : Cluster → Cluster} (hf : ∀ s, (f s).cut = s.cut) : (m.modClu g f).armed j = m.armed j := by
  have hcut := clu_modClu_congr Cluster.cut m g j hf
  unfold armed handOf
  rw [hcut]
  cases (m.clu j).cut with
  | some c => rfl
  | none => simp only [modClu_flag, modClu_rd, handArmed]

/-- Frame `f` leaves an empty FIFO for the shifter at instant `n`. -/
def frameOut (f n : Nat) (c : Cluster) : Cluster := { c with spi := { c.spi with shift := some f, tx := [], start := n, blankAt := none } }

/-- A frame queued in an idle controller that need not wait for a line starts now (R178, R180). -/
theorem spiKick_idle {g f : Nat} (hs : (m.clu g).spi.shift = none) (ht : (m.clu g).spi.tx = [f]) (hgate : m.spiGated g = false) :
    m.spiKick g = (m.modClu g (frameOut f (m.now (g / 2)))).emitOut
      (.spi g (m.now (g / 2)) (m.spiMode g) (m.spiHalf g) (m.frameBits g f) false) := by
  have hstart : m.spiKick g = m.spiStart g (m.now (g / 2)) false := if_pos (by simp [hgate])
  rw [hstart]
  simp [spiStart, hs, ht]
  rfl

/-- A frame written to an idle controller that need not wait goes out at once (R178, R180). -/
theorem writeSspi_tx_idle (htx : (m.clu g).spi.tx = []) (hs : (m.clu g).spi.shift = none) (hgate : m.spiGated g = false) {f : Nat}
    (hf : f = v.toNat % 2 ^ (m.rd (P.sspi (g.val / 2)) (F.SSPI_CFG_BITS.nth (g.val % 2)) + 1)) :
    ∃ a : Mach, m.writeSspi (g.val / 2) (0x048 + 0x40 * (g.val % 2)) v = some a ∧ (a.clu g).spi.tx = [] ∧ (a.clu g).spi.shift = some f ∧
      (a.clu g).spi.rx = (m.clu g).spi.rx ∧ Out.spi g (m.now (g.val / 2)) (m.spiMode g) (m.spiHalf g) (m.frameBits g f) false ∈ a.out ∧
      a.regs = m.regs ∧ a.arr = m.arr ∧ a.dram = m.dram ∧ a.tiles = m.tiles := by
  have hlvl : m.spiTxLvl g < 16 := by simp [spiTxLvl, htx, hs]
  have hclu := clu_modClu_same m (frameQueued f) g.isLt
  have hgate' : (m.modClu g (frameQueued f)).spiGated g = false := by
    rw [spiGated, armed_modClu (f := frameQueued _) _ _ _ fun _ => rfl, modClu_flag]; exact hgate
  have hkick := spiKick_idle (by rw [hclu]; exact hs) (by rw [hclu]; exact congrArg (· ++ _) htx) hgate'
  have hqueued : m.writeSspi (g.val / 2) (0x048 + 0x40 * (g.val % 2)) v = some ((m.modClu g (frameQueued f)).spiKick g) :=
    hf ▸ writeSspi_tx hlvl
  rw [hkick] at hqueued
  refine ⟨_, hqueued, ?_⟩
  rw [emitOut_clu, clu_modClu_same _ _ g.isLt, hclu]
  exact ⟨rfl, rfl, rfl, List.mem_append_right _ (List.mem_singleton.2 rfl), rfl, rfl, rfl, rfl⟩

end
end Mach

namespace Mach

/-- The row of the registers of page SPORT at 0x094, DESKEW. -/
theorem rowOf_deskew (g : Fin 16) : rowOf (P.sport g) 0x094 = some ⟨0x094, 0, 1, 0xFFFF0000, 0, 0, 1, 0x0F0F0000⟩ := by
  have hp : 0x08 + g.val % 2 < 256 := by omega
  rw [P.sport, rowOf_tilePage (by omega) hp]
  rcases Nat.mod_two_eq_zero_or_one g.val with h | h <;> rw [h] <;> decide

theorem writeSport_deskew {m : Mach} {g : Fin 16} {v : Word} (hrun : m.running g = false) (h0 : bit v.toNat 0 = true) :
    ∃ a : Mach, m.writeSport g 0x094 v = some a ∧ a.flag (P.sport g) F.SPORT_DESKEW_GO = true ∧
      a.rd (P.sport g) F.SPORT_DESKEW_TRAIN = bits v.toNat 31 16 ∧
      (∀ pk off, off < 4096 → ¬ (pk = P.sport g ∧ off = 0x094) → a.word pk off = m.word pk off) ∧
      a.arr = m.arr ∧ a.dram = m.dram ∧ a.tiles = m.tiles ∧ a.clus = m.clus := by
  have hguard : sportGuarded 0x094 = false := by decide
  have hgen := genericWrite_of_taken (m := m) v (rowOf_deskew g) (by decide)
  have hw : m.writeSport g 0x094 v = some ((m.genericWrite (P.sport g) 0x094 v).wr (P.sport g) F.SPORT_DESKEW_GO 1) := by
    simp [writeSport, hguard, hrun, h0]
  rw [hgen] at hw
  refine ⟨_, hw, flag_wr_same _ (P.sport g) true rfl (by decide), ?_, fun pk off ho hne => ?_, ?_, ?_, ?_, ?_⟩
  · rw [rd_wr_apart (f := F.SPORT_DESKEW_GO) (f' := F.SPORT_DESKEW_TRAIN) _ _ _ (by decide) (by decide) rfl (by decide), rd]
    rw [show F.SPORT_DESKEW_TRAIN.off = 0x094 from rfl, word_setWord_same]
    exact bits_written (by decide) (by decide)
  · rw [not_and_or] at hne
    rw [word_wr_off _ _ (by decide) ho hne, word_setWord_off _ _ (by decide) ho hne]
  all_goals simp only [wr_arr, wr_dram, wr_tiles, wr_clus, setWord_arr, setWord_dram, setWord_tiles, setWord_clus]

/-- The end of a deskew, its lanes found, `r` the bits of those that were. -/
def deskewEnd (g : Nat) (m' : Mach) (r en : Nat) (skew : List Int) (b : Nat) : Mach :=
  ((((m'.modClu g fun c => { c with laneSkew := skew }).wr (P.sport g) F.SPORT_DESKEW_GO 0).wr (P.sport g) F.SPORT_DESKEW_STAT_LANE_OK r).wrb
    (P.sport g) F.SPORT_DESKEW_STAT_DESKEWED (decide (r = en))).raise (P.sport g) b

theorem deskewDone_eq {m : Mach} {g : Nat} (lanes : List LaneFind) (hgo : m.flag (P.sport g) F.SPORT_DESKEW_GO = true) :
    ∃ (m' : Mach) (r : Nat) (skew : List Int) (b : Nat), LanesTapped g m m' ∧ r < 2 ^ 8 ∧
      (∀ i, bit r i = (decide (i < 8) && m.laneFound g lanes i)) ∧
      m.deskewDone g lanes = deskewEnd g m' r (m.rd (P.sport g) F.SPORT_CFG_LANE_EN) skew b := by
  obtain ⟨hkept, hlt, hbits⟩ := deskewLanes (m := m) (g := g) lanes (le_refl 8)
  exact ⟨_, _, _, _, hkept, hlt, hbits, if_neg (show ¬ (!m.flag (P.sport g) F.SPORT_DESKEW_GO) = true by simp [hgo])⟩

section
variable (g : Nat) (m' : Mach) {r : Nat} (en : Nat) (skew : List Int) (b : Nat)

theorem deskewEnd_go : (deskewEnd g m' r en skew b).flag (P.sport g) F.SPORT_DESKEW_GO = false := by
  rw [deskewEnd, flag_raise_off _ (by decide) (.inr (by decide)), wrb, flag_wr_off _ _ (by decide) (by decide) (.inr (by decide)),
    flag_wr_off _ _ (by decide) (by decide) (.inr (by decide))]
  exact flag_wr_same _ (P.sport g) false rfl (by decide)

theorem deskewEnd_laneOk (hr : r < 2 ^ 8) : (deskewEnd g m' r en skew b).rd (P.sport g) F.SPORT_DESKEW_STAT_LANE_OK = r := by
  rw [deskewEnd, rd_raise_off _ (by decide) (.inr (by decide)), wrb, rd_wr_apart (f := F.SPORT_DESKEW_STAT_DESKEWED)
    (f' := F.SPORT_DESKEW_STAT_LANE_OK) _ _ _ (by decide) (by decide) rfl (by decide), rd_wr_same _ _ _ (by decide) (by decide)]
  exact Nat.mod_eq_of_lt hr

theorem deskewEnd_deskewed : (deskewEnd g m' r en skew b).flag (P.sport g) F.SPORT_DESKEW_STAT_DESKEWED = decide (r = en) := by
  rw [deskewEnd, flag_raise_off _ (by decide) (.inr (by decide))]
  exact flag_wr_same _ (P.sport g) _ rfl (by decide)

theorem deskewEnd_word {pk off : Nat} (ho : off < 4096) (h : pk ≠ P.sport g) : (deskewEnd g m' r en skew b).word pk off = m'.word pk off := by
  rw [deskewEnd, word_raise_off _ ho (.inl h), wrb, word_wr_off _ _ (by decide) ho (.inl h), word_wr_off _ _ (by decide) ho (.inl h),
    word_wr_off _ _ (by decide) ho (.inl h), modClu_word]

theorem deskewEnd_clus : (deskewEnd g m' r en skew b).clus = (m'.modClu g fun c => { c with laneSkew := skew }).clus := by
  simp only [deskewEnd, wrb, raise_clus, wr_clus]

theorem deskewEnd_rest : (deskewEnd g m' r en skew b).arr = m'.arr ∧ (deskewEnd g m' r en skew b).dram = m'.dram ∧
    (deskewEnd g m' r en skew b).tiles = m'.tiles := by
  simp only [deskewEnd, wrb, raise_arr, raise_dram, raise_tiles, wr_arr, wr_dram, wr_tiles, modClu_arr, modClu_dram, modClu_tiles, and_self]

end

/-- A deskew ends in what its lanes' findings say (R157). -/
theorem deskewDone_spec {m : Mach} {g : Nat} (hg : g < 16) (lanes : List LaneFind) (hgo : m.flag (P.sport g) F.SPORT_DESKEW_GO = true) :
    let a := m.deskewDone g lanes
    a.flag (P.sport g) F.SPORT_DESKEW_GO = false ∧
      (∀ i, i < 8 → bit (a.rd (P.sport g) F.SPORT_DESKEW_STAT_LANE_OK) i = m.laneFound g lanes i) ∧
      a.flag (P.sport g) F.SPORT_DESKEW_STAT_DESKEWED =
        decide (a.rd (P.sport g) F.SPORT_DESKEW_STAT_LANE_OK = m.rd (P.sport g) F.SPORT_CFG_LANE_EN) ∧
      (∀ pk off, off < 4096 → pk ≠ P.sport g → a.word pk off = m.word pk off) ∧
      a.arr = m.arr ∧ a.dram = m.dram ∧ a.tiles = m.tiles ∧
      { a.clu g with laneSkew := (m.clu g).laneSkew } = m.clu g ∧ ∀ j, j < 16 → j ≠ g → a.clu j = m.clu j := by
  obtain ⟨m', r, skew, b, hkept, hlt, hbits, heq⟩ := deskewDone_eq lanes hgo
  obtain ⟨hclus, harr', hdram', htiles'⟩ := hkept.keeps
  have hclu : ∀ j, m'.clu j = m.clu j := fun j => by rw [clu, clu, hclus]
  have hend : ∀ j, (deskewEnd g m' r (m.rd (P.sport g) F.SPORT_CFG_LANE_EN) skew b).clu j =
      (m'.modClu g fun c => { c with laneSkew := skew }).clu j := fun j => by rw [clu, clu, deskewEnd_clus]
  obtain ⟨harr, hdram, htiles⟩ := deskewEnd_rest g m' (r := r) (m.rd (P.sport g) F.SPORT_CFG_LANE_EN) skew b
  dsimp only
  rw [heq, deskewEnd_laneOk _ _ _ _ _ hlt]
  refine ⟨deskewEnd_go _ _ _ _ _, fun i hi => by rw [hbits, decide_eq_true hi, Bool.true_and], deskewEnd_deskewed _ _ _ _ _,
    fun pk off ho hne => (deskewEnd_word _ _ _ _ _ ho hne).trans (hkept.word pk off ho fun h => hne h.1), ?_, ?_, ?_, ?_, fun j hj hne => ?_⟩
  · exact harr.trans harr'
  · exact hdram.trans hdram'
  · exact htiles.trans htiles'
  · rw [hend, clu_modClu_same _ _ hg, hclu]
  · rw [hend, clu_modClu_ne _ _ hne, hclu]

end Mach

theorem sportWrite {s : State} {p : Port} {g : Fin 16} {off : Nat} {v : Word} {a : Mach} {r : RegRow}
    (h : s.start.writable p (g.val / 2) (0x08 + g.val % 2) off = true) (hlo : 0x040 ≤ off) (hhi : off < 0x200) (h4 : off % 4 = 0)
    (hr : rowOf (P.sport g) off = some r) (hw : s.start.writeSport g off v = some a) (ht : a.tiles = s.start.tiles) :
    s.effect (fun m => m.portWrite p (regAddr (g.val / 2) (0x08 + g.val % 2) off) v) = .next (s.settled a) := by
  have hp : 0x08 + g.val % 2 < 256 := by omega
  refine effect_tileWrite h (by omega) hp hlo (by omega) h4 ?_ (by omega) ((s.start.blockWrite_sport g off v).trans hw) ?_
  · rw [← rowOf_tilePage (t := g.val / 2) (by omega) hp, ← P.sport, hr]; rfl
  · rw [Mach.tile, ht, Mach.tile]

theorem sspiWrite {s : State} {p : Port} {g : Fin 16} {off : Nat} {v : Word} {a : Mach}
    (h : s.start.writable p (g.val / 2) 0x36 (off + 0x40 * (g.val % 2)) = true) (hoff : off ∈ [0x048, 0x050])
    (hw : s.start.writeSspi (g.val / 2) (off + 0x40 * (g.val % 2)) v = some a) (ht : a.tiles = s.start.tiles) :
    s.effect (fun m => m.portWrite p (regAddr (g.val / 2) 0x36 (off + 0x40 * (g.val % 2))) v) = .next (s.settled a) := by
  have hrow : (rowOf (pageKey 0 0x36) (off + 0x40 * (g.val % 2))).isSome = true ∧ 0x040 ≤ off ∧ off < 0x100 ∧ off % 4 = 0 := by
    simp only [List.mem_cons, List.not_mem_nil, or_false] at hoff
    rcases hoff with rfl | rfl <;> rcases Nat.mod_two_eq_zero_or_one g.val with h | h <;> rw [h] <;> decide
  obtain ⟨hrow, hlo, hhi, h4⟩ := hrow
  refine effect_tileWrite h (by omega) (by decide) (by omega) (by omega) (by omega) hrow (by omega) ?_ ?_
  · rw [Mach.blockWrite_sspi _ (by omega), hw]
  · rw [Mach.tile, ht, Mach.tile]

/-- Settles O37. -/
theorem deskewAndSensorSpi : Obligations.DeskewAndSensorSpi := by
  refine ⟨fun s p g v h hrun => ?_, fun s g lanes hgo => ?_, fun s p g v h hlvl hs => ?_, fun s p g v h htx hs hgate => ?_,
    fun s p g v h h1 => ?_, fun s p g v h h0 hs => ?_, fun s g miso hs hr hf ht => ?_⟩
  case refine_1 =>
    have h0 : bit (v ||| 1).toNat 0 = true := (bit_or_two_pow v 0 0).trans (by simp)
    obtain ⟨a, hw, hgo, htrain, hword, harr, hdram, htiles, hclus⟩ := Mach.writeSport_deskew hrun h0
    exact ⟨a, sportWrite h (by decide) (by decide) (by decide) (Mach.rowOf_deskew g) hw htiles, hgo,
      htrain.trans (bits_or_two_pow v 0 (by decide)), hword, harr, hdram, htiles, hclus⟩
  case refine_2 =>
    obtain ⟨hgo', hok, hdone, hword, harr, hdram, htiles, hclu, hother⟩ := Mach.deskewDone_spec g.isLt lanes hgo
    exact ⟨_, effect_next (f := fun m => m.deskewDone g lanes) rfl, hgo',
      fun i hi => (hok i hi).trans (Bool.and_assoc _ _ _).symm, hdone, hword, harr, hdram, htiles, hclu, hother⟩
  case refine_3 =>
    refine sspiWrite h (by decide) ((Mach.writeSspi_tx hlvl).trans (congrArg some ?_)) rfl
    refine (Mach.spiKick_shifting ?_).trans (Mach.modClu_eq_of_at rfl)
    rw [Mach.clu_modClu_same _ _ g.isLt]
    exact hs
  case refine_4 =>
    obtain ⟨a, hw, htx', hs', hrx, hout, hregs, harr, hdram, htiles⟩ := Mach.writeSspi_tx_idle htx hs hgate (v := v) rfl
    exact ⟨a, sspiWrite h (by decide) hw htiles, htx', hs', hrx, hout, hregs, harr, hdram, htiles⟩
  case refine_5 =>
    refine sspiWrite h (by decide) (Mach.writeSspi_pop ?_ ?_) rfl
    · exact (bit_or_two_pow v 0 0).trans (by simp)
    · exact (bit_or_two_pow v 1 0).trans (by simp [h1])
  case refine_6 =>
    refine sspiWrite h (by decide) (Mach.writeSspi_flush ?_ ?_ hs) rfl
    · exact (bit_or_two_pow v 0 1).trans (by simp [h0])
    · exact (bit_or_two_pow v 1 1).trans (by simp)
  case refine_7 => exact effect_next (f := fun m => m.spiDone g miso.toNat) (Mach.spiDone_idle hs hr hf ht g.isLt)

end Sys2Proof.Machine

/-!
PROOFS. Converters: calibration, shadow steps and handovers (R188–R194).
-/

namespace Sys2Proof.Machine

/-- A field within a field. -/
theorem bits_bits (n : Nat) {hi lo h l : Nat} (hh : h + lo ≤ hi) : bits (bits n hi lo) h l = bits n (h + lo) (l + lo) := by
  apply Nat.eq_of_testBit_eq
  intro i
  simp only [testBit_bits]
  by_cases hlt : i < h + 1 - l
  · rw [decide_eq_true hlt, decide_eq_true (show l + i < hi + 1 - lo by omega), decide_eq_true (show i < h + lo + 1 - (l + lo) by omega),
      show lo + (l + i) = l + lo + i by omega]
    rfl
  · rw [decide_eq_false hlt, decide_eq_false (show ¬ i < h + lo + 1 - (l + lo) by omega)]
    rfl

theorem vmod_vmod {α : Type} {n : Nat} (x : Vector α n) (i : Nat) (f f' : α → α) : vmod (vmod x i f) i f' = vmod x i fun a => f' (f a) := by
  by_cases h : i < n
  · simp [vmod, h]
  · simp [vmod, h]

namespace Mach
section
variable {m : Mach} {g v : Nat}

/-! ### The converters of a cluster -/

theorem conv_modConv_same (f : Conv → Conv) (hg : g < 16) (hv : v < 6) : (m.modConv g v f).conv g v = f (m.conv g v) := by
  rw [modConv, conv, clu_modClu_same _ _ hg, vget_vmod_same _ _ _ hv]
  rfl

theorem modConv_modConv (m : Mach) (g v : Nat) (f f' : Conv → Conv) : (m.modConv g v f).modConv g v f' = m.modConv g v fun c => f' (f c) := by
  simp only [modConv, modClu_modClu, vmod_vmod]

/-- A position of the map is a field of the converter's word. -/
theorem posSlice_eq {k : Nat} (hk : k < 4) (m : Mach) (g v : Nat) : m.posSlice g v k = m.rd (P.vc g) ⟨0x080 + 0x10 * v, 4 * k + 3, 4 * k, 0⟩ :=
  bits_bits (hi := 15) (lo := 0) _ (by omega)

/-! ### Starts of calibrations (R189) -/

theorem blockWrite_vc (m : Mach) (g : Fin 16) (off : Nat) (v : Word) : m.blockWrite (P.vc g) off v = m.writeVc g off v := by
  have hp : 0x0C + g.val % 2 < 256 := by omega
  have hg : 2 * (g.val / 2) + (0x0C + g.val % 2) % 2 = g.val := by omega
  have hcode : blockCode 0 (0x0C + g.val % 2) = 0x4C := by
    rcases Nat.mod_two_eq_zero_or_one g.val with h | h <;> rw [h] <;> rfl
  rw [blockWrite, P.vc, tileOf_pageKey _ _ hp, pageOf_pageKey _ _ hp, blockCode_tilePage _ (by omega), hcode, hg]
  rfl

theorem writeVc_full {x : Word} (ha : m.armed g = false) (hb : m.flag (P.vc g) F.VC_STAT_CAL_BUSY = false) (h0 : bit x.toNat 0 = true) :
    m.writeVc g 0x05C x = some (m.vcCalStart g true) := by simp [writeVc, ha, hb, h0]

theorem vcCalStart_tile (m : Mach) (g t : Nat) : (m.vcCalStart g true).tile t = m.tile t := by
  simp only [vcCalStart, if_true, wr_tile, modClu_tile]

/-! ### Ends of calibrations (R189, R190) -/

theorem incW_dram (m : Mach) (pk : Nat) (f : Field) : (m.incW pk f).dram = m.dram := rfl

theorem logPackage_dram (m : Mach) (r : FaultRec) : (m.logPackage r).dram = m.dram := by
  obtain ⟨l, hl⟩ := m.logPackage_eq r
  rw [hl, countRecord]
  split
  · simp only [raise_dram, inc_dram, incW_dram]
  · simp only [wr_dram, raise_dram, incW_dram]

/-- Records of faults leave DRAM as it was. -/
theorem queueClosed_dram (t : Nat) : QueueClosed (fun m m' => m'.dram = m.dram) (fun _ => True) t where
  refl _ := rfl
  trans hab hbc := hbc.trans hab
  setWord _ _ _ _ := rfl
  modTile _ _ _ := rfl
  log m r := by
    unfold logSegment
    split
    · exact logPackage_dram _ r
    · exact logPackage_dram m r

theorem record_dram (m : Mach) (t code unit subA subB d : Nat) : (m.record t code unit subA subB d).dram = m.dram :=
  (queueClosed_dram t).record ⟨trivial, trivial, trivial, trivial⟩ m code unit subA subB d

theorem foldl_dram {α : Type} {f : Mach → α → Mach} (hf : ∀ m x, (f m x).dram = m.dram) (l : List α) (m : Mach) :
    (l.foldl f m).dram = m.dram := by
  induction l generalizing m with
  | nil => rfl
  | cons x l ih => exact (ih _).trans (hf m x)

theorem modConv_dram (m : Mach) (g v : Nat) (f : Conv → Conv) : (m.modConv g v f).dram = m.dram := rfl

theorem saveAon_dram (m : Mach) (g v : Nat) : (m.saveAon g v).dram = m.dram := rfl

theorem enterService_dram (m : Mach) (g v s : Nat) : (m.enterService g v s).dram = m.dram := rfl

/-- Converter `v` as a full calibration places and enters it, before its faults are logged. -/
def fullPlaced (m : Mach) (g v : Nat) (w : Nat → Nat) (map : Word) (f : Conv → Conv) (place : List Nat) (failed : Bool) : Mach :=
  let a := (place.foldl (fun m s => m.enterService g v s)
    ((((List.range 5).foldl (fun m s => (m.setEl (P.vc g) 1 (5 * v + s) (w s)).setEl (P.vc g) 2 (5 * v + s) (w s)) m).setWord (P.vc g)
      (0x080 + 0x10 * v) map).modConv g v f)).saveAon g v
  if failed then a.raise (P.vc g) 3 else a

theorem fullPlaced_dram (m : Mach) (g v : Nat) (w : Nat → Nat) (map : Word) (f : Conv → Conv) (place : List Nat) (failed : Bool) :
    (m.fullPlaced g v w map f place failed).dram = m.dram := by
  have hels := foldl_dram (f := fun m s => (m.setEl (P.vc g) 1 (5 * v + s) (w s)).setEl (P.vc g) 2 (5 * v + s) (w s)) (fun _ _ => rfl)
    (List.range 5) m
  have hplace := foldl_dram (f := fun m s => m.enterService g v s) (fun _ _ => rfl) place
  unfold fullPlaced
  split
  · rw [raise_dram, saveAon_dram, hplace, modConv_dram, setWord_dram, hels]
  · rw [saveAon_dram, hplace, modConv_dram, setWord_dram, hels]

theorem fullConv_eq (m : Mach) (g v : Nat) (xs : List SliceMeas) : ∃ (w : Nat → Nat) (map : Word) (f : Conv → Conv)
    (place : List Nat) (failed : Bool) (out : List Nat) (d : Nat → Nat) (kept : List Nat), m.fullConv g v xs =
    kept.foldl (fun m s => m.record (g / 2) 0x05 (6 * g + v) s 0 0)
      (out.foldl (fun m s => (m.raise (P.vc g) 2).record (g / 2) 0x04 (6 * g + v) s 1 (d s)) (m.fullPlaced g v w map f place failed)) :=
  ⟨_, _, _, _, _, _, _, _, rfl⟩

theorem fullConv_dram (m : Mach) (g v : Nat) (xs : List SliceMeas) : (m.fullConv g v xs).dram = m.dram := by
  obtain ⟨w, map, f, place, failed, out, d, kept, heq⟩ := m.fullConv_eq g v xs
  rw [heq, foldl_dram fun m s => record_dram m _ _ _ _ _ _, foldl_dram fun m s => (record_dram _ _ _ _ _ _ _).trans (raise_dram m _ _),
    fullPlaced_dram]

theorem retire_dram (m : Mach) (g v s cause start stop : Nat) : (m.retire g v s cause start stop).dram = m.dram := by
  unfold retire
  dsimp only
  rw [record_dram, raise_dram, saveAon_dram, modConv_dram, wr_dram, wr_dram, wr_dram]

theorem restoreFail_dram (m : Mach) (g v s : Nat) : (m.restoreFail g v s).dram = m.dram := by
  unfold restoreFail
  dsimp only
  split
  · rw [retire_dram]
    split <;> rfl
  · rw [record_dram, raise_dram, wr_dram]

theorem restoreAon_dram (m : Mach) (g v : Nat) : (m.restoreAon g v).dram = m.dram := by
  unfold restoreAon
  dsimp only
  split
  · rfl
  · simp only [foldl_dram, setEl_dram, setWord_dram, implies_true]

theorem restoreConv_eq (m : Mach) (g v : Nat) (xs : List SliceMeas) : ∃ (live place : List Nat) (f : Conv → Conv)
    (w : Mach → Nat → Nat) (off : List Nat), m.restoreConv g v xs =
    ((place.foldl (fun m k => m.enterService g v (m.posSlice g v k)) ((off.foldl (fun m s => m.restoreFail g v s)
      (live.foldl (fun m s => m.setEl (P.vc g) 1 (5 * v + s) (w m s)) (m.restoreAon g v))).modConv g v f)).saveAon g v) :=
  ⟨_, _, _, _, _, rfl⟩

theorem restoreConv_dram (m : Mach) (g v : Nat) (xs : List SliceMeas) : (m.restoreConv g v xs).dram = m.dram := by
  obtain ⟨live, place, f, w, off, heq⟩ := m.restoreConv_eq g v xs
  have hels := foldl_dram (f := fun m s => m.setEl (P.vc g) 1 (5 * v + s) (w m s)) (fun _ _ => rfl) live
  have hplace := foldl_dram (f := fun m k => m.enterService g v (m.posSlice g v k)) (fun _ _ => rfl) place
  have hfail := foldl_dram (f := fun m s => m.restoreFail g v s) (fun m s => restoreFail_dram m g v s) off
  rw [heq, saveAon_dram, hplace, modConv_dram, hfail, hels, restoreAon_dram]

/-- Bits summed at their places are read back there. -/
theorem foldl_bits (c : Nat → Bool) (n : Nat) : (List.range n).foldl (fun a i => a + (c i).toNat * 2 ^ i) 0 < 2 ^ n ∧
    ∀ i, bit ((List.range n).foldl (fun a i => a + (c i).toNat * 2 ^ i) 0) i = (decide (i < n) && c i) := by
  induction n with
  | zero => exact ⟨Nat.one_pos, fun i => by simp [bit]⟩
  | succ n ih =>
    obtain ⟨hlt, hbits⟩ := ih
    obtain ⟨hlt', hbits'⟩ := bit_add_two_pow hlt (c n)
    simp only [List.range_succ, List.foldl_append, List.foldl_cons, List.foldl_nil]
    refine ⟨hlt', fun i => ?_⟩
    rw [hbits', hbits]
    by_cases hi : i = n
    · simp [hi]
    · simp [hi, show i < n + 1 ↔ i < n by omega]

/-- The converters measured, one after another. -/
def measured (m : Mach) (g : Nat) (meas : List (List SliceMeas)) : Mach :=
  (List.range 6).foldl (fun a v =>
    if (m.clu g).calHost || !(a.conv g v).aonOk then a.fullConv g v (meas.getD v []) else a.restoreConv g v (meas.getD v [])) m

theorem measured_dram (m : Mach) (g : Nat) (meas : List (List SliceMeas)) : (m.measured g meas).dram = m.dram := by
  refine foldl_dram (fun a v => ?_) _ m
  split
  · exact fullConv_dram a g v _
  · exact restoreConv_dram a g v _

/-- STAT of page VC as a calibration leaves it, FULL cleared and its end raised; `ok` the converters that are not FAILED. -/
def calShown (m : Mach) (g ok form : Nat) : Mach :=
  ((((m.wr (P.vc g) F.VC_STAT_CAL_OK ok).wr (P.vc g) F.VC_STAT_CAL_BUSY 0).wr (P.vc g) F.VC_CAL_CMD_FULL 0).wr (P.vc g) F.VC_STAT_CAL_FORM
    form).raise (P.vc g) 0

theorem vcCalDone_eq (meas : List (List SliceMeas)) (hb : m.flag (P.vc g) F.VC_STAT_CAL_BUSY = true) : ∃ ok form, ok < 2 ^ 6 ∧
    (∀ v, bit ok v = (decide (v < 6) && !(m.measured g meas).flag (P.vc g) (F.VC_CONV_MAP_FAILED.nth v))) ∧
    m.vcCalDone g meas = (if ok = 63 then (m.measured g meas).calShown g ok form else ((m.measured g meas).calShown g ok form).raise (P.vc g) 1) := by
  obtain ⟨hlt, hbits⟩ := foldl_bits (fun v => !(m.measured g meas).flag (P.vc g) (F.VC_CONV_MAP_FAILED.nth v)) 6
  exact ⟨_, _, hlt, hbits, if_neg (show ¬ (!m.flag (P.vc g) F.VC_STAT_CAL_BUSY) = true by simp [hb])⟩

section
variable (m : Mach) (g form : Nat) {ok : Nat}

theorem calShown_busy : (m.calShown g ok form).flag (P.vc g) F.VC_STAT_CAL_BUSY = false := by
  rw [calShown, flag_raise_off _ (by decide) (.inr (by decide)), flag_wr_apart (f := F.VC_STAT_CAL_FORM) (f' := F.VC_STAT_CAL_BUSY) _ _ _ (by decide) (by decide) rfl (by decide),
    flag_wr_off _ _ (by decide) (by decide) (.inr (by decide))]
  exact flag_wr_same _ _ false rfl (by decide)

theorem calShown_full : (m.calShown g ok form).flag (P.vc g) F.VC_CAL_CMD_FULL = false := by
  rw [calShown, flag_raise_off _ (by decide) (.inr (by decide)), flag_wr_off _ _ (by decide) (by decide) (.inr (by decide))]
  exact flag_wr_same _ _ false rfl (by decide)

theorem calShown_ok (h : ok < 2 ^ 6) : (m.calShown g ok form).rd (P.vc g) F.VC_STAT_CAL_OK = ok := by
  rw [calShown, rd_raise_off _ (by decide) (.inr (by decide)),
    rd_wr_apart (f := F.VC_STAT_CAL_FORM) (f' := F.VC_STAT_CAL_OK) _ _ _ (by decide) (by decide) rfl (by decide),
    rd_wr_off _ _ (by decide) (by decide) (.inr (by decide)),
    rd_wr_apart (f := F.VC_STAT_CAL_BUSY) (f' := F.VC_STAT_CAL_OK) _ _ _ (by decide) (by decide) rfl (by decide),
    rd_wr_same _ _ _ (by decide) (by decide)]
  exact Nat.mod_eq_of_lt h

theorem calShown_dram : (m.calShown g ok form).dram = m.dram := by simp only [calShown, raise_dram, wr_dram]

theorem calShown_failed {v : Nat} (hv : v < 6) :
    (m.calShown g ok form).flag (P.vc g) (F.VC_CONV_MAP_FAILED.nth v) = m.flag (P.vc g) (F.VC_CONV_MAP_FAILED.nth v) := by
  have hoff : (F.VC_CONV_MAP_FAILED.nth v).off = 0x080 + v * 16 := rfl
  have ho : (F.VC_CONV_MAP_FAILED.nth v).off < 4096 := by omega
  have hne : ∀ off, off < 0x080 → (F.VC_CONV_MAP_FAILED.nth v).off ≠ off := fun off h => by omega
  rw [calShown, flag_raise_off _ ho (.inr (hne _ (by decide))), flag_wr_off _ _ (by decide) ho (.inr (hne _ (by decide))),
    flag_wr_off _ _ (by decide) ho (.inr (hne _ (by decide))), flag_wr_off _ _ (by decide) ho (.inr (hne _ (by decide))),
    flag_wr_off _ _ (by decide) ho (.inr (hne _ (by decide)))]

end

/-- The end of a calibration: STAT shows the converters that are not FAILED (R189, R190). -/
theorem vcCalDone_spec (meas : List (List SliceMeas)) (hb : m.flag (P.vc g) F.VC_STAT_CAL_BUSY = true) :
    let a := m.vcCalDone g meas
    a.flag (P.vc g) F.VC_STAT_CAL_BUSY = false ∧ a.flag (P.vc g) F.VC_CAL_CMD_FULL = false ∧ (a.word (P.vc g) 0x010).toNat.testBit 0 = true ∧
      (∀ v, v < 6 → bit (a.rd (P.vc g) F.VC_STAT_CAL_OK) v = !a.flag (P.vc g) (F.VC_CONV_MAP_FAILED.nth v)) ∧ a.dram = m.dram := by
  obtain ⟨ok, form, hlt, hbits, heq⟩ := vcCalDone_eq meas hb
  have hdram : ((m.measured g meas).calShown g ok form).dram = m.dram := (calShown_dram _ _ _).trans (measured_dram m g meas)
  have hok : ∀ v, v < 6 → bit ok v = !((m.measured g meas).calShown g ok form).flag (P.vc g) (F.VC_CONV_MAP_FAILED.nth v) := fun v hv => by
    rw [hbits, decide_eq_true hv, Bool.true_and, calShown_failed _ _ _ hv]
  have hraised : (((m.measured g meas).calShown g ok form).word (P.vc g) 0x010).toNat.testBit 0 = true := raise_testBit _ _ (by decide)
  dsimp only
  rw [heq]
  split
  · exact ⟨calShown_busy _ _ _, calShown_full _ _ _, hraised, fun v hv => by rw [calShown_ok _ _ _ hlt, hok v hv], hdram⟩
  · have hoff : ∀ v, v < 6 → (F.VC_CONV_MAP_FAILED.nth v).off < 4096 ∧ (F.VC_CONV_MAP_FAILED.nth v).off ≠ 0x010 := fun v hv => by
      have hoff : (F.VC_CONV_MAP_FAILED.nth v).off = 0x080 + v * 16 := rfl
      omega
    refine ⟨?_, ?_, raise_keeps_testBit _ _ hraised, fun v hv => ?_, (raise_dram _ _ _).trans hdram⟩
    · rw [flag_raise_off _ (by decide) (.inr (by decide)), calShown_busy]
    · rw [flag_raise_off _ (by decide) (.inr (by decide)), calShown_full]
    · rw [rd_raise_off _ (by decide) (.inr (by decide)), calShown_ok _ _ _ hlt, flag_raise_off _ (hoff v hv).1 (.inr (hoff v hv).2), hok v hv]

/-! ### Shadow steps (R191–R193) -/

/-- A shadow step counted, and which of its fits were skipped. -/
def stepCounted (m : Mach) (g v : Nat) (noGain noSkew : Bool) : Mach :=
  ((m.incW (P.vc g) (F.VC_CONV_BG_STEPS.nth v)).wrb (P.vc g) (F.VC_CONV_BG_G_SKIP.nth v) noGain).wrb (P.vc g) (F.VC_CONV_BG_S_SKIP.nth v) noSkew

/-- Two states agree on what judges a step of converter `v`. -/
structure SameStep (g v : Nat) (m m' : Mach) : Prop where
  rd : ∀ f : Field, f.off < 4096 → f.off ≠ 0x084 + v * 16 → m'.rd (P.vc g) f = m.rd (P.vc g) f
  arr : m'.arr = m.arr

theorem sameStep_stepCounted (hv : v < 6) (noGain noSkew : Bool) : SameStep g v m (m.stepCounted g v noGain noSkew) where
  rd x ho hne := by
    have hoff : ∀ y : Field, y.off = 0x084 → y.stride = 16 → (y.nth v).off = 0x084 + v * 16 := fun y h1 h2 => by rw [Field.nth_off, h1, h2]
    have hlt : 0x084 + v * 16 < 4096 := by omega
    rw [stepCounted, wrb, wrb, incW, rd_wr_off _ _ ((hoff _ rfl rfl).trans_lt hlt) ho (.inr fun h => hne (h.trans (hoff _ rfl rfl))),
      rd_wr_off _ _ ((hoff _ rfl rfl).trans_lt hlt) ho (.inr fun h => hne (h.trans (hoff _ rfl rfl))),
      rd_wr_off _ _ ((hoff _ rfl rfl).trans_lt hlt) ho (.inr fun h => hne (h.trans (hoff _ rfl rfl)))]
  arr := by simp only [stepCounted, wrb, incW, wr_arr]

theorem stepCounted_conv (m : Mach) (g v : Nat) (noGain noSkew : Bool) : (m.stepCounted g v noGain noSkew).conv g v = m.conv g v := by
  simp only [conv, stepCounted, wrb, incW, wr_clu]

namespace SameStep
variable {m' : Mach}

theorem modConv (h : SameStep g v m m') (f : Conv → Conv) : SameStep g v m (m'.modConv g v f) where
  rd x ho hne := (modClu_rd _ _ _ _ _).trans (h.rd x ho hne)
  arr := h.arr

theorem dummySlice (h : SameStep g v m m') (hv : v < 6) : m'.dummySlice g v = m.dummySlice g v := by
  have hoff : (F.VC_CONV_MAP_DUMMY.nth v).off = 0x080 + v * 16 := rfl
  exact h.rd _ (by omega) (by omega)

theorem factors (h : SameStep g v m m') (s : Nat) : m'.factors g v s = m.factors g v s := by
  rw [Mach.factors, Mach.factors, el, el, h.arr]

theorem act (h : SameStep g v m m') (hv : v < 6) {f : Field} (hf : f.off < 0x800) : m'.act (P.vc g) f = m.act (P.vc g) f :=
  h.rd { f with off := f.off + 0x800 } (by dsimp only; omega) (by dsimp only; omega)

theorem drifted (h : SameStep g v m m') (hv : v < 6) (w : Nat) : m'.drifted g v w = m.drifted g v w := by
  have hbase : m'.baseline g v (m'.dummySlice g v) = m.baseline g v (m.dummySlice g v) := by
    rw [h.dummySlice hv, baseline, baseline, el, el, h.arr]
  simp only [Mach.drifted, hbase, h.act hv (f := F.VC_LIM_OFS_LSB) (by decide), h.act hv (f := F.VC_LIM_GAIN_UNITS) (by decide),
    h.act hv (f := F.VC_LIM_SKEW_UNITS) (by decide)]

end SameStep

/-- A step within its limits leaves its factors waiting for the handover (R191–R193). -/
theorem endStep_pend (hv : v < 6) {fit : StepFit} {a b : Bool} {w : Nat} (hbr : (m.conv g v).bridge = false)
    (hres : fit.res ≤ m.act (P.vc g) F.VC_LIM_RES_LSB)
    (hw : w = factorWord fit.ofs (if a then fit.gain else fGain (m.factors g v (m.dummySlice g v)))
      (if b then fit.skew else fSkew (m.factors g v (m.dummySlice g v))) fit.res) (hd : m.drifted g v w = false) :
    m.endStep g v fit a b = (m.stepCounted g v (!a) (!b)).modConv g v fun c => { c with since := c.since + 1, pend := some w } := by
  have hsame := sameStep_stepCounted (m := m) (g := g) hv (!a) (!b)
  have hsince := hsame.modConv fun c => { c with since := c.since + 1 }
  have hbr' : ¬ ((m.stepCounted g v (!a) (!b)).conv g v).bridge = true := by rw [stepCounted_conv, hbr]; simp
  unfold endStep
  dsimp only
  rw [← stepCounted, if_neg hbr', hsame.dummySlice hv, hsame.factors, ← hw, hsince.act hv (by decide), if_neg (Nat.not_lt.2 hres),
    hsince.drifted hv, hd, if_neg Bool.false_ne_true, modConv_modConv]

theorem stepDone_complete {fit : StepEnd} (hr : m.stepRuns g v = true) (hp : 2 ^ m.act (P.vc g) F.VC_BGCAL_SHADOW_LOG2 ≤ fit.pairs) :
    m.stepDone g v fit = m.endStep g v fit.toStepFit (decide (1024 ≤ fit.sd)) (decide (64 ≤ fit.slope)) := by
  simp [stepDone, hr, Nat.not_lt.2 hp]

theorem stepTimeout_offset {pairs : Nat} (fit : StepFit) (hr : m.stepRuns g v = true) (hp : 256 ≤ pairs) :
    m.stepTimeout g v pairs fit = m.endStep g v fit false false := by simp [stepTimeout, hr, hp]

theorem stepTimeout_abandoned {pairs : Nat} (fit : StepFit) (hr : m.stepRuns g v = true) (hp : pairs < 256) :
    m.stepTimeout g v pairs fit = (m.inc (P.vc g) F.VC_BG_STALL_COUNT).raise (P.vc g) 4 := by simp [stepTimeout, hr, Nat.not_le.2 hp]

/-! ### Handovers (R193) -/

/-- The map of converter `v` with position `k` given to slice `d`, whose factors are `w`, and slice `s` made the dummy. -/
def mapHanded (m : Mach) (g v w k d s : Nat) : Mach :=
  ((m.setEl (P.vc g) 1 (5 * v + d) w).setPos g v k d).wr (P.vc g) (F.VC_CONV_MAP_DUMMY.nth v) s

/-- The part after a handover, before a bridge step is considered; `f`, `f₁`, `f₂` what it makes of the converter. -/
def handed (m : Mach) (g v w k d s : Nat) (f f₁ f₂ : Conv → Conv) : Mach :=
  (((((m.mapHanded g v w k d s).modConv g v f).incW (P.vc g) F.VC_HANDOVERS_COUNT).modConv g v f₁).wr (P.vc g)
    (F.VC_CONV_BG_SHADOW_POS.nth v) ((k + 1) % 4)).modConv g v f₂

section
variable {w k d s : Nat} {f f₁ f₂ : Conv → Conv}

theorem handed_word {pk off : Nat} (hv : v < 6) (ho : off < 4096)
    (h : pk ≠ P.vc g ∨ (off ≠ 0x080 + 0x10 * v ∧ off ≠ 0x084 + v * 16 ∧ off ≠ 0x068)) :
    (m.handed g v w k d s f f₁ f₂).word pk off = m.word pk off := by
  have hbg : (F.VC_CONV_BG_SHADOW_POS.nth v).off = 0x084 + v * 16 := rfl
  have hdm : (F.VC_CONV_MAP_DUMMY.nth v).off = 0x080 + v * 16 := rfl
  have hne : pk ≠ P.vc g ∨ off ≠ (F.VC_CONV_BG_SHADOW_POS.nth v).off := h.imp id fun h => by omega
  have hne' : pk ≠ P.vc g ∨ off ≠ (F.VC_CONV_MAP_DUMMY.nth v).off := h.imp id fun h => by omega
  rw [handed, modConv, modClu_word, word_wr_off _ _ (by omega) ho hne, modConv, modClu_word, incW,
    word_wr_off _ _ (by decide) ho (h.imp id fun h => h.2.2), modConv, modClu_word, mapHanded, word_wr_off _ _ (by omega) ho hne', setPos,
    word_wr_off _ _ (by dsimp only; omega) ho (h.imp id fun h => h.1), setEl_word]

theorem handed_bridges (hv : v < 6) : (m.handed g v w k d s f f₁ f₂).bridges g v = m.bridges g v := by
  have hkind : (m.handed g v w k d s f f₁ f₂).kind g = m.kind g := by
    rw [kind, kind, rd, rd, handed_word hv (by decide) (.inl (by simp only [P.sport, P.vc, pageKey]; omega))]
  have hpair : (m.handed g v w k d s f f₁ f₂).rd (P.vc g) F.VC_CFG_PAIR = m.rd (P.vc g) F.VC_CFG_PAIR := by
    have hoff : F.VC_CFG_PAIR.off = 0x040 := rfl
    rw [rd, rd, handed_word hv (by decide) (.inr (by omega))]
  have hdummy : (m.handed g v w k d s f f₁ f₂).dummySlice g (v + 1) = m.dummySlice g (v + 1) := by
    have hoff : (F.VC_CONV_MAP_DUMMY.nth (v + 1)).off = 0x080 + (v + 1) * 16 := rfl
    rw [dummySlice, dummySlice, rd, rd, handed_word hv (by omega) (.inr (by omega))]
  simp only [bridges, paired, hasDummy, hkind, hpair, hdummy]

/-- The word of the map after a handover. -/
theorem handed_mapRd (x : Field) (hv : v < 6) (hx : x.off = 0x080 + 0x10 * v) :
    (m.handed g v w k d s f f₁ f₂).rd (P.vc g) x = (m.mapHanded g v w k d s).rd (P.vc g) x := by
  have hbg : (F.VC_CONV_BG_SHADOW_POS.nth v).off = 0x084 + v * 16 := rfl
  have hh : F.VC_HANDOVERS_COUNT.off = 0x068 := rfl
  rw [handed, modConv, modClu_rd, rd_wr_off _ _ (by omega) (by omega) (.inr (by omega)), modConv, modClu_rd, incW,
    rd_wr_off _ _ (by omega) (by omega) (.inr (by omega)), modConv, modClu_rd]

theorem handed_dummySlice (hv : v < 6) (hs : s < 16) : (m.handed g v w k d s f f₁ f₂).dummySlice g v = s := by
  have hoff : (F.VC_CONV_MAP_DUMMY.nth v).off = 0x080 + v * 16 := rfl
  rw [dummySlice, handed_mapRd _ hv (by omega), mapHanded, rd_wr_nth_same _ _ _ _ (by decide) (by decide)]
  exact Nat.mod_eq_of_lt hs

theorem handed_posSlice (hv : v < 6) (hk : k < 4) (hd : d < 16) : (m.handed g v w k d s f f₁ f₂).posSlice g v k = d := by
  have hoff : (F.VC_CONV_MAP_DUMMY.nth v).off = 0x080 + v * 16 := rfl
  rw [posSlice_eq hk, handed_mapRd _ hv rfl, mapHanded,
    rd_wr_apart (f := F.VC_CONV_MAP_DUMMY.nth v) _ _ _ (show F.VC_CONV_MAP_DUMMY.lo ≤ F.VC_CONV_MAP_DUMMY.hi by decide) (show F.VC_CONV_MAP_DUMMY.hi < 32 by decide)
      (by dsimp only; omega) (.inl ?_), setPos,
    rd_wr_same _ _ _ (by dsimp only; omega) (by dsimp only; omega)]
  · rw [Field.width, show 4 * k + 3 + 1 - 4 * k = 4 by omega]
    exact Nat.mod_eq_of_lt hd
  · show 4 * k + 3 < 16
    omega

theorem handed_shadowPos : (m.handed g v w k d s f f₁ f₂).shadowPos g v = (k + 1) % 4 := by
  rw [shadowPos, handed, modConv, modClu_rd, rd_wr_nth_same _ _ _ _ (by decide) (by decide)]
  exact Nat.mod_eq_of_lt (lt_of_lt_of_le (Nat.mod_lt _ (by decide)) (show 4 ≤ 2 ^ (11 + 1 - 8) by decide))

theorem handed_factors : (m.handed g v w k d s f f₁ f₂).factors g v d = w := by
  rw [factors, handed, modConv, modClu_el, wr_el, modConv, modClu_el, incW, wr_el, modConv, modClu_el, mapHanded, wr_el, setPos, wr_el]
  exact el_setEl_same _ _ _ _ _

theorem handed_conv (hg : g < 16) (hv : v < 6) : (m.handed g v w k d s f f₁ f₂).conv g v = f₂ (f₁ (f (m.conv g v))) := by
  rw [handed, conv_modConv_same _ hg hv, show ∀ (a : Mach) x y, (a.wr (P.vc g) x y).conv g v = a.conv g v from fun _ _ _ => rfl,
    conv_modConv_same _ hg hv, show ∀ (a : Mach) x, (a.incW (P.vc g) x).conv g v = a.conv g v from fun _ _ => rfl, conv_modConv_same _ hg hv]
  rfl

theorem handed_rest : (m.handed g v w k d s f f₁ f₂).dram = m.dram ∧ (m.handed g v w k d s f f₁ f₂).tiles = m.tiles := by
  simp only [handed, mapHanded, setPos, modConv, incW, modClu_dram, modClu_tiles, wr_dram, wr_tiles, setEl_dram, setEl_tiles, and_self]

end

theorem keepHist_rest (m : Mach) (g v n : Nat) : (m.keepHist g v n).regs = m.regs ∧ (m.keepHist g v n).arr = m.arr ∧
    (m.keepHist g v n).dram = m.dram ∧ (m.keepHist g v n).tiles = m.tiles := by
  unfold keepHist
  split <;> exact ⟨rfl, rfl, rfl, rfl⟩

theorem bridges_congr {m m' : Mach} (h : m'.regs = m.regs) (g v : Nat) : m'.bridges g v = m.bridges g v := by
  have hrd : ∀ pk f, m'.rd pk f = m.rd pk f := fun pk f => by rw [rd, rd, word, word, h]
  have hkind : m'.kind g = m.kind g := hrd _ _
  have hdummy : m'.dummySlice g (v + 1) = m.dummySlice g (v + 1) := hrd _ _
  simp only [bridges, paired, hasDummy, hkind, hrd, hdummy]

theorem handover_eq {p w : Nat} (hp : (m.conv g v).pend = some w) (hb : m.bridges g v = false) (hv : v < 6) : ∃ f f₁ f₂ : Conv → Conv,
    (∀ c, (f₂ (f₁ (f c))).pend = none) ∧ m.handover g v p = (m.keepHist g v (p * 65536)).handed g v w (m.shadowPos g v) (m.dummySlice g v)
      (m.posSlice g v (m.shadowPos g v)) f f₁ f₂ := by
  obtain ⟨f, f₁, f₂, hpend, heq⟩ : ∃ f f₁ f₂ : Conv → Conv, (∀ c, (f₂ (f₁ (f c))).pend = none) ∧ m.handover g v p =
      (let a := (m.keepHist g v (p * 65536)).handed g v w (m.shadowPos g v) (m.dummySlice g v) (m.posSlice g v (m.shadowPos g v)) f f₁ f₂
       if a.bridges g v && decide (5 ≤ (a.conv g v).since) then
        (a.modConv g v fun c => { c with bridge := true, resume := (m.shadowPos g v + 1) % 4 }).wr (P.vc g) (F.VC_CONV_BG_SHADOW_POS.nth v) 8
       else a) := by
    unfold handover
    simp only [hp, enterService, leaveService, modConv_modConv]
    refine ⟨_, _, _, ?_, rfl⟩
    exact fun c => rfl
  have hbridges : ((m.keepHist g v (p * 65536)).handed g v w (m.shadowPos g v) (m.dummySlice g v) (m.posSlice g v (m.shadowPos g v)) f f₁
      f₂).bridges g v = false := by
    rw [handed_bridges hv, bridges_congr (m.keepHist_rest g v _).1, hb]
  refine ⟨f, f₁, f₂, hpend, heq.trans ?_⟩
  simp only [hbridges, Bool.false_and, Bool.false_eq_true, if_false]

end
end Mach

/-- Settles O38. -/
theorem converterCalibration : Obligations.ConverterCalibration := by
  refine ⟨fun s p g v h ha hb => ?_, fun s g meas hb => ⟨_, effect_next (f := fun m => m.vcCalDone g meas) rfl, Mach.vcCalDone_spec meas hb⟩,
    fun s g v fit w hr hbr hp hres hw hd => ?_, fun s g v phase w hp hb hk => ?_, fun s g v pairs fit w hr hbr hp hres hw hd => ?_,
    fun s g v pairs fit hr hp => effect_next (f := fun m => m.stepTimeout g v pairs fit) (Mach.stepTimeout_abandoned fit hr hp)⟩
  case refine_1 =>
    have h0 : bit (v ||| 1).toNat 0 = true := (bit_or_two_pow v 0 0).trans (by simp)
    have hrow : (rowOf (pageKey 0 (0x0C + g.val % 2)) 0x05C).isSome = true := by
      rcases Nat.mod_two_eq_zero_or_one g.val with h | h <;> rw [h] <;> decide
    exact effect_tileWrite h (by omega) (by omega) (by decide) (by decide) (by decide) hrow (by omega)
      ((s.start.blockWrite_vc g 0x05C (v ||| 1)).trans (Mach.writeVc_full ha hb h0)) (congrArg TileSt.dormant (Mach.vcCalStart_tile _ _ _))
  case refine_2 =>
    have hskips : ∀ x y : Nat, (!decide (y ≤ x)) = decide (x < y) := fun x y => by rw [← decide_not]; exact decide_eq_decide.2 Nat.not_le
    refine effect_next (f := fun m => m.stepDone g v fit) ((Mach.stepDone_complete hr hp).trans ?_)
    rw [Mach.endStep_pend v.isLt hbr hres (by simpa using hw) hd, hskips, hskips]
    rfl
  case refine_3 =>
    obtain ⟨f, f₁, f₂, hpend, heq⟩ := Mach.handover_eq (p := phase) hp hb v.isLt
    obtain ⟨-, -, hdram, htiles⟩ := s.start.keepHist_rest g v (phase * 65536)
    have hd : s.start.dummySlice g v < 16 := bits_lt _ _ _
    have hs : s.start.posSlice g v (s.start.shadowPos g v) < 16 := by
      have hlt := bits_lt (s.start.word (P.vc g) (0x080 + 0x10 * v.val)).toNat (4 * s.start.shadowPos g v + 3) (4 * s.start.shadowPos g v)
      rw [Mach.posSlice_eq hk]
      rwa [show 4 * s.start.shadowPos g v + 3 + 1 - 4 * s.start.shadowPos g v = 4 by omega] at hlt
    refine ⟨_, effect_next (f := fun m => m.handover g v phase) heq, ?_, Mach.handed_posSlice v.isLt hk hd, Mach.handed_dummySlice v.isLt hs,
      Mach.handed_factors, Mach.handed_shadowPos, Mach.handed_rest.1.trans hdram, Mach.handed_rest.2.trans htiles⟩
    rw [Mach.handed_conv g.isLt v.isLt, hpend]
  case refine_4 =>
    refine effect_next (f := fun m => m.stepTimeout g v pairs fit) ((Mach.stepTimeout_offset fit hr hp).trans ?_)
    exact Mach.endStep_pend v.isLt hbr hres (by simpa using hw) hd

end Sys2Proof.Machine

/-!
PROOFS. Position samples and waits, lines in stage 3, and temperature deliveries (R25, R212, R215–R218, R242).
-/

namespace Sys2Proof.Machine
namespace Mach
section
variable {m : Mach} {g : Nat}

/-! ### What a change of a cluster leaves of its position -/

theorem handOf_modClu (m : Mach) (g j : Nat) {f : Cluster → Cluster} (hf : ∀ s, (f s).cut = s.cut) : (m.modClu g f).handOf j = m.handOf j := by
  have hcut := clu_modClu_congr Cluster.cut m g j hf
  unfold handOf
  rw [hcut]
  cases (m.clu j).cut with
  | some c => rfl
  | none => simp only [modClu_flag, modClu_rd]

section
variable {f : Cluster → Cluster} (hcut : ∀ s, (f s).cut = s.cut) (hsamples : ∀ s, (f s).acc.samples = s.acc.samples)
include hcut hsamples

theorem place_modClu (j c : Nat) : (m.modClu g f).place j c = m.place j c := by
  have hs : ((m.modClu g f).accSt j).samples = (m.accSt j).samples := clu_modClu_congr (fun s => s.acc.samples) m g j hsamples
  have hsign : (m.modClu g f).posSign j = m.posSign j := rfl
  have hkind : (m.modClu g f).posKind j = m.posKind j := by
    rw [posKind, handOf_modClu _ _ _ hcut]
    rfl
  unfold place
  rw [hs, hsign, hkind, handOf_modClu _ _ _ hcut]
  rfl

theorem placed_modClu (j : Nat) (c : Capture) : (m.modClu g f).placed j c = m.placed j c := by
  have hs : ((m.modClu g f).accSt j).samples = (m.accSt j).samples := clu_modClu_congr (fun s => s.acc.samples) m g j hsamples
  have hkind : (m.modClu g f).posKind j = m.posKind j := by
    rw [posKind, handOf_modClu _ _ _ hcut]
    rfl
  rw [placed, placed, hs, hkind]

end

/-! ### Position samples and waits (R25, R212) -/

theorem positionSample_newer {h n : Nat} {x : Int} (hh : m.handOf g = some h) (hs : (m.hand h).sample = some (n, x))
    (hnew : ∀ e, e ∈ (m.accSt g).samples → e.1 < n) (ha : m.armed g = true)
    (hr : m.reaches (m.rd P.mode (F.MODE_HAND_CFG_POS_CLUSTER.nth h) / 2) (g / 2) = true) :
    m.positionSample g = m.modAcc g fun a => { a with samples := a.samples ++ [(n, x)] } := by
  cases hl : (m.accSt g).samples.getLast? with
  | none => simp [positionSample, hh, hs, hl, ha, hr]
  | some e => simp [positionSample, hh, hs, hl, ha, hr, hnew e (List.mem_of_getLast? hl)]

/-! ### The line in the slot (R215, R218) -/

/-- The line leaves the slot. -/
def slotTaken (m : Mach) (g : Nat) : Mach := m.modClu g fun c => { c with slot := none }

theorem slotTaken_place (j c : Nat) : (m.slotTaken g).place j c = m.place j c :=
  place_modClu (f := fun c => { c with slot := none }) (fun _ => rfl) (fun _ => rfl) j c

theorem slotTaken_placed (j : Nat) (c : Capture) : (m.slotTaken g).placed j c = m.placed j c :=
  placed_modClu (f := fun c => { c with slot := none }) (fun _ => rfl) (fun _ => rfl) j c

theorem slotTaken_accSt (m : Mach) (g j : Nat) : (m.slotTaken g).accSt j = m.accSt j :=
  clu_modClu_congr (f := fun c => { c with slot := none }) Cluster.acc m g j fun _ => rfl

section
variable {l : Line} {errs : List Upset} (hl : (m.clu g).slot = some l) (hr : m.slotReady g = true) (hon : m.enabled (P.acc g) = true)
  (hd : (m.accSt g).dead = false)
include hl hr hon hd

/-- A line that stage 3 takes is placed to be a missing capture, or accumulated. -/
theorem accumulate_taken : m.accumulate g errs = if l.cap.legacy.isNone && (m.place g (16 * l.cap.n)).isNone then
      (m.slotTaken g).modAcc g fun a => { a with orphans := a.orphans ++ l.cap.missing ++ [l.cap.n], waitOver := false }
    else (m.slotTaken g).accumulateLine g l errs := by
  have hlive : (!(m.slotTaken g).enabled (P.acc g) || ((m.slotTaken g).accSt g).dead) = false := by
    rw [slotTaken_accSt, hd, show (m.slotTaken g).enabled (P.acc g) = _ from hon]
    rfl
  simp only [accumulate, hl, hr, Bool.not_true, Bool.false_eq_true, if_false]
  rw [← slotTaken, hlive, slotTaken_place]
  simp

end

theorem liveUpdate_off {planes : List (List Nat)} (hoff : m.enabled (P.shd g) = false) : m.liveUpdate g planes = m := by
  simp [liveUpdate, hoff]

/-- A line of the lead-in, with every centroid bracketed, only moves the centroids (R218). -/
theorem accumulateLine_leadIn {l : Line} {errs : List Upset} (hp : m.placed g l.cap = true) (hlead : l.cap.leadIn = true)
    (hmiss : l.cap.missing = []) (horph : (m.accSt g).orphans = []) (hoff : m.enabled (P.shd g) = false) :
    m.accumulateLine g l errs = ((m.modClu g fun s => { s with upsets := s.upsets ++ errs }).modAcc g fun a =>
      { a with orphans := [], est := false, waitOver := false }).modAcc g fun a =>
        { a with cprev := l.cap.cents.map fun x => ((m.place g x).map fun q : Int × Bool => q.1 + m.along g).getD 0 } := by
  have hplaced : (m.modClu g fun s => { s with upsets := s.upsets ++ errs }).placed g l.cap = true :=
    (placed_modClu (fun _ => by rfl) (fun _ => by rfl) g _).trans hp
  have horph' : ((m.modClu g fun s => { s with upsets := s.upsets ++ errs }).accSt g).orphans = [] :=
    (clu_modClu_congr (fun s => s.acc.orphans) m g g fun _ => by rfl).trans horph
  have hplace : ∀ x, ((m.modClu g fun s => { s with upsets := s.upsets ++ errs }).modAcc g fun a =>
      { a with orphans := [], est := false, waitOver := false }).place g x = m.place g x := fun x =>
    (place_modClu (fun _ => by rfl) (fun _ => by rfl) g x).trans (place_modClu (fun _ => by rfl) (fun _ => by rfl) g x)
  have hlive : ∀ planes, ((m.modClu g fun s => { s with upsets := s.upsets ++ errs }).modAcc g fun a =>
      { a with orphans := [], est := false, waitOver := false }).liveUpdate g planes = (m.modClu g fun s =>
        { s with upsets := s.upsets ++ errs }).modAcc g fun a => { a with orphans := [], est := false, waitOver := false } :=
    fun planes => liveUpdate_off hoff
  unfold accumulateLine
  simp only [hplaced, horph', hmiss, missAll, List.append_nil, List.foldl_nil, Bool.not_true, Bool.false_eq_true, if_false, hlive, hlead, if_true, hplace]
  rfl

/-! ### Temperatures (R242) -/

theorem blockWrite_shd (m : Mach) (g : Fin 16) (off : Nat) (v : Word) : m.blockWrite (P.shd g) off v = m.writeShd g off v := by
  have hp : 0x12 + g.val % 2 < 256 := by omega
  have hg : 2 * (g.val / 2) + (0x12 + g.val % 2) % 2 = g.val := by omega
  have hcode : blockCode 0 (0x12 + g.val % 2) = 0x52 := by
    rcases Nat.mod_two_eq_zero_or_one g.val with h | h <;> rw [h] <;> rfl
  rw [blockWrite, P.shd, tileOf_pageKey _ _ hp, pageOf_pageKey _ _ hp, blockCode_tilePage _ (by omega), hcode, hg]
  rfl

/-- The row of T_HOST of page SHD. -/
theorem rowOf_tHost (g : Fin 16) : rowOf (P.shd g) 0x04C = some ⟨0x04C, 0, 1, 0xFFFF, 0, 0, 0, 0⟩ := by
  have hp : 0x12 + g.val % 2 < 256 := by omega
  rw [P.shd, rowOf_tilePage (by omega) hp]
  rcases Nat.mod_two_eq_zero_or_one g.val with h | h <;> rw [h] <;> decide

/-- T_NOW as a delivery of `t` leaves it: valid, not stale. -/
theorem delivered_fields (pk : Nat) {t : Nat} (ht : t < 65536) :
    let a := m.setWord pk 0x0B0 (BitVec.ofNat 32 (2 ^ 31 + t))
    a.flag pk F.SHD_T_NOW_VALID = true ∧ a.flag pk F.SHD_T_NOW_STALE = false ∧ a.rd pk F.SHD_T_NOW_T = t := by
  have hword : ∀ hi lo : Nat, (m.setWord pk 0x0B0 (BitVec.ofNat 32 (2 ^ 31 + t))).rd pk ⟨0x0B0, hi, lo, 0⟩ =
      (2 ^ 31 + t) / 2 ^ lo % 2 ^ (hi + 1 - lo) := fun hi lo => by
    rw [rd, word_setWord_same, BitVec.toNat_ofNat, bits_eq, Nat.mod_eq_of_lt (show 2 ^ 31 + t < 2 ^ 32 by omega)]
  refine ⟨?_, ?_, (hword 15 0).trans ?_⟩
  · rw [flag, F.SHD_T_NOW_VALID, hword, decide_eq_true_iff]
    omega
  · rw [flag, F.SHD_T_NOW_STALE, hword, decide_eq_false_iff_not, not_not]
    omega
  · omega

/-- A temperature written by the host is delivered at once where the host is the source (R242). -/
theorem writeShd_tHost {g : Fin 16} {v : Word} (hsrc : m.shdTempSrc g = 7) (hon : m.enabled (P.shd g) = true) : ∃ w : Word,
    m.writeShd g 0x04C v = some ((m.setWord (P.shd g) 0x04C w).setWord (P.shd g) 0x0B0 (BitVec.ofNat 32 (2 ^ 31 + v.toNat % 65536))) := by
  obtain ⟨w, hgen⟩ : ∃ w, m.genericWrite (P.shd g) 0x04C v = m.setWord (P.shd g) 0x04C w := ⟨_, genericWrite_of_taken v (rowOf_tHost g) (by decide)⟩
  have hw : m.writeShd g 0x04C v = some ((m.genericWrite (P.shd g) 0x04C v).deliverShd g (bits v.toNat 15 0)) := by
    simp [writeShd, hsrc]
  have hbits : bits v.toNat 15 0 % 65536 = v.toNat % 65536 := by
    rw [bits_eq]
    omega
  have hon' : (m.setWord (P.shd g) 0x04C w).enabled (P.shd g) = true := by
    rw [enabled, flag, rd_setWord_off _ _ (by decide) (by decide) (.inr (by decide))]
    exact hon
  exact ⟨w, by rw [hw, hgen, deliverShd, if_pos hon', hbits]⟩

end
end Mach

/-- Settles O39. -/
theorem positionsAndTemperatures : Obligations.PositionsAndTemperatures := by
  refine ⟨fun s g h n x hi hh hs hnew ha hr => ?_, fun s g hs hr => ?_, fun s g errs l hl hr hon hd hleg hplace => ?_,
    fun s g errs l hl hr hon hd hplace hp hlead hmiss horph hoff => ?_, fun s g errs l hl hr hon hd hplace => ?_, fun s p g v h hsrc hon => ?_,
    fun s g hv hst => ?_⟩
  case refine_1 =>
    exact effect_next (f := fun m => m.inSeg (g.val / 2) fun m => m.positionSample g)
      ((Mach.inSeg_primary hi _).trans (Mach.positionSample_newer hh hs hnew ha hr))
  case refine_2 =>
    refine effect_next (f := fun m => m.positionTimeout g) ?_
    simp [Mach.positionTimeout, hs, hr]
  case refine_3 =>
    refine effect_next (f := fun m => m.accumulate g errs) ((Mach.accumulate_taken hl hr hon hd).trans (if_pos ?_))
    simp [hleg, hplace]
  case refine_4 =>
    have hnot : ¬ (l.cap.legacy.isNone && (s.start.place g (16 * l.cap.n)).isNone) = true := by simp [Option.isSome_iff_ne_none.1 hplace]
    refine effect_next (f := fun m => m.accumulate g errs) (((Mach.accumulate_taken hl hr hon hd).trans (if_neg hnot)).trans ?_)
    rw [Mach.accumulateLine_leadIn (m := s.start.slotTaken g) ((Mach.slotTaken_placed g _).trans hp) hlead hmiss
      ((congrArg AccSt.orphans (s.start.slotTaken_accSt g g)).trans horph) hoff]
    simp only [Mach.slotTaken_place]
    simp only [Mach.slotTaken, Mach.modAcc, Mach.modClu_modClu]
    rfl
  case refine_5 =>
    refine effect_next (f := fun m => m.accumulate g errs) ((Mach.accumulate_taken hl hr hon hd).trans (if_neg ?_))
    simp [Option.isSome_iff_ne_none.1 hplace]
  case refine_6 =>
    have hrow : (rowOf (pageKey 0 (0x12 + g.val % 2)) 0x04C).isSome = true := by
      rcases Nat.mod_two_eq_zero_or_one g.val with h | h <;> rw [h] <;> decide
    obtain ⟨w, hw⟩ := Mach.writeShd_tHost (v := v) hsrc hon
    obtain ⟨hvalid, hstale, ht⟩ := (s.start.setWord (P.shd g) 0x04C w).delivered_fields (P.shd g) (Nat.mod_lt v.toNat (by decide : 0 < 65536))
    have hwrite := effect_tileWrite h (by omega) (by omega) (by decide) (by decide) (by decide) hrow (by omega)
      ((s.start.blockWrite_shd g 0x04C v).trans hw) (by rw [Mach.setWord_tile, Mach.setWord_tile])
    refine ⟨_, hwrite, hvalid, hstale, ht, fun pk off ho hne => ?_, rfl, rfl, rfl, rfl⟩
    rw [Mach.word_setWord_off _ _ (by decide) ho (by by_contra hc; exact hne (by omega)),
      Mach.word_setWord_off _ _ (by decide) ho (by by_contra hc; exact hne (by omega))]
  case refine_7 =>
    refine effect_next (f := fun m => m.staleShd g) ?_
    simp [Mach.staleShd, hv, hst]

end Sys2Proof.Machine

/-!
PROOFS. Builds of the shading table (R257, R258).
-/

namespace Sys2Proof.Machine
namespace Mach
section
variable {m : Mach} {g : Nat}

/-! ### The start of a build (R257) -/

theorem blockWrite_cal (m : Mach) (g : Fin 16) (off : Nat) (v : Word) : m.blockWrite (P.cal g) off v = m.writeCal g off v := by
  have hp : 0x14 + g.val % 2 < 256 := by omega
  have hg : 2 * (g.val / 2) + (0x14 + g.val % 2) % 2 = g.val := by omega
  have hcode : blockCode 0 (0x14 + g.val % 2) = 0x54 := by
    rcases Nat.mod_two_eq_zero_or_one g.val with h | h <;> rw [h] <;> rfl
  rw [blockWrite, P.cal, tileOf_pageKey _ _ hp, pageOf_pageKey _ _ hp, blockCode_tilePage _ (by omega), hcode, hg]
  rfl

/-- A build started: its command shown, its counts at zero. -/
def buildStarted (m : Mach) (g c : Nat) : Mach :=
  ((((((m.setWord (P.cal g) 0x054 (BitVec.ofNat 32 c)).wr (P.cal g) F.CAL_STAT_BUSY 1).wr (P.cal g) F.CAL_STAT_ABORTED 0).wr
    (P.cal g) F.CAL_BUILD_POS_E 0).wr (P.cal g) F.CAL_NOSAMP_COUNT 0).wr (P.cal g) F.CAL_GAIN_CLAMP_COUNT 0).wr (P.cal g) F.CAL_DEF_MARKED_COUNT 0

theorem calCmd_starts {n c : Nat} (hc : c ∈ [1, 2, 4]) (hn : n % 8 = c) (hs : m.flag (P.cal g) F.CAL_STAT_SUMS_VALID = true)
    (hl : m.tableLocked g = false) (hb : m.flag (P.cal g) F.CAL_STAT_BUSY = false) : m.calCmd g n = m.buildStarted g c := by
  have hone : popcount 3 c = 1 ∧ c ≠ 0 := by
    simp only [List.mem_cons, List.not_mem_nil, or_false] at hc
    rcases hc with rfl | rfl | rfl <;> decide
  simp [calCmd, hn, hone.1, hone.2, hs, hl, hb, buildStarted]

theorem buildStarted_tile (m : Mach) (g c t : Nat) : (m.buildStarted g c).tile t = m.tile t := by
  simp only [buildStarted, wr_tile, setWord_tile]

/-! ### The DARK build (R258) -/

theorem el_setEl_ne (m : Mach) {pk a i pk' a' i' : Nat} (v : Nat) (h : elKey pk' a' i' ≠ elKey pk a i) :
    (m.setEl pk a i v).el pk' a' i' = m.el pk' a' i' := Store.get_set_ne _ _ _ _ h

/-- Weight and weighted sum of element `e`. -/
def sumW (m : Mach) (g e : Nat) : Nat := bits (m.el (P.cal g) 0 e) 23 0
def sumS (m : Mach) (g e : Nat) : Nat := bits (m.el (P.cal g) 0 e) 63 24

/-- Entry `e` with the rounded mean of its sums as its dark value. -/
def darkEntry (m : Mach) (g e : Nat) : Nat :=
  putBits (m.entry g e) 15 0 (min ((2 * m.sumS g e + m.sumW g e) / (2 * m.sumW g e)) 32767)

/-- What a DARK build of elements below `2 ^ 24` without bit errors keeps, with the elements of `done` written. -/
structure DarkBuilt (g : Nat) (done : Nat → Prop) (m m' : Mach) : Prop where
  rest : { m' with regs := m.regs, arr := m.arr } = m
  word : ∀ pk off, off < 4096 → ¬ (pk = P.cal g ∧ off = 0x070) → m'.word pk off = m.word pk off
  sums : ∀ e, e < 2 ^ 24 → m'.el (P.cal g) 0 e = m.el (P.cal g) 0 e
  ecc : ∀ e, m'.ecc g e = 0
  written : ∀ e, e < 2 ^ 24 → done e → 0 < m.sumW g e → m'.entry g e = m.darkEntry g e % 2 ^ 74
  kept : ∀ e, e < 2 ^ 24 → ¬ done e → m'.entry g e = m.entry g e

theorem buildOne_dark {e : Nat} (he : m.ecc g e = 0) : m.buildOne g 1 e =
    if m.sumW g e = 0 then m.inc (P.cal g) F.CAL_NOSAMP_COUNT else m.writeEntry g e (m.darkEntry g e) := by
  have hread : m.readEntry g e = m := by simp [readEntry, he]
  unfold buildOne
  simp only [hread, usable, he]
  by_cases hw : m.sumW g e = 0
  · have hw' : bits (m.el (P.cal g) 0 e) 23 0 = 0 := hw
    simp [hw, hw']
  · have hw' : ¬ bits (m.el (P.cal g) 0 e) 23 0 = 0 := hw
    simp [hw, hw']
    rfl

/-- An entry written: what it leaves of the table's elements, its bit errors and the sums. -/
theorem writeEntry_el {e v : Nat} (he : e < 2 ^ 24) : (m.writeEntry g e v).entry g e = v % 2 ^ 74 ∧
    (∀ j, j < 2 ^ 24 → j ≠ e → (m.writeEntry g e v).entry g j = m.entry g j) ∧
    (∀ j, m.ecc g j = 0 → (m.writeEntry g e v).ecc g j = 0) ∧
    (∀ j, j < 2 ^ 24 → (m.writeEntry g e v).el (P.cal g) 0 j = m.el (P.cal g) 0 j) := by
  have hpage : P.cal g = P.shd g + 2 := by simp only [P.cal, P.shd, pageKey]; omega
  have hecc : eccArr = 13 := rfl
  refine ⟨?_, fun j hj hne => ?_, fun j hj => ?_, fun j hj => ?_⟩
  · rw [writeEntry, entry, el_setEl_ne _ _ (by simp only [elKey, hecc]; omega), el_setEl_same]
  · rw [writeEntry, entry, el_setEl_ne _ _ (by simp only [elKey, hecc]; omega), el_setEl_ne _ _ (by simp only [elKey]; omega), entry]
  · by_cases hje : j = e
    · rw [writeEntry, ecc, hje, el_setEl_same]
    · rw [writeEntry, ecc, el_setEl_ne _ _ (by simp only [elKey, hecc]; omega), el_setEl_ne _ _ (by simp only [elKey, hecc]; omega)]
      exact hj
  · rw [writeEntry, el_setEl_ne _ _ (by simp only [elKey, hecc, hpage]; omega), el_setEl_ne _ _ (by simp only [elKey, hpage]; omega)]

namespace DarkBuilt
variable {m' : Mach} {n : Nat}

theorem refl (he : ∀ e, m.ecc g e = 0) : DarkBuilt g (· < 0) m m :=
  ⟨rfl, fun _ _ _ _ => rfl, fun _ _ => rfl, he, fun e _ h => absurd h (Nat.not_lt_zero e), fun _ _ _ => rfl⟩

theorem sumW (h : DarkBuilt g (· < n) m m') {e : Nat} (he : e < 2 ^ 24) : m'.sumW g e = m.sumW g e := by rw [Mach.sumW, h.sums e he, Mach.sumW]

theorem sumS (h : DarkBuilt g (· < n) m m') {e : Nat} (he : e < 2 ^ 24) : m'.sumS g e = m.sumS g e := by rw [Mach.sumS, h.sums e he, Mach.sumS]

theorem darkEntry (h : DarkBuilt g (· < n) m m') (hn : n < 2 ^ 24) : m'.darkEntry g n = m.darkEntry g n := by
  rw [Mach.darkEntry, h.kept n hn (Nat.lt_irrefl n), h.sumW hn, h.sumS hn, Mach.darkEntry]

/-- The element after those done is built. -/
theorem step (h : DarkBuilt g (· < n) m m') (hn : n < 2 ^ 24) : DarkBuilt g (· < n + 1) m (m'.buildOne g 1 n) := by
  rw [buildOne_dark (h.ecc n), h.sumW hn, h.darkEntry hn]
  by_cases hw : m.sumW g n = 0
  · rw [if_pos hw]
    refine ⟨h.rest, fun pk off ho hne => ?_, h.sums, h.ecc, fun e he hd hpos => h.written e he ?_ hpos, fun e he hd => h.kept e he (by omega)⟩
    · have hoff : F.CAL_NOSAMP_COUNT.off = 0x070 := rfl
      rw [inc, incBy, word_wr_off _ _ (by decide) ho (by rw [← not_and_or, hoff]; exact hne)]
      exact h.word pk off ho hne
    · have hne : e ≠ n := fun hen => by subst hen; omega
      omega
  · rw [if_neg hw]
    obtain ⟨hsame, hother, hecc, hsums⟩ := writeEntry_el (m := m') (g := g) (v := m.darkEntry g n) hn
    refine ⟨h.rest, h.word, fun e he => (hsums e he).trans (h.sums e he), fun e => hecc e (h.ecc e), fun e he hd hpos => ?_, fun e he hd => ?_⟩
    · by_cases hen : e = n
      · rw [hen, hsame]
      · rw [hother e he hen]
        exact h.written e he (by omega) hpos
    · rw [hother e he (by omega)]
      exact h.kept e he (by omega)

end DarkBuilt

theorem darkBuilt_foldl (he : ∀ e, m.ecc g e = 0) {n : Nat} (hn : n ≤ 2 ^ 24) :
    DarkBuilt g (· < n) m ((List.range n).foldl (fun m e => m.buildOne g 1 e) m) := by
  induction n with
  | zero => exact .refl he
  | succ n ih =>
    rw [List.range_succ, List.foldl_append, List.foldl_cons, List.foldl_nil]
    exact (ih (by omega)).step (by omega)

/-- The end of a build of elements below `n`: the geometry of the sums taken over, DONE raised. -/
def buildEnded (m : Mach) (g n w p : Nat) : Mach :=
  ((((((m.wr (P.cal g) F.CAL_BUILD_POS_E n).wr (P.shd g) F.SHD_TBL_GEOM_W w).wr (P.shd g) F.SHD_TBL_GEOM_P p).setWord (P.cal g) 0x054 0).wr
    (P.cal g) F.CAL_STAT_BUSY 0).raise (P.cal g) 0)

theorem buildDone_dark (hb : m.flag (P.cal g) F.CAL_STAT_BUSY = true) (hk : m.word (P.cal g) 0x054 = 1) {w p : Nat}
    (hw : w = m.rd (P.cal g) F.CAL_SUMS_GEOM_W) (hp : p = m.rd (P.cal g) F.CAL_SUMS_GEOM_P) :
    m.buildDone g = ((List.range (w * p)).foldl (fun m e => m.buildOne g 1 e) m).buildEnded g (w * p) w p := by
  have hone : ((1 : Word)).toNat = 1 := rfl
  have hbit : bit 1 1 = false := by decide
  subst hw hp
  simp [buildDone, hb, buildUpTo, hk, hbit, buildEnded]

section
variable (m : Mach) (g n : Nat) {w p : Nat}

theorem buildEnded_busy : (m.buildEnded g n w p).flag (P.cal g) F.CAL_STAT_BUSY = false := by
  rw [buildEnded, flag_raise_off _ (by decide) (.inr (by decide))]
  exact flag_wr_same _ _ false rfl (by decide)

theorem buildEnded_command : (m.buildEnded g n w p).word (P.cal g) 0x054 = 0 := by
  rw [buildEnded, word_raise_off _ (by decide) (.inr (by decide)), word_wr_off _ _ (by decide) (by decide) (.inr (by decide)), word_setWord_same]

theorem shd_ne_cal (g : Nat) : P.shd g ≠ P.cal g := by simp only [P.shd, P.cal, pageKey]; omega

theorem buildEnded_geom (hw : w < 2 ^ 17) (hp : p < 2 ^ 3) : (m.buildEnded g n w p).rd (P.shd g) F.SHD_TBL_GEOM_W = w ∧
    (m.buildEnded g n w p).rd (P.shd g) F.SHD_TBL_GEOM_P = p := by
  have hcal : ∀ f : Field, f.off < 4096 → (m.buildEnded g n w p).rd (P.shd g) f =
      (((m.wr (P.cal g) F.CAL_BUILD_POS_E n).wr (P.shd g) F.SHD_TBL_GEOM_W w).wr (P.shd g) F.SHD_TBL_GEOM_P p).rd (P.shd g) f := fun f ho => by
    rw [buildEnded, rd_raise_off _ ho (.inl (shd_ne_cal g)), rd_wr_off _ _ (by decide) ho (.inl (shd_ne_cal g)),
      rd_setWord_off _ _ (by decide) ho (.inl (shd_ne_cal g))]
  refine ⟨?_, ?_⟩
  · rw [hcal _ (by decide), rd_wr_apart (f := F.SHD_TBL_GEOM_P) (f' := F.SHD_TBL_GEOM_W) _ _ _ (by decide) (by decide) rfl (by decide),
      rd_wr_same _ _ _ (by decide) (by decide)]
    exact Nat.mod_eq_of_lt hw
  · rw [hcal _ (by decide), rd_wr_same _ _ _ (by decide) (by decide)]
    exact Nat.mod_eq_of_lt hp

theorem buildEnded_word {pk off : Nat} (ho : off < 4096) (hc : pk ≠ P.cal g) (hs : ¬ (pk = P.shd g ∧ off = 0x104)) :
    (m.buildEnded g n w p).word pk off = m.word pk off := by
  have hs' : pk ≠ P.shd g ∨ off ≠ 0x104 := not_and_or.1 hs
  rw [buildEnded, word_raise_off _ ho (.inl hc), word_wr_off _ _ (by decide) ho (.inl hc), word_setWord_off _ _ (by decide) ho (.inl hc),
    word_wr_off _ _ (by decide) ho hs', word_wr_off _ _ (by decide) ho hs', word_wr_off _ _ (by decide) ho (.inl hc)]

theorem buildEnded_rest : (m.buildEnded g n w p).arr = m.arr ∧ (m.buildEnded g n w p).dram = m.dram ∧
    (m.buildEnded g n w p).clus = m.clus ∧ (m.buildEnded g n w p).tiles = m.tiles := by
  simp only [buildEnded, raise_arr, raise_dram, raise_clus, raise_tiles, wr_arr, wr_dram, wr_clus, wr_tiles, setWord_arr, setWord_dram,
    setWord_clus, setWord_tiles, and_self]

end
end
end Mach

/-- A command written to CAL.CMD while a build may start starts it. -/
theorem buildWrite {s : State} {p : Port} {g : Fin 16} {v : Word} {c : Nat} (h : s.start.writable p (g.val / 2) (0x14 + g.val % 2) 0x054 = true)
    (hc : c ∈ [1, 2, 4]) (hv : v.toNat % 8 = c) (hs : s.start.flag (P.cal g) F.CAL_STAT_SUMS_VALID = true)
    (hl : s.start.tableLocked g = false) (hb : s.start.flag (P.cal g) F.CAL_STAT_BUSY = false) :
    s.effect (fun m => m.portWrite p (regAddr (g.val / 2) (0x14 + g.val % 2) 0x054) v) = .next (s.settled (s.start.buildStarted g c)) := by
  have hrow : (rowOf (pageKey 0 (0x14 + g.val % 2)) 0x054).isSome = true := by
    rcases Nat.mod_two_eq_zero_or_one g.val with h | h <;> rw [h] <;> decide
  exact effect_tileWrite h (by omega) (by omega) (by decide) (by decide) (by decide) hrow (by omega)
    ((s.start.blockWrite_cal g 0x054 v).trans (congrArg some (Mach.calCmd_starts hc hv hs hl hb)))
    (congrArg TileSt.dormant (Mach.buildStarted_tile _ _ _ _))

/-- Settles O40. -/
theorem tableBuilds : Obligations.TableBuilds := by
  refine ⟨fun s p g v i c h hv hi hs hl hb => ?_, fun s g hb hk he => ?_⟩
  case refine_1 =>
    have hor : ∀ k : Word, (v ||| k).toNat % 8 = k.toNat % 8 := fun k => by
      rw [BitVec.toNat_or, show 8 = 2 ^ 3 from rfl, Nat.or_mod_two_pow, show v.toNat % 2 ^ 3 = 0 from hv, Nat.zero_or]
    simp only [List.mem_cons, Prod.mk.injEq, List.not_mem_nil, or_false] at hi
    rcases hi with ⟨rfl, rfl⟩ | ⟨rfl, rfl⟩ | ⟨rfl, rfl⟩
    · exact buildWrite h (by decide) (hor 1) hs hl hb
    · exact buildWrite h (by decide) (hor 2) hs hl hb
    · exact buildWrite h (by decide) (hor 4) hs hl hb
  case refine_2 =>
    obtain ⟨w, hw⟩ : ∃ w, w = s.start.rd (P.cal g) F.CAL_SUMS_GEOM_W := ⟨_, rfl⟩
    obtain ⟨p, hp⟩ : ∃ p, p = s.start.rd (P.cal g) F.CAL_SUMS_GEOM_P := ⟨_, rfl⟩
    have hwlt : w < 2 ^ 17 := hw ▸ bits_lt _ _ _
    have hplt : p < 2 ^ 3 := hp ▸ bits_lt _ _ _
    have hn : w * p < 2 ^ 24 := lt_of_lt_of_le (Nat.mul_lt_mul'' hwlt hplt) (by decide)
    have hbuilt := Mach.darkBuilt_foldl he (Nat.le_of_lt hn)
    refine ⟨_, effect_next (f := fun m => m.buildDone g) (Mach.buildDone_dark hb hk hw hp), ?_⟩
    rw [← hw, ← hp]
    generalize (List.range (w * p)).foldl (fun m e => m.buildOne g 1 e) s.start = b at hbuilt
    obtain ⟨hrest, hword, -, -, hwritten, -⟩ := hbuilt
    obtain ⟨harr, hdram, hclus, htiles⟩ := b.buildEnded_rest g (w * p) (w := w) (p := p)
    obtain ⟨hgw, hgp⟩ := b.buildEnded_geom g (w * p) hwlt hplt
    refine ⟨Mach.buildEnded_busy _ _ _, Mach.buildEnded_command _ _ _, Mach.raise_testBit _ _ (by decide), hgw, hgp, ?_, ?_, ?_,
      fun pk off ho hc hs => (Mach.buildEnded_word _ _ _ ho hc hs).trans (hword pk off ho fun h => hc h.1), fun e he hpos => ?_⟩
    · rw [hdram, ← hrest]
    · rw [hclus, ← hrest]
    · rw [htiles, ← hrest]
    · rw [Mach.entry, Mach.el, harr]
      exact hwritten e (by omega) he hpos

end Sys2Proof.Machine

/-!
PROOFS. Stages 7 to 9 of the pixel path (R267–R292): lines taken, overlaps, time-outs, end-of-deal notices, tricks written, the check lane.
-/

namespace Sys2Proof.Machine
namespace Mach

/-! ### Seams -/

/-- A change of one seam of a cluster. -/
def onSeam (d : Side) (f : SeamSt → SeamSt) (c : Cluster) : Cluster :=
  match d with
  | .left => { c with seamL := f c.seamL }
  | .right => { c with seamR := f c.seamR }

section
variable {m : Mach} {g : Nat} {d : Side} {f : SeamSt → SeamSt}

theorem modSeam_eq (m : Mach) (g : Nat) (d : Side) (f : SeamSt → SeamSt) : m.modSeam g d f = m.modClu g (onSeam d f) := by cases d <;> rfl

/-- What a change of a seam keeps of a cluster beside its seams. -/
theorem clu_modSeam_congr {β : Type} (v : Cluster → β) (hv : ∀ c, v (onSeam d f c) = v c) (j : Nat) : v ((m.modSeam g d f).clu j) = v (m.clu j) := by
  rw [modSeam_eq, clu_modClu_congr v m g j hv]

theorem seam_modSeam_same (hg : g < 16) : (m.modSeam g d f).seam g d = f (m.seam g d) := by
  have hclu : (m.modSeam g d f).clu g = onSeam d f (m.clu g) := by rw [modSeam_eq, clu_modClu_same _ _ hg]
  cases d <;> simp only [seam, hclu, onSeam]

theorem wasPassed_modSeam (k : Nat) : (m.modSeam g d f).wasPassed g k = m.wasPassed g k := by
  have hp := clu_modSeam_congr (m := m) (g := g) (d := d) (f := f) Cluster.passed (fun c => by cases d <;> rfl) g
  rw [wasPassed, hp, wasPassed]

theorem inMeld_modSeam : ((m.modSeam g d f).clu g).inMeld = (m.clu g).inMeld :=
  clu_modSeam_congr Cluster.inMeld (fun c => by cases d <;> rfl) g

theorem inBuffer_modSeam (hg : g < 16) (hf : ∀ y, (f y).buf = y.buf) : (m.modSeam g d f).inBuffer g d = m.inBuffer g d := by
  simp only [inBuffer, seam_modSeam_same hg, hf, wasPassed_modSeam]

/-- Where the slots of the meld buffers lie, and how large they are, the registers say. -/
theorem slot_congr {m' : Mach} (h : m'.regs = m.regs) (g : Nat) (d : Side) : m'.slotBytes g d = m.slotBytes g d ∧
    (∀ k, m'.slotAddr g d k = m.slotAddr g d k) ∧ m'.ringLines (g / 2) = m.ringLines (g / 2) := by
  have hrd : ∀ pk x, m'.rd pk x = m.rd pk x := fun pk x => by rw [rd, rd, word, word, h]
  have hflag : ∀ pk x, m'.flag pk x = m.flag pk x := fun pk x => by rw [flag, flag, hrd]
  have hbytes : ∀ g d, m'.slotBytes g d = m.slotBytes g d := fun g d => by simp only [slotBytes, phases, ovl, hrd]
  have howns : ∀ g d, m'.ownsSeam g d = m.ownsSeam g d := fun g d => by simp only [ownsSeam, hasSeam, meldOn, hflag]
  have hlines : m'.ringLines (g / 2) = m.ringLines (g / 2) := by rw [ringLines, ringLines, hrd]
  exact ⟨hbytes g d, fun k => by simp only [slotAddr, meldBuf, howns, hbytes, hlines, hrd], hlines⟩

theorem dramWrite_free (bs : List Byte) : ∀ (m : Mach) (t f : Nat), (m.dramWrite t f bs).free = m.free := by
  induction bs with
  | nil => exact fun m t f => rfl
  | cons b bs ih => exact fun m t f => ih _ t (f + 1)

/-! ### Lines and overlaps (R267, R274–R278) -/

theorem tryForm_idle {tmo : Bool} (h : (m.clu g).inMeld = none) : m.tryForm g tmo = m := by simp [tryForm, h]

/-- A line that waits for the samples of a seam stays in stage 7. -/
theorem tryForm_waits {l : OutLine} (hl : (m.clu g).inMeld = some l) (h : m.seamReady g l.k .right l.degR false = 0) :
    m.tryForm g false = m := by
  simp [tryForm, hl, h]

theorem sendOverlap_none {l : OutLine} (h : m.hasSeam g d = false ∨ m.ownsSeam g d = true) : m.sendOverlap g l d = m := by
  rcases h with h | h <;> simp [sendOverlap, h]

section
variable {x : Overlap} {r : List Overlap} (hx : (m.seam g d).flight = x :: r)
include hx

theorem overlapArrival_degraded (hdeg : m.degraded g d = true) : m.overlapArrival g d = ((m.modSeam g d fun y => { y with flight := r }).inc
    (P.meld (g / 2)) (F.MELD_LATE_DISCARD_COUNT.nth (g % 2))).raise (P.meld (g / 2)) 3 := by
  have hdeg' : (m.modSeam g d fun y => { y with flight := r }).degraded g d = true := (modClu_flag _ _ _ _ _).trans hdeg
  simp [overlapArrival, hx, hdeg']

variable (hdeg : m.degraded g d = false) (hpass : m.wasPassed g x.k = false) (hidle : (m.clu g).inMeld = none) (hg : g < 16)
include hdeg hpass hidle hg

theorem overlapArrival_overflow (ho : ((m.inBuffer g d).any fun y => decide (y.k % m.ringLines (g / 2) = x.k % m.ringLines (g / 2))) = true) :
    m.overlapArrival g d = ((((m.modSeam g d fun y => { y with flight := r }).inc (P.meld (g / 2)) (F.MELD_OVF_COUNT.nth (g % 2))).raise
      (P.meld (g / 2)) 2).modSeam g d fun y => { y with ovf := some x.k }) := by
  have hdeg' : (m.modSeam g d fun y => { y with flight := r }).degraded g d = false := (modClu_flag _ _ _ _ _).trans hdeg
  have hbuf := inBuffer_modSeam (m := m) (d := d) (f := fun y => { y with flight := r }) hg fun _ => rfl
  have hlines : (m.modSeam g d fun y => { y with flight := r }).ringLines (g / 2) = m.ringLines (g / 2) := rfl
  have hcond : ¬ ((m.modSeam g d fun y => { y with flight := r }).degraded g d ||
      (m.modSeam g d fun y => { y with flight := r }).wasPassed g x.k) = true := by rw [hdeg', wasPassed_modSeam, hpass]; simp
  unfold overlapArrival
  rw [hx]
  dsimp only
  rw [if_neg hcond, hbuf, hlines, if_pos ho]
  exact tryForm_idle (inMeld_modSeam.trans ((inMeld_modSeam (f := fun y => { y with flight := r })).trans hidle))

theorem overlapArrival_stored (hempty : m.inBuffer g d = []) : m.overlapArrival g d =
    ({ (m.modSeam g d fun y => { y with flight := r }).dramWrite (g / 2) (m.slotAddr g d x.k) (m.slotFill g d) with free := m.free + 1 } : Mach).modSeam
      g d fun y => { y with buf := y.buf ++ [{ x with raw := m.slotFill g d }] } := by
  have hdeg' : (m.modSeam g d fun y => { y with flight := r }).degraded g d = false := (modClu_flag _ _ _ _ _).trans hdeg
  have hbuf := (inBuffer_modSeam (m := m) (d := d) (f := fun y => { y with flight := r }) hg fun _ => rfl).trans hempty
  have hcond : ¬ ((m.modSeam g d fun y => { y with flight := r }).degraded g d ||
      (m.modSeam g d fun y => { y with flight := r }).wasPassed g x.k) = true := by rw [hdeg', wasPassed_modSeam, hpass]; simp
  have hregs : (m.modSeam g d fun y => { y with flight := r }).regs = m.regs := rfl
  have hfill : (m.modSeam g d fun y => { y with flight := r }).slotFill g d = m.slotFill g d := by
    rw [slotFill, slotFill, (slot_congr hregs g d).1]
    rfl
  have hclus := (dramWrite_frame (m.slotFill g d) (m.modSeam g d fun y => { y with flight := r }) (g / 2) (m.slotAddr g d x.k)).2.2.2
  unfold overlapArrival
  rw [hx]
  dsimp only
  rw [if_neg hcond, hbuf, List.any_nil, if_neg Bool.false_ne_true, storeSlot, hfill, (slot_congr hregs g d).2.1]
  rw [dramWrite_free, show (m.modSeam g d _).free = m.free from rfl]
  refine tryForm_idle (inMeld_modSeam.trans ?_)
  rw [clu, show (Mach.clus _) = _ from hclus]
  exact (inMeld_modSeam (f := fun y => { y with flight := r })).trans hidle

end

theorem eodNotice_taken (ho : m.ownsSeam g d = true) (hdr : (m.clu (m.partner g d)).drained = true) (hrel : (m.clu (m.partner g d)).released = [])
    (h7 : (m.clu (m.partner g d)).stage7 = false) (hfl : (m.seam g d).flight = []) (hidle : (m.clu g).inMeld = none) :
    m.eodNotice g d = m.modSeam g d fun y => { y with notice := true } := by
  simp only [eodNotice, ho, hdr, hrel, h7, hfl, List.isEmpty_nil, Bool.not_false, Bool.and_self, if_true]
  exact tryForm_idle (inMeld_modSeam.trans hidle)


/-! ### A line that the time-out forms (R278) -/

/-- What the writing of a line's tricks keeps: DRAM, the line's place in the order of its cluster, and its count of late lines, once one
was. -/
structure KeepsLine (g : Nat) (m m' : Mach) : Prop where
  dram : m'.dram = m.dram
  passed : (m'.clu g).passed = (m.clu g).passed
  stage7 : (m'.clu g).stage7 = (m.clu g).stage7
  late : m.word (P.meld (g / 2)) (F.MELD_LATE_COUNT.nth (g % 2)).off ≠
      resetWord (P.meld (g / 2) * 4096 + (F.MELD_LATE_COUNT.nth (g % 2)).off) →
    m'.word (P.meld (g / 2)) (F.MELD_LATE_COUNT.nth (g % 2)).off = m.word (P.meld (g / 2)) (F.MELD_LATE_COUNT.nth (g % 2)).off

theorem logPackage_clus (m : Mach) (r : FaultRec) : (m.logPackage r).clus = m.clus := by
  obtain ⟨l, hl⟩ := m.logPackage_eq r
  rw [hl, countRecord]
  split
  · simp only [raise_clus, inc_clus, incW, wr_clus]
  · simp only [wr_clus, raise_clus, incW]

theorem logSegment_clus (m : Mach) (t : Nat) (r : FaultRec) : (m.logSegment t r).clus = m.clus := by
  unfold logSegment
  split
  · exact logPackage_clus _ r
  · exact logPackage_clus m r

theorem lateCount_off (g : Nat) : (F.MELD_LATE_COUNT.nth (g % 2)).off < 4096 := by
  simp only [Field.nth_off, F.MELD_LATE_COUNT]
  omega

/-- The tricks of a tile touch every page but MELD. -/
theorem keepsLine_closed (hg : g < 16) : QueueClosed (KeepsLine g) (fun pk => pk ≠ P.meld (g / 2)) (g / 2) := by
  have hlow : P.meld (g / 2) < 14 * 256 := by rw [P.meld, pageKey]; omega
  have hword := queueClosed_word (C := fun pk => pk ≠ P.meld (g / 2)) (t := g / 2) (not_not.2 rfl) (lateCount_off g) hlow
  exact {
    refl := fun m => ⟨rfl, rfl, rfl, fun _ => rfl⟩
    trans := fun h k => ⟨k.dram.trans h.dram, k.passed.trans h.passed, k.stage7.trans h.stage7, hword.trans h.late k.late⟩
    setWord := fun hc ho m w => ⟨rfl, rfl, rfl, hword.setWord hc ho m w⟩
    modTile := fun m _ hf => ⟨rfl, rfl, rfl, hword.modTile m hf⟩
    log := fun m r => ⟨(queueClosed_dram (g / 2)).log m r, by rw [clu, clu, logSegment_clus], by rw [clu, clu, logSegment_clus], hword.log m r⟩ }

namespace KeepsLine
variable (hg : g < 16)

theorem modClu (m : Mach) (g j : Nat) {f : Cluster → Cluster} (hp : ∀ c, (f c).passed = c.passed) (h7 : ∀ c, (f c).stage7 = c.stage7) :
    KeepsLine g m (m.modClu j f) :=
  ⟨rfl, clu_modClu_congr Cluster.passed m j g hp, clu_modClu_congr Cluster.stage7 m j g h7, fun _ => rfl⟩

theorem modTile (m : Mach) (g t : Nat) (f : TileSt → TileSt) : KeepsLine g m (m.modTile t f) := ⟨rfl, rfl, rfl, fun _ => rfl⟩

include hg

theorem trans {a b c : Mach} (h : KeepsLine g a b) (k : KeepsLine g b c) : KeepsLine g a c := (keepsLine_closed hg).trans h k

/-- A word of page OUTF, or of those after it. -/
theorem setOutf (m : Mach) (off : Nat) (w : Word) : KeepsLine g m (m.setWord (P.outf (g / 2)) off w) :=
  (keepsLine_closed hg).setWord_up (fun k => by simp only [P.outf, P.meld, pageKey]; omega) off m w

theorem incOutf (m : Mach) (f : Field) : KeepsLine g m (m.incW (P.outf (g / 2)) f) := setOutf hg m _ _

omit hg in
theorem pages (g : Nat) : QueuePages (fun pk => pk ≠ P.meld (g / 2)) (g / 2) := by
  constructor <;> simp only [P.que, P.kitty, P.dram, P.decl, P.meld, pageKey] <;> omega

theorem useQueue (m : Mach) (n : Nat) : KeepsLine g m (m.useQueue (g / 2) n) :=
  (keepsLine_closed hg).useQueue (pages g) m (.inr fun k => by simp only [P.que, P.meld, pageKey]; omega)

theorem putTrick (m : Mach) (n r prod : Nat) (tr : Trick) : KeepsLine g m (m.putTrick (g / 2) n r prod tr) :=
  have hopen := trans hg (useQueue hg m n) ((keepsLine_closed hg).openRaw _ n r prod tr)
  trans hg hopen (trans hg (useQueue hg _ n) ((keepsLine_closed hg).closeRaw _ n))

theorem strDeal (m : Mach) (n d : Nat) : KeepsLine g m (m.strDeal (g / 2) n d) := by
  unfold Mach.strDeal
  split
  · exact (keepsLine_closed hg).refl m
  · exact trans hg (modTile m g _ _) (setOutf hg _ _ _)

theorem writeTrick (m : Mach) (d : Nat) (x : OutTrick) : KeepsLine g m (m.writeTrick (g / 2) d x) := by
  have hput := trans hg (trans hg (putTrick hg m x.n (mostCells x.trick (!x.eod)) 0 x.trick) (incOutf hg _ (F.OUTF_STR_TRICKS_COUNT.nth x.n))) (strDeal hg _ x.n d)
  unfold Mach.writeTrick
  dsimp only
  split
  · exact hput
  · split
    · exact trans hg hput (modTile _ g _ _)
    · exact trans hg hput (trans hg (modTile _ g _ _) (trans hg (modTile _ g _ _) (setOutf hg _ _ _)))

theorem writeOut (fuel : Nat) (m : Mach) : KeepsLine g m (m.writeOut g fuel) := by
  induction fuel generalizing m with
  | zero => exact (keepsLine_closed hg).refl m
  | succ fuel ih =>
    unfold Mach.writeOut
    split
    · exact (keepsLine_closed hg).refl m
    next x r _ =>
      have huse := useQueue hg m x.n
      dsimp only
      split
      · exact trans hg huse (trans hg (trans hg (writeTrick hg _ _ x) (modClu _ g g (fun _ => by rfl) fun _ => by rfl)) (ih _))
      · split
        · exact huse
        · exact trans hg huse (trans hg (trans hg (setOutf hg _ _ _) (setOutf hg _ _ _)) (modClu _ g g (fun _ => by rfl) fun _ => by rfl))

theorem pump (m : Mach) : KeepsLine g m (m.pump g) := by
  have hidle : ∀ a : Mach, KeepsLine g a (if ((a.clu g).outTricks.isEmpty && !(a.clu g).stage7) = true then
      a.modClu g fun s => { s with inMeld := none, creditWait := false } else a) := fun a => by
    split
    · exact modClu a g g (fun _ => by rfl) fun _ => by rfl
    · exact (keepsLine_closed hg).refl a
  have hend : ∀ b : Mach, KeepsLine g b (
      if ((b.clu g).eodDue && (b.clu g).released.isEmpty && (b.clu g).inMeld.isNone && (b.clu g).outTricks.isEmpty) = true then
        let a := (b.streamsOf g).foldl (fun m n => m.strDeal (g / 2) n (m.clu g).dealId) b
        let tr := (a.streamsOf g).map fun n => a.eodTrick g n (b.endOf g).1 (b.endOf g).2
        (a.modClu g fun s => { s with eodDue := false, outTricks := tr }).writeOut g (tr.length + 1)
      else b) := fun b => by
    split
    · have hdeal : KeepsLine g b ((b.streamsOf g).foldl (fun m n => m.strDeal (g / 2) n (m.clu g).dealId) b) :=
        (keepsLine_closed hg).foldl _ (fun a n _ => strDeal hg a n _) b
      exact trans hg (trans hg hdeal (modClu _ g g (fun _ => by rfl) fun _ => by rfl)) (writeOut hg _ _)
    · exact (keepsLine_closed hg).refl b
  exact trans hg (trans hg (writeOut hg ((m.clu g).outTricks.length + 1) m) (hidle _)) (hend _)

theorem emptySeams (m : Mach) : KeepsLine g m (m.emptySeams g) := by
  unfold Mach.emptySeams
  split
  · exact modClu m g g (fun _ => by rfl) fun _ => by rfl
  · exact (keepsLine_closed hg).refl m

/-- A failure of the check lane. -/
theorem checkFail (m : Mach) (p s k : Nat) (point : Bool) (a b : Nat) : KeepsLine g m (m.checkFail g p s k point a b) := by
  have hchk : P.chk (g / 2) ≠ P.meld (g / 2) := by simp only [P.chk, P.meld, pageKey]; omega
  have hcount : ∀ (a : Mach) (f : Field) (b : Nat), f.off < 4096 → KeepsLine g a ((a.inc (P.chk (g / 2)) f).raise (P.chk (g / 2)) b) :=
    fun a f b ho => trans hg ((keepsLine_closed hg).inc hchk ho a) ((keepsLine_closed hg).raise hchk _ b)
  have hentry : ∀ (a : Mach) (r : List Nat), KeepsLine g a (if 16 ≤ (a.tile (g / 2)).chkFifo.length then
      (a.inc (P.chk (g / 2)) F.CHK_REC_LOST_COUNT).raise (P.chk (g / 2)) 1
      else a.modTile (g / 2) fun ts => { ts with chkFifo := ts.chkFifo ++ [r] }) := fun a r => by
    split
    · exact hcount a _ 1 (by decide)
    · exact modTile a g _ _
  have hlog : ∀ (a : Mach) (d : Nat), KeepsLine g a (if (a.flag (P.chk (g / 2)) F.CHK_CFG_LOG && !(a.clu g).chkLogged.contains k) = true then
      (a.modClu g fun c => { c with chkLogged := c.chkLogged ++ [k] }).record (g / 2) 0x07 g p 0 d else a) := fun a d => by
    split
    · exact trans hg (modClu a g g (fun _ => by rfl) fun _ => by rfl) ((keepsLine_closed hg).record (pages g) _ _ _ _ _ _)
    · exact (keepsLine_closed hg).refl a
  exact trans hg (trans hg (hcount m F.CHK_FAILS_COUNT 0 (by decide)) (hentry _ _)) (hlog _ _)

theorem formatLine (m : Mach) (l : OutLine) (planes : List (List Px)) (lo hi flags : Nat) :
    KeepsLine g m (m.formatLine g l planes lo hi flags) := by
  have hfail : ∀ (a : Mach) (p k : Nat) (us : List Upset) (lane : Nat → Nat), KeepsLine g a (a.failPx g p k us lane) := fun a p k us lane =>
    (keepsLine_closed hg).foldl _ (fun a u _ => checkFail hg a _ _ _ _ _ _) a
  have hinject : ∀ (a : Mach) (e : Option (Nat × Nat × Nat)) (v : Nat → Nat → Nat → Nat), KeepsLine g a (match e with
      | none => a
      | some (n, p, s) => (a.wr (P.chk (g / 2)) F.CHK_INJECT_ONCE 0).checkFail g p s l.k true ((v n p s ^^^ 1) * 65536 + v n p s) 0) := by
    intro a e v
    cases e with
    | none => exact (keepsLine_closed hg).refl a
    | some e => exact trans hg ((keepsLine_closed hg).wr (by simp only [P.chk, P.meld, pageKey]; omega) (by decide) a 0) (checkFail hg _ _ _ _ _ _ _)
  unfold Mach.formatLine upsetsDone
  exact trans hg (trans hg (trans hg (modClu m g g (fun _ => by rfl) fun _ => by rfl) (hinject _ _ _))
    ((keepsLine_closed hg).foldl _ (fun a e _ => (keepsLine_closed hg).foldl _ (fun a u _ => hfail a _ _ _ _) a) _))
    (modClu _ g g (fun _ => by rfl) fun _ => by rfl)

end KeepsLine

/-- A late line is counted, as a degraded one is. -/
def lateCounted (m : Mach) (g : Nat) (l : OutLine) : Mach :=
  let deg := (m.hasSeam g .left && l.degL) || (m.hasSeam g .right && l.degR)
  let m := (m.inc (P.meld (g / 2)) (F.MELD_LATE_COUNT.nth (g % 2))).raise (P.meld (g / 2)) 0
  if !deg then m else
  let m := m.inc (P.meld (g / 2)) (F.MELD_DEG_LINES_COUNT.nth (g % 2))
  if (m.clu g).degShown then m else (m.raise (P.meld (g / 2)) 1).modClu g fun s => { s with degShown := true }

/-- A seam without the samples of lines up to `k`. -/
def usedUp (k : Nat) (y : SeamSt) : SeamSt := { y with buf := y.buf.filter fun x => decide (k < x.k) }

/-- A cluster whose stage 7 has passed line `k`. -/
def linePassed (k : Nat) (c : Cluster) : Cluster := { c with passed := some (max k (c.passed.getD 0)), stage7 := false }

/-- A late line as stage 7 leaves it, before it is formatted. -/
def lateFormed (m : Mach) (g : Nat) (l : OutLine) : Mach :=
  ((((m.lateCounted g l).modSeam g .left (usedUp l.k)).modSeam g .right (usedUp l.k)).modClu g (linePassed l.k)).passDropped g

theorem readSlot_unmarked (h : m.dramMark = []) (k : Nat) (deg : Bool) : m.readSlot g k d deg = m := by
  unfold readSlot
  split
  · simp [dramCheck, h]
  · rfl

/-- With no word of DRAM marked, a line formed late is `lateFormed`, formatted and written. -/
theorem formLine_late (h : m.dramMark = []) (l : OutLine) : ∃ planes lo hi flags,
    m.formLine g l true = (((m.lateFormed g l).formatLine g l planes lo hi flags).emptySeams g).pump g := by
  unfold formLine
  dsimp only
  rw [readSlot_unmarked h, readSlot_unmarked h, if_pos rfl]
  exact ⟨_, _, _, _, rfl⟩

/-- What a late line leaves of DRAM and of its cluster, and the count it makes. -/
structure CountedLate (g : Nat) (m a : Mach) : Prop where
  dram : a.dram = m.dram
  passed : (a.clu g).passed = (m.clu g).passed
  dropped : (a.clu g).dropped = (m.clu g).dropped
  late : a.rd (P.meld (g / 2)) (F.MELD_LATE_COUNT.nth (g % 2)) =
    min (m.rd (P.meld (g / 2)) (F.MELD_LATE_COUNT.nth (g % 2)) + 1) (2 ^ F.MELD_LATE_COUNT.width - 1)

theorem lateCounted_counts (m : Mach) (g : Nat) (l : OutLine) : CountedLate g m (m.lateCounted g l) := by
  have hpk := lateCount_off g
  have hraise : (F.MELD_LATE_COUNT.nth (g % 2)).off ≠ 0x010 := by simp only [Field.nth_off, F.MELD_LATE_COUNT]; omega
  have hfirst : CountedLate g m ((m.inc (P.meld (g / 2)) (F.MELD_LATE_COUNT.nth (g % 2))).raise (P.meld (g / 2)) 0) := by
    refine ⟨by simp only [raise_dram, inc_dram], by simp only [clu, raise_clus, inc_clus], by simp only [clu, raise_clus, inc_clus], ?_⟩
    rw [rd_raise_off _ hpk (.inr hraise), inc, incBy, rd_wr_nth_same _ _ _ _ (by decide) (by decide)]
    exact Nat.mod_eq_of_lt (show min _ (2 ^ 16 - 1) < 2 ^ 16 by omega)
  have hapart : (F.MELD_LATE_COUNT.nth (g % 2)).off ≠ (F.MELD_DEG_LINES_COUNT.nth (g % 2)).off := by
    simp only [Field.nth_off, F.MELD_LATE_COUNT, F.MELD_DEG_LINES_COUNT]; omega
  have hoff : (F.MELD_DEG_LINES_COUNT.nth (g % 2)).off < 4096 := by simp only [Field.nth_off, F.MELD_DEG_LINES_COUNT]; omega
  have hdeg : ∀ a, CountedLate g m a → CountedLate g m (a.inc (P.meld (g / 2)) (F.MELD_DEG_LINES_COUNT.nth (g % 2))) := fun a h =>
    ⟨by rw [inc_dram, h.dram], by rw [clu, inc_clus, ← clu, h.passed], by rw [clu, inc_clus, ← clu, h.dropped], by
      rw [inc, incBy, rd_wr_off _ _ hoff hpk (.inr hapart), h.late]⟩
  have hshown : ∀ a, CountedLate g m a → CountedLate g m ((a.raise (P.meld (g / 2)) 1).modClu g fun s => { s with degShown := true }) := fun a h =>
    ⟨by rw [modClu_dram, raise_dram, h.dram],
      (clu_modClu_congr Cluster.passed _ g g fun _ => by rfl).trans (by rw [clu, raise_clus, ← clu, h.passed]),
      (clu_modClu_congr Cluster.dropped _ g g fun _ => by rfl).trans (by rw [clu, raise_clus, ← clu, h.dropped]), by
      rw [modClu_rd, rd_raise_off _ hpk (.inr hraise), h.late]⟩
  unfold lateCounted
  dsimp only
  split
  · exact hfirst
  · split
    · exact hdeg _ hfirst
    · exact hshown _ (hdeg _ hfirst)

theorem lateFormed_counts (hg : g < 16) (l : OutLine) (hdrop : (m.clu g).dropped = none) :
    (m.lateFormed g l).dram = m.dram ∧ ((m.lateFormed g l).clu g).passed = some (max l.k ((m.clu g).passed.getD 0)) ∧
      ((m.lateFormed g l).clu g).stage7 = false ∧
      (m.lateFormed g l).rd (P.meld (g / 2)) (F.MELD_LATE_COUNT.nth (g % 2)) =
        min (m.rd (P.meld (g / 2)) (F.MELD_LATE_COUNT.nth (g % 2)) + 1) (2 ^ F.MELD_LATE_COUNT.width - 1) := by
  obtain ⟨hdram, hpassed, hdropped, hlate⟩ := lateCounted_counts m g l
  have hd : ∀ a : Mach, (a.clu g).dropped = none → (a.passDropped g).clu g = a.clu g := fun a ha => by
    rw [passDropped, clu_modClu_same _ _ hg, ha]
  have hseams : ∀ {β : Type} (v : Cluster → β), (∀ d f c, v (onSeam d f c) = v c) →
      v ((((m.lateCounted g l).modSeam g .left (usedUp l.k)).modSeam g .right (usedUp l.k)).clu g) = v ((m.lateCounted g l).clu g) :=
    fun v hv => (clu_modSeam_congr v (hv _ _) g).trans (clu_modSeam_congr v (hv _ _) g)
  have hp := hseams Cluster.passed fun d _ _ => by cases d <;> rfl
  have hdr := hseams Cluster.dropped fun d _ _ => by cases d <;> rfl
  have hclu : (m.lateFormed g l).clu g = linePassed l.k
      ((((m.lateCounted g l).modSeam g .left (usedUp l.k)).modSeam g .right (usedUp l.k)).clu g) := by
    rw [lateFormed, hd _ (by rw [clu_modClu_same _ _ hg]; exact hdr.trans (hdropped.trans hdrop)), clu_modClu_same _ _ hg]
  refine ⟨?_, ?_, ?_, ?_⟩
  · simp only [lateFormed, passDropped, modSeam_eq, modClu_dram, hdram]
  · rw [hclu, linePassed, hp, hpassed]
  · rw [hclu, linePassed]
  · simp only [lateFormed, passDropped, modSeam_eq, modClu_rd, hlate]

/-- The time-out forms the line that waits (R278). -/
theorem meldTimeout_forms {l : OutLine} (hl : (m.clu g).inMeld = some l) (h7 : (m.clu g).stage7 = true)
    (hwait : m.seamReady g l.k .right l.degR false = 0) : m.meldTimeout g = m.formLine g l true := by
  have hready : ∀ d deg, m.seamReady g l.k d deg true ≠ 0 := fun d deg => by
    unfold seamReady
    split
    · decide
    · dsimp only
      split
      · split <;> decide
      · simp
  have hright : m.seamReady g l.k .right l.degR true = 1 := by
    unfold seamReady at hwait ⊢
    split at hwait
    · cases hwait
    next hno =>
      rw [if_neg hno]
      dsimp only at hwait ⊢
      split at hwait
      · split at hwait <;> cases hwait
      next hno' => simp [hno']
  rw [meldTimeout, tryForm, hl]
  simp [h7, hready, hright]

theorem meldTimeout_late (hg : g < 16) {l : OutLine} (hl : (m.clu g).inMeld = some l) (h7 : (m.clu g).stage7 = true)
    (hwait : m.seamReady g l.k .right l.degR false = 0) (hmark : m.dramMark = []) (hdrop : (m.clu g).dropped = none) :
    (m.meldTimeout g).dram = m.dram ∧ ((m.meldTimeout g).clu g).passed = some (max l.k ((m.clu g).passed.getD 0)) ∧
      ((m.meldTimeout g).clu g).stage7 = false ∧ (m.meldTimeout g).rd (P.meld (g / 2)) (F.MELD_LATE_COUNT.nth (g % 2)) =
        min (m.rd (P.meld (g / 2)) (F.MELD_LATE_COUNT.nth (g % 2)) + 1) (2 ^ F.MELD_LATE_COUNT.width - 1) := by
  obtain ⟨planes, lo, hi, flags, hform⟩ := formLine_late (g := g) hmark l
  obtain ⟨hdram, hpassed, hstage, hlate⟩ := lateFormed_counts hg l hdrop
  have hkeep := KeepsLine.trans hg (KeepsLine.trans hg (KeepsLine.formatLine hg (m.lateFormed g l) l planes lo hi flags)
    (KeepsLine.emptySeams hg _)) (KeepsLine.pump hg _)
  rw [← hform] at hkeep
  rw [meldTimeout_forms hl h7 hwait]
  refine ⟨hkeep.dram.trans hdram, hkeep.passed.trans hpassed, hkeep.stage7.trans hstage, ?_⟩
  have hreset : ∀ k : Fin 16, bits (resetWord (P.meld (k / 2) * 4096 + (F.MELD_LATE_COUNT.nth (k % 2)).off)).toNat 15 0 = 0 := by decide +kernel
  have hne : (m.lateFormed g l).word (P.meld (g / 2)) (F.MELD_LATE_COUNT.nth (g % 2)).off ≠
      resetWord (P.meld (g / 2) * 4096 + (F.MELD_LATE_COUNT.nth (g % 2)).off) := fun heq => by
    have hzero : (m.lateFormed g l).rd (P.meld (g / 2)) (F.MELD_LATE_COUNT.nth (g % 2)) = 0 :=
      (congrArg (fun w : Word => bits w.toNat 15 0) heq).trans (hreset ⟨g, hg⟩)
    rw [hlate, show F.MELD_LATE_COUNT.width = 16 from rfl] at hzero
    omega
  rw [rd, hkeep.late hne, ← rd, hlate]

/-! ### Stage 9 (R288) -/

theorem queueClosed_clus (t : Nat) : QueueClosed (fun m m' => m'.clus = m.clus) (fun _ => True) t where
  refl _ := rfl
  trans hab hbc := hbc.trans hab
  setWord _ _ _ _ := rfl
  modTile _ _ _ := rfl
  log m r := logSegment_clus m t r

theorem writeTrick_clus (m : Mach) (t d : Nat) (x : OutTrick) : (m.writeTrick t d x).clus = m.clus := by
  have hR := queueClosed_clus t
  have hC : QueuePages (fun _ => True) t := ⟨trivial, trivial, trivial, trivial⟩
  have hq : x.n < 32 ∨ ∀ _ : Nat, True := .inr fun _ => trivial
  have hput : (m.putTrick t x.n (mostCells x.trick (!x.eod)) 0 x.trick).clus = m.clus :=
    hR.trans (hR.trans (hR.useQueue hC m hq) (hR.openRaw _ _ _ _ _)) (hR.trans (hR.useQueue hC _ hq) (hR.closeRaw _ _))
  have hdeal : ∀ a : Mach, (a.strDeal t x.n d).clus = a.clus := fun a => by
    unfold strDeal
    split
    · rfl
    · simp only [wr_clus, modTile_clus]
  unfold writeTrick
  dsimp only
  split
  · simp only [hdeal, incW, wr_clus, hput]
  · split <;> simp only [hdeal, incW, wr_clus, modTile_clus, hput]

/-- A line whose tricks are all written has left the stage. -/
theorem pump_done {b : Mach} (hw : m.writeOut g ((m.clu g).outTricks.length + 1) = b) (hout : (b.clu g).outTricks = [])
    (h7 : (b.clu g).stage7 = false) (heod : (b.clu g).eodDue = false) :
    m.pump g = b.modClu g fun c => { c with inMeld := none, creditWait := false } := by
  have heod' : ((b.modClu g fun c => { c with inMeld := none, creditWait := false }).clu g).eodDue = false :=
    (clu_modClu_congr Cluster.eodDue b g g fun _ => by rfl).trans heod
  unfold pump
  rw [hw]
  dsimp only
  rw [hout, h7, if_pos (show (([] : List OutTrick).isEmpty && !false) = true from rfl), heod', if_neg (by simp)]

/-- The last trick of a line is written once its queue has room, and the line leaves the stage. -/
theorem pump_last (hg : g < 16) {x : OutTrick} (hx : (m.clu g).outTricks = [x]) (h7 : (m.clu g).stage7 = false) (heod : (m.clu g).eodDue = false)
    (hsound : m.sound (g / 2) x.n = true) (hroom : mostCells x.trick (!x.eod) ≤ m.queFree (g / 2) x.n)
    (hopen : (m.queue (g / 2) x.n).opened = none) :
    m.pump g = ((m.writeTrick (g / 2) (m.clu g).dealId x).modClu g fun c => { c with outTricks := [] }).modClu g fun c =>
      { c with inMeld := none, creditWait := false } := by
  have huse : m.useQueue (g / 2) x.n = m := by
    obtain ⟨hpool, hqueue⟩ := (Bool.and_eq_true _ _).mp hsound
    rw [useQueue, checkQueue, Option.isNone_iff_eq_none.1 hpool, Option.isNone_iff_eq_none.1 hqueue]
    rfl
  have hclu : ((m.writeTrick (g / 2) (m.clu g).dealId x).modClu g fun c => { c with outTricks := [] }).clu g =
      { m.clu g with outTricks := [] } := by
    rw [clu_modClu_same _ _ hg, clu, writeTrick_clus, ← clu]
  have hwrite : m.writeOut g 2 = (m.writeTrick (g / 2) (m.clu g).dealId x).modClu g fun c => { c with outTricks := [] } := by
    unfold writeOut
    rw [hx]
    dsimp only
    rw [huse, if_pos (by simp [hroom, hopen])]
    unfold writeOut
    rw [hclu]
  refine pump_done (by rw [hx]; exact hwrite) ?_ ?_ ?_ <;> rw [hclu]
  · exact h7
  · exact heod

/-! ### The check lane (R291, R292) -/

theorem blockWrite_chk (m : Mach) (t : Fin 8) (off : Nat) (v : Word) : m.blockWrite (P.chk t) off v = m.writeChk t off v := by
  rw [blockWrite, P.chk, tileOf_pageKey _ _ (by decide), pageOf_pageKey _ _ (by decide), blockCode_tilePage _ (by omega)]
  rfl

end
end Mach

/-- A cluster's stage 7 with a line taken. -/
def Mach.lineTaken (l : OutLine) (r : List OutLine) (c : Cluster) : Cluster := { c with released := r, inMeld := some l, stage7 := true }

/-- A line that waits for the samples of its right seam is taken, and stays (R267, R274). -/
theorem Mach.takeLine_waits {m : Mach} {g : Nat} (hg : g < 16) {l : OutLine} {r : List OutLine} (hrel : (m.clu g).released = l :: r)
    (hidle : (m.clu g).inMeld = none) (hout : (m.clu g).outTricks = []) (hon : m.outputOn (g / 2) = true) (hrec : l.records = false)
    (hleft : m.hasSeam g .left = false) (hright : m.ownsSeam g .right = true) (hdeg : l.degR = false) (hnd : m.degraded g .right = false)
    (hbuf : (m.seam g .right).buf = []) (hovf : (m.seam g .right).ovf = none) (hnot : (m.seam g .right).notice = false) :
    m.takeLine g = m.modClu g (lineTaken l r) := by
  have hflag : ∀ d, (m.modClu g (lineTaken l r)).hasSeam g d = m.hasSeam g d ∧ (m.modClu g (lineTaken l r)).ownsSeam g d = m.ownsSeam g d ∧
      (m.modClu g (lineTaken l r)).degraded g d = m.degraded g d := fun d => ⟨rfl, rfl, rfl⟩
  have hseam : (m.modClu g (lineTaken l r)).seam g .right = m.seam g .right := clu_modClu_congr Cluster.seamR m g g fun _ => by rfl
  have hwait : (m.modClu g (lineTaken l r)).seamReady g l.k .right l.degR false = 0 := by
    simp [seamReady, inBuffer, hflag, hseam, hright, hdeg, hnd, hbuf, hovf, hnot]
  have hform : (m.modClu g (lineTaken l r)).tryForm g false = m.modClu g (lineTaken l r) :=
    tryForm_waits (by rw [clu_modClu_same _ _ hg]; rfl) hwait
  have hsend : ((m.modClu g (lineTaken l r)).sendOverlap g l .left).sendOverlap g l .right = m.modClu g (lineTaken l r) := by
    rw [sendOverlap_none (.inl ((hflag _).1.trans hleft)), sendOverlap_none (.inr ((hflag _).2.1.trans hright))]
  have htaken : (m.modClu g fun s => { s with released := r }).modClu g (fun s => { s with inMeld := some l, stage7 := true }) =
      m.modClu g (lineTaken l r) := modClu_modClu m g _ _
  have hout' : (m.modClu g fun s => { s with released := r }).outputOn (g / 2) = true := hon
  unfold takeLine
  rw [hrel]
  dsimp only
  rw [hidle, hout, hout', hrec, htaken, hsend, hform]
  rfl

/-- Settles O41. -/
theorem outputStages : Obligations.OutputStages := by
  unfold Obligations.OutputStages
  refine ⟨?takeLine, ?stored, ?overflow, ?degraded, ?timeout, ?notice, ?resume, ?pop, ?inject⟩
  case takeLine =>
    intro s g l r hrel hidle hout hon hrec hleft hright hdeg hnd hbuf hovf hnot
    exact effect_next (f := fun m => m.takeLine g)
      (Mach.takeLine_waits g.isLt hrel hidle hout hon hrec hleft hright hdeg hnd hbuf hovf hnot)
  case stored =>
    intro s g right x r hx hdeg hpass hbuf hidle
    refine ⟨effect_next (f := fun m => m.overlapArrival g (sideOf right)) (Mach.overlapArrival_stored hx hdeg hpass hidle g.isLt hbuf),
      fun k hk => dramWrite_other _ _ _ _ k fun j hj => hk j ?_⟩
    rwa [Mach.slotFill, List.length_map, List.length_range] at hj
  case overflow =>
    intro s g right x r hx hdeg hpass hidle ho
    exact effect_next (f := fun m => m.overlapArrival g (sideOf right)) (Mach.overlapArrival_overflow hx hdeg hpass hidle g.isLt ho)
  case degraded =>
    intro s g right x r hx hdeg
    exact effect_next (f := fun m => m.overlapArrival g (sideOf right)) (Mach.overlapArrival_degraded hx hdeg)
  case timeout =>
    intro s g l hl h7 hwait _ hmark hdrop
    obtain ⟨hdram, hpassed, hstage, hlate⟩ := Mach.meldTimeout_late g.isLt hl h7 hwait hmark hdrop
    exact ⟨s.start.meldTimeout g, rfl, hpassed, hstage, hlate, hdram⟩
  case notice =>
    intro s g right hown hdr hrel h7 hfl hidle
    exact effect_next (f := fun m => m.eodNotice g (sideOf right)) (Mach.eodNotice_taken hown hdr hrel h7 hfl hidle)
  case resume =>
    intro s g x hx h7 heod hsound hroom hopen
    exact effect_next (f := fun m => m.pump g) (Mach.pump_last g.isLt hx h7 heod hsound hroom hopen)
  case pop =>
    intro s p t v h
    have h0 : bit (v ||| 1).toNat 0 = true := (bit_or_two_pow v 0 0).trans (by simp)
    refine effect_tileWrite h (by omega) (by decide) (by decide) (by decide) (by decide) (by decide) (by omega) ?_ ?_
    · exact (s.start.blockWrite_chk t 0x088 _).trans (congrArg some (if_pos h0))
    · exact Mach.tile_modTile_congr TileSt.dormant _ _ _ fun _ => rfl
  case inject =>
    intro s p t v h
    have h0 : bit (v ||| 1).toNat 0 = true := (bit_or_two_pow v 0 0).trans (by simp)
    refine effect_tileWrite h (by omega) (by decide) (by decide) (by decide) (by decide) (by decide) (by omega) ?_ rfl
    exact (s.start.blockWrite_chk t 0x044 _).trans (congrArg some (if_pos h0))

end Sys2Proof.Machine

/-!
PROOFS. Tricks in the queues: opened, closed, delivered and replayed (R302, R304, R306, R314, R432).
-/

namespace Sys2Proof.Machine
namespace Mach
section
variable {m : Mach} {t q : Nat}

/-! ### Queues and kitties of a tile -/

theorem queue_modQueue_same (m : Mach) (f : Queue → Queue) (ht : t < 8) (hq : q < 32) : (m.modQueue t q f).queue t q = f (m.queue t q) := by
  rw [queue, modQueue, tile_modTile_same _ _ ht, vget_vmod_same _ _ _ hq, queue]

theorem queue_modQueue_ne (m : Mach) (t : Nat) (f : Queue → Queue) {k : Nat} (h : k ≠ q) : (m.modQueue t q f).queue t k = m.queue t k :=
  tile_modTile_congr (fun ts => vget ts.queues k) m t t fun ts => vget_vmod_ne ts.queues f h

/-- A change of a tile beside its queues. -/
theorem queue_modTile (m : Mach) (t u k : Nat) {f : TileSt → TileSt} (hf : ∀ ts, (f ts).queues = ts.queues) :
    (m.modTile t f).queue u k = m.queue u k :=
  tile_modTile_congr (fun ts => vget ts.queues k) m t u fun ts => by rw [hf]

theorem kit_modTile (m : Mach) (t u : Nat) {f : TileSt → TileSt} (hf : ∀ ts, (f ts).kitty = ts.kitty) : (m.modTile t f).kit u = m.kit u :=
  tile_modTile_congr TileSt.kitty m t u hf

theorem modQueue_modQueue (m : Mach) (t q : Nat) (f f' : Queue → Queue) :
    (m.modQueue t q f).modQueue t q f' = m.modQueue t q fun s => f' (f s) := by
  rw [modQueue, modQueue, modTile, modTile, vmod_vmod]
  exact congrArg (fun x => ({ m with tiles := vmod m.tiles t x } : Mach)) (funext fun ts => by simp only [vmod_vmod])

theorem modQueue_self {f : Queue → Queue} (h : f (m.queue t q) = m.queue t q) : m.modQueue t q f = m := by
  have hid : ∀ {α : Type} {n : Nat} (v : Vector α n) (i : Nat), vmod v i (fun a => a) = v := fun v i => by
    unfold vmod
    split
    · exact Vector.set_getElem_self _
    · rfl
  have hat : m.modQueue t q f = m.modTile t fun ts => ts :=
    modTile_eq_of_at (show ({ m.tile t with queues := vmod (m.tile t).queues q f } : TileSt) = m.tile t by
      rw [vmod_eq_of_at _ q (f' := fun s => s) h, hid])
  rw [hat, modTile, hid]

theorem kit_modQueue (m : Mach) (t q u : Nat) (f : Queue → Queue) : (m.modQueue t q f).kit u = m.kit u := kit_modTile m t u fun _ => rfl

theorem kit_modKit_same (m : Mach) (f : KittySt → KittySt) (ht : t < 8) : (m.modKit t f).kit t = f (m.kit t) := by
  rw [kit, modKit, tile_modTile_same _ _ ht, kit]

theorem queue_modKit (m : Mach) (t u k : Nat) (f : KittySt → KittySt) : (m.modKit t f).queue u k = m.queue u k := queue_modTile m t u k fun _ => rfl

theorem useQueue_sound (h : m.sound t q = true) : m.useQueue t q = m := by
  obtain ⟨hpool, hqueue⟩ := (Bool.and_eq_true _ _).mp h
  rw [useQueue, checkQueue, Option.isNone_iff_eq_none.1 hpool, Option.isNone_iff_eq_none.1 hqueue]
  rfl

/-! ### Tricks on a chain (R302) -/

theorem pushCell_chain (h : m.isPool t q = false) (hdr filled : Bool) (dc : Nat) (ws : List Word) :
    m.pushCell t q hdr filled dc ws = m.modQueue t q fun s => { s with cells := s.cells ++ [mkCell 0 0 hdr false filled dc ws] } := by
  rw [pushCell, h, if_neg Bool.false_ne_true]

theorem foldl_eq_self {α : Type} {f : Mach → α → Mach} {m : Mach} (l : List α) (h : ∀ x ∈ l, f m x = m) : l.foldl f m = m := by
  induction l with
  | nil => rfl
  | cons x l ih => rw [List.foldl_cons, h x List.mem_cons_self, ih fun y hy => h y (List.mem_cons_of_mem _ hy)]

theorem dmaFree_idle (h : ∀ c, c < 16 → (m.dmaCh t c).recs = []) : m.dmaFree t = m := by
  unfold dmaFree
  refine foldl_eq_self _ fun c hc => ?_
  rw [h c (List.mem_range.1 hc), List.isEmpty_nil, if_pos rfl]

/-- A held trick opened: an unfilled header at the end of the queue, the cells of its data reserved. -/
def trickOpened (m : Mach) (t q : Nat) (tr : Trick) (r : List Trick) : Mach :=
  ((m.modQueue t q fun s => { s with cells := s.cells ++ [mkCell 0 0 true false false 0 (bytesToWords [])] }).modQueue t q fun s =>
    { s with opened := some { reserved := dataCells tr.payload, trick := tr, rest := tr.payload, prod := m.rd (P.que t) (F.QUE_Q_CFG_PROD.nth q) } }
    ).modTile t fun ts => { ts with held := Store.set [] ts.held (m.rd (P.que t) (F.QUE_Q_CFG_PROD.nth q)) r }

theorem openHeld_opens {tr : Trick} {r : List Trick} (hheld : Store.get [] (m.tile t).held (m.rd (P.que t) (F.QUE_Q_CFG_PROD.nth q)) = tr :: r)
    (hchain : m.isPool t q = false) (hsound : m.sound t q = true) (hopen : (m.queue t q).opened = none)
    (hfree : 1 + dataCells tr.payload ≤ m.queFree t q) : m.openHeld t q = m.trickOpened t q tr r := by
  have hroom : ¬ m.queFree t q < 1 + dataCells tr.payload := by omega
  have hraw : m.openRaw t q (1 + dataCells tr.payload) (m.rd (P.que t) (F.QUE_Q_CFG_PROD.nth q)) tr = (m.modQueue t q fun s =>
      { s with cells := s.cells ++ [mkCell 0 0 true false false 0 (bytesToWords [])] }).modQueue t q fun s =>
      { s with opened := some { reserved := dataCells tr.payload, trick := tr, rest := tr.payload, prod := m.rd (P.que t) (F.QUE_Q_CFG_PROD.nth q) } } := by
    rw [openRaw, if_neg (by simp only [hopen, hroom]; decide), pushCell_chain hchain, Nat.add_sub_cancel_left]
  unfold openHeld
  rw [useQueue_sound hsound]
  dsimp only
  rw [hheld]
  dsimp only
  rw [mostCells, if_neg Bool.false_ne_true, if_neg (by simp only [hopen, hroom]; decide), hraw, trickOpened]

/-- A trick opened on a chain: its cells are taken from those that the queue has free. -/
theorem trickOpened_shows (ht : t < 8) (hq : q < 32) {tr : Trick} (r : List Trick) (hchain : m.isPool t q = false)
    (hopen : (m.queue t q).opened = none) (hfree : 1 + dataCells tr.payload ≤ m.queFree t q) :
    (m.trickOpened t q tr r).queue t q = { m.queue t q with
      cells := (m.queue t q).cells ++ [mkCell 0 0 true false false 0 (bytesToWords [])]
      opened := some { reserved := dataCells tr.payload, trick := tr, rest := tr.payload, prod := m.rd (P.que t) (F.QUE_Q_CFG_PROD.nth q) } } ∧
    (m.trickOpened t q tr r).queFree t q + (1 + dataCells tr.payload) = m.queFree t q := by
  have hqueue : (m.trickOpened t q tr r).queue t q = { m.queue t q with
      cells := (m.queue t q).cells ++ [mkCell 0 0 true false false 0 (bytesToWords [])]
      opened := some { reserved := dataCells tr.payload, trick := tr, rest := tr.payload, prod := m.rd (P.que t) (F.QUE_Q_CFG_PROD.nth q) } } := by
    rw [trickOpened, queue_modTile _ _ _ _ fun _ => by rfl, queue_modQueue_same _ _ ht hq, queue_modQueue_same _ _ ht hq]
  refine ⟨hqueue, ?_⟩
  have hen : (m.trickOpened t q tr r).enabled (P.que t) = m.enabled (P.que t) := rfl
  have hpool : (m.trickOpened t q tr r).isPool t q = m.isPool t q := rfl
  unfold queFree at hfree ⊢
  rw [hqueue, hen, hpool]
  simp only [hchain, Queue.reserved, hopen, List.length_append, List.length_singleton] at hfree ⊢
  by_cases he : m.enabled (P.que t) = true
  · simp only [he, Bool.not_true, Bool.not_false, Bool.false_eq_true, if_false, if_true] at hfree ⊢
    omega
  · simp [he] at hfree

/-- The cells that the bytes `bs` of data fill, one after the other. -/
def filledCells (bs : List Byte) (k : Nat) : List Cell :=
  (List.range k).map fun i => mkCell 0 0 false false true 0 (bytesToWords ((bs.drop (32 * i)).take 32))

theorem filledCells_succ (bs : List Byte) (k : Nat) :
    filledCells bs (k + 1) = mkCell 0 0 false false true 0 (bytesToWords (bs.take 32)) :: filledCells (bs.drop 32) k := by
  simp only [filledCells, List.range_succ_eq_map, List.map_cons, List.map_map, Nat.mul_zero, List.drop_zero, List.drop_drop]
  congr 2
  funext i
  simp only [Function.comp, Nat.succ_eq_add_one, show 32 * (i + 1) = 32 + 32 * i by omega]

/-- A queue whose open trick `o` has filled one cell more. -/
def cellFilled (o : OpenTrick) (s : Queue) : Queue :=
  { s with cells := s.cells ++ [mkCell 0 0 false false true 0 (bytesToWords (o.rest.take 32))]
           opened := some { o with reserved := o.reserved - 1, rest := o.rest.drop 32 } }

/-- The data of a trick that is open on a chain is written to its end. -/
theorem writeData_chain (ht : t < 8) (hq : q < 32) (k : Nat) : ∀ (m : Mach) (o : OpenTrick), m.isPool t q = false →
    (m.queue t q).opened = some o → dataCells o.rest = k → ∃ n, m.writeData t q k = m.modQueue t q fun _ =>
      { m.queue t q with cells := (m.queue t q).cells ++ filledCells o.rest k, opened := some { o with reserved := n, rest := [] } } := by
  induction k with
  | zero =>
    intro m o _ ho hk
    have hrest : o.rest = [] := List.eq_nil_of_length_eq_zero (by rw [dataCells] at hk; omega)
    refine ⟨o.reserved, (modQueue_self ?_).symm⟩
    rw [filledCells, List.range_zero, List.map_nil, List.append_nil, ← hrest]
    show ({ m.queue t q with opened := some o } : Queue) = m.queue t q
    rw [← ho]
  | succ k ih =>
    intro m o hchain ho hk
    have hne : o.rest.isEmpty = false := by
      cases hr : o.rest with
      | nil => rw [hr] at hk; cases hk
      | cons => rfl
    have hstep : m.writeData t q (k + 1) = (m.modQueue t q (cellFilled o)).writeData t q k := by
      rw [writeData, ho]
      dsimp only
      rw [if_neg (by simp [hne]), pushCell_chain hchain, modQueue_modQueue]
      rfl
    have hqueue := queue_modQueue_same m (cellFilled o) ht hq
    obtain ⟨n, hn⟩ := ih (m.modQueue t q (cellFilled o)) { o with reserved := o.reserved - 1, rest := o.rest.drop 32 } hchain
      (by rw [hqueue, cellFilled]) (by rw [dataCells] at hk ⊢; rw [List.length_drop]; omega)
    refine ⟨n, ?_⟩
    rw [hstep, hn, modQueue_modQueue, hqueue, filledCells_succ]
    simp only [cellFilled, List.append_assoc, List.singleton_append]

theorem closeTrick_closes (ht : t < 8) (hq : q < 32) {o : OpenTrick} (ho : (m.queue t q).opened = some o) (hsound : m.sound t q = true)
    (hchain : m.isPool t q = false) : m.closeTrick t q = m.modQueue t q fun _ => { m.queue t q with
      cells := fillHeader (bytesToWords o.trick.hdr) (dataCells o.trick.payload) ((m.queue t q).cells ++ filledCells o.rest (dataCells o.rest))
      opened := none } := by
  obtain ⟨n, hn⟩ := writeData_chain ht hq _ m o hchain ho rfl
  rw [closeTrick, useQueue_sound hsound, closeRaw, ho]
  dsimp only
  rw [hn, modQueue_modQueue]

end

/-! ### Deliveries (R304, R314, R432) -/

/-- `a` shows what `m` shows of queue `q` of tile `t`, of DRAM, the window elements, the clusters and the hands, and of every page but those
that `C` names. -/
structure QueueKept (C : Nat → Prop) (t q : Nat) (m a : Mach) : Prop where
  queue : a.queue t q = m.queue t q
  dram : a.dram = m.dram
  mark : a.dramMark = m.dramMark
  arr : a.arr = m.arr
  clus : a.clus = m.clus
  hands : a.hands = m.hands
  word : ∀ pk off, off < 4096 → ¬ C pk → a.word pk off = m.word pk off

namespace QueueKept
variable {C : Nat → Prop} {t q : Nat} {m a b : Mach}

theorem refl (m : Mach) : QueueKept C t q m m := ⟨rfl, rfl, rfl, rfl, rfl, rfl, fun _ _ _ _ => rfl⟩

theorem trans (h : QueueKept C t q m a) (k : QueueKept C t q a b) : QueueKept C t q m b :=
  ⟨k.queue.trans h.queue, k.dram.trans h.dram, k.mark.trans h.mark, k.arr.trans h.arr, k.clus.trans h.clus, k.hands.trans h.hands,
    fun pk off ho hc => (k.word pk off ho hc).trans (h.word pk off ho hc)⟩

theorem mono {D : Nat → Prop} (h : QueueKept C t q m a) (hCD : ∀ pk, C pk → D pk) : QueueKept D t q m a :=
  ⟨h.queue, h.dram, h.mark, h.arr, h.clus, h.hands, fun pk off ho hd => h.word pk off ho fun hc => hd (hCD pk hc)⟩

theorem rd (h : QueueKept C t q m a) {pk : Nat} {f : Field} (ho : f.off < 4096) (hc : ¬ C pk) : a.rd pk f = m.rd pk f := by
  rw [Mach.rd, Mach.rd, h.word pk f.off ho hc]

theorem setWord {pk off : Nat} (hc : C pk) (ho : off < 4096) (m : Mach) (w : Word) : QueueKept C t q m (m.setWord pk off w) :=
  ⟨rfl, rfl, rfl, rfl, rfl, rfl, fun _ _ ho' hc' => m.word_setWord_off w ho ho' (.inl fun heq => hc' (heq ▸ hc))⟩

theorem emitOut (m : Mach) (o : Out) : QueueKept C t q m (m.emitOut o) := ⟨rfl, rfl, rfl, rfl, rfl, rfl, fun _ _ _ _ => rfl⟩

theorem modTile (m : Mach) (u : Nat) {f : TileSt → TileSt} (hf : ∀ ts, (f ts).queues = ts.queues) : QueueKept C t q m (m.modTile u f) :=
  ⟨queue_modTile m u t q hf, rfl, rfl, rfl, rfl, rfl, fun _ _ _ _ => rfl⟩

theorem modHost (m : Mach) (u : Nat) (f : HostSt → HostSt) : QueueKept C t q m (m.modHost u f) := modTile m u fun _ => rfl

theorem sendCells (m : Mach) (x mps : Nat) (cs : List Cell) : QueueKept C t q m (m.sendCells t x mps cs) := by
  have hfold : ∀ (ps : List (List Cell)) (s : Mach × Nat), QueueKept C t q s.1 (ps.foldl (fun (s : Mach × Nat) p =>
      (s.1.emitOut (.hostMem t s.2 (p.flatMap fun c => wordsToBytes c.words) (p.any fun c => c.poison ≠ 0)), s.2 + 32 * p.length)) s).1 := by
    intro ps
    induction ps with
    | nil => exact fun s => refl s.1
    | cons p ps ih =>
      intro s
      rw [List.foldl_cons]
      exact (emitOut s.1 _).trans (ih (s.1.emitOut _, s.2 + 32 * p.length))
  exact hfold _ (m, x)

theorem dueVec (m : Mach) (v : Nat) : QueueKept C t q m (m.dueVec t v) := by
  unfold Mach.dueVec
  dsimp only
  split
  · exact modHost m t _
  · exact emitOut m _

theorem queueVec (m : Mach) (k : Nat) : QueueKept C t q m (m.queueVec t k) := by
  unfold Mach.queueVec
  split
  · exact (modHost m t _).trans (dueVec _ _)
  · exact refl m

theorem countPoison (hq : q < 32) (hc : C (P.que t)) (m : Mach) (cs : List Cell) : QueueKept C t q m (m.countPoison t q cs) := by
  unfold Mach.countPoison
  split
  · exact refl m
  · exact (setWord hc (by simp only [Field.nth_off, F.QUE_Q_ERRS_POISON]; omega) m _).trans (setWord hc (by decide) _ _)

/-- The head trick depends on the queue's cells only. -/
theorem headTrick (h : QueueKept C t q m a) : a.headTrick t q = m.headTrick t q := by
  rw [Mach.headTrick, Mach.headTrick, h.queue]

/-- The trick at the head of the spill list depends on the queue, on DRAM and on the pages DRAM and KITTY of its tile. -/
theorem spillTrick (h : QueueKept C t q m a) (hd : ¬ C (P.dram t)) (hk : ¬ C (P.kitty t)) : a.spillTrick t q = m.spillTrick t q := by
  have hprot : a.dramProt t = m.dramProt t := by
    rw [dramProt, dramProt, flag, flag, h.rd (by decide) hd, h.rd (by decide) hd]
  have hkey : ∀ f, a.dramKey t f = m.dramKey t f := fun f => by rw [dramKey, dramKey, dramDev, dramDev, hprot]
  have hread : ∀ n f, a.dramRead t f n = m.dramRead t f n := fun n => by
    induction n with
    | zero => exact fun f => rfl
    | succ n ih => exact fun f => by rw [dramRead, dramRead, ih, dramByte, dramByte, hkey, h.dram]
  have hcells : a.dramCells t = m.dramCells t := h.rd (by decide) hk
  have hbase : a.dramBase t = m.dramBase t := by rw [dramBase, dramBase, h.rd (by decide) hk, h.rd (by decide) hk]
  have hdata : ∀ i, a.dataAddr t i = m.dataAddr t i := fun i => by rw [dataAddr, dataAddr, hbase]
  have htag : ∀ i, a.tagAddr t i = m.tagAddr t i := fun i => by rw [tagAddr, tagAddr, hbase, hcells]
  have hcell : ∀ i, a.dramCell t i = m.dramCell t i := fun i => by rw [dramCell, dramCell, hdata, htag, hread, hread]
  have herr : ∀ f, a.dramErr t f = m.dramErr t f := fun f => by rw [dramErr, dramErr, hprot, hkey, h.mark]
  have hok : ∀ i, a.dramTagOk t i = m.dramTagOk t i := fun i => by rw [dramTagOk, dramTagOk, herr, htag, hcell]
  have hwalk : ∀ n i, a.walkDram t n i = m.walkDram t n i := fun n => by
    induction n with
    | zero => exact fun i => rfl
    | succ n ih => exact fun i => by simp only [walkDram, hcells, hcell, hok, ih]
  have hreplay : a.replayCell t = m.replayCell t := funext fun c => by simp only [replayCell, herr, hdata]
  rw [Mach.spillTrick, Mach.spillTrick, hwalk, h.queue, hreplay]

end QueueKept

section
variable {m : Mach} {t q : Nat}

theorem served_lt (h : m.served t = some q) : q < 32 := by
  have hrot : ∀ base size last : Nat, 0 < size → base + size ≤ 32 → q ∈ rotation base size last → q < 32 := fun base size last hs hle hq => by
    obtain ⟨i, _, rfl⟩ := List.mem_map.1 hq
    have := Nat.mod_lt (last - base + 1 + i) hs
    omega
  rcases List.mem_append.1 (List.mem_of_find?_eq_some h) with h | h
  · exact hrot _ _ _ (by decide) (by decide) h
  · exact hrot _ _ _ (by decide) (by decide) h

/-- The state that a trick leaves from: its cells sent, counted, the count written back. -/
theorem deliverRing_sends (hq : q < 32) (m : Mach) (cs : List Cell) : ∃ b, QueueKept (· = P.pcie t) t q m b ∧
    b.rd (P.pcie t) (F.PCIE_Q_DELIVERED_COUNT.nth q) = (m.rd (P.pcie t) (F.PCIE_Q_DELIVERED_COUNT.nth q) + 1) % 2 ^ 32 ∧
    m.deliverRing t q cs = ((b.dropNext t q).mirrorCredit t q).queueVec t q := by
  have hoff : (F.PCIE_Q_DELIVERED_COUNT.nth q).off < 4096 := by simp only [Field.nth_off, F.PCIE_Q_DELIVERED_COUNT]; omega
  have hwb : ∀ (c : Prop) [Decidable c] (a : Mach) (o : Out), QueueKept (· = P.pcie t) t q a (if c then a else a.emitOut o) ∧
      (if c then a else a.emitOut o).rd (P.pcie t) (F.PCIE_Q_DELIVERED_COUNT.nth q) = a.rd (P.pcie t) (F.PCIE_Q_DELIVERED_COUNT.nth q) :=
    fun c _ a o => by
      split
      · exact ⟨.refl a, rfl⟩
      · exact ⟨.emitOut a o, rfl⟩
  have hsent : ∀ x mps, QueueKept (fun _ => False) t q m (m.sendCells t x mps cs) := fun x mps => .sendCells m x mps cs
  have hcount : ∀ a : Mach, QueueKept (· = P.pcie t) t q a (a.incW (P.pcie t) (F.PCIE_Q_DELIVERED_COUNT.nth q)) := fun a =>
    .setWord (C := (· = P.pcie t)) rfl hoff a _
  refine ⟨_, (((hsent _ _).mono fun _ => False.elim).trans (hcount _)).trans (hwb _ _ _).1, ?_, rfl⟩
  rw [(hwb _ _ _).2, incW, rd_wr_nth_same _ _ _ _ (by decide) (by decide), (hsent _ _).rd hoff (fun h => h)]
  rfl

/-- What follows the leaving of a trick leaves its queue's cells and lists. -/
structure Followed (t q : Nat) (m a : Mach) : Prop where
  cells : (a.queue t q).cells = (m.queue t q).cells
  tricks : (a.queue t q).spillTricks = (m.queue t q).spillTricks
  count : a.rd (P.pcie t) (F.PCIE_Q_DELIVERED_COUNT.nth q) = m.rd (P.pcie t) (F.PCIE_Q_DELIVERED_COUNT.nth q)
  arr : a.arr = m.arr
  dram : a.dram = m.dram
  clus : a.clus = m.clus
  hands : a.hands = m.hands

theorem followed_credit (ht : t < 8) (hq : q < 32) (m : Mach) : Followed t q m ((m.mirrorCredit t q).queueVec t q) := by
  have hvec : QueueKept (fun _ => False) t q (m.mirrorCredit t q) ((m.mirrorCredit t q).queueVec t q) := .queueVec _ q
  have hqueue : (m.mirrorCredit t q).queue t q = { m.queue t q with dcred := m.portCredit t q } := queue_modQueue_same m _ ht hq
  have hoff : (F.PCIE_Q_DELIVERED_COUNT.nth q).off < 4096 := by simp only [Field.nth_off, F.PCIE_Q_DELIVERED_COUNT]; omega
  exact ⟨by rw [hvec.queue, hqueue], by rw [hvec.queue, hqueue], hvec.rd hoff fun h => h, hvec.arr, hvec.dram, hvec.clus, hvec.hands⟩

theorem dropNext_head {cs : List Cell} (hs : (m.queue t q).spill = []) (hh : m.headTrick t q = some cs) :
    m.dropNext t q = m.dropCells t q cs.length := by
  rw [dropNext, hs, List.isEmpty_nil, if_pos rfl, hh]

/-- Cells dropped from the head of a queue are no longer there; nothing else of the state but the kitty changes. -/
theorem dropCells_shows (ht : t < 8) (hq : q < 32) (m : Mach) (k : Nat) :
    ((m.dropCells t q k).queue t q).cells = (m.queue t q).cells.drop k ∧ (m.dropCells t q k).regs = m.regs ∧
      (m.dropCells t q k).arr = m.arr ∧ (m.dropCells t q k).dram = m.dram ∧ (m.dropCells t q k).clus = m.clus ∧
      (m.dropCells t q k).hands = m.hands := by
  unfold dropCells
  dsimp only
  split <;> exact ⟨by rw [queue_modQueue_same _ _ ht hq], rfl, rfl, rfl, rfl, rfl⟩

theorem dramCheck_unmarked (h : m.dramMark = []) (f len : Nat) : (m.dramCheck t f len).1 = m := by
  rw [dramCheck, h, List.isEmpty_nil, if_pos rfl]

theorem dropNext_spill {cs : List Cell} (hs : (m.queue t q).spill ≠ []) (hmark : m.dramMark = []) (hh : m.spillTrick t q = some cs) :
    m.dropNext t q = m.dropSpill t q cs.length := by
  have hreads : m.replayReads t cs = m := foldl_eq_self _ fun c _ => by
    rw [dramCheck_unmarked hmark, checkTag, dramCheck_unmarked hmark]
  rw [dropNext, if_neg (by simpa using hs), hh]
  dsimp only
  rw [hreads]

theorem QueueKept.updateFull {C : Nat → Prop} (hc : C (P.kitty t)) (m : Mach) (waiting : Bool) : QueueKept C t q m (m.updateFull t waiting) := by
  have hraise : ∀ (c : Bool) (a : Mach) (b : Nat), QueueKept C t q a (if c = true then a.raise (P.kitty t) b else a) := fun c a b => by
    split
    · exact .setWord hc (by decide) a _
    · exact .refl a
  unfold Mach.updateFull
  exact ((hraise _ _ 0).trans (hraise _ _ 1)).trans (.modTile _ t fun _ => rfl)

/-- A trick dropped from the spill list: nothing but the queue, the kitties and page KITTY changes. -/
theorem dropSpill_shows (ht : t < 8) (hq : q < 32) (m : Mach) (k : Nat) :
    ((m.dropSpill t q k).queue t q).cells = (m.queue t q).cells ∧
      ((m.dropSpill t q k).queue t q).spillTricks = (m.queue t q).spillTricks - 1 ∧
      (∀ pk off, off < 4096 → pk ≠ P.kitty t → (m.dropSpill t q k).word pk off = m.word pk off) ∧
      (m.dropSpill t q k).arr = m.arr ∧ (m.dropSpill t q k).dram = m.dram ∧ (m.dropSpill t q k).clus = m.clus ∧
      (m.dropSpill t q k).hands = m.hands := by
  unfold dropSpill
  dsimp only
  have hkept := fun a : Mach => QueueKept.updateFull (C := (· = P.kitty t)) (q := q) rfl a false
  refine ⟨?_, ?_, fun pk off ho hne => ((hkept _).word pk off ho hne).trans rfl, ?_, ?_, ?_, ?_⟩
  · rw [(hkept _).queue, queue_modQueue_same _ _ ht hq, queue_modKit]
  · rw [(hkept _).queue, queue_modQueue_same _ _ ht hq, queue_modKit]
  · exact (hkept _).arr
  · exact (hkept _).dram
  · exact (hkept _).clus
  · exact (hkept _).hands

/-- The state that a trick of a host ring is sent from. -/
theorem deliver_sends (hserved : m.served t = some q) (hcheck : m.checkQueue t q false = none) (hmode : m.hostMode t = 1) {replay : Bool}
    (hs : (m.queue t q).spill.isEmpty ≠ replay) {cs : List Cell} (hnext : m.nextTrick t q = some cs) :
    ∃ b, QueueKept (fun pk => pk = P.que t ∨ pk = P.pcie t) t q m b ∧
      b.rd (P.pcie t) (F.PCIE_Q_DELIVERED_COUNT.nth q) = (m.rd (P.pcie t) (F.PCIE_Q_DELIVERED_COUNT.nth q) + 1) % 2 ^ 32 ∧
      m.deliver t replay = ((b.dropNext t q).mirrorCredit t q).queueVec t q := by
  have hq := served_lt hserved
  have hturn : QueueKept (· = P.que t) t q m (m.modHost t fun h => if 8 ≤ q then { h with lastHi := q } else { h with lastLo := q }) :=
    .modHost m t _
  have hmode' : (m.modHost t fun h => if 8 ≤ q then { h with lastHi := q } else { h with lastLo := q }).hostMode t = 1 :=
    (congrArg (bits · 1 0) (tile_modTile_congr (fun ts => ts.host.cfg) m t t fun ts => by dsimp only; split <;> rfl)).trans hmode
  have hpages : P.dram t ≠ P.que t ∧ P.kitty t ≠ P.que t := by simp only [P.dram, P.kitty, P.que, pageKey]; omega
  have hnext' : (m.modHost t fun h => if 8 ≤ q then { h with lastHi := q } else { h with lastLo := q }).nextTrick t q = some cs := by
    rw [← hnext, nextTrick, nextTrick, hturn.queue, hturn.headTrick, hturn.spillTrick hpages.1 hpages.2]
  have hpoison := hturn.trans (.countPoison (C := (· = P.que t)) hq rfl _ cs)
  obtain ⟨b, hkept, hcount, hdel⟩ := deliverRing_sends (t := t) hq ((m.modHost t fun h =>
    if 8 ≤ q then { h with lastHi := q } else { h with lastLo := q }).countPoison t q cs) cs
  have hoff : (F.PCIE_Q_DELIVERED_COUNT.nth q).off < 4096 := by simp only [Field.nth_off, F.PCIE_Q_DELIVERED_COUNT]; omega
  refine ⟨b, (hpoison.mono fun _ => .inl).trans (hkept.mono fun _ => .inr), ?_, ?_⟩
  · rw [hcount, hpoison.rd hoff (by simp only [P.pcie, P.que, pageKey]; omega)]
  · unfold deliver
    rw [hserved]
    dsimp only
    rw [if_neg hs, hcheck]
    dsimp only
    rw [if_pos hmode', hnext']
    exact hdel

end
end Mach

/-- Settles O43. -/
theorem tricksMove : Obligations.TricksMove := by
  unfold Obligations.TricksMove
  refine ⟨?opens, ?closes, ?delivers, ?replays⟩
  case opens =>
    intro s t q tr r hheld hchain hsound hopen hfree hrecs
    obtain ⟨hqueue, hroom⟩ := Mach.trickOpened_shows t.isLt q.isLt r hchain hopen hfree
    have hdma : ∀ c, (s.start.trickOpened t q tr r).dmaCh t c = s.start.dmaCh t c := fun c =>
      (Mach.tile_modTile_congr (fun ts => vget ts.dma c) _ t t fun _ => by rfl).trans
        ((Mach.tile_modTile_congr (fun ts => vget ts.dma c) _ t t fun _ => by rfl).trans
          (Mach.tile_modTile_congr (fun ts => vget ts.dma c) _ t t fun _ => by rfl))
    refine ⟨s.start.trickOpened t q tr r, effect_next (f := fun m => (m.openHeld t q).dmaFree t) ?_, ?_, hroom, ?_, ?_, ?_, ?_, rfl, rfl, rfl, rfl⟩
    · rw [Mach.openHeld_opens hheld hchain hsound hopen hfree]
      exact Mach.dmaFree_idle fun c hc => by rw [hdma, hrecs c hc]
    · rw [hqueue, List.length_append, List.length_singleton]
    · rw [hqueue, List.take_left]
    · rw [hqueue]
    · rw [Mach.trickOpened, Mach.tile_modTile_same _ _ t.isLt, Store.get_set_same]
    · intro k _ hne
      rw [Mach.trickOpened, Mach.queue_modTile _ _ _ _ fun _ => by rfl, Mach.queue_modQueue_ne _ _ _ hne, Mach.queue_modQueue_ne _ _ _ hne]
  case closes =>
    intro s t q o ho hsound hchain
    refine ⟨_, effect_next (f := fun m => m.closeTrick t q) (Mach.closeTrick_closes t.isLt q.isLt ho hsound hchain), ?_, ?_, ?_, rfl, rfl, rfl, rfl⟩
    · rw [Mach.queue_modQueue_same _ _ t.isLt q.isLt]
    · rw [Mach.queue_modQueue_same _ _ t.isLt q.isLt]
      rfl
    · exact fun k _ hne => Mach.queue_modQueue_ne _ _ _ hne
  case delivers =>
    intro s t q cs hserved hspill hcheck hmode hhead
    have hq := Mach.served_lt hserved
    have hnext : s.start.nextTrick t q = some cs := by rw [Mach.nextTrick, hspill, List.isEmpty_nil, if_pos rfl, hhead]
    obtain ⟨b, hkept, hcount, hdel⟩ := Mach.deliver_sends (replay := false) hserved hcheck hmode (by rw [hspill]; decide) hnext
    have hdrop := Mach.dropNext_head (by rw [hkept.queue, hspill]) (hkept.headTrick.trans hhead)
    obtain ⟨hcells, hregs, harr, hdram, hclus, hhands⟩ := Mach.dropCells_shows t.isLt hq b cs.length
    have hf := Mach.followed_credit t.isLt hq (b.dropCells t q cs.length)
    rw [hdrop] at hdel
    refine ⟨_, effect_next (f := fun m => m.deliver t false) hdel, ?_, ?_, hf.arr.trans (harr.trans hkept.arr),
      hf.dram.trans (hdram.trans hkept.dram), hf.clus.trans (hclus.trans hkept.clus), hf.hands.trans (hhands.trans hkept.hands)⟩
    · rw [hf.cells, hcells, hkept.queue]
    · rw [hf.count, ← hcount, Mach.rd, Mach.word, hregs, ← Mach.word, ← Mach.rd]
  case replays =>
    intro s t q cs hserved hspill hmark hcheck hmode htrick
    have hq := Mach.served_lt hserved
    have hempty : (s.start.queue t q).spill.isEmpty = false := by simpa using hspill
    have hnext : s.start.nextTrick t q = some (Mach.markIsland cs) := by rw [Mach.nextTrick, hempty, if_neg Bool.false_ne_true, htrick]; rfl
    obtain ⟨b, hkept, hcount, hdel⟩ := Mach.deliver_sends (replay := true) hserved hcheck hmode (by rw [hempty]; decide) hnext
    have hpages : ¬ (P.dram t = P.que t ∨ P.dram t = P.pcie t) ∧ ¬ (P.kitty t = P.que t ∨ P.kitty t = P.pcie t) := by
      simp only [P.dram, P.kitty, P.que, P.pcie, pageKey]; omega
    have hdrop := Mach.dropNext_spill (by rw [hkept.queue]; exact hspill) (hkept.mark.trans hmark) ((hkept.spillTrick hpages.1 hpages.2).trans htrick)
    obtain ⟨hcells, htricks, hword, harr, hdram, hclus, hhands⟩ := Mach.dropSpill_shows t.isLt hq b cs.length
    have hf := Mach.followed_credit t.isLt hq (b.dropSpill t q cs.length)
    rw [hdrop] at hdel
    have hoff : (F.PCIE_Q_DELIVERED_COUNT.nth q).off < 4096 := by simp only [Field.nth_off, F.PCIE_Q_DELIVERED_COUNT]; omega
    refine ⟨_, effect_next (f := fun m => m.deliver t true) hdel, ?_, ?_, ?_, hf.arr.trans (harr.trans hkept.arr),
      hf.dram.trans (hdram.trans hkept.dram), hf.clus.trans (hclus.trans hkept.clus), hf.hands.trans (hhands.trans hkept.hands)⟩
    · rw [hf.cells, hcells, hkept.queue]
    · rw [hf.tricks, htricks, hkept.queue]
    · rw [hf.count, ← hcount, Mach.rd, hword _ _ hoff (by simp only [P.pcie, P.kitty, pageKey]; omega), ← Mach.rd]

end Sys2Proof.Machine

/-!
PROOFS. Requests that a PCIe endpoint receives: doorbells, configuration requests, the MSI-X table (R433–R435, R439–R441).
-/

namespace Sys2Proof.Machine
namespace Mach
section
variable {m a : Mach} {t q : Nat}

/-- Whether a block of a tile works depends on the tile's life and sequence and on its page PWR. -/
theorem live_congr (hpart : a.part = m.part) (hlife : (a.tile t).life = (m.tile t).life) (hseq : (a.tile t).seq = (m.tile t).seq)
    (hpwr : ∀ off, off < 4096 → a.word (P.pwr t) off = m.word (P.pwr t) off) (d : Nat) : a.live t d = m.live t d := by
  rw [live, live, awake, awake, present, present, nTiles, nTiles, hpart, hlife, domOn, domOn, rd, rd, hpwr _ (by decide), goingOff, goingOff, hseq]

theorem hostPower_congr (hpart : a.part = m.part) (hlife : (a.tile t).life = (m.tile t).life) (hseq : (a.tile t).seq = (m.tile t).seq)
    (hpwr : ∀ off, off < 4096 → a.word (P.pwr t) off = m.word (P.pwr t) off) : a.hostPower t = m.hostPower t := by
  rw [hostPower, hostPower, live_congr hpart hlife hseq hpwr, live_congr hpart hlife hseq hpwr]

theorem hostPower_wr {pk : Nat} {f : Field} (v : Nat) (ho : f.off < 4096) (hpk : P.pwr t ≠ pk) : (m.wr pk f v).hostPower t = m.hostPower t :=
  hostPower_congr (wr_part m pk f v) (by rw [wr_tile]) (by rw [wr_tile]) fun _ ho' => word_wr_off m v ho ho' (.inl hpk)

theorem modHost_modHost (m : Mach) (t : Nat) (f f' : HostSt → HostSt) : (m.modHost t f).modHost t f' = m.modHost t fun h => f' (f h) := by
  rw [modHost, modHost, modTile, modTile, vmod_vmod]
  rfl

/-! ### Doorbells (R439) -/

section
variable (hwire : m.wireUp t = true) (hmode : m.hostMode t = 1) (hmem : m.memServed t = true) (v : Nat)
include hwire hmode hmem

theorem doorbell_served : m.doorbell t q v true false =
    if !m.flag (P.pcie t) (F.PCIE_Q_RING_CFG_EN.nth q) ||
        decide ((m.rd (P.pcie t) (F.PCIE_Q_DELIVERED_COUNT.nth q) + 2 ^ 32 - m.rd (P.pcie t) (F.PCIE_Q_CONSUMED_COUNT.nth q)) % 2 ^ 32 <
          (v + 2 ^ 32 - m.rd (P.pcie t) (F.PCIE_Q_CONSUMED_COUNT.nth q)) % 2 ^ 32) then
      (m.inc (P.pcie t) F.PCIE_DB_ERR_COUNT).raise (P.pcie t) 0
    else
      let a := ((m.wr (P.pcie t) (F.PCIE_Q_CONSUMED_COUNT.nth q) v).mirrorCredit t q).modHost t fun h => { h with armed := putBit h.armed q true }
      if m.rd (P.pcie t) (F.PCIE_Q_DELIVERED_COUNT.nth q) ≠ v then a.queueVec t q else a := by
  simp [doorbell, hwire, hmode, hmem]

/-- A doorbell that returns all slots gives the queue the credit of its whole ring. -/
theorem doorbell_all (hq : q < 32) (hen : m.flag (P.pcie t) (F.PCIE_Q_RING_CFG_EN.nth q) = true)
    (hd : m.rd (P.pcie t) (F.PCIE_Q_DELIVERED_COUNT.nth q) = v) :
    m.doorbell t q v true false = ((m.wr (P.pcie t) (F.PCIE_Q_CONSUMED_COUNT.nth q) v).modQueue t q fun x =>
      { x with dcred := 2 ^ m.rd (P.pcie t) (F.PCIE_Q_RING_CFG_SLOTS_LOG2.nth q) }).modHost t fun h => { h with armed := putBit h.armed q true } := by
  have hpower : m.hostPower t = true := (Bool.and_eq_true _ _).mp ((Bool.and_eq_true _ _).mp hwire).1 |>.1
  have hcon : (F.PCIE_Q_CONSUMED_COUNT.nth q).off < 4096 := by simp only [Field.nth_off, F.PCIE_Q_CONSUMED_COUNT]; omega
  have hcfg : (F.PCIE_Q_RING_CFG_EN.nth q).off < 4096 ∧ (F.PCIE_Q_RING_CFG_EN.nth q).off ≠ (F.PCIE_Q_CONSUMED_COUNT.nth q).off := by
    simp only [Field.nth_off, F.PCIE_Q_RING_CFG_EN, F.PCIE_Q_CONSUMED_COUNT]; omega
  have hdel : (F.PCIE_Q_DELIVERED_COUNT.nth q).off < 4096 ∧ (F.PCIE_Q_DELIVERED_COUNT.nth q).off ≠ (F.PCIE_Q_CONSUMED_COUNT.nth q).off := by
    simp only [Field.nth_off, F.PCIE_Q_DELIVERED_COUNT, F.PCIE_Q_CONSUMED_COUNT]; omega
  have hslots : (F.PCIE_Q_RING_CFG_SLOTS_LOG2.nth q).off < 4096 ∧ (F.PCIE_Q_RING_CFG_SLOTS_LOG2.nth q).off ≠ (F.PCIE_Q_CONSUMED_COUNT.nth q).off :=
    hcfg
  have hv : v < 2 ^ 32 := hd ▸ bits_lt _ 31 0
  have hcredit : (m.wr (P.pcie t) (F.PCIE_Q_CONSUMED_COUNT.nth q) v).portCredit t q = 2 ^ m.rd (P.pcie t) (F.PCIE_Q_RING_CFG_SLOTS_LOG2.nth q) := by
    have hpower' : (m.wr (P.pcie t) (F.PCIE_Q_CONSUMED_COUNT.nth q) v).hostPower t = true :=
      (hostPower_wr v hcon (by simp only [P.pwr, P.pcie, pageKey]; omega)).trans hpower
    have hmode' : (m.wr (P.pcie t) (F.PCIE_Q_CONSUMED_COUNT.nth q) v).hostMode t = 1 := by rw [hostMode, host, wr_tile]; exact hmode
    rw [portCredit, hpower', hmode']
    simp only [Bool.not_true, Bool.false_eq_true, if_false]
    rw [flag_wr_off _ _ hcon hcfg.1 (.inr hcfg.2), hen, if_pos rfl, rd_wr_off _ _ hcon hslots.1 (.inr hslots.2),
      rd_wr_off _ _ hcon hdel.1 (.inr hdel.2), rd_wr_nth_same _ _ _ _ (by decide) (by decide), hd,
      show v % 2 ^ (F.PCIE_Q_CONSUMED_COUNT.hi + 1 - F.PCIE_Q_CONSUMED_COUNT.lo) = v from Nat.mod_eq_of_lt hv,
      Nat.add_sub_cancel_left, Nat.mod_self, Nat.sub_zero]
  rw [doorbell_served hwire hmode hmem, if_neg (by simp [hen, hd])]
  dsimp only
  rw [if_neg (not_not.2 hd), mirrorCredit, hcredit]

theorem doorbell_beyond (h : (m.rd (P.pcie t) (F.PCIE_Q_DELIVERED_COUNT.nth q) + 2 ^ 32 - m.rd (P.pcie t) (F.PCIE_Q_CONSUMED_COUNT.nth q)) % 2 ^ 32 <
      (v + 2 ^ 32 - m.rd (P.pcie t) (F.PCIE_Q_CONSUMED_COUNT.nth q)) % 2 ^ 32) :
    m.doorbell t q v true false = (m.inc (P.pcie t) F.PCIE_DB_ERR_COUNT).raise (P.pcie t) 0 := by
  rw [doorbell_served hwire hmode hmem, if_pos (by simp only [h, decide_true, Bool.or_true])]

end

/-! ### The MSI-X table (R435, R440) -/

/-- The word of a vector that a write of the table's word `d` sets. -/
def tableWord (d v : Nat) (e : MsixVec) : MsixVec :=
  match d % 4 with
  | 0 => { e with addr := putBits e.addr 31 0 v }
  | 1 => { e with addr := putBits e.addr 63 32 v }
  | 2 => { e with data := v }
  | _ => { e with masked := bit v 0 }

theorem msixTable_taken (hwire : m.wireUp t = true) (hmode : m.hostMode t = 1) (hmem : m.memServed t = true)
    (hen : m.flag (P.pcie t) F.PCIE_STAT_MSIX_EN = false) (d v : Nat) :
    m.msixTable t d v false = m.modHost t fun h => { h with vecs := vmod h.vecs (d / 4) (tableWord d v) } := by
  have hoff : ∀ f, (m.modHost t f).msixOn t = false := fun f => by
    rw [msixOn, show (m.modHost t f).flag (P.pcie t) F.PCIE_STAT_MSIX_EN = false from hen, Bool.and_false]
  have hflush : ∀ f, (m.modHost t f).flushVecs t = m.modHost t f := fun f => by rw [flushVecs, hoff, Bool.not_false, Bool.true_or, if_pos rfl]
  have htaken : m.msixTable t d v false = (m.modHost t fun h => { h with vecs := vmod h.vecs (d / 4) (tableWord d v) }).flushVecs t := by
    simp [msixTable, hwire, hmode, hmem]
    rfl
  rw [htaken, hflush]

end
end Mach

/-- Settles O52. -/
theorem pcieRequests : Obligations.PcieRequests := by
  unfold Obligations.PcieRequests
  refine ⟨?all, ?beyond, ?ids, ?devctl, ?bar0, ?table⟩
  case all =>
    intro s t q v hwire hmode hmem hen hd
    exact effect_next (f := fun m => m.doorbell t q v.toNat true false) (Mach.doorbell_all hwire hmode hmem v.toNat q.isLt hen hd)
  case beyond =>
    intro s t q v hwire hmode hmem h
    exact effect_next (f := fun m => m.doorbell t q v.toNat true false) (Mach.doorbell_beyond hwire hmode hmem v.toNat h)
  case ids =>
    intro s t hwire hmode hpart
    have hdev : (s.start.modHost t fun h => { h with cfgDone := true }).part = .p8 := hpart
    refine effect_next (f := fun m => m.configRequest t .ids true) ?_
    rw [Mach.configRequest, if_neg (by simp [hwire, hmode])]
    dsimp only
    rw [hdev]
    rfl
  case devctl =>
    intro s t mps mrrs hwire hmode hmps hmrrs
    refine effect_next (f := fun m => m.configRequest t (.devctl mps mrrs) true) ?_
    rw [Mach.configRequest, if_neg (by simp [hwire, hmode])]
    exact if_pos ⟨hmps, hmrrs⟩
  case bar0 =>
    intro s t x hwire hmode
    refine effect_next (f := fun m => m.configRequest t (.bar0 x) true) ?_
    simp [Mach.configRequest, hwire, hmode, Mach.modHost_modHost]
  case table =>
    intro s t d v hwire hmode hmem hen
    refine ⟨_, effect_next (f := fun m => m.msixTable t d v.toNat false) (Mach.msixTable_taken hwire hmode hmem hen d v.toNat), ?_, ?_, rfl, rfl, rfl, rfl⟩
    · rw [Mach.modHost, Mach.host, Mach.tile_modTile_same _ _ t.isLt, vget_vmod_same _ _ _ (by omega)]
      rfl
    · intro w _ hne
      rw [Mach.modHost, Mach.host, Mach.tile_modTile_same _ _ t.isLt, vget_vmod_ne _ _ hne]
      rfl

end Sys2Proof.Machine

/-!
PROOFS. What the DMA channels of a tile touch: their own page and state, and what completion records touch of the tile's queues.
-/

namespace Sys2Proof.Machine
namespace Mach

/-- `a` differs from `m` in words of the pages that `C` names, in queues, DMA channels and logs only: what the rest shows. -/
structure Beside (C : Nat → Prop) (m a : Mach) : Prop where
  dram : a.dram = m.dram
  clus : a.clus = m.clus
  arr : a.arr = m.arr
  hands : a.hands = m.hands
  part : a.part = m.part
  refLost : a.refLost = m.refLost
  viewOf : a.viewOf = m.viewOf
  life : ∀ u, (a.tile u).life = (m.tile u).life
  seq : ∀ u, (a.tile u).seq = (m.tile u).seq
  dormant : ∀ u, (a.tile u).dormant = (m.tile u).dormant
  host : ∀ u, a.host u = m.host u
  word : ∀ pk off, off < 4096 → ¬ C pk → a.word pk off = m.word pk off

section
variable {C D : Nat → Prop} {t : Nat} {m a b : Mach}

namespace Beside

theorem refl (m : Mach) : Beside C m m :=
  ⟨rfl, rfl, rfl, rfl, rfl, rfl, rfl, fun _ => rfl, fun _ => rfl, fun _ => rfl, fun _ => rfl, fun _ _ _ _ => rfl⟩

theorem trans (h : Beside C m a) (k : Beside C a b) : Beside C m b where
  dram := k.dram.trans h.dram
  clus := k.clus.trans h.clus
  arr := k.arr.trans h.arr
  hands := k.hands.trans h.hands
  part := k.part.trans h.part
  refLost := k.refLost.trans h.refLost
  viewOf := k.viewOf.trans h.viewOf
  life u := (k.life u).trans (h.life u)
  seq u := (k.seq u).trans (h.seq u)
  dormant u := (k.dormant u).trans (h.dormant u)
  host u := (k.host u).trans (h.host u)
  word pk off ho hc := (k.word pk off ho hc).trans (h.word pk off ho hc)

theorem mono (h : Beside C m a) (hCD : ∀ pk, C pk → D pk) : Beside D m a :=
  { h with word := fun pk off ho hd => h.word pk off ho fun hc => hd (hCD pk hc) }

theorem of_confined (h : Confined C m a) : Beside C m a where
  dram := h.dram
  clus := h.clus
  arr := h.arr
  hands := h.hands
  part := h.part
  refLost := show a.sansQueues.refLost = m.sansQueues.refLost from congrArg Mach.refLost h.rest
  viewOf := h.viewOf
  life u := show (a.tile u).sansQueues.life = (m.tile u).sansQueues.life from congrArg TileSt.life (h.tile u)
  seq u := show (a.tile u).sansQueues.seq = (m.tile u).sansQueues.seq from congrArg TileSt.seq (h.tile u)
  dormant u := show (a.tile u).sansQueues.dormant = (m.tile u).sansQueues.dormant from congrArg TileSt.dormant (h.tile u)
  host u := show (a.tile u).sansQueues.host = (m.tile u).sansQueues.host from congrArg TileSt.host (h.tile u)
  word := h.word

theorem setWord {pk off : Nat} (hc : C pk) (ho : off < 4096) (m : Mach) (w : Word) : Beside C m (m.setWord pk off w) :=
  of_confined (.setWord hc ho m w)

theorem modDma (m : Mach) (t c : Nat) (f : DmaCh → DmaCh) : Beside C m (m.modDma t c f) :=
  ⟨rfl, rfl, rfl, rfl, rfl, rfl, rfl, fun u => tile_modTile_congr TileSt.life m t u fun _ => rfl,
    fun u => tile_modTile_congr TileSt.seq m t u fun _ => rfl, fun u => tile_modTile_congr TileSt.dormant m t u fun _ => rfl, fun u => tile_modTile_congr TileSt.host m t u fun _ => rfl, fun _ _ _ _ => rfl⟩

theorem rd (h : Beside C m a) {pk : Nat} {f : Field} (ho : f.off < 4096) (hc : ¬ C pk) : a.rd pk f = m.rd pk f := by
  rw [Mach.rd, Mach.rd, h.word pk f.off ho hc]

theorem flag (h : Beside C m a) {pk : Nat} {f : Field} (ho : f.off < 4096) (hc : ¬ C pk) : a.flag pk f = m.flag pk f := by
  rw [Mach.flag, Mach.flag, h.rd ho hc]

theorem islandOf (h : Beside C m a) {u : Nat} (hring : ¬ C (P.ring u)) (hi : m.islandOf u = none) : a.islandOf u = none := by
  unfold Mach.islandOf at hi ⊢
  rw [h.viewOf, h.flag (by decide) hring]
  by_cases hout : (m.viewOf.isNone && m.flag (P.ring u) F.RING_STAT_OUTSIDE) = true
  · simp [hout] at hi
  · rw [if_neg hout]

theorem live (h : Beside C m a) {u : Nat} (hpwr : ¬ C (P.pwr u)) (d : Nat) : a.live u d = m.live u d :=
  live_congr h.part (h.life u) (h.seq u) (fun _ ho => h.word _ _ ho hpwr) d

theorem hostPower (h : Beside C m a) {u : Nat} (hpwr : ¬ C (P.pwr u)) : a.hostPower u = m.hostPower u := by
  rw [Mach.hostPower, Mach.hostPower, h.live hpwr, h.live hpwr]

end Beside

theorem QueueClosed.putTrick {R : Mach → Mach → Prop} (hR : QueueClosed R C t) (hC : QueuePages C t) (m : Mach) {q : Nat} (hq : q < 32) (r prod : Nat)
    (tr : Trick) : R m (m.putTrick t q r prod tr) :=
  hR.trans (hR.trans (hR.useQueue hC m (.inl hq)) (hR.openRaw _ q r prod tr)) (hR.trans (hR.useQueue hC _ (.inl hq)) (hR.closeRaw _ q))

/-- In one segment, what uses of a tile's queues are made of leaves everything beside them. -/
theorem queueClosed_beside (hlog : C P.faultlog) (hring : ¬ C (P.ring t)) :
    QueueClosed (fun m a => m.islandOf t = none → Beside C m a) C t where
  refl m _ := .refl m
  trans hab hbc hi := (hab hi).trans (hbc ((hab hi).islandOf hring hi))
  setWord h ho m w _ := .setWord h ho m w
  modTile m _ hf _ := .of_confined (.modTile m t hf)
  log m r hi := .of_confined ((queueClosed_confined hlog hring).log m r hi)

/-- What the DMA channels of tile `t` are made of: uses of its queues, words of its page DMA, the channels' own state. -/
structure DmaClosed (R : Mach → Mach → Prop) (C : Nat → Prop) (t : Nat) : Prop extends QueueClosed R C t where
  pages : QueuePages C t
  page : C (P.dma t)
  modDma : ∀ m c f, R m (m.modDma t c f)

namespace DmaClosed
variable {R : Mach → Mach → Prop} (hR : DmaClosed R C t)
include hR

theorem wrCh {f : Field} (hs : f.stride = 64) (ho : f.off < 0x140) {c : Nat} (hc : c < 16) (m : Mach) (v : Nat) : R m (m.wr (P.dma t) (f.nth c) v) :=
  hR.wr hR.page (by rw [Field.nth_off, hs]; omega) m v

theorem wrPage {f : Field} (ho : f.off < 4096) (m : Mach) (v : Nat) : R m (m.wr (P.dma t) f v) := hR.wr hR.page ho m v

theorem raisePage (m : Mach) (b : Nat) : R m (m.raise (P.dma t) b) := hR.raise hR.page m b

theorem flushRecs {c : Nat} (hc : c < 16) (k : Nat) (m : Mach) : R m (m.flushRecs t c k) := by
  have hwait : ∀ (a : Mach) v, R a (a.wr (P.dma t) (F.DMA_CH_STAT_REC_WAIT.nth c) v) := hR.wrCh rfl (by decide) hc
  induction k generalizing m with
  | zero => exact hR.refl m
  | succ k ih =>
    unfold Mach.flushRecs
    split
    · exact hwait m 0
    next tr r _ =>
      split
      · exact hR.trans (hR.modDma m c _) (ih _)
      next q hq =>
        have hlt := queueOfProd_lt hq
        have huse := hR.useQueue hR.pages m (.inl hlt)
        dsimp only
        split
        · exact hR.trans huse (hwait _ 1)
        · exact hR.trans huse (hR.trans (hR.trans (hR.putTrick hR.pages _ hlt _ _ _) (hR.modDma _ c _)) (ih _))

theorem dmaRecord {c : Nat} (hc : c < 16) (m : Mach) (code cause moved : Nat) : R m (m.dmaRecord t c code cause moved) := by
  unfold Mach.dmaRecord
  exact hR.trans (hR.modDma m c _) (hR.flushRecs hc _ _)

theorem dmaHalt {c : Nat} (hc : c < 16) (m : Mach) (cause : Nat) : R m (m.dmaHalt t c cause) := by
  have hshown : ∀ a : Mach, R a (if cause = 13 then a.raise (P.dma t) 3 else (a.inc (P.dma t) (F.DMA_CH_ERRS_COUNT.nth c)).raise (P.dma t) 2) :=
    fun a => by
      split
      · exact hR.raisePage a 3
      · exact hR.trans (hR.wrCh rfl (by decide) hc a _) (hR.raisePage _ 2)
  have hofs : R m (m.updateOfs t c) := hR.wrCh rfl (by decide) hc m _
  have hstate : ∀ (a : Mach) s, R a (a.setDmaState t c s) := fun a s => hR.wrCh rfl (by decide) hc a s
  unfold Mach.dmaHalt
  exact hR.trans (hR.trans (hR.trans hofs (hR.modDma _ c _)) (hR.trans (hR.trans (hstate _ _) (hR.wrCh rfl (by decide) hc _ cause)) (hshown _)))
    (hR.dmaRecord hc _ _ _ _)

theorem sendTr (m : Mach) (c : Nat) (x : DmaTr) : R m (m.sendTr t c x) := by
  unfold Mach.sendTr
  split <;> exact hR.modDma m c _

theorem sendWaiting (m : Mach) : R m (m.sendWaiting t) := by
  refine hR.foldl _ (fun a c hc => ?_) m
  split
  · exact hR.refl a
  next x _ =>
    split
    · exact hR.refl a
    · split
      · exact hR.dmaHalt (List.mem_range.1 hc) a 10
      · exact hR.sendTr a c x

/-- A host port reset takes the outstanding host reads (R473). -/
theorem dmaHostDown (m : Mach) : R m (m.dmaHostDown t) := by
  have hlost : ∀ (b : Bool) (a : Mach) {c : Nat}, c < 16 → R a (if b = true then a.dmaHalt t c 10 else a) := fun b a c hc => by
    split
    · exact hR.dmaHalt hc a 10
    · exact hR.refl a
  unfold Mach.dmaHostDown
  refine hR.trans (hR.foldl _ (fun a c hc => ?_) m) (hR.sendWaiting _)
  exact hR.trans (hlost _ a (List.mem_range.1 hc)) (hR.modDma _ c _)

end DmaClosed

/-- The pages that the DMA channels of a tile and the records they write may touch. -/
def dmaPages (t pk : Nat) : Prop := pk ∈ [P.que t, P.kitty t, P.dram t, P.decl t, P.faultlog, P.dma t]

theorem ring_not_dmaPages (t : Nat) : ¬ dmaPages t (P.ring t) := by
  simp only [dmaPages, List.mem_cons, List.not_mem_nil, or_false]
  simp only [P.ring, P.que, P.kitty, P.dram, P.decl, P.faultlog, P.dma, pageKey]
  omega

/-- In one segment, the DMA channels of a tile leave everything beside them. -/
theorem dmaClosed_beside (t : Nat) : DmaClosed (fun m a => m.islandOf t = none → Beside (dmaPages t) m a) (dmaPages t) t where
  toQueueClosed := queueClosed_beside (by simp [dmaPages]) (ring_not_dmaPages t)
  pages := ⟨by simp [dmaPages], by simp [dmaPages], by simp [dmaPages], by simp [dmaPages]⟩
  page := by simp [dmaPages]
  modDma m c f _ := .modDma m t c f

end
end Mach
end Sys2Proof.Machine

/-!
PROOFS. Host ports: restart, training, and the losses of a link (R427–R430, R437).
-/

namespace Sys2Proof.Machine
namespace Mach

/-! ### A page cleared (R86) -/

/-- A register whose page's soft reset keeps none of its bits reads its reset value after it. -/
theorem word_softResetPage_cleared {pk off : Nat} (ho : off < 4096) (hk : keptBySoftReset pk off = 0) (m : Mach) :
    (m.softResetPage pk).word pk off = resetWord (pk * 4096 + off) := by
  have hfold : ∀ (l : List (Nat × Word)), (∀ e ∈ l, pk * 4096 ≤ e.1 ∧ e.1 < pk * 4096 + 4096) → ∀ m : Mach,
      (l.foldl (fun m e => m.setWord pk (e.1 - pk * 4096) ((e.2 &&& BitVec.ofNat 32 (keptBySoftReset pk (e.1 - pk * 4096))) |||
        (resetWord e.1 &&& ~~~BitVec.ofNat 32 (keptBySoftReset pk (e.1 - pk * 4096))))) m).word pk off =
      if l.any (fun e => e.1 = pk * 4096 + off) then resetWord (pk * 4096 + off) else m.word pk off := by
    intro l
    induction l with
    | nil => exact fun _ _ => rfl
    | cons e l ih =>
      intro hl m
      obtain ⟨hlo, hhi⟩ := hl e List.mem_cons_self
      rw [List.foldl_cons, ih fun x hx => hl x (List.mem_cons_of_mem _ hx), List.any_cons]
      by_cases he : e.1 = pk * 4096 + off
      · have hoff : e.1 - pk * 4096 = off := by omega
        rw [hoff, hk, word_setWord_same, he, show ~~~BitVec.ofNat 32 0 = BitVec.allOnes 32 by decide, BitVec.and_allOnes,
          show BitVec.ofNat 32 0 = 0#32 from rfl, BitVec.and_zero, BitVec.zero_or, ite_self]
        simp
      · rw [word_setWord_off _ _ (by omega) ho (.inr (by omega))]
        simp [he]
  unfold softResetPage
  dsimp only
  rw [hfold _ fun e he => by simpa using (List.mem_filter.1 he).2]
  split
  · rfl
  next hnone =>
    rw [word]
    have hget : ∀ l : List (Nat × Word), (∀ e ∈ l, e.1 ≠ pk * 4096 + off) → Store.get (resetWord (pk * 4096 + off)) l (pk * 4096 + off) =
        resetWord (pk * 4096 + off) := by
      intro l
      induction l with
      | nil => exact fun _ => rfl
      | cons e l ih =>
        intro hl
        rw [Store.get, if_neg (hl e List.mem_cons_self), ih fun x hx => hl x (List.mem_cons_of_mem _ hx)]
    refine hget _ fun e he heq => hnone (List.any_eq_true.2 ⟨e, List.mem_filter.2 ⟨he, ?_⟩, by simpa using heq⟩)
    simp only [Bool.and_eq_true, decide_eq_true_eq]
    omega

/-! ### A host port reset (R430) -/

/-- What a host port reset of tile `t` keeps: DRAM, the clusters, what the tile's power and segment depend on, and the port's configuration. -/
structure PortKept (t : Nat) (m a : Mach) : Prop where
  dram : a.dram = m.dram
  clus : a.clus = m.clus
  part : a.part = m.part
  viewOf : a.viewOf = m.viewOf
  life : (a.tile t).life = (m.tile t).life
  seq : (a.tile t).seq = (m.tile t).seq
  dormant : (a.tile t).dormant = (m.tile t).dormant
  cfg : (a.host t).cfg = (m.host t).cfg
  perst : (a.host t).perstLow = (m.host t).perstLow
  word : ∀ pk off, off < 4096 → pk = P.pwr t ∨ pk = P.ring t → a.word pk off = m.word pk off

/-- … and what its status word shows. -/
def StatKept (t : Nat) (m a : Mach) : Prop := PortKept t m a ∧ a.word (P.hostp t) 0x048 = m.word (P.hostp t) 0x048

section
variable {t : Nat} {m a b : Mach}

namespace PortKept

theorem refl (m : Mach) : PortKept t m m := ⟨rfl, rfl, rfl, rfl, rfl, rfl, rfl, rfl, rfl, fun _ _ _ _ => rfl⟩

theorem trans (h : PortKept t m a) (k : PortKept t a b) : PortKept t m b :=
  ⟨k.dram.trans h.dram, k.clus.trans h.clus, k.part.trans h.part, k.viewOf.trans h.viewOf, k.life.trans h.life, k.seq.trans h.seq, k.dormant.trans h.dormant,
    k.cfg.trans h.cfg, k.perst.trans h.perst, fun pk off ho hp => (k.word pk off ho hp).trans (h.word pk off ho hp)⟩

theorem of_beside {C : Nat → Prop} (h : Beside C m a) (hpwr : ¬ C (P.pwr t)) (hring : ¬ C (P.ring t)) : PortKept t m a where
  dram := h.dram
  clus := h.clus
  part := h.part
  viewOf := h.viewOf
  life := h.life t
  seq := h.seq t
  dormant := h.dormant t
  cfg := congrArg HostSt.cfg (h.host t)
  perst := congrArg HostSt.perstLow (h.host t)
  word pk off ho hp := h.word pk off ho (by rcases hp with rfl | rfl <;> assumption)

theorem setWord {pk off : Nat} (ho : off < 4096) (hpwr : P.pwr t ≠ pk) (hring : P.ring t ≠ pk) (m : Mach) (w : Word) : PortKept t m (m.setWord pk off w) :=
  of_beside (.setWord (C := (· = pk)) rfl ho m w) hpwr hring

theorem modHost (m : Mach) {f : HostSt → HostSt} (hc : ∀ h, (f h).cfg = h.cfg) (hp : ∀ h, (f h).perstLow = h.perstLow) : PortKept t m (m.modHost t f) :=
  ⟨rfl, rfl, rfl, rfl, tile_modTile_congr TileSt.life m t t fun _ => rfl, tile_modTile_congr TileSt.seq m t t fun _ => rfl,
    tile_modTile_congr TileSt.dormant m t t fun _ => rfl,
    tile_modTile_congr (fun ts => ts.host.cfg) m t t fun _ => hc _, tile_modTile_congr (fun ts => ts.host.perstLow) m t t fun _ => hp _,
    fun _ _ _ _ => rfl⟩

theorem hostPower (h : PortKept t m a) : a.hostPower t = m.hostPower t :=
  hostPower_congr h.part h.life h.seq fun _ ho => h.word _ _ ho (.inl rfl)

theorem hostMode (h : PortKept t m a) : a.hostMode t = m.hostMode t := congrArg (bits · 1 0) h.cfg

theorem islandOf (h : PortKept t m a) (hi : m.islandOf t = none) : a.islandOf t = none := by
  have hflag : a.flag (P.ring t) F.RING_STAT_OUTSIDE = m.flag (P.ring t) F.RING_STAT_OUTSIDE := by
    rw [flag, flag, rd, rd, h.word _ _ (by decide) (.inr rfl)]
  unfold Mach.islandOf at hi ⊢
  rw [h.viewOf, hflag]
  by_cases hout : (m.viewOf.isNone && m.flag (P.ring t) F.RING_STAT_OUTSIDE) = true
  · simp [hout] at hi
  · rw [if_neg hout]

theorem foldl {α : Type} {f : Mach → α → Mach} (l : List α) (hf : ∀ m x, x ∈ l → PortKept t m (f m x)) (m : Mach) : PortKept t m (l.foldl f m) := by
  induction l generalizing m with
  | nil => exact refl m
  | cons x l ih => exact (hf m x List.mem_cons_self).trans (ih (fun m y hy => hf m y (List.mem_cons_of_mem _ hy)) _)

end PortKept

theorem StatKept.trans (h : StatKept t m a) (k : StatKept t a b) : StatKept t m b := ⟨h.1.trans k.1, k.2.trans h.2⟩

theorem StatKept.setWord {pk off : Nat} (ho : off < 4096) (hpwr : P.pwr t ≠ pk) (hring : P.ring t ≠ pk) (hstat : P.hostp t ≠ pk) (m : Mach) (w : Word) :
    StatKept t m (m.setWord pk off w) := ⟨.setWord ho hpwr hring m w, word_setWord_off _ _ ho (by decide) (.inl hstat)⟩

theorem StatKept.refl (m : Mach) : StatKept t m m := ⟨.refl m, rfl⟩

theorem StatKept.foldl {α : Type} {f : Mach → α → Mach} (l : List α) (hf : ∀ m x, x ∈ l → StatKept t m (f m x)) (m : Mach) :
    StatKept t m (l.foldl f m) := by
  induction l generalizing m with
  | nil => exact refl m
  | cons x l ih => exact (hf m x List.mem_cons_self).trans (ih (fun m y hy => hf m y (List.mem_cons_of_mem _ hy)) _)

theorem StatKept.modHost (m : Mach) {f : HostSt → HostSt} (hc : ∀ h, (f h).cfg = h.cfg) (hp : ∀ h, (f h).perstLow = h.perstLow) :
    StatKept t m (m.modHost t f) := ⟨.modHost m hc hp, rfl⟩

/-- The pages of a tile's host port. -/
theorem hostPages_apart (t : Nat) : ∀ pk ∈ [P.hostp t, P.pcie t, P.eth t, P.thaig t], P.pwr t ≠ pk ∧ P.ring t ≠ pk := by
  simp only [List.mem_cons, List.not_mem_nil, or_false, forall_eq_or_imp, forall_eq, P.hostp, P.pcie, P.eth, P.thaig, P.pwr, P.ring, pageKey]
  omega

theorem PortKept.clearStatus {pk : Nat} (hpwr : P.pwr t ≠ pk) (hring : P.ring t ≠ pk) (m : Mach) : PortKept t m (m.clearStatus pk) := by
  have hsoft : PortKept t m (m.softResetPage pk) :=
    .foldl _ (fun a e he => .setWord (by have := (List.mem_filter.1 he).2; simp only [Bool.and_eq_true, decide_eq_true_eq] at this; omega)
      hpwr hring a _) m
  exact hsoft.trans (.setWord (by decide) hpwr hring _ _)

theorem StatKept.clearStatus {pk : Nat} (hpwr : P.pwr t ≠ pk) (hring : P.ring t ≠ pk) (hstat : P.hostp t ≠ pk) (m : Mach) :
    StatKept t m (m.clearStatus pk) := by
  have hsoft : StatKept t m (m.softResetPage pk) :=
    .foldl _ (fun a e he => .setWord (by have := (List.mem_filter.1 he).2; simp only [Bool.and_eq_true, decide_eq_true_eq] at this; omega)
      hpwr hring hstat a _) m
  exact hsoft.trans (.setWord (by decide) hpwr hring hstat _ _)

theorem hostStat_cleared (ht : t < 8) (m : Mach) : (m.clearStatus (P.hostp t)).word (P.hostp t) 0x048 = 0 := by
  have hkeep : ∀ u : Fin 8, keptBySoftReset (P.hostp u) 0x048 = 0 ∧ resetWord (P.hostp u * 4096 + 0x048) = 0 := by decide +kernel
  obtain ⟨hkept, hreset⟩ := hkeep ⟨t, ht⟩
  rw [Mach.clearStatus, wrb, word_wr_off _ _ (by decide) (by decide) (.inr (by decide)), word_softResetPage_cleared (by decide) hkept, hreset]

/-- A host port as its reset leaves it, before the cause is shown. -/
def portCleared (m : Mach) (t : Nat) : Mach :=
  let m := m.inSeg t fun m => if m.attachedAt t then m.detach else m
  let m := [P.hostp t, P.pcie t, P.eth t, P.thaig t].foldl Mach.clearStatus m
  let m := m.clearArr (P.eth t) 0
  let m := (List.range 32).foldl (fun m q => m.wr (P.pcie t) (F.PCIE_Q_RING_CFG_EN.nth q) 0) m
  let m := m.modHost t fun h => { cfg := h.cfg, perstLow := h.perstLow, learned := h.learned, restart := h.restart }
  (m.dmaHostDown t).mirrorCredits t

theorem portCleared_shows (ht : t < 8) (hi : m.islandOf t = none) : PortKept t m (m.portCleared t) ∧ (m.portCleared t).word (P.hostp t) 0x048 = 0 := by
  have hports : P.pwr t ≠ P.ports ∧ P.ring t ≠ P.ports := by simp only [P.pwr, P.ring, P.ports, pageKey]; omega
  have hset : ∀ (a : Mach) (f : Field) (v : Nat), f.off < 4096 → PortKept t a (a.wr P.ports f v) := fun a f v ho =>
    .setWord ho hports.1 hports.2 a _
  have hdetach : PortKept t m (m.inSeg t fun m => if m.attachedAt t then m.detach else m) := by
    rw [inSeg_primary hi]
    split
    · unfold detach
      split
      · exact .refl m
      · exact ((hset m _ 0 (by decide)).trans (hset _ _ 0 (by decide))).trans (.setWord (by decide) hports.1 hports.2 _ _)
    · exact .refl m
  have hpages := hostPages_apart t
  have hclear : ∀ a : Mach, PortKept t a ([P.hostp t, P.pcie t, P.eth t, P.thaig t].foldl Mach.clearStatus a) := fun a =>
    .foldl _ (fun b pk hpk => .clearStatus (hpages pk hpk).1 (hpages pk hpk).2 b) a
  have hstat : ∀ a : Mach, ([P.hostp t, P.pcie t, P.eth t, P.thaig t].foldl Mach.clearStatus a).word (P.hostp t) 0x048 = 0 := fun a => by
    have hrest : StatKept t (a.clearStatus (P.hostp t)) ([P.pcie t, P.eth t, P.thaig t].foldl Mach.clearStatus (a.clearStatus (P.hostp t))) :=
      .foldl _ (fun b pk hpk => .clearStatus (hpages pk (List.mem_cons_of_mem _ hpk)).1 (hpages pk (List.mem_cons_of_mem _ hpk)).2
        (by simp only [List.mem_cons, List.not_mem_nil, or_false] at hpk; simp only [P.hostp, P.pcie, P.eth, P.thaig, pageKey] at hpk ⊢; omega) b) _
    rw [List.foldl_cons, hrest.2, hostStat_cleared ht a]
  have hrings : ∀ a : Mach, StatKept t a ((List.range 32).foldl (fun m q => m.wr (P.pcie t) (F.PCIE_Q_RING_CFG_EN.nth q) 0) a) := fun a =>
    .foldl _ (fun b q hq => .setWord (by have := List.mem_range.1 hq; simp only [Field.nth_off, F.PCIE_Q_RING_CFG_EN]; omega)
      (hpages _ (by simp)).1 (hpages _ (by simp)).2 (by simp only [P.hostp, P.pcie, pageKey]; omega) b _) a
  have hcredits : ∀ a : Mach, StatKept t a (a.mirrorCredits t) := fun a =>
    .foldl _ (fun b q _ => ⟨.of_beside (C := fun _ => False) (.of_confined (.modQueue b t q _)) (fun h => h) (fun h => h), rfl⟩) a
  have hdma : ∀ a : Mach, a.islandOf t = none → StatKept t a (a.dmaHostDown t) := fun a ha => by
    have hbeside := (dmaClosed_beside t).dmaHostDown a ha
    have hout : ¬ dmaPages t (P.pwr t) ∧ ¬ dmaPages t (P.hostp t) := by
      simp only [dmaPages, List.mem_cons, List.not_mem_nil, or_false]
      simp only [P.pwr, P.hostp, P.que, P.kitty, P.dram, P.decl, P.faultlog, P.dma, pageKey]
      omega
    exact ⟨.of_beside hbeside hout.1 (ring_not_dmaPages t), hbeside.word _ _ (by decide) hout.2⟩
  have hfirst : PortKept t m (m.inSeg t fun m => if m.attachedAt t then m.detach else m) := hdetach
  have hcleared := hfirst.trans (hclear _)
  have harr : ∀ a : Mach, StatKept t a (a.clearArr (P.eth t) 0) := fun a => ⟨⟨rfl, rfl, rfl, rfl, rfl, rfl, rfl, rfl, rfl, fun _ _ _ _ => rfl⟩, rfl⟩
  have hhost : ∀ a : Mach, StatKept t a (a.modHost t fun h => { cfg := h.cfg, perstLow := h.perstLow, learned := h.learned, restart := h.restart }) :=
    fun a => .modHost a (fun _ => rfl) fun _ => rfl
  have hport := fun a : Mach => ((harr a).trans (hrings _)).trans (hhost _)
  have hall := ((hport _).trans (hdma _ ((hcleared.trans (hport _).1).islandOf hi))).trans (hcredits _)
  exact ⟨hcleared.trans hall.1, hall.2.trans (hstat _)⟩

/-- What a host port reset shows. -/
structure PortReset (t cause : Nat) (m a : Mach) : Prop where
  kept : PortKept t m a
  cause : a.rd (P.hostp t) F.HOSTP_STAT_DOWN_CAUSE = cause
  link : a.flag (P.hostp t) F.HOSTP_STAT_LINK = false
  phy : a.flag (P.hostp t) F.HOSTP_STAT_PHY_UP = false
  training : a.flag (P.hostp t) F.HOSTP_STAT_TRAINING = (m.hostPower t && m.hostMode t ≠ 0 && !(m.hostMode t = 1 && (m.host t).perstLow))
  raised : (a.word (P.hostp t) 0x010).toNat.testBit 1 = true

namespace PortReset
variable {cause : Nat}

theorem linkDown (h : PortReset t cause m a) : a.linkUp t = false := by rw [linkUp, h.link, Bool.and_false]

theorem phyDown (h : PortReset t cause m a) : a.phyUp t = false := by rw [phyUp, h.phy, Bool.and_false]

/-- A word of another page of the port, beside it. -/
theorem raisePcie (h : PortReset t cause m a) (b : Nat) : PortReset t cause m (a.raise (P.pcie t) b) := by
  have hne : P.hostp t ≠ P.pcie t := by simp only [P.hostp, P.pcie, pageKey]; omega
  have hpages := hostPages_apart t (P.pcie t) (by simp)
  exact ⟨h.kept.trans (.setWord (by decide) hpages.1 hpages.2 _ _), (rd_raise_off _ (by decide) (.inl hne)).trans h.cause,
    (flag_raise_off _ (by decide) (.inl hne)).trans h.link, (flag_raise_off _ (by decide) (.inl hne)).trans h.phy,
    (flag_raise_off _ (by decide) (.inl hne)).trans h.training, by rw [word_raise_off _ (by decide) (.inl hne), h.raised]⟩

end PortReset

theorem startTraining_shows (m : Mach) : PortKept t m (m.startTraining t) ∧
    (∀ off, off ≠ 0x048 → off < 4096 → (m.startTraining t).word (P.hostp t) off = m.word (P.hostp t) off) ∧
    (m.startTraining t).flag (P.hostp t) F.HOSTP_STAT_TRAINING =
      (m.hostPower t && m.hostMode t ≠ 0 && !(m.hostMode t = 1 && (m.host t).perstLow)) ∧
    ∀ f : Field, f.off = 0x048 → f.hi < 2 ∨ 2 < f.lo → (m.startTraining t).rd (P.hostp t) f = m.rd (P.hostp t) f := by
  have hpages := hostPages_apart t _ List.mem_cons_self
  refine ⟨(PortKept.modHost m (fun _ => by rfl) fun _ => by rfl).trans (.setWord (by decide) hpages.1 hpages.2 _ _), fun off hne ho => ?_, ?_,
    fun f hf hd => ?_⟩
  · exact word_wr_off _ _ (by decide) ho (.inr hne)
  · exact flag_wr_same _ _ _ rfl (by decide)
  · exact rd_wr_apart _ _ _ (by decide) (by decide) hf hd

theorem hostReset_shows (ht : t < 8) {cause : Nat} (hc : cause < 16) (hi : m.islandOf t = none) (hf : m.fallingAsleep t = false)
    (hlive : m.live t D.hostphy = true) : PortReset t cause m (m.hostReset t cause) := by
  have hnow : m.hostReset t cause = (((m.portCleared t).wr (P.hostp t) F.HOSTP_STAT_DOWN_CAUSE cause).raise (P.hostp t) 1).startTraining t := by
    rw [hostReset, hf, if_neg Bool.false_ne_true, hostResetNow, hlive]
    rfl
  have hpages := hostPages_apart t _ List.mem_cons_self
  obtain ⟨hkept, hstat⟩ := portCleared_shows ht hi
  have hcause : PortKept t m (((m.portCleared t).wr (P.hostp t) F.HOSTP_STAT_DOWN_CAUSE cause).raise (P.hostp t) 1) :=
    (hkept.trans (.setWord (by decide) hpages.1 hpages.2 _ _)).trans (.setWord (by decide) hpages.1 hpages.2 _ _)
  obtain ⟨htrain, hword, hgo, hrd⟩ := startTraining_shows (t := t) (((m.portCleared t).wr (P.hostp t) F.HOSTP_STAT_DOWN_CAUSE cause).raise (P.hostp t) 1)
  have hzero : ∀ f : Field, f.off = 0x048 → (m.portCleared t).rd (P.hostp t) f = 0 := fun f hf => by
    rw [rd, hf, hstat]
    simp [bits]
  have hflag : ∀ f : Field, f.off = 0x048 → f.hi < 2 ∨ 2 < f.lo → f.hi < 28 →
      ((((m.portCleared t).wr (P.hostp t) F.HOSTP_STAT_DOWN_CAUSE cause).raise (P.hostp t) 1).startTraining t).flag (P.hostp t) f = false :=
    fun f hf hd hlt => by
      rw [flag, hrd f hf hd, rd_raise_off _ (by omega) (.inr (by omega)), rd_wr_apart _ _ _ (by decide) (by decide) hf (.inl hlt), hzero f hf]
      decide
  rw [hnow]
  refine ⟨hcause.trans htrain, ?_, hflag _ rfl (by decide) (by decide), hflag _ rfl (by decide) (by decide), ?_, ?_⟩
  · rw [hrd _ rfl (by decide), rd_raise_off _ (by decide) (.inr (by decide)), rd_wr_same _ _ _ (by decide) (by decide)]
    exact Nat.mod_eq_of_lt hc
  · rw [hgo, hcause.hostPower, hcause.hostMode, hcause.perst]
  · rw [hword _ (by decide) (by decide)]
    exact raise_testBit _ _ (by decide)

theorem live_of_phyUp (h : m.phyUp t = true) : m.live t D.hostphy = true :=
  ((Bool.and_eq_true _ _).mp ((Bool.and_eq_true _ _).mp h).1).1

theorem pcieReset_shows (ht : t < 8) {cause : Nat} (hc : cause < 16) (hphy : m.phyUp t = true) (hmode : m.hostMode t = 1)
    (hi : m.islandOf t = none) (hf : m.fallingAsleep t = false) : PortReset t cause m (m.pcieReset t cause) := by
  have hreset := hostReset_shows ht hc hi hf (live_of_phyUp hphy)
  rw [pcieReset, if_neg (by simp [hphy, hmode])]
  dsimp only
  split
  · exact hreset.raisePcie 3
  · exact hreset

theorem live_modHost (m : Mach) (t : Nat) (f : HostSt → HostSt) (d : Nat) : (m.modHost t f).live t d = m.live t d :=
  live_congr (m := m) (a := m.modHost t f) rfl (tile_modTile_congr TileSt.life m t t fun _ => by rfl) (tile_modTile_congr TileSt.seq m t t fun _ => by rfl)
    (fun _ _ => rfl) d

theorem hostPower_modHost (m : Mach) (t : Nat) (f : HostSt → HostSt) : (m.modHost t f).hostPower t = m.hostPower t := by
  rw [hostPower, hostPower, live_modHost, live_modHost]

theorem dormant_modHost (m : Mach) (t : Nat) (f : HostSt → HostSt) : ((m.modHost t f).tile t).dormant = (m.tile t).dormant :=
  tile_modTile_congr TileSt.dormant m t t fun _ => by rfl

theorem fallingAsleep_modHost (m : Mach) (t : Nat) (f : HostSt → HostSt) : (m.modHost t f).fallingAsleep t = m.fallingAsleep t := by
  have hseq : ((m.modHost t f).tile t).seq = (m.tile t).seq := tile_modTile_congr TileSt.seq m t t fun _ => by rfl
  rw [fallingAsleep, fallingAsleep, dormant_modHost, hseq]

theorem host_modHost (m : Mach) (f : HostSt → HostSt) (ht : t < 8) : (m.modHost t f).host t = f (m.host t) := by
  rw [host, modHost, tile_modTile_same _ _ ht, host]

/-- HP_PERST_N falls on an endpoint that has power (R437). -/
theorem perstFalls_shows (ht : t < 8) (hlow : (m.host t).perstLow = false) (hpower : m.hostPower t = true) (hmode : m.hostMode t = 1)
    (hi : m.islandOf t = none) (hf : m.fallingAsleep t = false) :
    PortReset t 1 (m.modHost t fun h => { h with perstLow := true }) (m.perstFalls t) := by
  have hhost := host_modHost m (fun h => { h with perstLow := true }) ht
  have hmode' : (m.modHost t fun h => { h with perstLow := true }).hostMode t = 1 := by rw [hostMode, hhost]; exact hmode
  have hlive : (m.modHost t fun h => { h with perstLow := true }).live t D.hostphy = true :=
    (live_modHost m t _ _).trans ((Bool.and_eq_true _ _).mp hpower).1
  have hreset := hostReset_shows (m := m.modHost t fun h => { h with perstLow := true }) (cause := 1) ht (by decide) hi
    ((fallingAsleep_modHost m t _).trans hf) hlive
  rw [perstFalls, hlow, if_neg Bool.false_ne_true]
  dsimp only
  rw [hostPower_modHost, hpower, hmode', if_pos (show (true && decide (1 = 1)) = true by decide)]
  exact hreset

/-- HP_PERST_N rises: training starts (R428, R437). -/
theorem perstRises_trains (ht : t < 8) (hlow : (m.host t).perstLow = true) (hpower : m.hostPower t = true) (hmode : m.hostMode t = 1) :
    m.perstRises t = (m.modHost t fun h => { h with perstLow := false, failShown := false, restart := false }).wrb (P.hostp t)
      F.HOSTP_STAT_TRAINING true := by
  have hhost := host_modHost m (fun h => { h with perstLow := false }) ht
  have hmode' : (m.modHost t fun h => { h with perstLow := false }).hostMode t = 1 := by rw [hostMode, hhost]; exact hmode
  rw [perstRises, hlow, Bool.not_true, if_neg Bool.false_ne_true]
  dsimp only
  rw [hostPower_modHost, hpower, hmode', if_pos (show (true && decide (1 = 1)) = true by decide), startTraining, hostPower_modHost, hpower, hmode', hhost]
  simp [modHost_modHost]

/-- A restart puts the configuration of HOSTP.CFG into force (R427). -/
def restarted (m : Mach) (t : Nat) : Mach := m.modHost t fun h =>
  { h with cfg := (m.word (P.hostp t) 0x040).toNat, restart := decide (bits (m.word (P.hostp t) 0x040).toNat 1 0 ≠ 0) }

theorem hostRestart_pcie (hmode : bits (m.word (P.hostp t) 0x040).toNat 1 0 = 1) (hlo : 1 ≤ bits (m.word (P.hostp t) 0x040).toNat 10 8)
    (hhi : bits (m.word (P.hostp t) 0x040).toNat 10 8 ≤ 5) (hf : m.fallingAsleep t = false) :
    m.hostRestart t = (m.restarted t).hostReset t 6 := by
  unfold hostRestart
  dsimp only
  rw [if_neg (by simp [hmode, hlo, hhi]), hf, if_neg Bool.false_ne_true, restarted]

theorem blockWrite_hostp (m : Mach) (t : Fin 8) (off : Nat) (v : Word) : m.blockWrite (P.hostp t) off v = m.writeHostp t off v := by
  rw [blockWrite, P.hostp, tileOf_pageKey _ _ (by decide), pageOf_pageKey _ _ (by decide), blockCode_tilePage _ (by omega)]
  rfl

/-- HOSTP.STAT as a link that comes up leaves it. -/
def linkShown (m : Mach) (t rate width : Nat) : Mach :=
  ((((m.wr (P.hostp t) F.HOSTP_STAT_TRAINING 0).wr (P.hostp t) F.HOSTP_STAT_RATE_NOW rate).wr (P.hostp t) F.HOSTP_STAT_WIDTH_NOW width).wr
    (P.hostp t) F.HOSTP_STAT_PHY_UP 1).wr (P.hostp t) F.HOSTP_STAT_LINK 1

theorem linkShown_fields (m : Mach) (t rate width : Nat) : (m.linkShown t rate width).flag (P.hostp t) F.HOSTP_STAT_LINK = true ∧
    (m.linkShown t rate width).flag (P.hostp t) F.HOSTP_STAT_PHY_UP = true ∧
    (m.linkShown t rate width).flag (P.hostp t) F.HOSTP_STAT_TRAINING = false ∧
    (m.linkShown t rate width).rd (P.hostp t) F.HOSTP_STAT_RATE_NOW = rate % 8 := by
  refine ⟨flag_wr_same _ _ true rfl (by decide), ?_, ?_, ?_⟩ <;> rw [linkShown]
  · rw [flag_wr_apart _ _ _ (by decide) (by decide) (by rfl) (by decide)]
    exact flag_wr_same _ _ true rfl (by decide)
  · rw [flag_wr_apart _ _ _ (by decide) (by decide) (by rfl) (by decide), flag_wr_apart _ _ _ (by decide) (by decide) (by rfl) (by decide),
      flag_wr_apart _ _ _ (by decide) (by decide) (by rfl) (by decide), flag_wr_apart _ _ _ (by decide) (by decide) (by rfl) (by decide)]
    exact flag_wr_same _ _ false rfl (by decide)
  · rw [rd_wr_apart _ _ _ (by decide) (by decide) (by rfl) (by decide), rd_wr_apart _ _ _ (by decide) (by decide) (by rfl) (by decide),
      rd_wr_apart _ _ _ (by decide) (by decide) (by rfl) (by decide), rd_wr_same _ _ _ (by decide) (by decide)]
    rfl

/-- `a` differs from `m` in its words only, those outside the pages HOSTP and PCIE apart. -/
structure PortShown (t : Nat) (m a : Mach) : Prop where
  rest : { a with regs := m.regs } = m
  word : ∀ pk off, off < 4096 → pk ≠ P.hostp t → ¬ (pk = P.pcie t ∧ off = 0x044) → a.word pk off = m.word pk off

namespace PortShown

theorem refl (m : Mach) : PortShown t m m := ⟨rfl, fun _ _ _ _ _ => rfl⟩

theorem trans (h : PortShown t m a) (k : PortShown t a b) : PortShown t m b :=
  ⟨by rw [← h.rest, ← k.rest], fun pk off ho hp hc => (k.word pk off ho hp hc).trans (h.word pk off ho hp hc)⟩

theorem hostp {off : Nat} (ho : off < 4096) (m : Mach) (w : Word) : PortShown t m (m.setWord (P.hostp t) off w) :=
  ⟨rfl, fun _ _ ho' hp _ => word_setWord_off _ _ ho ho' (.inl hp)⟩

theorem pcieStat (m : Mach) (w : Word) : PortShown t m (m.setWord (P.pcie t) 0x044 w) :=
  ⟨rfl, fun pk off ho' _ hc => word_setWord_off _ _ (by decide) ho' (by rw [← not_and_or]; exact hc)⟩

theorem linkShown (m : Mach) (rate width : Nat) : PortShown t m (m.linkShown t rate width) :=
  ((((hostp (by decide) m _).trans (hostp (by decide) _ _)).trans (hostp (by decide) _ _)).trans (hostp (by decide) _ _)).trans (hostp (by decide) _ _)

theorem hostPower (h : PortShown t m a) : a.hostPower t = m.hostPower t := by
  have hrest := h.rest
  have htile : a.tile t = m.tile t := by rw [← hrest]; rfl
  refine hostPower_congr (by rw [← hrest]) (by rw [htile]) (by rw [htile]) fun off ho => h.word _ _ ho ?_ ?_ <;>
    simp only [P.pwr, P.hostp, P.pcie, pageKey] <;> omega

end PortShown

/-- A link that comes up (R428). -/
theorem linkComes_shows (gen width : Nat) (hg : gen < 8) (hpower : m.hostPower t = true) (htrain : m.flag (P.hostp t) F.HOSTP_STAT_TRAINING = true)
    (href : m.refLost = false) : PortShown t m (m.linkComes t gen width) ∧ (m.linkComes t gen width).linkUp t = true ∧
      (m.linkComes t gen width).phyUp t = true ∧ (m.linkComes t gen width).flag (P.hostp t) F.HOSTP_STAT_TRAINING = false ∧
      (m.linkComes t gen width).rd (P.hostp t) F.HOSTP_STAT_RATE_NOW =
        (if m.hostMode t = 1 then max 1 (min (bits (m.host t).cfg 10 8) gen) else bits (m.host t).cfg 10 8) ∧
      ((m.linkComes t gen width).word (P.hostp t) 0x010).toNat.testBit 0 = true := by
  have hne : P.hostp t ≠ P.pcie t := by simp only [P.hostp, P.pcie, pageKey]; omega
  have hpcie : ∀ (c : Prop) [Decidable c] (a : Mach) (r w : Nat),
      PortShown t a (if c then (a.wr (P.pcie t) F.PCIE_STAT_GEN r).wr (P.pcie t) F.PCIE_STAT_LANES w else a) ∧
      ∀ f : Field, f.off < 4096 → (if c then (a.wr (P.pcie t) F.PCIE_STAT_GEN r).wr (P.pcie t) F.PCIE_STAT_LANES w else a).rd (P.hostp t) f =
        a.rd (P.hostp t) f := fun c _ a r w => by
    split
    · exact ⟨(PortShown.pcieStat a _).trans (.pcieStat _ _), fun f ho => by
        rw [rd_wr_off _ _ (by decide) ho (.inl hne), rd_wr_off _ _ (by decide) ho (.inl hne)]⟩
    · exact ⟨.refl a, fun _ _ => rfl⟩
  have hrate : ∀ r : Nat, r = (if m.hostMode t = 1 then max 1 (min (bits (m.host t).cfg 10 8) gen) else bits (m.host t).cfg 10 8) → r < 8 := by
    have hlt := bits_lt (m.host t).cfg 10 8
    intro r hr
    split at hr <;> omega
  have hcome : ∃ r w k : Nat, r = (if m.hostMode t = 1 then max 1 (min (bits (m.host t).cfg 10 8) gen) else bits (m.host t).cfg 10 8) ∧
      m.linkComes t gen width = (if m.hostMode t = 1 then ((m.linkShown t r w).wr (P.pcie t) F.PCIE_STAT_GEN r).wr (P.pcie t) F.PCIE_STAT_LANES k
        else m.linkShown t r w).raise (P.hostp t) 0 := by
    have hgo : ¬ (!m.hostPower t || !m.flag (P.hostp t) F.HOSTP_STAT_TRAINING || m.refLost) = true := by simp [hpower, htrain, href]
    unfold linkComes
    rw [if_neg hgo]
    exact ⟨_, _, _, rfl, rfl⟩
  obtain ⟨r, w, k, hr, heq⟩ := hcome
  obtain ⟨hlink, hphy, htr, hnow⟩ := linkShown_fields m t r w
  obtain ⟨hshown, hrd⟩ := hpcie (m.hostMode t = 1) (m.linkShown t r w) r k
  have hall : PortShown t m (m.linkComes t gen width) := heq ▸ ((PortShown.linkShown m r w).trans hshown).trans (.hostp (by decide) _ _)
  have hfield : ∀ f : Field, f.off < 4096 → f.off ≠ 0x010 → (m.linkComes t gen width).rd (P.hostp t) f = (m.linkShown t r w).rd (P.hostp t) f :=
    fun f ho hne => by rw [heq, rd_raise_off _ ho (.inr hne), hrd f ho]
  refine ⟨hall, ?_, ?_, ?_, ?_, ?_⟩
  · rw [linkUp, hall.hostPower, hpower, flag, hfield _ (by decide) (by decide), ← flag, hlink, Bool.and_self]
  · rw [phyUp, hall.hostPower, hpower, flag, hfield _ (by decide) (by decide), ← flag, hphy, Bool.and_self]
  · rw [flag, hfield _ (by decide) (by decide), ← flag, htr]
  · rw [hfield _ (by decide) (by decide), hnow, Nat.mod_eq_of_lt (hrate r hr), hr]
  · rw [heq]
    exact raise_testBit _ _ (by decide)

end
end Mach

/-- Settles O51. -/
theorem hostLinks : Obligations.HostLinks := by
  unfold Obligations.HostLinks
  refine ⟨?restart, ?lost, ?pcs, ?perst, ?release, ?up, ?fail, ?silent⟩
  case restart =>
    intro s p t v h hlive hf hi hmode hrate hrate'
    have h0 : bit (v ||| 1).toNat 0 = true := (bit_or_two_pow v 0 0).trans (by simp)
    have hcfg : ((s.start.restarted t).host t).cfg = (s.start.word (P.hostp t) 0x040).toNat := by rw [Mach.restarted, Mach.host_modHost _ _ t.isLt]
    have hshown := Mach.hostReset_shows (m := s.start.restarted t) t.isLt (cause := 6) (by decide) hi
      ((Mach.fallingAsleep_modHost _ _ _).trans hf) ((Mach.live_modHost _ _ _ _).trans hlive)
    refine ⟨_, effect_tileWrite h (by omega) (by decide) (by decide) (by decide) (by decide) (by decide) (by omega)
      ((s.start.blockWrite_hostp t 0x044 _).trans (congrArg some ((if_pos h0).trans (Mach.hostRestart_pcie hmode hrate hrate' hf))))
      (hshown.kept.dormant.trans (Mach.dormant_modHost _ _ _)), hshown.kept.cfg.trans hcfg, hshown.cause, hshown.linkDown, hshown.raised,
      hshown.kept.dram, hshown.kept.clus⟩
  case lost =>
    intro s t i c hic hphy hmode hi hf
    have hreset : ∀ c, c < 16 → ∃ a : Mach, s.effect (fun m => m.pcieReset t c) = .next (s.settled a) ∧
        a.rd (P.hostp t) F.HOSTP_STAT_DOWN_CAUSE = c ∧ a.linkUp t = false ∧ a.phyUp t = false ∧
        (a.word (P.hostp t) 0x010).toNat.testBit 1 = true ∧ (a.host t).cfg = (s.start.host t).cfg ∧ a.dram = s.start.dram ∧
        a.clus = s.start.clus := fun c hc => by
      have hshown := Mach.pcieReset_shows t.isLt hc hphy hmode hi hf
      exact ⟨_, rfl, hshown.cause, hshown.linkDown, hshown.phyDown, hshown.raised, hshown.kept.cfg, hshown.kept.dram, hshown.kept.clus⟩
    simp only [List.mem_cons, List.not_mem_nil, or_false, Prod.mk.injEq] at hic
    rcases hic with ⟨rfl, rfl⟩ | ⟨rfl, rfl⟩ | ⟨rfl, rfl⟩
    · exact hreset 2 (by decide)
    · exact hreset 3 (by decide)
    · exact hreset 4 (by decide)
  case pcs =>
    intro s t hphy hmode hi hf
    have hshown := Mach.hostReset_shows t.isLt (cause := 5) (by decide) hi hf (Mach.live_of_phyUp hphy)
    refine ⟨_, effect_next (f := fun m => m.pcsLoss t) (if_neg (by simp [hphy, hmode])), hshown.cause, hshown.linkDown, hshown.raised,
      hshown.kept.cfg, hshown.kept.dram, hshown.kept.clus⟩
  case perst =>
    intro s t hlow hpower hmode hi hf
    have hshown := Mach.perstFalls_shows t.isLt hlow hpower hmode hi hf
    have hhost := Mach.host_modHost s.start (fun h => { h with perstLow := true }) t.isLt
    refine ⟨s.start.perstFalls t, rfl, ?_, hshown.cause, hshown.linkDown, ?_, hshown.kept.dram, hshown.kept.clus⟩
    · rw [hshown.kept.perst, hhost]
    · have hmode' : (s.start.modHost t fun h => { h with perstLow := true }).hostMode t = 1 := by rw [Mach.hostMode, hhost]; exact hmode
      rw [hshown.training, hmode', hhost]
      simp
  case release =>
    intro s t hlow hpower hmode
    exact effect_next (f := fun m => m.perstRises t) (Mach.perstRises_trains t.isLt hlow hpower hmode)
  case up =>
    intro s t gen width hpower htrain href
    obtain ⟨hshown, hlink, hphy, htr, hrate, hraised⟩ := Mach.linkComes_shows gen width gen.isLt hpower htrain href
    exact ⟨s.start.linkComes t gen width, rfl, hlink, hphy, htr, hrate, hraised, hshown.word, (congrArg Mach.arr hshown.rest :),
      (congrArg Mach.dram hshown.rest :), (congrArg Mach.tiles hshown.rest :), (congrArg Mach.clus hshown.rest :)⟩
  case fail =>
    intro s t hpower htrain hfail
    exact effect_next (f := fun m => m.trainFail t) (by simp [Mach.trainFail, hpower, htrain, hfail])
  case silent =>
    intro s t hlink hmode hms
    exact effect_next (f := fun m => m.hostSilent t) (by simp [Mach.hostSilent, hlink, hmode, hms])

end Sys2Proof.Machine

/-!
PROOFS. The transport axes: what running an axis touches, and the action bits of AXIS.CTRL.
-/

namespace Sys2Proof.Machine

/-- What the microsteps of an axis leave of its state: all but where and when its last ones fell, and the target moved by a wrap. -/
def AxisSt.cruise (s : AxisSt) : AxisSt := { s with dir := false, dirAt := none, lastPulse := none, lastEv := 0, tgt := 0 }

namespace Mach

/-! ### Motion touches the axis, its page and what its events need -/

theorem logPackage_tiles (m : Mach) (r : FaultRec) : (m.logPackage r).tiles = m.tiles := by
  obtain ⟨l, hl⟩ := m.logPackage_eq r
  rw [hl, countRecord]
  split
  · simp only [raise_tiles, inc_tiles, incW, wr_tiles]
  · simp only [wr_tiles, raise_tiles, incW]

theorem dormant_swapView (m : Mach) (d u : Nat) : ((m.swapView d).tile u).dormant = (m.tile u).dormant :=
  tile_modTile_congr TileSt.dormant m d u fun _ => rfl

theorem dormant_logSegment (m : Mach) (t : Nat) (r : FaultRec) (u : Nat) : ((m.logSegment t r).tile u).dormant = (m.tile u).dormant := by
  unfold logSegment
  split
  · rw [dormant_swapView, tile, logPackage_tiles, ← tile, dormant_swapView]
  · rw [tile, logPackage_tiles, ← tile]

/-- A relation that holds of everything that running the axis of cluster `g` is made of. -/
structure AxisClosed (R : Mach → Mach → Prop) (C : Nat → Prop) (g : Nat) : Prop extends QueueClosed R C (g / 2) where
  pages : QueuePages C (g / 2)
  page : C (P.axis g)
  modClu : ∀ m f, R m (m.modClu g f)
  emitOut : ∀ m o, R m (m.emitOut o)

namespace AxisClosed
variable {R : Mach → Mach → Prop} {C : Nat → Prop} {g : Nat} (hR : AxisClosed R C g)
include hR

theorem modAxS (m : Mach) (f : AxisSt → AxisSt) : R m (m.modAxS g f) := hR.modClu m _

theorem modAxA (m : Mach) (f : AxisAon → AxisAon) : R m (m.modAxA g f) := hR.modClu m _

theorem wrPage {f : Field} (ho : f.off < 4096) (m : Mach) (v : Nat) : R m (m.wr (P.axis g) f v) := hR.wr hR.page ho m v

theorem motionEvent (m : Mach) (b code time : Nat) : R m (m.motionEvent g b code time) :=
  hR.trans (hR.trans (hR.raise hR.page m b) (hR.modAxS _ _)) (hR.emitEvent hR.pages _ _ _ hR.page (by decide) _ _)

theorem turn (m : Mach) (neg : Bool) : R m (m.turn g neg) := by
  unfold Mach.turn
  dsimp only
  split
  · exact hR.refl m
  · exact hR.modAxS m _

theorem microstep (m : Mach) (neg : Bool) (n : Nat) : R m (m.microstep g neg n) := by
  unfold Mach.microstep
  dsimp only
  have hmove : ∀ f f', R m (((m.modAxA g f).modAxS g f').wr (P.axis g) F.AXIS_STAT_HOLD_CUR 0) := fun f f' =>
    hR.trans (hR.trans (hR.modAxA m f) (hR.modAxS _ f')) (hR.wrPage (by decide) _ 0)
  split
  · exact hmove _ _
  · exact hR.trans (hmove _ _) (hR.trans (hR.modAxS _ _) (hR.emitOut _ _))

theorem stepsTo (p v c : Int) (t0 d k : Nat) (m : Mach) : R m (m.stepsTo g p v c t0 d k) := by
  induction k generalizing m with
  | zero => exact hR.refl m
  | succ k ih =>
    have hturn : ∀ (c : Bool) neg, R m (if c = true then m.turn g neg else m) := fun c neg => by
      split
      · exact hR.turn m neg
      · exact hR.refl m
    have hstep : ∀ (a : Mach) (e : Nat) neg, R m a → R m (if t0 + d < e then a else Mach.stepsTo g p v c t0 d k (a.microstep g neg e)) :=
      fun a e neg ha => by
        split
        · exact ha
        · exact hR.trans ha (hR.trans (hR.microstep _ _ _) (ih _))
    unfold Mach.stepsTo
    dsimp only
    split
    · exact hR.refl m
    · exact hstep _ _ _ (hturn _ _)

theorem steps (m : Mach) (p v a : Int) (t0 d : Nat) : R m (m.steps g p v a t0 d) := hR.stepsTo p v a t0 d _ m

theorem wrapPos (m : Mach) : R m (m.wrapPos g) := by
  unfold Mach.wrapPos
  dsimp only
  split
  · exact hR.refl m
  · exact hR.trans (hR.modAxA m _) (hR.modAxS _ _)

theorem stand (m : Mach) (n : Nat) : R m (m.stand g n) := hR.modAxS m _

theorem edecEnd (m : Mach) (n : Nat) : R m (m.edecEnd g n) := by
  unfold Mach.edecEnd
  dsimp only
  have hoff : ∀ (c : Bool) (a : Mach), R a (if c = true then a.wr (P.axis g) F.PAGE_CTRL_ENABLE 0 else a) := fun c a => by
    split
    · exact hR.wrPage (by decide) a 0
    · exact hR.refl a
  exact hR.trans (hR.trans (hR.trans (hR.trans (hR.trans (hR.stand m n) (hR.modAxS _ _)) (hR.wrPage (by decide) _ _)) (hR.wrPage (by decide) _ 1))
    (hR.motionEvent _ 2 0x03 n)) (hoff _ _)

theorem arrive (m : Mach) : R m (m.arrive g) := by
  unfold Mach.arrive
  dsimp only
  split
  · exact hR.refl m
  · exact hR.trans (hR.trans (hR.trans (hR.modAxS m _) (hR.wrPage (by decide) _ 0)) (hR.wrPage (by decide) _ 1)) (hR.motionEvent _ _ _ _)

theorem standstill (m : Mach) (n : Nat) : R m (m.standstill g n) := by
  unfold Mach.standstill
  dsimp only
  refine hR.trans (hR.stand m n) ?_
  split
  · exact hR.edecEnd _ n
  · exact hR.trans (hR.modAxS _ _) (hR.motionEvent _ _ _ _)
  · exact hR.modAxS _ _
  · split
    · exact hR.wrPage (by decide) _ 3
    · exact hR.trans (hR.trans (hR.trans (hR.wrPage (by decide) _ 0) (hR.modAxS _ _)) (hR.modAxA _ _)) (hR.motionEvent _ _ _ _)
    · exact hR.refl _
  · exact hR.refl _

theorem axisHalt (m : Mach) (n : Nat) : R m (m.axisHalt g n) := by
  unfold Mach.axisHalt
  split
  · exact hR.edecEnd m n
  · exact hR.trans (hR.stand m n) (hR.modAxS _ _)

theorem axisSegment (m : Mach) (n : Nat) : R m (m.axisSegment g n) := by
  have hend : ∀ (hit stop : Bool) (a : Mach) (d e : Nat) f,
      R a (if hit = true then a.stand g d else if stop = true then a.standstill g e else a.modAxS g f) := fun hit stop a d e f => by
    split
    · exact hR.stand a d
    · split
      · exact hR.standstill a e
      · exact hR.modAxS a f
  unfold Mach.axisSegment
  exact hR.trans (hR.trans (hR.steps m _ _ _ _ _) (hR.modAxA _ _)) (hend _ _ _ _ _ _)

theorem axisRun (m : Mach) (n : Nat) : R m (m.axisRun g n) := by
  have hlate : ∀ (c : Prop) [Decidable c] (b a : Mach), R b a → R b (if c then b else a) := fun c _ b a h => by
    split
    · exact hR.refl b
    · exact h
  unfold Mach.axisRun
  dsimp only
  split
  · split
    · exact hR.axisHalt m n
    · exact hR.modAxS m _
  · exact hR.trans (hR.trans (hR.axisSegment m n) (hlate _ _ _ (hR.steps _ _ _ _ _ _))) (hR.trans (hR.wrapPos _) (hR.arrive _))

end AxisClosed

/-- Running an axis leaves DRAM, and every tile as awake as it was. -/
theorem axisClosed_awake (g : Nat) :
    AxisClosed (fun m a => a.dram = m.dram ∧ ∀ u, (a.tile u).dormant = (m.tile u).dormant) (fun _ => True) g where
  refl _ := ⟨rfl, fun _ => rfl⟩
  trans hab hbc := ⟨hbc.1.trans hab.1, fun u => (hbc.2 u).trans (hab.2 u)⟩
  setWord _ _ _ _ := ⟨rfl, fun _ => rfl⟩
  modTile m f hf := ⟨rfl, fun u => tile_modTile_congr TileSt.dormant m _ u fun ts =>
    show (f ts).sansQueues.dormant = ts.sansQueues.dormant from congrArg TileSt.dormant (hf ts)⟩
  log m r := ⟨(queueClosed_dram _).log m r, dormant_logSegment m _ r⟩
  pages := ⟨trivial, trivial, trivial, trivial⟩
  page := trivial
  modClu _ _ := ⟨rfl, fun _ => rfl⟩
  emitOut _ _ := ⟨rfl, fun _ => rfl⟩

/-! ### A cruising axis -/

section
variable {m a b : Mach} {g : Nat}

theorem axS_modAxS (m : Mach) (f : AxisSt → AxisSt) (hg : g < 16) : (m.modAxS g f).axS g = f (m.axS g) := by
  rw [axS, modAxS, clu_modClu_same _ _ hg, axS]

theorem axA_modAxS (m : Mach) (f : AxisSt → AxisSt) : (m.modAxS g f).axA g = m.axA g := clu_modClu_congr Cluster.axisAon m g g fun _ => rfl

theorem axS_modAxA (m : Mach) (f : AxisAon → AxisAon) : (m.modAxA g f).axS g = m.axS g := clu_modClu_congr Cluster.axis m g g fun _ => rfl

theorem modAxS_eq_of_at {f f' : AxisSt → AxisSt} (h : f (m.axS g) = f' (m.axS g)) : m.modAxS g f = m.modAxS g f' :=
  modClu_eq_of_at (congrArg (fun x => { m.clu g with axis := x }) h)

/-- `a` differs from `m` in registers, clusters and output only. -/
def AxisOnly (m a : Mach) : Prop := { a with regs := m.regs, clus := m.clus, out := m.out } = m

theorem AxisOnly.trans (h : AxisOnly m a) (k : AxisOnly a b) : AxisOnly m b := by
  unfold AxisOnly at h k ⊢
  rw [← h, ← k]

theorem AxisOnly.setWord (m : Mach) (pk off : Nat) (w : Word) : AxisOnly m (m.setWord pk off w) := rfl

theorem axS_setWord (m : Mach) (pk off : Nat) (w : Word) : (m.setWord pk off w).axS g = m.axS g := rfl

theorem AxisOnly.modAxS (m : Mach) (f : AxisSt → AxisSt) : AxisOnly m (m.modAxS g f) := rfl

/-- `a` is `m` after microsteps of the axis `g` and nothing else: its STAT, its cluster and the output aside, the same. -/
structure Rides (g : Nat) (m a : Mach) : Prop where
  rest : AxisOnly m a
  word : ∀ pk off, off < 4096 → ¬ (pk = P.axis g ∧ off = 0x0A0) → a.word pk off = m.word pk off
  axis : (a.axS g).cruise = (m.axS g).cruise

namespace Rides

theorem refl (m : Mach) : Rides g m m := ⟨rfl, fun _ _ _ _ => rfl, rfl⟩

theorem trans (h : Rides g m a) (k : Rides g a b) : Rides g m b :=
  ⟨h.rest.trans k.rest, fun pk off ho hne => (k.word pk off ho hne).trans (h.word pk off ho hne), k.axis.trans h.axis⟩

theorem modAxS (hg : g < 16) (m : Mach) {f : AxisSt → AxisSt} (hf : ∀ s, (f s).cruise = s.cruise) : Rides g m (m.modAxS g f) :=
  ⟨rfl, fun _ _ _ _ => rfl, by rw [axS_modAxS _ _ hg, hf]⟩

theorem modAxA (m : Mach) (f : AxisAon → AxisAon) : Rides g m (m.modAxA g f) := ⟨rfl, fun _ _ _ _ => rfl, by rw [axS_modAxA]⟩

theorem holdCur (m : Mach) (v : Nat) : Rides g m (m.wr (P.axis g) F.AXIS_STAT_HOLD_CUR v) :=
  ⟨.setWord _ _ _ _, fun _ _ ho hne => word_wr_off _ _ (by decide) ho (by rw [← not_and_or]; exact hne), by rw [wr, axS_setWord]⟩

theorem emitOut (m : Mach) (o : Out) : Rides g m (m.emitOut o) := ⟨rfl, fun _ _ _ _ => rfl, rfl⟩

theorem turn (hg : g < 16) (m : Mach) (neg : Bool) : Rides g m (m.turn g neg) := by
  unfold Mach.turn
  dsimp only
  split
  · exact refl m
  · exact modAxS hg m fun _ => rfl

theorem microstep (hg : g < 16) (m : Mach) (neg : Bool) (n : Nat) : Rides g m (m.microstep g neg n) := by
  unfold Mach.microstep
  dsimp only
  have hmove : ∀ f, Rides g m (((m.modAxA g f).modAxS g fun s => { s with lastEv := n }).wr (P.axis g) F.AXIS_STAT_HOLD_CUR 0) := fun f =>
    ((modAxA m f).trans (modAxS hg _ (f := fun s => { s with lastEv := n }) fun _ => rfl)).trans (holdCur _ 0)
  split
  · exact hmove _
  · exact (hmove _).trans ((modAxS hg _ (f := fun s => { s with lastPulse := some n }) fun _ => rfl).trans (emitOut _ _))

theorem stepsTo (hg : g < 16) (p v c : Int) (t0 d k : Nat) (m : Mach) : Rides g m (m.stepsTo g p v c t0 d k) := by
  induction k generalizing m with
  | zero => exact refl m
  | succ k ih =>
    have hturn : ∀ (c : Bool) neg, Rides g m (if c = true then m.turn g neg else m) := fun c neg => by
      split
      · exact turn hg m neg
      · exact refl m
    have hstep : ∀ (a : Mach) (e : Nat) neg, Rides g m a →
        Rides g m (if t0 + d < e then a else Mach.stepsTo g p v c t0 d k (a.microstep g neg e)) := fun a e neg ha => by
      split
      · exact ha
      · exact ha.trans ((microstep hg _ _ _).trans (ih _))
    unfold Mach.stepsTo
    dsimp only
    split
    · exact refl m
    · exact hstep _ _ _ (hturn _ _)

theorem wrapPos (hg : g < 16) (m : Mach) : Rides g m (m.wrapPos g) := by
  unfold Mach.wrapPos
  dsimp only
  split
  · exact refl m
  · exact (modAxA m _).trans (modAxS hg _ (f := fun s => { s with tgt := s.tgt - _ }) fun _ => rfl)

end Rides

/-- The segment of an axis that runs at a velocity goes on to `n` (R330). -/
theorem axisSegment_cruise (hmode : (m.axS g).mode = .vel) (hte : (m.axS g).te = none) (n : Nat) : m.axisSegment g n =
    ((m.steps g (m.axA g).p (m.axS g).v (m.axS g).a (m.axS g).t0 (n - (m.axS g).t0)).modAxA g fun x =>
      { x with p := glide (m.axA g).p (m.axS g).v (m.axS g).a (n - (m.axS g).t0) }).modAxS g fun x =>
        { x with v := glideV x.v x.a (n - (m.axS g).t0), t0 := n } := by
  unfold axisSegment
  dsimp only
  rw [hte]
  simp [hmode]

theorem glideV_zero (v : Int) (d : Nat) : glideV v 0 d = v := by simp [glideV]

/-- An axis at constant velocity rides to `n`. -/
theorem axisRun_cruise (hg : g < 16) (hmay : m.mayMove g = true) (hmode : (m.axS g).mode = .vel) (hv : (m.axS g).v ≠ 0) (ha : (m.axS g).a = 0)
    (hte : (m.axS g).te = none) (n : Nat) :
    ∃ b, Rides g m b ∧ Rides g (b.modAxS g fun s => { s with t0 := n }) (m.axisRun g n) := by
  have hb : ∃ b, Rides g m b ∧ m.axisSegment g n = b.modAxS g fun x => { x with v := glideV x.v x.a (n - (m.axS g).t0), t0 := n } :=
    ⟨_, (Rides.stepsTo hg _ _ _ _ _ _ m).trans (.modAxA _ _), axisSegment_cruise hmode hte n⟩
  obtain ⟨b, hride, hseg⟩ := hb
  have hcv : (b.axS g).v = (m.axS g).v := show (b.axS g).cruise.v = (m.axS g).cruise.v from congrArg AxisSt.v hride.axis
  have hca : (b.axS g).a = 0 := ha ▸ show (b.axS g).cruise.a = (m.axS g).cruise.a from congrArg AxisSt.a hride.axis
  have hcm : (b.axS g).mode = .vel := hmode ▸ show (b.axS g).cruise.mode = (m.axS g).cruise.mode from congrArg AxisSt.mode hride.axis
  have hkeep : (b.modAxS g fun x => { x with v := glideV x.v x.a (n - (m.axS g).t0), t0 := n }) = b.modAxS g fun x => { x with t0 := n } :=
    modAxS_eq_of_at (by rw [hca, glideV_zero])
  refine ⟨b, hride, ?_⟩
  have hrest : m.axisRun g n = (b.modAxS g fun x => { x with t0 := n }).wrapPos g := by
    have hmoving : (b.modAxS g fun x => { x with t0 := n }).moving g = true := by
      simp [moving, axS_modAxS _ _ hg, hcv, hv]
    have hmode' : (((b.modAxS g fun x => { x with t0 := n }).wrapPos g).axS g).mode = .vel := by
      have h := congrArg AxisSt.mode (Rides.wrapPos hg (b.modAxS g fun x => { x with t0 := n })).axis
      simpa only [AxisSt.cruise, axS_modAxS _ _ hg, hcm] using h
    unfold axisRun
    rw [hmay, hseg, hkeep]
    simp [hmoving, arrive, hmode']
  rw [hrest]
  exact Rides.wrapPos hg _

/-- An EDEC stop of an axis at constant velocity (R340). -/
theorem axisEdec_cruise (hg : g < 16) (hmay : m.mayMove g = true) (hmode : (m.axS g).mode = .vel) (hv : (m.axS g).v ≠ 0) (ha : (m.axS g).a = 0)
    (hte : (m.axS g).te = none) (cause : Nat) :
    AxisOnly m (m.axisEdec g cause) ∧
    ((m.axisEdec g cause).axS g).mode = .edec ∧ ((m.axisEdec g cause).axS g).cause = cause ∧ ((m.axisEdec g cause).axS g).v = (m.axS g).v ∧
    ((m.axisEdec g cause).axS g).t0 = m.now (g / 2) ∧ ((m.axisEdec g cause).axS g).a =
      (if (m.axS g).v < 0 then 1 else -1) * ((max 1 (m.rd (P.axis g) F.AXIS_EDEC_A) : Nat) : Int) * 65536 := by
  obtain ⟨b, hride, hrun⟩ := axisRun_cruise hg hmay hmode hv ha hte (m.now (g / 2))
  have hkeep : ((m.axisRun g (m.now (g / 2))).axS g).v = (m.axS g).v := by
    have h := congrArg AxisSt.v hrun.axis
    have hb : (b.axS g).cruise.v = (m.axS g).cruise.v := congrArg AxisSt.v hride.axis
    rw [axS_modAxS _ _ hg] at h
    exact h.trans hb
  have hrd : (m.axisRun g (m.now (g / 2))).rd (P.axis g) F.AXIS_EDEC_A = m.rd (P.axis g) F.AXIS_EDEC_A := by
    rw [rd, rd, hrun.word _ _ (by decide) (by simp [F.AXIS_EDEC_A])]
    exact congrArg (fun w : Word => bits w.toNat _ _) (hride.word _ _ (by decide) (by simp [F.AXIS_EDEC_A]))
  have hstop : m.axisEdec g cause = (m.axisRun g (m.now (g / 2))).modAxS g fun s =>
      { s with mode := .edec, cause, pendGo := false, pendStop := false, raised := false, passing := false, land := false,
               pacedOff := s.pacedOff || s.paced.isSome, t0 := m.now (g / 2),
               a := (if (m.axS g).v < 0 then (max 1 (m.rd (P.axis g) F.AXIS_EDEC_A : Int)) else -(max 1 (m.rd (P.axis g) F.AXIS_EDEC_A : Int))) * 65536,
               te := some (m.now (g / 2) + ((m.axS g).v.natAbs * 500000000 + ((max 1 (m.rd (P.axis g) F.AXIS_EDEC_A : Int)).toNat * 65536 - 1)) /
                 ((max 1 (m.rd (P.axis g) F.AXIS_EDEC_A : Int)).toNat * 65536)) } := by
    unfold axisEdec
    dsimp only
    rw [hkeep, hrd, if_neg hv]
  rw [hstop, axS_modAxS _ _ hg]
  refine ⟨hride.rest.trans ((AxisOnly.modAxS b _).trans (hrun.rest.trans (.modAxS _ _))), rfl, rfl, hkeep, rfl, ?_⟩
  dsimp only
  split <;> push_cast <;> ring

/-! ### The action bits of AXIS.CTRL -/

/-- A one-bit field takes the low bit of what is written. -/
theorem wr_one_bit (m : Mach) (pk : Nat) {f : Field} (hf : f.hi = f.lo) (n : Nat) : m.wr pk f n = m.wrb pk f (bit n 0) := by
  have hbit : (bit n 0).toNat = n % 2 := by
    rw [bit, Nat.testBit_zero]
    rcases Nat.mod_two_eq_zero_or_one n with h | h <;> simp [h]
  rw [wrb, wr, wr, putBits, putBits, hf, hbit]
  simp

/-- What action bit `k` of AXIS.CTRL does (R352). -/
def axisAction (m : Mach) (g : Nat) : Nat → Mach
  | 1 => m.axisGo g
  | 2 => m.axisStop g
  | 3 => m.axisEstop g
  | 4 => m.homeGo g
  | 5 => m.forget g
  | 6 => m.chatClr g
  | _ => m.axisSnap g

/-- A write of AXIS.CTRL with one action bit: DRV_EN is taken, then the action is judged. -/
theorem writeAxisCtrl_action {v : Word} (hv : bits v.toNat 7 1 = 0)
    (hmove : m.flag (P.axis g) F.AXIS_CTRL_DRV_EN = true → bit v.toNat 0 = false → m.moving g = false) (k : Fin 32) (hk : 1 ≤ k.val ∧ k.val ≤ 7) :
    m.writeAxisCtrl g (v ||| BitVec.ofNat 32 (2 ^ k.val)) = (m.wrb (P.axis g) F.AXIS_CTRL_DRV_EN (bit v.toNat 0)).axisAction g k := by
  have hbit : ∀ i, 1 ≤ i → i ≤ 7 → bit (v ||| BitVec.ofNat 32 (2 ^ k.val)).toNat i = decide (i = k.val) := fun i h1 h7 => by
    rw [bit_or_two_pow, bit_of_bits_eq_zero hv h1 h7, Bool.false_or]
  have h0 : bit (v ||| BitVec.ofNat 32 (2 ^ k.val)).toNat 0 = bit v.toNat 0 := by
    rw [bit_or_two_pow, decide_eq_false (by omega), Bool.or_false]
  have hgo : ¬ (m.flag (P.axis g) F.AXIS_CTRL_DRV_EN && !bit v.toNat 0 && m.moving g) = true := by
    simp only [Bool.and_eq_true, Bool.not_eq_true', not_and]
    intro h hb
    exact Bool.false_ne_true ((hmove h.1 h.2).symm.trans hb)
  unfold writeAxisCtrl
  dsimp only
  rw [h0, if_neg hgo, wr_one_bit _ _ rfl, h0]
  simp only [hbit _ (by decide : 1 ≤ 1) (by decide), hbit 2 (by decide) (by decide), hbit 3 (by decide) (by decide),
    hbit 4 (by decide) (by decide), hbit 5 (by decide) (by decide), hbit 6 (by decide) (by decide), hbit 7 (by decide) (by decide)]
  obtain ⟨n, hn⟩ := k
  obtain ⟨hlo, hhi⟩ := hk
  dsimp only at hlo hhi ⊢
  interval_cases n <;> rfl

theorem blockWrite_axis (m : Mach) (g : Fin 16) (off : Nat) (v : Word) : m.blockWrite (P.axis g) off v = m.writeAxis g off v := by
  have hp : 0x28 + g.val % 2 < 256 := by omega
  have hg : 2 * (g.val / 2) + (0x28 + g.val % 2) % 2 = g.val := by omega
  have hcode : blockCode 0 (0x28 + g.val % 2) = 0x68 := by
    rcases Nat.mod_two_eq_zero_or_one g.val with h | h <;> rw [h] <;> rfl
  rw [blockWrite, P.axis, tileOf_pageKey _ _ hp, pageOf_pageKey _ _ hp, blockCode_tilePage _ (by omega), hcode, hg]
  rfl

theorem rowOf_axisCtrl (g : Fin 16) : (rowOf (pageKey 0 (0x28 + g.val % 2)) 0x044).isSome = true := by
  rcases Nat.mod_two_eq_zero_or_one g.val with h | h <;> rw [h] <;> decide


theorem axisGo_taken (hgo : m.goOk g = true) (h0 : m.tripped g 0 = false) (h1 : m.tripped g 1 = false) :
    m.axisGo g = (((m.wr (P.axis g) F.AXIS_STAT_AT_TARGET 0).wr (P.axis g) F.AXIS_STAT_ESTOPPED 0).wr (P.axis g) F.AXIS_STAT_DECEL_RAISED 0).modAxS g
      fun x => { x with pendGo := true, pendStop := false, raised := false } := by
  simp [axisGo, hgo, blocked, h0, h1]

theorem axisGo_refused (hgo : m.goOk g = false) : m.axisGo g = (m.inc (P.axis g) F.AXIS_REFUSED_COUNT).raise (P.axis g) 11 := by
  simp [axisGo, hgo, moveRefused]

theorem axisStop_waits (hhome : m.homePhase g = 0) (hmode : (m.axS g).mode ≠ .edec) :
    m.axisStop g = m.modAxS g fun x => { x with pendStop := true, pendGo := false } := by
  simp [axisStop, hhome, hmode]

theorem axisEstop_brakes (hhome : m.homePhase g = 0) (hmode : (m.axS g).mode = .vel) : m.axisEstop g = m.axisEdec g 1 := by
  simp [axisEstop, hhome, hmode]

/-- HOME_GO where no input is active seeks first (R345). -/
theorem homeGo_seeks (hgo : m.goOk g = true) (h0 : m.tripped g 0 = false) (h1 : m.tripped g 1 = false) (h2 : m.tripped g 2 = false) :
    m.homeGo g = (((m.wr (P.axis g) F.AXIS_STAT_ESTOPPED 0).wr (P.axis g) F.AXIS_STAT_HOME_PHASE 1).modAxA g fun x => { x with homed := false }).modAxS g
      fun x => { x with mode := .home, pendGo := false, pendStop := false, homeFrom := (m.axA g).pos, raised := false } := by
  have hpos : ∀ a : Mach, ((a.modAxA g fun x => { x with homed := false }).axA g).pos = (a.axA g).pos := fun a =>
    clu_modClu_congr (fun c => c.axisAon.pos) a g g fun _ => rfl
  have hin : ∀ i, m.tripped g i = false → m.inputActive g i = false ∧ m.chatter g i = false := fun i h => by
    simpa [tripped] using h
  have hend : m.chatter g (if m.flag (P.axis g) F.AXIS_HOME_CFG_SEEK_NEG = true then 0 else 1) = false := by
    split
    · exact (hin 0 h0).2
    · exact (hin 1 h1).2
  unfold homeGo
  have hwr : ∀ (a : Mach) f v, (a.wr (P.axis g) f v).axA g = a.axA g := fun _ _ _ => rfl
  simp only [hgo, blocked, h0, h1, (hin 2 h2).1, (hin 2 h2).2, hend, hpos, hwr]
  simp

theorem forget_clears (hdrv : m.flag (P.axis g) F.AXIS_CTRL_DRV_EN = false) (hmoving : m.moving g = false) :
    m.forget g = (m.modClu g fun c => { c with axisAon := {} }).modAxS g fun x => { x with tgt := 0 } := by
  simp [forget, hdrv, hmoving]

/-! CHAT_CLR -/

/-- The chatter bits of inputs cleared in STAT. -/
def chatterOff (m : Mach) (g i : Nat) : Mach := m.setWord (P.axis g) 0x0A0 (m.word (P.axis g) 0x0A0 &&& ~~~ BitVec.ofNat 32 (2 ^ (6 + i)))

theorem chatter_chatterOff (m : Mach) (g : Nat) {i j : Nat} (hi : i < 3) (hj : j < 3) :
    (m.chatterOff g i).chatter g j = (m.chatter g j && decide (j ≠ i)) := by
  have hp : ∀ n : Fin 9, (BitVec.ofNat 32 (2 ^ n.val)) = BitVec.twoPow 32 n.val := by decide
  rw [chatterOff, chatter, word_setWord_same, chatter, hp ⟨6 + i, by omega⟩]
  simp only [bit, BitVec.testBit_toNat, BitVec.getLsbD_and, BitVec.getLsbD_not, BitVec.getLsbD_twoPow]
  by_cases h : j = i
  · simp [h]
  · simp [h, Ne.symm h, show 6 + j < 32 by omega]

/-- `a` is `m` with chatter bits of the axis cleared. -/
structure Quieter (g : Nat) (m a : Mach) : Prop where
  rest : { a with regs := m.regs } = m
  chatter : ∀ i, i < 3 → m.chatter g i = false → a.chatter g i = false
  word : ∀ pk off, off < 4096 → ¬ (pk = P.axis g ∧ off = 0x0A0) → a.word pk off = m.word pk off

theorem Quieter.refl (m : Mach) : Quieter g m m := ⟨rfl, fun _ _ h => h, fun _ _ _ _ => rfl⟩

theorem Quieter.trans (h : Quieter g m a) (k : Quieter g a b) : Quieter g m b :=
  ⟨by rw [← h.rest, ← k.rest], fun i hi hm => k.chatter i hi (h.chatter i hi hm),
    fun pk off ho hne => (k.word pk off ho hne).trans (h.word pk off ho hne)⟩

theorem setWord_rest (m : Mach) (pk off : Nat) (w : Word) : { m.setWord pk off w with regs := m.regs } = m := rfl

theorem Quieter.chatterOff (m : Mach) {i : Nat} (hi : i < 3) : Quieter g m (m.chatterOff g i) :=
  ⟨setWord_rest _ _ _ _, fun j hj hm => by rw [chatter_chatterOff m g hi hj, hm, Bool.false_and],
    fun _ _ ho hne => word_setWord_off _ _ (by decide) ho (by rw [← not_and_or]; exact hne)⟩

/-- CHAT_CLR clears every chatter whose input is quiet (R343). -/
theorem chatClr_quiet (hq : ∀ i, i < 3 → bit (m.axS g).noisy i = false) : Quieter g m (m.chatClr g) ∧ ∀ i, i < 3 → (m.chatClr g).chatter g i = false := by
  have hstep : ∀ (a : Mach) i, i < 3 → Quieter g m a → Quieter g a (if !a.chatter g i then a
      else if bit (a.axS g).noisy i then a.errCount (P.axis g) else a.chatterOff g i) ∧
      (if !a.chatter g i then a else if bit (a.axS g).noisy i then a.errCount (P.axis g) else a.chatterOff g i).chatter g i = false :=
    fun a i hi ha => by
      have hax : a.axS g = m.axS g := (congrArg (fun x : Mach => x.axS g) ha.rest :)
      rw [hax, hq i hi, if_neg (by decide : ¬ false = true)]
      by_cases hc : a.chatter g i = true
      · rw [hc, if_neg (by decide : ¬ (!true) = true), chatter_chatterOff a g hi hi]
        exact ⟨.chatterOff a hi, by simp⟩
      · have hf : a.chatter g i = false := by simpa using hc
        rw [hf, if_pos (by decide : (!false) = true)]
        exact ⟨.refl a, hf⟩
  obtain ⟨q0, c0⟩ := hstep m 0 (by decide) (.refl m)
  obtain ⟨q1, c1⟩ := hstep _ 1 (by decide) q0
  obtain ⟨q2, c2⟩ := hstep _ 2 (by decide) (q0.trans q1)
  refine ⟨(q0.trans q1).trans q2, fun i hi => ?_⟩
  rcases (by omega : i = 0 ∨ i = 1 ∨ i = 2) with rfl | rfl | rfl
  · exact (q1.trans q2).chatter 0 hi c0
  · exact q2.chatter 1 hi c1
  · exact c2

/-! SNAP -/

theorem rd2_wr2_short (m : Mach) (pk : Nat) {lo hi : Field} (v : Nat) (hlo : lo.hi = 31 ∧ lo.lo = 0) (hhi : hi.hi = 15 ∧ hi.lo = 0)
    (h1 : lo.off < 4096) (h2 : hi.off < 4096) (hne : lo.off ≠ hi.off) : (m.wr2 pk lo hi v).rd2 pk lo hi = v % 2 ^ 48 := by
  unfold rd2 wr2
  rw [rd_wr_off _ _ h2 h1 (.inr hne), rd_wr_same _ _ _ (by omega) (by omega), rd_wr_same _ _ _ (by omega) (by omega)]
  simp only [Field.width, hlo, hhi]
  omega

theorem rd2_wr2_off (m : Mach) (pk : Nat) {lo hi lo' hi' : Field} (v : Nat) (h : lo.off < 4096 ∧ hi.off < 4096 ∧ lo'.off < 4096 ∧ hi'.off < 4096)
    (hne : lo'.off ≠ lo.off ∧ lo'.off ≠ hi.off ∧ hi'.off ≠ lo.off ∧ hi'.off ≠ hi.off) :
    (m.wr2 pk lo hi v).rd2 pk lo' hi' = m.rd2 pk lo' hi' := by
  obtain ⟨h1, h2, h3, h4⟩ := h
  obtain ⟨n1, n2, n3, n4⟩ := hne
  rw [rd2, wr2, rd_wr_off _ _ h2 h3 (.inr n2), rd_wr_off _ _ h1 h3 (.inr n1), rd_wr_off _ _ h2 h4 (.inr n4), rd_wr_off _ _ h1 h4 (.inr n3), rd2]

theorem ofS_lt (w : Nat) (i : Int) : ofS w i < 2 ^ w := by
  have hpos : (0 : Int) < ((2 ^ w : Nat) : Int) := by exact_mod_cast Nat.two_pow_pos w
  have hlt := Int.emod_lt_of_pos i hpos
  rw [ofS]
  omega

/-- The words that SNAP writes of an axis (R352). -/
def snapTaken (m : Mach) (g n : Nat) : Mach :=
  (((m.wr2 (P.axis g) F.AXIS_SNAP_T_LO_N F.AXIS_SNAP_T_HI_N n).wr2 (P.axis g) F.AXIS_SNAP_POS_LO_POS F.AXIS_SNAP_POS_HI_POS
    (ofS 48 (m.axA g).pos)).wr2 (P.axis g) F.AXIS_SNAP_VEL_LO_VEL F.AXIS_SNAP_VEL_HI_VEL (ofS 48 (m.axS g).v)).wr2 (P.axis g)
      F.AXIS_SNAP_ENC_LO_ENC F.AXIS_SNAP_ENC_HI_ENC (ofS 48 (m.axA g).enc)

theorem axisSnap_eq (m : Mach) (g : Nat) : m.axisSnap g = (m.axisRun g (m.now (g / 2))).snapTaken g (m.now (g / 2)) := by
  have hA : ∀ (a : Mach) lo hi v, (a.wr2 (P.axis g) lo hi v).axA g = a.axA g := fun _ _ _ _ => rfl
  have hS : ∀ (a : Mach) lo hi v, (a.wr2 (P.axis g) lo hi v).axS g = a.axS g := fun _ _ _ _ => rfl
  unfold axisSnap snapTaken
  simp only [hA, hS]

theorem snapTaken_keeps (m : Mach) (g n : Nat) :
    (m.snapTaken g n).dram = m.dram ∧ (m.snapTaken g n).tiles = m.tiles ∧ (m.snapTaken g n).clus = m.clus := by
  simp only [snapTaken, wr2, wr_dram, wr_tiles, wr_clus, and_self]

theorem snapTaken_latches (m : Mach) (g n : Nat) :
    (m.snapTaken g n).rd2 (P.axis g) F.AXIS_SNAP_T_LO_N F.AXIS_SNAP_T_HI_N = n % 2 ^ 64 ∧
    (m.snapTaken g n).rd2 (P.axis g) F.AXIS_SNAP_POS_LO_POS F.AXIS_SNAP_POS_HI_POS = ofS 48 (m.axA g).pos ∧
    (m.snapTaken g n).rd2 (P.axis g) F.AXIS_SNAP_VEL_LO_VEL F.AXIS_SNAP_VEL_HI_VEL = ofS 48 (m.axS g).v ∧
    (m.snapTaken g n).rd2 (P.axis g) F.AXIS_SNAP_ENC_LO_ENC F.AXIS_SNAP_ENC_HI_ENC = ofS 48 (m.axA g).enc := by
  have hmod : ∀ i, ofS 48 i % 2 ^ 48 = ofS 48 i := fun i => Nat.mod_eq_of_lt (ofS_lt 48 i)
  rw [snapTaken]
  refine ⟨?_, ?_, ?_, ?_⟩
  · rw [rd2_wr2_off _ _ _ (by decide) (by decide), rd2_wr2_off _ _ _ (by decide) (by decide), rd2_wr2_off _ _ _ (by decide) (by decide),
      rd2_wr2_same _ _ _ (by decide) (by decide) (by decide) (by decide) (by decide)]
  · rw [rd2_wr2_off _ _ _ (by decide) (by decide), rd2_wr2_off _ _ _ (by decide) (by decide),
      rd2_wr2_short _ _ _ (by decide) (by decide) (by decide) (by decide) (by decide), hmod]
  · rw [rd2_wr2_off _ _ _ (by decide) (by decide), rd2_wr2_short _ _ _ (by decide) (by decide) (by decide) (by decide) (by decide), hmod]
  · rw [rd2_wr2_short _ _ _ (by decide) (by decide) (by decide) (by decide) (by decide), hmod]

end
end Mach

/-- A write of AXIS.CTRL with action bit `k` and no other. -/
theorem effect_axisAction {s : State} {p : Port} {g : Fin 16} {v : Word} (k : Fin 32) (hk : 1 ≤ k.val ∧ k.val ≤ 7)
    (h : s.start.writable p (g.val / 2) (0x28 + g.val % 2) 0x044 = true) (hv : bits v.toNat 7 1 = 0)
    (hmove : s.start.flag (P.axis g) F.AXIS_CTRL_DRV_EN = true → bit v.toNat 0 = false → s.start.moving g = false) {b a : Mach}
    (hb : b = s.start.wrb (P.axis g) F.AXIS_CTRL_DRV_EN (bit v.toNat 0)) (ha : b.axisAction g k = a)
    (hd : (a.tile (g.val / 2)).dormant = (b.tile (g.val / 2)).dormant) :
    s.effect (fun m => m.portWrite p (regAddr (g.val / 2) (0x28 + g.val % 2) 0x044) (v ||| BitVec.ofNat 32 (2 ^ k.val))) = .next (s.settled a) := by
  subst hb ha
  exact effect_tileWrite h (by omega) (by omega) (by decide) (by decide) (by decide) (Mach.rowOf_axisCtrl g) (by omega)
    ((s.start.blockWrite_axis g 0x044 _).trans (congrArg some (Mach.writeAxisCtrl_action hv hmove k hk))) hd

/-- Settles O46. -/
theorem axisCommands : Obligations.AxisCommands := by
  intro s p g v b h hv hmove hb
  have hdram : b.dram = s.start.dram := by rw [hb, Mach.wrb_dram]
  have htiles : b.tiles = s.start.tiles := by rw [hb, Mach.wrb_tiles]
  have harr : b.arr = s.start.arr := by rw [hb, Mach.wrb_arr]
  have hclus : b.clus = s.start.clus := by rw [hb, Mach.wrb_clus]
  have hhands : b.hands = s.start.hands := by rw [hb, Mach.wrb_hands]
  have hnow : ∀ t, b.now t = s.start.now t := fun t => by rw [Mach.now, Mach.tile, htiles, Mach.now, Mach.tile]
  refine ⟨fun hgo h0 h1 => ?go, fun hgo => ?refused, fun hhome hmode => ?stop, fun hhome hmay hmode hne ha hte => ?estop,
    fun hgo h0 h1 h2 => ?home, fun h0 hmoving => ?forget, fun hq => ?chat, ?snap⟩
  case go => exact effect_axisAction 1 (by decide) h hv hmove hb (Mach.axisGo_taken hgo h0 h1) rfl
  case refused => exact effect_axisAction 1 (by decide) h hv hmove hb (Mach.axisGo_refused hgo) rfl
  case stop => exact effect_axisAction 2 (by decide) h hv hmove hb (Mach.axisStop_waits hhome hmode) rfl
  case estop =>
    obtain ⟨hrest, hm, hc, hvel, ht, hacc⟩ := Mach.axisEdec_cruise g.isLt hmay hmode hne ha hte 1
    have hkept : (b.axisEdec g 1).tiles = b.tiles := (congrArg Mach.tiles hrest :)
    refine ⟨b.axisEdec g 1, effect_axisAction 3 (by decide) h hv hmove hb (Mach.axisEstop_brakes hhome hmode) (by rw [Mach.tile, hkept, ← Mach.tile]),
      hm, hc, hvel, ht.trans (hnow _), ?_, hkept.trans htiles, (congrArg Mach.hands hrest :).trans hhands, (congrArg Mach.arr hrest :).trans harr,
      (congrArg Mach.dram hrest :).trans hdram⟩
    rw [hacc, hb, Mach.wrb, Mach.rd_wr_off _ _ (by decide) (by decide) (.inr (by decide))]
  case home =>
    exact effect_axisAction 4 (by decide) h hv hmove hb (Mach.homeGo_seeks hgo h0 h1 h2)
      (by simp only [Mach.tile, Mach.modAxS, Mach.modAxA, Mach.modClu, Mach.wr_tiles])
  case forget =>
    have hdrv : b.flag (P.axis g) F.AXIS_CTRL_DRV_EN = false := by
      rw [hb, h0]
      exact Mach.flag_wr_same _ _ false rfl (by decide)
    exact effect_axisAction 5 (by decide) h hv hmove hb (Mach.forget_clears hdrv hmoving) rfl
  case chat =>
    obtain ⟨hquiet, hoff⟩ := Mach.chatClr_quiet hq
    have hkept : (b.chatClr g).tiles = b.tiles := (congrArg Mach.tiles hquiet.rest :)
    refine ⟨b.chatClr g, effect_axisAction 6 (by decide) h hv hmove hb rfl (by rw [Mach.tile, hkept, ← Mach.tile]), hoff, fun pk off ho hne => ?_,
      (congrArg Mach.clus hquiet.rest :).trans hclus, hkept.trans htiles, (congrArg Mach.arr hquiet.rest :).trans harr,
      (congrArg Mach.dram hquiet.rest :).trans hdram⟩
    have hctrl : ¬ (pk = P.axis g ∧ off = 0x044) := fun hc => hne ⟨hc.1, .inl hc.2⟩
    rw [hquiet.word _ _ ho fun hc => hne ⟨hc.1, .inr hc.2⟩, hb, Mach.wrb, Mach.word_wr_off _ _ (by decide) ho (by rw [← not_and_or]; exact hctrl)]
  case snap =>
    obtain ⟨hrun, hawake⟩ := (Mach.axisClosed_awake g).axisRun b (b.now (g.val / 2))
    have heq := b.axisSnap_eq g
    generalize b.axisRun g (b.now (g.val / 2)) = a at hrun hawake heq
    obtain ⟨hn, hpos, hvel, henc⟩ := Mach.snapTaken_latches a g (b.now (g.val / 2))
    obtain ⟨hd, ht, hc⟩ := Mach.snapTaken_keeps a g (b.now (g.val / 2))
    refine ⟨a.snapTaken g (b.now (g.val / 2)), effect_axisAction 7 (by decide) h hv hmove hb heq ?_, hn.trans (by rw [hnow]), hpos.trans ?_,
      hvel.trans ?_, henc.trans ?_, hd.trans (hrun.trans hdram)⟩
    · rw [Mach.tile, ht, ← Mach.tile, hawake]
    · rw [Mach.axA, Mach.axA, Mach.clu, Mach.clu, hc]
    · rw [Mach.axS, Mach.axS, Mach.clu, Mach.clu, hc]
    · rw [Mach.axA, Mach.axA, Mach.clu, Mach.clu, hc]

end Sys2Proof.Machine

/-!
PROOFS. The DMA channels move data: fetches, bursts and transactions (R465–R471).
-/

namespace Sys2Proof.Machine
namespace Mach

section
variable {m a : Mach} {t c : Nat}

/-! ### The state of a channel -/

theorem dmaCh_modDma_same (m : Mach) (f : DmaCh → DmaCh) (ht : t < 8) (hc : c < 16) : (m.modDma t c f).dmaCh t c = f (m.dmaCh t c) := by
  rw [dmaCh, modDma, tile_modTile_same _ _ ht, vget_vmod_same _ _ _ hc, dmaCh]

theorem dmaCh_modDma_ne (m : Mach) (f : DmaCh → DmaCh) (ht : t < 8) {k : Nat} (hk : k ≠ c) : (m.modDma t c f).dmaCh t k = m.dmaCh t k := by
  rw [dmaCh, modDma, tile_modTile_same _ _ ht, vget_vmod_ne _ _ hk, dmaCh]

/-- What a change of a channel keeps of every channel, it keeps in the state. -/
theorem dmaCh_modDma_congr {β : Type} (v : DmaCh → β) (m : Mach) (t c k : Nat) {f : DmaCh → DmaCh} (hf : ∀ x, v (f x) = v x) (ht : t < 8)
    (hk : k < 16) : v ((m.modDma t c f).dmaCh t k) = v (m.dmaCh t k) := by
  by_cases h : k = c
  · subst h
    rw [dmaCh_modDma_same m f ht hk, hf]
  · rw [dmaCh_modDma_ne m f ht h]

theorem modDma_modDma (m : Mach) (t c : Nat) (f f' : DmaCh → DmaCh) : (m.modDma t c f).modDma t c f' = m.modDma t c fun x => f' (f x) := by
  rw [modDma, modDma, modTile, modTile, vmod_vmod]
  exact congrArg (fun x => ({ m with tiles := vmod m.tiles t x } : Mach)) (funext fun ts => by simp only [vmod_vmod])

theorem modDma_eq_of_at {f f' : DmaCh → DmaCh} (h : f (m.dmaCh t c) = f' (m.dmaCh t c)) : m.modDma t c f = m.modDma t c f' :=
  modTile_eq_of_at (show ({ m.tile t with dma := vmod (m.tile t).dma c f } : TileSt) = { m.tile t with dma := vmod (m.tile t).dma c f' } by
    rw [vmod_eq_of_at _ c h])

theorem setWord_modDma (m : Mach) (t c : Nat) (f : DmaCh → DmaCh) (pk off : Nat) (w : Word) :
    (m.modDma t c f).setWord pk off w = (m.setWord pk off w).modDma t c f := rfl

theorem wr_modDma (m : Mach) (t c : Nat) (f : DmaCh → DmaCh) (pk : Nat) (fd : Field) (v : Nat) :
    (m.modDma t c f).wr pk fd v = (m.wr pk fd v).modDma t c f := by
  rw [wr, setWord_modDma]
  rfl

theorem word_modDma (m : Mach) (t c : Nat) (f : DmaCh → DmaCh) (pk off : Nat) : (m.modDma t c f).word pk off = m.word pk off := rfl

theorem rd_modDma (m : Mach) (t c : Nat) (f : DmaCh → DmaCh) (pk : Nat) (fd : Field) : (m.modDma t c f).rd pk fd = m.rd pk fd := rfl

theorem dmaDesc_modDma (m : Mach) (t c : Nat) (f : DmaCh → DmaCh) : (m.modDma t c f).dmaDesc t c = m.dmaDesc t c := rfl

theorem dmaCh_wr (m : Mach) (pk : Nat) (fd : Field) (v t k : Nat) : (m.wr pk fd v).dmaCh t k = m.dmaCh t k := rfl

/-- Transactions wait in no channel: none is issued. -/
theorem sendWaiting_none (h : ∀ k, k < 16 → (m.dmaCh t k).wait = none) : m.sendWaiting t = m := by
  unfold sendWaiting
  refine foldl_eq_self _ fun k hk => ?_
  rw [h k (List.mem_range.1 hk)]

/-! ### Fabric ranges (R462, R463) -/

theorem dramCap_congr (h : ∀ off, off < 4096 → a.word (P.dram t) off = m.word (P.dram t) off) : a.dramCap t = m.dramCap t := by
  have hrd : ∀ f : Field, f.off < 4096 → a.rd (P.dram t) f = m.rd (P.dram t) f := fun f hf => by rw [rd, rd, h _ hf]
  rw [dramCap, dramCap, dramProt, dramProt, flag, flag, hrd _ (by decide), hrd _ (by decide), hrd _ (by decide), hrd _ (by decide)]

theorem dramCap_le (m : Mach) (t : Nat) : m.dramCap t ≤ 2 ^ 45 := by
  have hs : m.rd (P.dram t) F.DRAM_CFG_SIZE < 2 ^ 4 := bits_lt _ _ _
  have hp : 2 ^ (30 + m.rd (P.dram t) F.DRAM_CFG_SIZE) ≤ 2 ^ 45 := Nat.pow_le_pow_right (by decide) (by omega)
  rw [dramCap]
  split <;> omega

theorem fabTarget_congr (h : ∀ off, off < 4096 → a.word (P.dram t) off = m.word (P.dram t) off) (x len : Nat) :
    a.fabTarget t x len = m.fabTarget t x len := by
  rw [fabTarget, fabTarget, dramCap_congr h]

theorem rangeCause_congr (h : ∀ off, off < 4096 → a.word (P.dram t) off = m.word (P.dram t) off)
    (hl : (a.dmaCh t c).dramLost = (m.dmaCh t c).dramLost) (x len : Nat) : a.rangeCause t c x len = m.rangeCause t c x len := by
  rw [rangeCause, rangeCause, fabTarget_congr h, hl, flag, flag, rd, rd, h _ (by decide)]

theorem fabTarget_dram {x len : Nat} (h : x + len ≤ m.dramCap t) : m.fabTarget t x len = some .dram := by rw [fabTarget, if_pos h]

theorem fabTarget_host {x len : Nat} (h : 2 ^ 63 ≤ x) (h' : x + len ≤ 2 ^ 64) : m.fabTarget t x len = some .host := by
  have hcap := m.dramCap_le t
  rw [fabTarget, if_neg (by omega), if_neg (by simp only [shdBase, shdSize]; omega), if_neg (by simp only [shdBase, shdSize]; omega),
    if_pos ⟨by simpa only [hostBase] using h, h'⟩]

/-- A key depends on the words of the tile's page DRAM only. -/
theorem dramKey_page (h : ∀ off, off < 4096 → a.word (P.dram t) off = m.word (P.dram t) off) (x : Nat) : a.dramKey t x = m.dramKey t x := by
  have hrd : ∀ f : Field, f.off < 4096 → a.rd (P.dram t) f = m.rd (P.dram t) f := fun f hf => by rw [rd, rd, h _ hf]
  rw [dramKey, dramKey, dramDev, dramDev, dramProt, dramProt, flag, flag, hrd _ (by decide), hrd _ (by decide)]

theorem dramRead_congr (hd : a.dram = m.dram) (h : ∀ off, off < 4096 → a.word (P.dram t) off = m.word (P.dram t) off) (x len : Nat) :
    a.dramRead t x len = m.dramRead t x len := by
  induction len generalizing x with
  | zero => rfl
  | succ n ih => rw [dramRead, dramRead, dramByte, dramByte, hd, dramKey_page h, ih]

theorem length_dramRead (m : Mach) (t x len : Nat) : (m.dramRead t x len).length = len := by
  induction len generalizing x with
  | zero => rfl
  | succ n ih => rw [dramRead, List.length_cons, ih]

theorem fabRead_dram {x len : Nat} (cpl : Cpl) (h : x + len ≤ m.dramCap t) (hmark : m.dramMark = []) :
    m.fabRead t x len cpl = (m, none, m.dramRead t x len) := by
  simp [fabRead, fabTarget_dram h, dramCheck, hmark]

theorem fabRead_host {x len : Nat} {b : List Byte} (h : 2 ^ 63 ≤ x) (h' : x + len ≤ 2 ^ 64) :
    m.fabRead t x len (.ok b) = (m, none, (List.range len).map fun j => b.getD j 0) := by
  simp [fabRead, fabTarget_host h h', cplCause, cplBytes]

/-! ### A descriptor fetch returns (R466) -/

/-- A channel that has read the descriptor `D` by its transaction `i`. -/
def described (D : List Byte) (i : Nat) (x : DmaCh) : DmaCh :=
  { x with outs := x.outs.eraseIdx i, ctrl := ofLe (D.take 4), src := ofLe ((D.drop 4).take 8), dst := ofLe ((D.drop 12).take 8),
           next := ofLe ((D.drop 20).take 8), tag := ofLe ((D.drop 28).take 4) }

/-- A channel that judges the descriptor `D` at `A`. -/
def judged (D : List Byte) (i A : Nat) (x : DmaCh) : DmaCh := { described D i x with recent := (A :: x.recent).take 8 }

/-- The channel stands ready to move what the descriptor `D` at `A` says. -/
def readied (D : List Byte) (i A : Nat) (x : DmaCh) : DmaCh := { judged D i A x with ready := true }

/-- The bytes of a descriptor that transaction `i` of the channel fetches: from DRAM, or from host memory. -/
structure Fetches (m : Mach) (t c i : Nat) (cpl : Cpl) (D : List Byte) : Prop where
  found : (m.dmaCh t c).outs.findIdx? (fun x => x.fetch) = some i
  alive : ((m.dmaCh t c).outs.getD i {}).dead = false
  read : (m.modDma t c fun x => { x with outs := x.outs.eraseIdx i }).fabRead t (m.dmaDesc t c) 32 cpl =
    (m.modDma t c fun x => { x with outs := x.outs.eraseIdx i }, none, D)

/-- A fetch of a descriptor ends with what the descriptor says (R466 steps 1–3). -/
theorem fetchEnds_reads {i : Nat} {cpl : Cpl} {D : List Byte} (h : Fetches m t c i cpl D) : m.fetchEnds t c cpl =
    (if !descValid (ofLe (D.take 4)) then
      if (m.modDma t c (described D i)).dmaState t c = 3 then (m.modDma t c (described D i)).dmaHalt t c 13
      else if (m.modDma t c (described D i)).flag (P.dma t) (F.DMA_CH_CFG_WAIT_VALID.nth c) then (m.modDma t c (described D i)).setDmaState t c 2
      else (m.modDma t c (described D i)).dmaHalt t c 1
    else
      let b := m.modDma t c (judged D i (m.dmaDesc t c))
      let b := if descLoopOk (ofLe (D.take 4)) then b.wr (P.dma t) (F.DMA_CH_HOPS_COUNT.nth c) 0 else b
      match b.descCause t c with
      | some e => b.dmaHalt t c e
      | none =>
        let b := b.modDma t c fun x => { x with ready := true }
        if b.dmaState t c = 3 then b.dmaHalt t c 13
        else
          let b := b.setDmaState t c 1
          if descLen (ofLe (D.take 4)) = 0 then b.dmaWritten t c else b) := by
  have hread : (m.modDma t c fun x => { x with outs := x.outs.eraseIdx i }).fabRead t
      ((m.modDma t c fun x => { x with outs := x.outs.eraseIdx i }).dmaDesc t c) 32 cpl =
      (m.modDma t c fun x => { x with outs := x.outs.eraseIdx i }, none, D) := h.read
  unfold fetchEnds
  dsimp only
  rw [h.found]
  dsimp only
  rw [h.alive, if_neg Bool.false_ne_true, hread]
  dsimp only
  simp only [modDma_modDma]
  rfl

theorem fetchEnds_waits {i : Nat} {cpl : Cpl} {D : List Byte} (h : Fetches m t c i cpl D) (hv : descValid (ofLe (D.take 4)) = false)
    (hs : m.dmaState t c ≠ 3) (hw : m.flag (P.dma t) (F.DMA_CH_CFG_WAIT_VALID.nth c) = true) :
    m.fetchEnds t c cpl = (m.modDma t c (described D i)).setDmaState t c 2 := by
  have hs' : (m.modDma t c (described D i)).dmaState t c ≠ 3 := hs
  have hw' : (m.modDma t c (described D i)).flag (P.dma t) (F.DMA_CH_CFG_WAIT_VALID.nth c) = true := hw
  rw [fetchEnds_reads h, hv, if_pos (by decide), if_neg hs', if_pos hw']

/-- A descriptor of some length, in order, has nothing wrong with it (R466 step 3). -/
theorem descCause_none (hlen : 0 < descLen (m.dmaCh t c).ctrl) (hsrc : m.rangeCause t c (m.dmaCh t c).src (descLen (m.dmaCh t c).ctrl) = none)
    (hdst : m.rangeCause t c (m.dmaCh t c).dst (descLen (m.dmaCh t c).ctrl) = none)
    (hover : (m.dmaCh t c).src + descLen (m.dmaCh t c).ctrl ≤ (m.dmaCh t c).dst ∨ (m.dmaCh t c).dst + descLen (m.dmaCh t c).ctrl ≤ (m.dmaCh t c).src)
    (hnext : descLast (m.dmaCh t c).ctrl = true ∨ (m.dmaCh t c).next % 32 = 0 ∧
      (descLoopOk (m.dmaCh t c).ctrl = true ∨ (m.dmaCh t c).next ∉ (m.dmaCh t c).recent)) : m.descCause t c = none := by
  have hapart : ¬ (0 < descLen (m.dmaCh t c).ctrl ∧ (m.dmaCh t c).src < (m.dmaCh t c).dst + descLen (m.dmaCh t c).ctrl ∧
      (m.dmaCh t c).dst < (m.dmaCh t c).src + descLen (m.dmaCh t c).ctrl) := by omega
  have halign : ¬ (!descLast (m.dmaCh t c).ctrl && decide ((m.dmaCh t c).next % 32 ≠ 0)) = true := by
    rcases hnext with h | ⟨h, -⟩ <;> simp [h]
  have hloop : ¬ (!descLast (m.dmaCh t c).ctrl && !descLoopOk (m.dmaCh t c).ctrl && (m.dmaCh t c).recent.contains (m.dmaCh t c).next) = true := by
    rcases hnext with h | ⟨-, h | h⟩ <;> simp [h]
  unfold descCause
  dsimp only
  rw [if_neg halign, if_neg (by omega : ¬ descLen (m.dmaCh t c).ctrl = 0), hsrc, hdst]
  dsimp only [Option.or]
  rw [if_neg hapart, if_neg hloop]

theorem fetchEnds_readies {i : Nat} {cpl : Cpl} {D : List Byte} (ht : t < 8) (hc : c < 16) (h : Fetches m t c i cpl D)
    (hv : descValid (ofLe (D.take 4)) = true) (hs : m.dmaState t c ≠ 3) (hlen : 0 < descLen (ofLe (D.take 4)))
    (hsrc : m.rangeCause t c (ofLe ((D.drop 4).take 8)) (descLen (ofLe (D.take 4))) = none)
    (hdst : m.rangeCause t c (ofLe ((D.drop 12).take 8)) (descLen (ofLe (D.take 4))) = none)
    (hover : ofLe ((D.drop 4).take 8) + descLen (ofLe (D.take 4)) ≤ ofLe ((D.drop 12).take 8) ∨
      ofLe ((D.drop 12).take 8) + descLen (ofLe (D.take 4)) ≤ ofLe ((D.drop 4).take 8))
    (hnext : descLast (ofLe (D.take 4)) = true ∨ ofLe ((D.drop 20).take 8) % 32 = 0 ∧
      (descLoopOk (ofLe (D.take 4)) = true ∨ ofLe ((D.drop 20).take 8) ∉ (m.dmaDesc t c :: (m.dmaCh t c).recent).take 8)) :
    m.fetchEnds t c cpl = ((if descLoopOk (ofLe (D.take 4)) then m.wr (P.dma t) (F.DMA_CH_HOPS_COUNT.nth c) 0 else m).modDma t c
      (readied D i (m.dmaDesc t c))).setDmaState t c 1 := by
  have hne : P.dram t ≠ P.dma t := by simp only [P.dram, P.dma, pageKey]; omega
  have hoff : (F.DMA_CH_HOPS_COUNT.nth c).off < 4096 := by simp only [Field.nth_off, F.DMA_CH_HOPS_COUNT]; omega
  have hstate : ∀ b : Bool, (if b = true then m.wr (P.dma t) (F.DMA_CH_HOPS_COUNT.nth c) 0 else m).dmaState t c = m.dmaState t c := fun b => by
    split
    · refine rd_wr_off _ _ hoff ?_ (.inr ?_) <;> simp only [Field.nth_off, F.DMA_CH_HOPS_COUNT, F.DMA_CH_STAT_STATE] <;> omega
    · rfl
  have hword : ∀ (b : Bool) off, off < 4096 →
      (if b = true then m.wr (P.dma t) (F.DMA_CH_HOPS_COUNT.nth c) 0 else m).word (P.dram t) off = m.word (P.dram t) off := fun b off ho => by
    split
    · exact word_wr_off _ _ hoff ho (.inl hne)
    · rfl
  have hch : ∀ b : Bool, (if b = true then m.wr (P.dma t) (F.DMA_CH_HOPS_COUNT.nth c) 0 else m).dmaCh t c = m.dmaCh t c := fun b => by
    split <;> rfl
  have hcomm : (if descLoopOk (ofLe (D.take 4)) = true then
      (m.modDma t c (judged D i (m.dmaDesc t c))).wr (P.dma t) (F.DMA_CH_HOPS_COUNT.nth c) 0
      else m.modDma t c (judged D i (m.dmaDesc t c))) =
      (if descLoopOk (ofLe (D.take 4)) = true then m.wr (P.dma t) (F.DMA_CH_HOPS_COUNT.nth c) 0 else m).modDma t c
        (judged D i (m.dmaDesc t c)) := by
    split
    · exact wr_modDma _ _ _ _ _ _ _
    · rfl
  rw [fetchEnds_reads h, hv, if_neg (by decide)]
  dsimp only
  rw [hcomm]
  generalize hb : (if descLoopOk (ofLe (D.take 4)) = true then m.wr (P.dma t) (F.DMA_CH_HOPS_COUNT.nth c) 0 else m) = b at hcomm ⊢
  have hbs : b.dmaState t c = m.dmaState t c := hb ▸ hstate _
  have hbw : ∀ off, off < 4096 → b.word (P.dram t) off = m.word (P.dram t) off := hb ▸ hword _
  have hbc : b.dmaCh t c = m.dmaCh t c := hb ▸ hch _
  have hnow : (b.modDma t c (judged D i (m.dmaDesc t c))).dmaCh t c =
      judged D i (m.dmaDesc t c) (m.dmaCh t c) := by
    rw [dmaCh_modDma_same _ _ ht hc, hbc]
  have hrange : ∀ x len, (b.modDma t c (judged D i (m.dmaDesc t c))).rangeCause t c x len =
      m.rangeCause t c x len := fun x len => rangeCause_congr (a := b.modDma t c (judged D i (m.dmaDesc t c))) hbw (by rw [hnow]; rfl) x len
  have hcause : (b.modDma t c (judged D i (m.dmaDesc t c))).descCause t c = none := by
    refine descCause_none ?_ ?_ ?_ ?_ ?_
    · rw [hnow]; exact hlen
    · rw [hrange, hnow]; exact hsrc
    · rw [hrange, hnow]; exact hdst
    · rw [hnow]; exact hover
    · rw [hnow]; exact hnext
  have hnot : ¬ (b.modDma t c (readied D i (m.dmaDesc t c))).dmaState t c = 3 := by
    show ¬ b.dmaState t c = 3
    rw [hbs]
    exact hs
  rw [hcause]
  dsimp only
  rw [modDma_modDma]
  exact (if_neg hnot).trans (if_neg (by omega))

/-! ### A poll fetches the descriptor again -/

theorem rd_wrCh_apart (m : Mach) (v : Nat) {f f' : Field} (hf : f.stride = 64 ∧ f.off < 0x140) (hf' : f'.stride = 64 ∧ f'.off < 0x140)
    (hne : f'.off ≠ f.off) (hc : c < 16) : (m.wr (P.dma t) (f.nth c) v).rd (P.dma t) (f'.nth c) = m.rd (P.dma t) (f'.nth c) := by
  obtain ⟨hs, ho⟩ := hf
  obtain ⟨hs', ho'⟩ := hf'
  refine rd_wr_off _ _ ?_ ?_ (.inr ?_) <;> rw [Field.nth_off]
  · rw [hs]; omega
  · rw [hs']; omega
  · rw [Field.nth_off, hs, hs']; omega

theorem word_wrCh_page (m : Mach) (v : Nat) {f : Field} (hf : f.stride = 64 ∧ f.off < 0x140) (hc : c < 16) {pk off : Nat} (ho : off < 4096)
    (hpk : pk ≠ P.dma t) : (m.wr (P.dma t) (f.nth c) v).word pk off = m.word pk off := by
  obtain ⟨hs, hlt⟩ := hf
  exact word_wr_off _ _ (by rw [Field.nth_off, hs]; omega) ho (.inl hpk)

/-- A channel about to fetch the descriptor at `A`. -/
def fetching (m : Mach) (t c A : Nat) (fresh : Bool) : Mach :=
  ((m.wr2 (P.dma t) (F.DMA_CH_DESC_LO_ADDR.nth c) (F.DMA_CH_DESC_HI_ADDR.nth c) A).modDma t c fun x =>
    { x with ready := false, done := false, issued := 0, burstEnd := 0, tag := if fresh then 0 else x.tag }).wr (P.dma t)
      (F.DMA_CH_OFS_OFS.nth c) 0

theorem word_fetching (hc : c < 16) (A : Nat) (fresh : Bool) {pk off : Nat} (ho : off < 4096) (hpk : pk ≠ P.dma t) :
    (m.fetching t c A fresh).word pk off = m.word pk off := by
  rw [fetching, word_wrCh_page _ _ (by decide) hc ho hpk, word_modDma, wr2, word_wrCh_page _ _ (by decide) hc ho hpk, word_wrCh_page _ _ (by decide) hc ho hpk]

theorem rd_fetching (hc : c < 16) (A : Nat) (fresh : Bool) {f : Field} (hf : f.stride = 64 ∧ f.off < 0x140)
    (hne : f.off ≠ F.DMA_CH_DESC_LO_ADDR.off ∧ f.off ≠ F.DMA_CH_DESC_HI_ADDR.off ∧ f.off ≠ F.DMA_CH_OFS_OFS.off) :
    (m.fetching t c A fresh).rd (P.dma t) (f.nth c) = m.rd (P.dma t) (f.nth c) := by
  obtain ⟨hlo, hhi, hofs⟩ := hne
  rw [fetching, rd_wrCh_apart _ _ (by decide) hf hofs hc, rd_modDma, wr2, rd_wrCh_apart _ _ (by decide) hf hhi hc, rd_wrCh_apart _ _ (by decide) hf hlo hc]

theorem dmaDesc_fetching (hc : c < 16) (A : Nat) (fresh : Bool) : (m.fetching t c A fresh).dmaDesc t c = A % 2 ^ 64 := by
  rw [dmaDesc, rd2, fetching, rd_wrCh_apart _ _ (by decide) (by decide) (by decide) hc, rd_wrCh_apart _ _ (by decide) (by decide) (by decide) hc,
    rd_modDma, rd_modDma, wr2, rd_wrCh_apart _ _ (by decide) (by decide) (by decide) hc, rd_wr_nth_same _ _ _ _ (by decide) (by decide),
    rd_wr_nth_same _ _ _ _ (by decide) (by decide)]
  simp only [F.DMA_CH_DESC_LO_ADDR, F.DMA_CH_DESC_HI_ADDR]
  omega

theorem dmaCh_fetching (ht : t < 8) (hc : c < 16) (A : Nat) (fresh : Bool) : (m.fetching t c A fresh).dmaCh t c =
    { m.dmaCh t c with ready := false, done := false, issued := 0, burstEnd := 0, tag := if fresh then 0 else (m.dmaCh t c).tag } := by
  rw [fetching, dmaCh_wr, dmaCh_modDma_same _ _ ht hc, wr2, dmaCh_wr, dmaCh_wr]

theorem issueFetch_eq (m : Mach) (t c A : Nat) (fresh : Bool) : m.issueFetch t c A fresh =
    let b := m.fetching t c A fresh
    let hops := b.rd (P.dma t) (F.DMA_CH_HOPS_COUNT.nth c)
    let limit := b.rd (P.dma t) F.DMA_HOP_LIMIT_HOPS
    if A % 32 ≠ 0 then b.dmaHalt t c 2
    else match b.fabTarget t A 32 with
    | some (.shd _) => b.dmaHalt t c 3
    | _ =>
      match b.rangeCause t c A 32 with
      | some e => b.dmaHalt t c e
      | none =>
        if fresh && limit ≠ 0 && decide (limit < hops + 1) then b.dmaHalt t c 6
        else if b.hostRefused t A then b.dmaHalt t c 10
        else
          let b := if fresh then b.wr (P.dma t) (F.DMA_CH_HOPS_COUNT.nth c) (hops + 1) else b
          b.sendTr t c { fetch := true, host := decide (hostBase ≤ A), dram := decide (A < b.dramCap t) } := by
  unfold issueFetch fetching
  rfl

/-- The fetch of a descriptor in DRAM is sent (R466). -/
theorem issueFetch_dram (ht : t < 8) (hc : c < 16) {A : Nat} (hA : A % 32 = 0) (hcap : A + 32 ≤ m.dramCap t)
    (htrain : m.flag (P.dram t) F.DRAM_STAT_TRAINED = true) :
    m.issueFetch t c A false = (m.fetching t c A false).sendTr t c { fetch := true, dram := true } := by
  have hne : P.dram t ≠ P.dma t := by simp only [P.dram, P.dma, pageKey]; omega
  have hword : ∀ off, off < 4096 → (m.fetching t c A false).word (P.dram t) off = m.word (P.dram t) off := fun off ho =>
    word_fetching hc A false ho hne
  have hle := m.dramCap_le t
  have htarget : (m.fetching t c A false).fabTarget t A 32 = some .dram := (fabTarget_congr hword A 32).trans (fabTarget_dram hcap)
  have hcause : (m.fetching t c A false).rangeCause t c A 32 = none := by
    rw [rangeCause_congr hword (by rw [dmaCh_fetching ht hc]), rangeCause, fabTarget_dram hcap]
    exact if_pos htrain
  have hlow : decide (hostBase ≤ A) = false := decide_eq_false (by rw [hostBase]; omega)
  have hhost : (m.fetching t c A false).hostRefused t A = false := by rw [hostRefused, hlow, Bool.false_and]
  have hdram : decide (A < (m.fetching t c A false).dramCap t) = true := by
    rw [dramCap_congr hword]
    exact decide_eq_true (by omega)
  rw [issueFetch_eq]
  dsimp only
  rw [if_neg (by omega), htarget]
  dsimp only
  rw [hcause]
  dsimp only
  rw [hhost, hlow]
  simp [hdram]

theorem descPoll_fetches (hs : m.dmaState t c = 2) (hout : ∀ x ∈ (m.dmaCh t c).outs, x.fetch = false ∨ x.dead = true)
    (hwait : (m.dmaCh t c).wait = none) : m.descPoll t c = m.issueFetch t c (m.dmaDesc t c) false := by
  have hany : ((m.dmaCh t c).outs.any fun x => x.fetch && !x.dead) = false := by
    rw [List.any_eq_false]
    intro x hx
    rcases hout x hx with h | h <;> simp [h]
  unfold descPoll
  rw [hwait, hany, hs]
  rfl

/-- Room for a transaction depends on the limit of the channel and the transactions outstanding on the tile. -/
theorem roomFor_congr (hc : c < 16) (hmax : a.rd (P.dma t) (F.DMA_CH_CFG_MAX_OUT.nth c) = m.rd (P.dma t) (F.DMA_CH_CFG_MAX_OUT.nth c))
    (houts : ∀ k, k < 16 → (a.dmaCh t k).outs = (m.dmaCh t k).outs) (host : Bool) : a.roomFor t c host = m.roomFor t c host := by
  have hslots : a.slotsUsed t = m.slotsUsed t := by
    unfold slotsUsed
    exact congrArg List.sum (List.map_congr_left fun k hk => by rw [houts k (List.mem_range.1 hk)])
  have htags : a.tagsUsed t = m.tagsUsed t := by
    unfold tagsUsed
    exact congrArg List.sum (List.map_congr_left fun k hk => by rw [houts k (List.mem_range.1 hk)])
  rw [roomFor, roomFor, houts c hc, hmax, hslots, htags]

theorem sendTr_issued {x : DmaTr} (h : m.roomFor t c x.host = true) :
    m.sendTr t c x = m.modDma t c fun s => { s with outs := s.outs ++ [x], wait := none } := if_pos h

end

/-! ### A burst within DRAM (R467) -/

section
variable {m : Mach} {t c : Nat}

theorem burstStop_lt {o : Nat} (h : o < descLen (m.dmaCh t c).ctrl) : o < m.burstStop t c o := by
  unfold burstStop
  dsimp only
  generalize hb : 2 ^ m.rd (P.dma t) (F.DMA_CLASS_BURST_LOG2.nth (descClass (m.dmaCh t c).ctrl)) = b
  have hpos : 0 < b := hb ▸ Nat.two_pow_pos _
  have hnext := Nat.lt_div_mul_add (a := (m.dmaCh t c).dst + o) hpos
  rw [← Nat.succ_mul] at hnext
  exact lt_min h (by simp only [Nat.succ_eq_add_one] at hnext; omega)

/-- Once all bytes up to the burst's end are issued no more are. -/
theorem issueReads_done (k : Nat) (h : (m.dmaCh t c).burstEnd ≤ (m.dmaCh t c).issued) : issueReads t c k m = m := by
  cases k with
  | zero => rfl
  | succ k => simp [issueReads, Nat.sub_eq_zero_of_le h]

/-- A burst of a move within DRAM goes out in one transaction. -/
theorem issueReads_dram (ht : t < 8) (hc : c < 16) (k : Nat) (hlt : (m.dmaCh t c).issued < (m.dmaCh t c).burstEnd) (hsrc : (m.dmaCh t c).src < hostBase)
    (hdst : (m.dmaCh t c).dst < m.dramCap t) (hroom : m.roomFor t c false = true) : issueReads t c (k + 1) m = m.modDma t c fun x =>
      { x with issued := x.burstEnd, outs := x.outs ++ [{ ofs := x.issued, len := x.burstEnd - x.issued, dram := true }] } := by
  have hlow : decide (hostBase ≤ (m.dmaCh t c).src) = false := decide_eq_false (by omega)
  have hpos : ¬ (m.dmaCh t c).burstEnd - (m.dmaCh t c).issued = 0 := by omega
  unfold issueReads
  dsimp only
  rw [hlow, if_neg Bool.false_ne_true, if_pos le_rfl, hroom, if_neg (by simpa using hpos), issueReads_done k ?_]
  · refine modDma_eq_of_at ?_
    rw [decide_eq_true hdst, Bool.or_true, show (m.dmaCh t c).issued + ((m.dmaCh t c).burstEnd - (m.dmaCh t c).issued) = (m.dmaCh t c).burstEnd by omega]
  · rw [dmaCh_modDma_same _ _ ht hc]
    show (m.dmaCh t c).burstEnd ≤ (m.dmaCh t c).issued + ((m.dmaCh t c).burstEnd - (m.dmaCh t c).issued)
    omega

theorem dmaBurst_dram (ht : t < 8) (hc : c < 16) {e : Nat} (hs : m.dmaState t c = 1) (hready : (m.dmaCh t c).ready = true)
    (hdone : (m.dmaCh t c).done = false) (hlt : (m.dmaCh t c).issued < descLen (m.dmaCh t c).ctrl) (hsrc : (m.dmaCh t c).src < 2 ^ 63)
    (hdst : (m.dmaCh t c).dst + descLen (m.dmaCh t c).ctrl ≤ m.dramCap t) (hroom : m.roomFor t c false = true)
    (he : e = if (m.dmaCh t c).burstEnd ≤ (m.dmaCh t c).issued then m.burstStop t c (m.dmaCh t c).issued else (m.dmaCh t c).burstEnd) :
    m.dmaBurst t c = m.modDma t c fun x =>
      { x with burstEnd := e, issued := e, outs := x.outs ++ [({ ofs := x.issued, len := e - x.issued, dram := true } : DmaTr)] } := by
  have hcap := m.dramCap_le t
  have hbase : hostBase = 2 ^ 63 := rfl
  have hns : decide (hostBase ≤ (m.dmaCh t c).src) = false := decide_eq_false (by omega)
  have hnd : decide (hostBase ≤ (m.dmaCh t c).dst) = false := decide_eq_false (by omega)
  have hrefused : (m.hostRefused t (m.dmaCh t c).src || m.hostRefused t (m.dmaCh t c).dst) = false := by
    rw [hostRefused, hostRefused, hns, hnd]
    rfl
  have hgo : ¬ (decide (m.dmaState t c ≠ 1) || !(m.dmaCh t c).ready || (m.dmaCh t c).done ||
      decide (descLen (m.dmaCh t c).ctrl ≤ (m.dmaCh t c).issued)) = true := by
    simp [hs, hready, hdone, hlt]
  unfold dmaBurst
  dsimp only
  rw [if_neg hgo, hrefused, if_neg Bool.false_ne_true]
  by_cases hb : (m.dmaCh t c).burstEnd ≤ (m.dmaCh t c).issued
  · rw [if_pos hb]
    rw [if_pos hb] at he
    subst he
    have hnow := dmaCh_modDma_same m (t := t) (c := c) (fun x => { x with burstEnd := m.burstStop t c x.issued }) ht hc
    rw [issueReads_dram ht hc 63 ?_ ?_ ?_ ?_, modDma_modDma]
    · exact modDma_eq_of_at rfl
    · rw [hnow]; exact burstStop_lt hlt
    · rw [hnow]; exact hsrc
    · rw [hnow]; exact Nat.lt_of_lt_of_le (by omega : (m.dmaCh t c).dst < (m.dmaCh t c).dst + descLen (m.dmaCh t c).ctrl) hdst
    · rw [← hroom]
      exact roomFor_congr hc (rd_modDma _ _ _ _ _ _) (fun k hk => dmaCh_modDma_congr DmaCh.outs _ _ _ _ (fun _ => by rfl) ht hk) false
  · rw [if_neg hb]
    rw [if_neg hb] at he
    subst he
    rw [issueReads_dram ht hc 63 (by omega) hsrc (by omega) hroom]
    exact modDma_eq_of_at rfl

/-! ### Data arrives (R468, R469) -/

/-- The bytes of transaction `i`, at `S`, stored at `T` and counted. -/
def moved (m : Mach) (t c i S T len : Nat) : Mach :=
  let b := (m.dramWrite t T (m.dramRead t S len)).modDma t c fun x => { x with outs := x.outs.eraseIdx i }
  (b.wr2 (P.dma t) (F.DMA_CH_BYTES_LO_COUNT.nth c) (F.DMA_CH_BYTES_HI_COUNT.nth c)
    (b.rd2 (P.dma t) (F.DMA_CH_BYTES_LO_COUNT.nth c) (F.DMA_CH_BYTES_HI_COUNT.nth c) + len)).updateOfs t c

/-- The last descriptor of a chain is done and the chain ends. -/
def chainEnded (m : Mach) (t c : Nat) : Mach :=
  ((((m.incW (P.dma t) (F.DMA_CH_DONE_COUNT.nth c)).modDma t c fun s => { s with done := true }).setDmaState t c 0).modDma t c fun s =>
    { s with done := false, ready := false }).raise (P.dma t) 1

theorem dmaEnds_moved {i : Nat} {cpl : Cpl} {x : DmaTr} (hx : (m.dmaCh t c).outs[i]? = some x) (hfetch : x.fetch = false)
    (hdead : x.dead = false) (hbar : x.bar = false) (hS : (m.dmaCh t c).src + x.ofs + x.len ≤ m.dramCap t)
    (hT : (m.dmaCh t c).dst + x.ofs + x.len ≤ m.dramCap t) (hmark : m.dramMark = []) (htrain : m.flag (P.dram t) F.DRAM_STAT_TRAINED = true) :
    m.dmaEnds t c i cpl =
      let b := m.moved t c i ((m.dmaCh t c).src + x.ofs) ((m.dmaCh t c).dst + x.ofs) x.len
      if b.dmaState t c = 3 then b.dmaSettle t c
      else if (liveOuts (b.dmaCh t c)).isEmpty && (b.dmaCh t c).issued = descLen (b.dmaCh t c).ctrl then b.dmaWritten t c else b := by
  have hstore : ∀ bs : List Byte, bs.length = x.len → m.dmaStore t c ((m.dmaCh t c).dst + x.ofs) bs =
      (m.dramWrite t ((m.dmaCh t c).dst + x.ofs) bs, none) := fun bs hbs => by
    rw [dmaStore, hbs, fabTarget_dram hT]
    dsimp only
    rw [if_pos htrain]
  unfold dmaEnds
  dsimp only
  rw [hx]
  dsimp only
  rw [hfetch, hdead, hbar, if_neg Bool.false_ne_true, if_neg Bool.false_ne_true, if_neg Bool.false_ne_true, fabRead_dram cpl hS hmark]
  dsimp only
  rw [hstore _ (length_dramRead _ _ _ _)]
  rfl

theorem dramWrite_hands (bs : List Byte) : ∀ (m : Mach) (t f : Nat), (m.dramWrite t f bs).hands = m.hands := by
  induction bs with
  | nil => exact fun _ _ _ => rfl
  | cons b bs ih => exact fun m t f => ih _ t (f + 1)

theorem word_dramWrite (bs : List Byte) (m : Mach) (t f pk off : Nat) : (m.dramWrite t f bs).word pk off = m.word pk off := by
  rw [word, word, (dramWrite_frame bs m t f).1]

theorem dmaCh_dramWrite (bs : List Byte) (m : Mach) (t f k c : Nat) : (m.dramWrite t f bs).dmaCh k c = m.dmaCh k c := by
  rw [dmaCh, dmaCh, tile, tile, (dramWrite_frame bs m t f).2.2.1]

theorem dmaCh_moved (ht : t < 8) (hc : c < 16) (i S T len : Nat) :
    (m.moved t c i S T len).dmaCh t c = { m.dmaCh t c with outs := (m.dmaCh t c).outs.eraseIdx i } := by
  unfold moved
  dsimp only
  rw [updateOfs, dmaCh_wr, wr2, dmaCh_wr, dmaCh_wr, dmaCh_modDma_same _ _ ht hc, dmaCh_dramWrite]

theorem wait_moved (ht : t < 8) (i S T len : Nat) {k : Nat} (hk : k < 16) : ((m.moved t c i S T len).dmaCh t k).wait = (m.dmaCh t k).wait := by
  unfold moved
  dsimp only
  rw [updateOfs, dmaCh_wr, wr2, dmaCh_wr, dmaCh_wr, dmaCh_modDma_congr DmaCh.wait _ _ _ _ (fun _ => by rfl) ht hk, dmaCh_dramWrite]

theorem rd_moved (hc : c < 16) (i S T len : Nat) {f : Field} (hf : f.stride = 64 ∧ f.off < 0x140)
    (hne : f.off ≠ F.DMA_CH_OFS_OFS.off ∧ f.off ≠ F.DMA_CH_BYTES_LO_COUNT.off ∧ f.off ≠ F.DMA_CH_BYTES_HI_COUNT.off) :
    (m.moved t c i S T len).rd (P.dma t) (f.nth c) = m.rd (P.dma t) (f.nth c) := by
  obtain ⟨hofs, hlo, hhi⟩ := hne
  unfold moved
  dsimp only
  rw [updateOfs, rd_wrCh_apart _ _ (by decide) hf hofs hc, wr2, rd_wrCh_apart _ _ (by decide) hf hhi hc, rd_wrCh_apart _ _ (by decide) hf hlo hc,
    rd_modDma, rd, rd, word_dramWrite]

theorem word_moved (hc : c < 16) (i S T len : Nat) {pk off : Nat} (ho : off < 4096) (hpk : pk ≠ P.dma t) :
    (m.moved t c i S T len).word pk off = m.word pk off := by
  unfold moved
  dsimp only
  rw [updateOfs, word_wrCh_page _ _ (by decide) hc ho hpk, wr2, word_wrCh_page _ _ (by decide) hc ho hpk, word_wrCh_page _ _ (by decide) hc ho hpk,
    word_modDma, word_dramWrite]

theorem bytes_moved (hc : c < 16) (i S T len : Nat) :
    (m.moved t c i S T len).rd2 (P.dma t) (F.DMA_CH_BYTES_LO_COUNT.nth c) (F.DMA_CH_BYTES_HI_COUNT.nth c) =
      (m.rd2 (P.dma t) (F.DMA_CH_BYTES_LO_COUNT.nth c) (F.DMA_CH_BYTES_HI_COUNT.nth c) + len) % 2 ^ 64 := by
  have hkept : ∀ f, ((m.dramWrite t T (m.dramRead t S len)).modDma t c fun x => { x with outs := x.outs.eraseIdx i }).rd (P.dma t) f =
      m.rd (P.dma t) f := fun f => by rw [rd_modDma, rd, rd, word_dramWrite]
  have hofs : ∀ (b : Mach), (b.updateOfs t c).rd2 (P.dma t) (F.DMA_CH_BYTES_LO_COUNT.nth c) (F.DMA_CH_BYTES_HI_COUNT.nth c) =
      b.rd2 (P.dma t) (F.DMA_CH_BYTES_LO_COUNT.nth c) (F.DMA_CH_BYTES_HI_COUNT.nth c) := fun b => by
    rw [updateOfs, rd2, rd_wrCh_apart _ _ (by decide) (by decide) (by decide) hc, rd_wrCh_apart _ _ (by decide) (by decide) (by decide) hc, rd2]
  unfold moved
  dsimp only
  rw [hofs, rd2_wr2_same _ _ _ ⟨rfl, rfl⟩ ⟨rfl, rfl⟩ ?_ ?_ ?_, rd2, hkept, hkept, rd2] <;>
    simp only [Field.nth_off, F.DMA_CH_BYTES_LO_COUNT, F.DMA_CH_BYTES_HI_COUNT] <;> omega

theorem dram_moved (i S T len : Nat) : (m.moved t c i S T len).dram = (m.dramWrite t T (m.dramRead t S len)).dram := by
  unfold moved
  simp only [updateOfs, wr2, wr_dram]
  rfl

theorem arr_moved (i S T len : Nat) : (m.moved t c i S T len).arr = m.arr := by
  unfold moved
  simp only [updateOfs, wr2, wr_arr]
  exact (dramWrite_frame _ _ _ _).2.1

theorem clus_moved (i S T len : Nat) : (m.moved t c i S T len).clus = m.clus := by
  unfold moved
  simp only [updateOfs, wr2, wr_clus]
  exact (dramWrite_frame _ _ _ _).2.2.2

theorem hands_moved (i S T len : Nat) : (m.moved t c i S T len).hands = m.hands := by
  unfold moved
  simp only [updateOfs, wr2, wr_hands]
  exact dramWrite_hands _ _ _ _

/-- The bytes stored are read at their destination. -/
theorem dramRead_moved (hc : c < 16) (i S T len : Nat) : (m.moved t c i S T len).dramRead t T len = m.dramRead t S len := by
  have hne : P.dram t ≠ P.dma t := by simp only [P.dram, P.dma, pageKey]; omega
  have hback := dramRead_dramWrite (m.dramRead t S len) m t T
  rw [length_dramRead] at hback
  refine Eq.trans (dramRead_congr (a := m.moved t c i S T len) (dram_moved i S T len) (fun off ho => ?_) T len) hback
  rw [word_moved hc i S T len ho hne, word_dramWrite]

theorem dmaWritten_ends (ht : t < 8) (hc : c < 16) (hs : m.dmaState t c = 1) (hrecs : (m.dmaCh t c).recs = [])
    (hbar : descBarrier (m.dmaCh t c).ctrl = false) (hirq : descIrq (m.dmaCh t c).ctrl = false) (hlast : descLast (m.dmaCh t c).ctrl = true)
    (hwb : m.flag (P.dma t) (F.DMA_CH_CFG_WB.nth c) = false) : m.dmaWritten t c = m.chainEnded t c := by
  have hnow := dmaCh_modDma_same (m.incW (P.dma t) (F.DMA_CH_DONE_COUNT.nth c)) (t := t) (c := c) (fun s => { s with done := true }) ht hc
  have hstate : ((m.incW (P.dma t) (F.DMA_CH_DONE_COUNT.nth c)).modDma t c fun s => { s with done := true }).dmaState t c = 1 := by
    rw [dmaState, rd_modDma, incW, rd_wrCh_apart _ _ (by decide) (by decide) (by decide) hc]
    exact hs
  have hrecs' : ((m.incW (P.dma t) (F.DMA_CH_DONE_COUNT.nth c)).dmaCh t c).recs = [] := hrecs
  have hlast' : descLast ((m.incW (P.dma t) (F.DMA_CH_DONE_COUNT.nth c)).dmaCh t c).ctrl = true := hlast
  unfold dmaWritten
  dsimp only
  rw [hbar, Bool.false_and, Bool.false_and, if_neg Bool.false_ne_true]
  unfold dmaComplete
  dsimp only
  rw [hwb, hirq, Bool.false_and, Bool.false_and, Bool.false_and]
  simp only [Bool.false_eq_true, if_false, Bool.not_false, if_true]
  unfold dmaNext
  dsimp only
  rw [hnow, hstate]
  simp only [hrecs', hlast']
  rfl

theorem dmaCh_chainEnded_congr {β : Type} (v : DmaCh → β) (hv : ∀ x, v { x with done := false, ready := false } = v x)
    (hv' : ∀ x, v { x with done := true } = v x) (ht : t < 8) {k : Nat} (hk : k < 16) : v ((m.chainEnded t c).dmaCh t k) = v (m.dmaCh t k) := by
  have hraise : ∀ b : Mach, (b.raise (P.dma t) 1).dmaCh t k = b.dmaCh t k := fun b => by rw [dmaCh, tile, raise_tiles, dmaCh, tile]
  rw [chainEnded, hraise, dmaCh_modDma_congr v _ _ _ _ hv ht hk, setDmaState, dmaCh_wr, dmaCh_modDma_congr v _ _ _ _ hv' ht hk, incW, dmaCh_wr]

theorem rd_chainEnded (hc : c < 16) {f : Field} (hf : f.stride = 64 ∧ f.off < 0x140 ∧ 16 < f.off)
    (hne : f.off ≠ F.DMA_CH_DONE_COUNT.off ∧ f.off ≠ F.DMA_CH_STAT_STATE.off) :
    (m.chainEnded t c).rd (P.dma t) (f.nth c) = m.rd (P.dma t) (f.nth c) := by
  obtain ⟨hs, ho, hlow⟩ := hf
  rw [chainEnded, rd_raise_off _ ?_ (.inr ?_), rd_modDma, setDmaState,
    rd_wrCh_apart _ _ (by decide) ⟨hs, ho⟩ hne.2 hc, rd_modDma, incW, rd_wrCh_apart _ _ (by decide) ⟨hs, ho⟩ hne.1 hc] <;> rw [Field.nth_off]
  · rw [hs]; omega
  · omega

theorem dmaState_chainEnded (hc : c < 16) : (m.chainEnded t c).dmaState t c = 0 := by
  rw [chainEnded, dmaState, rd_raise_off _ ?_ (.inr ?_), rd_modDma, setDmaState, rd_wr_nth_same _ _ _ _ (by decide) (by decide), Nat.zero_mod] <;>
    simp only [Field.nth_off, F.DMA_CH_STAT_STATE] <;> omega

theorem done_chainEnded (hc : c < 16) : (m.chainEnded t c).rd (P.dma t) (F.DMA_CH_DONE_COUNT.nth c) =
    (m.rd (P.dma t) (F.DMA_CH_DONE_COUNT.nth c) + 1) % 2 ^ 32 := by
  rw [chainEnded, rd_raise_off _ ?_ (.inr ?_), rd_modDma, setDmaState, rd_wrCh_apart _ _ (by decide) (by decide) (by decide) hc, rd_modDma, incW,
    rd_wr_nth_same _ _ _ _ (by decide) (by decide)]
  all_goals simp only [Field.nth_off, F.DMA_CH_DONE_COUNT] <;> omega

theorem word_chainEnded (hc : c < 16) {pk off : Nat} (ho : off < 4096) (hpk : pk ≠ P.dma t) : (m.chainEnded t c).word pk off = m.word pk off := by
  rw [chainEnded, word_raise_off _ ho (.inl hpk), word_modDma, setDmaState, word_wrCh_page _ _ (by decide) hc ho hpk, word_modDma, incW,
    word_wrCh_page _ _ (by decide) hc ho hpk]

theorem chainEnded_rest (m : Mach) (t c : Nat) : (m.chainEnded t c).dram = m.dram ∧ (m.chainEnded t c).arr = m.arr ∧
    (m.chainEnded t c).clus = m.clus ∧ (m.chainEnded t c).hands = m.hands := by
  have hwr : ∀ (b : Mach) (f : DmaCh → DmaCh), (b.modDma t c f).dram = b.dram ∧ (b.modDma t c f).arr = b.arr ∧ (b.modDma t c f).clus = b.clus ∧
      (b.modDma t c f).hands = b.hands := fun _ _ => ⟨rfl, rfl, rfl, rfl⟩
  simp [chainEnded, hwr, setDmaState, incW]

/-- What a descriptor fetch reads in DRAM or in host memory. -/
theorem fetches_of {i : Nat} {cpl : Cpl} {D : List Byte} (hfound : (m.dmaCh t c).outs.findIdx? (fun x => x.fetch) = some i)
    (halive : ((m.dmaCh t c).outs.getD i {}).dead = false)
    (hread : (m.dmaDesc t c + 32 ≤ m.dramCap t ∧ m.dramMark = [] ∧ D = m.dramRead t (m.dmaDesc t c) 32) ∨
      (2 ^ 63 ≤ m.dmaDesc t c ∧ m.dmaDesc t c + 32 ≤ 2 ^ 64 ∧ cpl = .ok (cplBytes cpl) ∧
        D = (List.range 32).map fun j => (cplBytes cpl).getD j 0)) : Fetches m t c i cpl D where
  found := hfound
  alive := halive
  read := by
    rcases hread with ⟨hcap, hmark, rfl⟩ | ⟨hlo, hhi, hcpl, rfl⟩
    · exact fabRead_dram (m := m.modDma t c _) cpl hcap hmark
    · rw [hcpl]
      exact fabRead_host hlo hhi

/-- A change of a channel that keeps what waits in it leaves nothing to send. -/
theorem sendWaiting_setDmaState (ht : t < 8) {f : DmaCh → DmaCh} (hf : ∀ x, (f x).wait = x.wait) (hwait : ∀ k, k < 16 → (m.dmaCh t k).wait = none)
    (v : Nat) : ((m.modDma t c f).setDmaState t c v).sendWaiting t = (m.modDma t c f).setDmaState t c v :=
  sendWaiting_none fun k hk => by rw [setDmaState, dmaCh_wr, dmaCh_modDma_congr DmaCh.wait m t c k hf ht hk, hwait k hk]

theorem descFetched_waits (ht : t < 8) {i : Nat} {cpl : Cpl} {D : List Byte} (h : Fetches m t c i cpl D)
    (hwait : ∀ k, k < 16 → (m.dmaCh t k).wait = none) (hv : descValid (ofLe (D.take 4)) = false)
    (hs : m.dmaState t c ≠ 3) (hw : m.flag (P.dma t) (F.DMA_CH_CFG_WAIT_VALID.nth c) = true) :
    m.descFetched t c cpl = (m.modDma t c (described D i)).setDmaState t c 2 := by
  rw [descFetched, fetchEnds_waits h hv hs hw, sendWaiting_setDmaState ht (f := described D i) (fun _ => rfl) hwait]

theorem descFetched_readies {i : Nat} {cpl : Cpl} {D : List Byte} (ht : t < 8) (hc : c < 16) (h : Fetches m t c i cpl D)
    (hwait : ∀ k, k < 16 → (m.dmaCh t k).wait = none)
    (hv : descValid (ofLe (D.take 4)) = true) (hs : m.dmaState t c ≠ 3) (hlen : 0 < descLen (ofLe (D.take 4)))
    (hsrc : m.rangeCause t c (ofLe ((D.drop 4).take 8)) (descLen (ofLe (D.take 4))) = none)
    (hdst : m.rangeCause t c (ofLe ((D.drop 12).take 8)) (descLen (ofLe (D.take 4))) = none)
    (hover : ofLe ((D.drop 4).take 8) + descLen (ofLe (D.take 4)) ≤ ofLe ((D.drop 12).take 8) ∨
      ofLe ((D.drop 12).take 8) + descLen (ofLe (D.take 4)) ≤ ofLe ((D.drop 4).take 8))
    (hnext : descLast (ofLe (D.take 4)) = true ∨ ofLe ((D.drop 20).take 8) % 32 = 0 ∧
      (descLoopOk (ofLe (D.take 4)) = true ∨ ofLe ((D.drop 20).take 8) ∉ (m.dmaDesc t c :: (m.dmaCh t c).recent).take 8)) :
    m.descFetched t c cpl = ((if descLoopOk (ofLe (D.take 4)) then m.wr (P.dma t) (F.DMA_CH_HOPS_COUNT.nth c) 0 else m).modDma t c
      (readied D i (m.dmaDesc t c))).setDmaState t c 1 := by
  rw [descFetched, fetchEnds_readies ht hc h hv hs hlen hsrc hdst hover hnext, sendWaiting_setDmaState ht (f := readied D i (m.dmaDesc t c)) (fun _ => rfl)]
  intro k hk
  split <;> exact hwait k hk

/-- The next fetch of a descriptor that waits to become valid. -/
theorem descPoll_spec (ht : t < 8) (hc : c < 16) (hs : m.dmaState t c = 2) (hout : ∀ x ∈ (m.dmaCh t c).outs, x.fetch = false ∨ x.dead = true)
    (hwait : (m.dmaCh t c).wait = none) (hroom : m.roomFor t c false = true) (hA : m.dmaDesc t c % 32 = 0)
    (hcap : m.dmaDesc t c + 32 ≤ m.dramCap t) (htrain : m.flag (P.dram t) F.DRAM_STAT_TRAINED = true) :
    (m.descPoll t c).dmaState t c = 2 ∧ (m.descPoll t c).dmaDesc t c = m.dmaDesc t c ∧
      (m.descPoll t c).rd (P.dma t) (F.DMA_CH_HOPS_COUNT.nth c) = m.rd (P.dma t) (F.DMA_CH_HOPS_COUNT.nth c) ∧
      ((m.descPoll t c).dmaCh t c).outs = (m.dmaCh t c).outs ++ [{ fetch := true, dram := true }] ∧
      (∀ pk off, off < 4096 → pk ≠ P.dma t → (m.descPoll t c).word pk off = m.word pk off) ∧ (m.descPoll t c).arr = m.arr ∧
      (m.descPoll t c).dram = m.dram ∧ (m.descPoll t c).clus = m.clus ∧ (m.descPoll t c).hands = m.hands := by
  have hcap' := m.dramCap_le t
  have houts : ∀ k, k < 16 → ((m.fetching t c (m.dmaDesc t c) false).dmaCh t k).outs = (m.dmaCh t k).outs := fun k hk => by
    rw [fetching, dmaCh_wr, dmaCh_modDma_congr DmaCh.outs _ _ _ _ (fun _ => by rfl) ht hk, wr2, dmaCh_wr, dmaCh_wr]
  have hroom' : (m.fetching t c (m.dmaDesc t c) false).roomFor t c false = true :=
    (roomFor_congr hc (rd_fetching hc _ _ (by decide) (by decide)) houts false).trans hroom
  have heq : m.descPoll t c = (m.fetching t c (m.dmaDesc t c) false).modDma t c fun s =>
      { s with outs := s.outs ++ [{ fetch := true, dram := true }], wait := none } := by
    rw [descPoll_fetches hs hout hwait, issueFetch_dram ht hc hA hcap htrain]
    exact sendTr_issued hroom'
  rw [heq]
  refine ⟨?_, ?_, ?_, ?_, fun pk off ho hpk => ?_, ?_⟩
  · rw [dmaState, rd_modDma, rd_fetching hc _ _ (by decide) (by decide)]
    exact hs
  · rw [dmaDesc_modDma, dmaDesc_fetching hc]
    exact Nat.mod_eq_of_lt (by omega)
  · rw [rd_modDma, rd_fetching hc _ _ (by decide) (by decide)]
  · rw [dmaCh_modDma_same _ _ ht hc]
    exact congrArg (· ++ _) (houts c hc)
  · rw [word_modDma, word_fetching hc _ _ ho hpk]
  · have hmod : ∀ (b : Mach) (f : DmaCh → DmaCh), (b.modDma t c f).dram = b.dram ∧ (b.modDma t c f).arr = b.arr ∧
      (b.modDma t c f).clus = b.clus ∧ (b.modDma t c f).hands = b.hands := fun _ _ => ⟨rfl, rfl, rfl, rfl⟩
    simp [hmod, fetching, wr2]

/-- Data that arrives stands at its destination; the last of a chain ends it. -/
theorem dmaDone_spec (ht : t < 8) (hc : c < 16) {i : Nat} {cpl : Cpl} {x : DmaTr} (hx : (m.dmaCh t c).outs[i]? = some x)
    (hwait : ∀ k, k < 16 → (m.dmaCh t k).wait = none) (hfetch : x.fetch = false) (hdead : x.dead = false) (hbar : x.bar = false)
    (hS : (m.dmaCh t c).src + x.ofs + x.len ≤ m.dramCap t) (hT : (m.dmaCh t c).dst + x.ofs + x.len ≤ m.dramCap t) (hmark : m.dramMark = [])
    (htrain : m.flag (P.dram t) F.DRAM_STAT_TRAINED = true) (hs : m.dmaState t c = 1)
    (hcase : (m.dmaCh t c).issued < descLen (m.dmaCh t c).ctrl ∨
      ((m.dmaCh t c).outs = [x] ∧ (m.dmaCh t c).issued = descLen (m.dmaCh t c).ctrl ∧ (m.dmaCh t c).recs = [] ∧
        descBarrier (m.dmaCh t c).ctrl = false ∧ descIrq (m.dmaCh t c).ctrl = false ∧ descLast (m.dmaCh t c).ctrl = true ∧
        m.flag (P.dma t) (F.DMA_CH_CFG_WB.nth c) = false)) :
    m.dmaDone t c i cpl =
      let b := m.moved t c i ((m.dmaCh t c).src + x.ofs) ((m.dmaCh t c).dst + x.ofs) x.len
      if (m.dmaCh t c).issued < descLen (m.dmaCh t c).ctrl then b else b.chainEnded t c := by
  have hnow := dmaCh_moved (m := m) ht hc i ((m.dmaCh t c).src + x.ofs) ((m.dmaCh t c).dst + x.ofs) x.len
  have hwaits := fun k hk => (wait_moved (m := m) (t := t) (c := c) ht i ((m.dmaCh t c).src + x.ofs) ((m.dmaCh t c).dst + x.ofs) x.len
    (k := k) hk).trans (hwait k hk)
  have hrd := fun {f : Field} hf hne => rd_moved (m := m) (t := t) hc i ((m.dmaCh t c).src + x.ofs) ((m.dmaCh t c).dst + x.ofs) x.len (f := f) hf hne
  rw [dmaDone, dmaEnds_moved hx hfetch hdead hbar hS hT hmark htrain]
  dsimp only
  generalize m.moved t c i ((m.dmaCh t c).src + x.ofs) ((m.dmaCh t c).dst + x.ofs) x.len = b at hnow hwaits hrd ⊢
  have hstate : b.dmaState t c = 1 := (hrd (f := F.DMA_CH_STAT_STATE) (by decide) (by decide)).trans hs
  rw [hstate, if_neg (by decide), hnow]
  dsimp only
  rcases hcase with hlt | ⟨hone, hend, hrecs, hb, hi, hl, hw⟩
  · rw [if_neg (by simp; omega), if_pos hlt, sendWaiting_none hwaits]
  · have hzero : i = 0 := by
      rw [hone] at hx
      by_contra hi
      simp [hi] at hx
    subst hzero
    have hempty : liveOuts { m.dmaCh t c with outs := (m.dmaCh t c).outs.eraseIdx 0 } = [] := by rw [liveOuts, hone]; rfl
    have hflag : b.flag (P.dma t) (F.DMA_CH_CFG_WB.nth c) = false := by
      rw [flag, hrd (by decide) (by decide)]
      exact hw
    rw [hempty, if_pos (by simpa using hend), if_neg (by omega),
      dmaWritten_ends ht hc hstate (by rw [hnow]; exact hrecs) (by rw [hnow]; exact hb) (by rw [hnow]; exact hi) (by rw [hnow]; exact hl) hflag]
    exact sendWaiting_none fun k hk => (dmaCh_chainEnded_congr DmaCh.wait (fun _ => rfl) (fun _ => rfl) ht hk).trans (hwaits k hk)

theorem moved_spec (hc : c < 16) (ht : t < 8) (i S T len : Nat) {a : Mach} (ha : a = m.moved t c i S T len ∨ a = (m.moved t c i S T len).chainEnded t c) :
    a.dramRead t T len = m.dramRead t S len ∧
      (∀ k, (∀ j, j < len → k ≠ m.dramKey t (T + j)) → Store.get 0 a.dram k = Store.get 0 m.dram k) ∧
      (a.dmaCh t c).outs = (m.dmaCh t c).outs.eraseIdx i ∧
      a.rd2 (P.dma t) (F.DMA_CH_BYTES_LO_COUNT.nth c) (F.DMA_CH_BYTES_HI_COUNT.nth c) =
        (m.rd2 (P.dma t) (F.DMA_CH_BYTES_LO_COUNT.nth c) (F.DMA_CH_BYTES_HI_COUNT.nth c) + len) % 2 ^ 64 ∧
      (∀ pk off, off < 4096 → pk ≠ P.dma t → a.word pk off = m.word pk off) ∧ a.arr = m.arr ∧ a.clus = m.clus ∧ a.hands = m.hands := by
  have hne : P.dram t ≠ P.dma t := by simp only [P.dram, P.dma, pageKey]; omega
  have hother : ∀ k, (∀ j, j < len → k ≠ m.dramKey t (T + j)) → Store.get 0 (m.moved t c i S T len).dram k = Store.get 0 m.dram k := fun k hk => by
    rw [dram_moved]
    exact dramWrite_other _ m t T k fun j hj => hk j (by rwa [length_dramRead] at hj)
  rcases ha with rfl | rfl
  · exact ⟨dramRead_moved hc i S T len, hother, by rw [dmaCh_moved ht hc], bytes_moved hc i S T len, fun _ _ => word_moved hc i S T len,
      arr_moved i S T len, clus_moved i S T len, hands_moved i S T len⟩
  · obtain ⟨hdram, harr, hclus, hhands⟩ := chainEnded_rest (m.moved t c i S T len) t c
    refine ⟨?_, fun k hk => ?_, ?_, ?_, fun pk off ho hpk => ?_, ?_, ?_, ?_⟩
    · rw [dramRead_congr hdram fun off ho => word_chainEnded hc ho hne, dramRead_moved hc]
    · rw [hdram, hother k hk]
    · rw [dmaCh_chainEnded_congr DmaCh.outs (fun _ => rfl) (fun _ => rfl) ht hc, dmaCh_moved ht hc]
    · rw [rd2, rd_chainEnded hc (by decide) (by decide), rd_chainEnded hc (by decide) (by decide)]
      exact bytes_moved hc i S T len
    · rw [word_chainEnded hc ho hpk, word_moved hc _ _ _ _ ho hpk]
    · rw [harr, arr_moved]
    · rw [hclus, clus_moved]
    · rw [hhands, hands_moved]

end
end Mach

/-- Settles O55, command by command: the transactions of the other channels do not wait, so each event touches its own channel only. -/
theorem dmaMovesData : Obligations.DmaMovesData := by
  unfold Obligations.DmaMovesData
  refine ⟨fun s t c cpl i A D hA hwait hfound halive hread => ?_, fun s t c hs hout hwait hroom hA hcap htrain => ?_,
    fun s t c e hs hready hdone hlt hsrc hdst hroom he =>
      effect_next (f := fun m => m.dmaBurst t c) (Mach.dmaBurst_dram t.isLt c.isLt hs hready hdone hlt hsrc hdst hroom he),
    fun s t c i cpl x S T hx hwait hfetch hdead hbar hS hT hcapS hcapT hmark htrain hs hcase => ?_⟩
  · subst hA
    have hfetches := Mach.fetches_of hfound halive hread
    refine ⟨fun hv hw hs => ?_, fun hv hs hlen hsrc hdst hover hnext => ?_⟩
    · exact effect_next (f := fun m => m.descFetched t c cpl) (Mach.descFetched_waits t.isLt hfetches hwait hv hs hw)
    · exact effect_next (f := fun m => m.descFetched t c cpl)
        (Mach.descFetched_readies t.isLt c.isLt hfetches hwait hv hs hlen hsrc hdst hover hnext)
  · exact ⟨_, effect_next (f := fun m => m.descPoll t c) rfl, Mach.descPoll_spec t.isLt c.isLt hs hout hwait hroom hA hcap htrain⟩
  · subst hS hT
    have heq := Mach.dmaDone_spec (cpl := cpl) t.isLt c.isLt hx hwait hfetch hdead hbar hcapS hcapT hmark htrain hs hcase
    refine ⟨_, effect_next (f := fun m => m.dmaDone t c i cpl) heq, ?_⟩
    have hrd : ∀ {f : Field}, f.stride = 64 ∧ f.off < 0x140 → _ → _ := fun {f} hf hne =>
      Mach.rd_moved (m := s.start) (t := t) c.isLt i ((s.start.dmaCh t c).src + x.ofs) ((s.start.dmaCh t c).dst + x.ofs) x.len (f := f) hf hne
    by_cases hlt : (s.start.dmaCh t c).issued < Mach.descLen (s.start.dmaCh t c).ctrl
    · simp only [if_pos hlt]
      obtain ⟨hread, hdram, houts, hbytes, hword, harr, hclus, hhands⟩ := Mach.moved_spec c.isLt t.isLt i _ _ x.len (.inl rfl)
      exact ⟨hread, hdram, houts, hbytes, (hrd (f := F.DMA_CH_STAT_STATE) (by decide) (by decide)).trans hs,
        hrd (f := F.DMA_CH_DONE_COUNT) (by decide) (by decide), hword, harr, hclus, hhands⟩
    · simp only [if_neg hlt]
      obtain ⟨hread, hdram, houts, hbytes, hword, harr, hclus, hhands⟩ := Mach.moved_spec c.isLt t.isLt i _ _ x.len (.inr rfl)
      exact ⟨hread, hdram, houts, hbytes, Mach.dmaState_chainEnded c.isLt,
        by rw [Mach.done_chainEnded c.isLt, hrd (f := F.DMA_CH_DONE_COUNT) (by decide) (by decide)], hword, harr, hclus, hhands⟩

end Sys2Proof.Machine

/-!
PROOFS. Measurement: slots of the monitor converter, self-calibration, trumps, snapshots, the front end and the failsafe (R395–R421).
-/

namespace Sys2Proof.Machine
namespace Mach

section
variable {m a : Mach} {t : Nat}

/-! ### Commands of page MON -/

theorem blockWrite_mon (m : Mach) (t : Fin 8) (off : Nat) (v : Word) : m.blockWrite (P.mon t) off v = m.writeMon t off v := by
  rw [blockWrite, P.mon, tileOf_pageKey _ _ (by decide), pageOf_pageKey _ _ (by decide), blockCode_tilePage _ (by omega)]
  rfl

theorem writeMon_cal (hrun : (m.monS t).calRun = false) {v : Word} (h0 : bit v.toNat 0 = true) (h1 : bit v.toNat 1 = false) :
    m.writeMon t 0x048 v = some (m.modMon t fun x => { x with calPend := true }) := by
  simp [writeMon, h0, h1, monCalStart, hrun]

theorem snapRequest_taken (hon : m.monOn t = true) (hsnap : (m.monS t).snap = none) :
    m.snapRequest t = m.modMon t fun x => { x with snapReq := true } := by
  rw [snapRequest, hon, hsnap]
  rfl

theorem writeMon_snap (hon : m.monOn t = true) (hsnap : (m.monS t).snap = none) {v : Word} (h0 : bit v.toNat 0 = false) (h1 : bit v.toNat 1 = true) :
    m.writeMon t 0x048 v = some (m.modMon t fun x => { x with snapReq := true }) := by
  simp [writeMon, h0, h1, snapRequest_taken hon hsnap]

theorem trump_taken {v : Word} (h31 : bit v.toNat 31 = true) (hch : seqChannel (bits v.toNat 5 0) = true) (hpend : (m.monS t).calPend = false)
    (hrun : (m.monS t).calRun = false) (hval : m.calValid t = true) (hnone : (m.monS t).trump = none) :
    m.trump t v = m.modMon t fun x => { x with trump := some (bits v.toNat 5 0, bit v.toNat 8) } := by
  have hfield : fieldOf v F.MON_TRUMP_CH = bits v.toNat 5 0 := rfl
  simp [trump, h31, hfield, hch, hpend, hrun, hval, hnone]

theorem failsafe_acts {o : Nat} (hlive : m.live t D.aux = true) (hen : m.enabled (P.meas t) = true)
    (hout : m.flag (P.meas t) (F.MEAS_OUT_CFG_EN.nth o) = true) (hsafe : m.flag (P.meas t) (F.MEAS_OUT_STAT_FAILSAFE.nth o) = false) :
    m.failsafe t o = (((m.measSettle t o).modMeas t o fun x => { x with next := none }).wr (P.meas t) (F.MEAS_OUT_STAT_FAILSAFE.nth o) 1).raise
      (P.meas t) o := by
  simp [failsafe, hlive, hen, hout, hsafe]

/-! ### The state of a tile's converter and front end -/

theorem monS_modMon (m : Mach) (f : MonSt → MonSt) (ht : t < 8) : (m.modMon t f).monS t = f (m.monS t) := by
  rw [monS, modMon, tile_modTile_same _ _ ht, monS]

theorem feS_modMon (m : Mach) (f : MonSt → MonSt) : (m.modMon t f).feS t = m.feS t := tile_modTile_congr TileSt.fe m t t fun _ => rfl

theorem feS_modFe (m : Mach) (f : FeSt → FeSt) (ht : t < 8) : (m.modFe t f).feS t = f (m.feS t) := by
  rw [feS, modFe, tile_modTile_same _ _ ht, feS]

theorem monS_modFe (m : Mach) (f : FeSt → FeSt) : (m.modFe t f).monS t = m.monS t := tile_modTile_congr TileSt.mon m t t fun _ => rfl

/-- Time that passes on a tile changes nothing but the time bases and what counts with them. -/
theorem tile_advance {β : Type} (v : TileSt → β) (hv : ∀ ts n sub, v { ts with n := n, sub := sub } = v ts) (m : Mach) (t n : Nat) {u : Nat} (hu : u < 8) :
    v ((m.advance t n).tile u) = v (m.tile u) := by
  unfold advance
  split
  · rfl
  · rw [tile_passCycles _ _ hu]
    split
    · rfl
    · exact hv _ _ _

theorem advance_regs (m : Mach) (t n : Nat) : (m.advance t n).regs = m.regs ∧ (m.advance t n).arr = m.arr ∧ (m.advance t n).dram = m.dram ∧
    (m.advance t n).clus = m.clus := by
  unfold advance
  split <;> exact ⟨rfl, rfl, rfl, rfl⟩

theorem monS_advance (m : Mach) (t n : Nat) (ht : t < 8) : (m.advance t n).monS t = m.monS t := tile_advance TileSt.mon (fun _ _ _ => rfl) m t n ht

theorem feS_advance (m : Mach) (t n : Nat) (ht : t < 8) : (m.advance t n).feS t = m.feS t := tile_advance TileSt.fe (fun _ _ _ => rfl) m t n ht

theorem word_advance (m : Mach) (t n pk off : Nat) : (m.advance t n).word pk off = m.word pk off := by
  rw [word, word, (advance_regs m t n).1]

/-! ### A slot that serves a trump (R397, R401) -/

/-- The front end waits one slot for a trump. -/
def trumpHeld (m : Mach) (t : Nat) (ch : Nat) (after : Bool) (b : Mach) : Mach :=
  (b.modMon t fun s => { s with trump := none, cur := some (.trump ch after) }).wr2 (P.mon t) F.MON_TRUMP_T_LO_N F.MON_TRUMP_T_HI_N (m.now t)

theorem monServe_trump {ch : Nat} {after : Bool} (hrun : (m.monS t).calRun = false) (hpend : (m.monS t).calPend = false)
    (hval : m.calValid t = true) (htrump : (m.monS t).trump = some (ch, after)) :
    ∃ b, m.monServe t = m.trumpHeld t ch after b ∧ (b = m ∨ ∃ f, b = m.modFe t f) := by
  have hheld : ∀ (due : Bool) (f : FeSt → FeSt), (if due = true then m.modFe t f else m) = m ∨
      ∃ f', (if due = true then m.modFe t f else m) = m.modFe t f' := fun due f => by
    cases due
    · exact .inl rfl
    · exact .inr ⟨f, rfl⟩
  unfold monServe
  dsimp only
  rw [hrun, hpend, hval, htrump, if_neg Bool.false_ne_true, Bool.false_and, if_neg Bool.false_ne_true, if_neg (by decide)]
  exact ⟨_, rfl, hheld _ _⟩

theorem takeSnapshot_none (h : (m.monS t).snapReq = false) : m.takeSnapshot t = m := by
  unfold takeSnapshot
  dsimp only
  rw [h]
  rfl

/-- The state in which a slot that begins finds the converter, once no conversion is under way. -/
def slotBegun (m : Mach) (t : Nat) : Mach := (m.advance t ((m.now t / 250 + 1) * 250)).modMon t fun s => { s with cur := none }

theorem monS_slotBegun (m : Mach) (ht : t < 8) : (m.slotBegun t).monS t = { m.monS t with cur := none } := by
  rw [slotBegun, monS_modMon _ _ ht, monS_advance _ _ _ ht]

theorem word_slotBegun (m : Mach) (t pk off : Nat) : (m.slotBegun t).word pk off = m.word pk off := word_advance m t _ pk off

theorem monSlot_idle (ht : t < 8) (raw : Nat) (hon : m.monOn t = true) (hcur : (m.monS t).cur = none) (hsnap : (m.monS t).snapReq = false) :
    m.monSlot t raw = (m.slotBegun t).monServe t := by
  have hcur' : ((m.advance t ((m.now t / 250 + 1) * 250)).monS t).cur = none := by rw [monS_advance _ _ _ ht, hcur]
  have henter : (m.advance t ((m.now t / 250 + 1) * 250)).monEnter t raw = m.slotBegun t := by
    unfold monEnter
    dsimp only
    rw [hcur']
    rfl
  have hreq : ((m.slotBegun t).monS t).snapReq = false := by rw [monS_slotBegun m ht]; exact hsnap
  unfold monSlot
  rw [hon, henter, takeSnapshot_none hreq]
  rfl

theorem trumpHeld_spec (ht : t < 8) (ch : Nat) (after : Bool) {b : Mach} (hb : b = m ∨ ∃ f, b = m.modFe t f) :
    ((m.trumpHeld t ch after b).monS t).cur = some (.trump ch after) ∧ ((m.trumpHeld t ch after b).monS t).trump = none ∧
      (m.trumpHeld t ch after b).rd2 (P.mon t) F.MON_TRUMP_T_LO_N F.MON_TRUMP_T_HI_N = m.now t % 2 ^ 64 ∧
      ((m.trumpHeld t ch after b).monS t).recs = (m.monS t).recs ∧
      (∀ pk off, off < 4096 → ¬ (pk = P.mon t ∧ (off = 0x054 ∨ off = 0x058)) → (m.trumpHeld t ch after b).word pk off = m.word pk off) ∧
      (m.trumpHeld t ch after b).arr = m.arr ∧ (m.trumpHeld t ch after b).dram = m.dram ∧ (m.trumpHeld t ch after b).clus = m.clus := by
  have hmon : b.monS t = m.monS t := by
    rcases hb with rfl | ⟨f, rfl⟩
    · rfl
    · exact monS_modFe m f
  have hrest : (∀ pk off, b.word pk off = m.word pk off) ∧ b.arr = m.arr ∧ b.dram = m.dram ∧ b.clus = m.clus := by
    rcases hb with rfl | ⟨f, rfl⟩ <;> exact ⟨fun _ _ => rfl, rfl, rfl, rfl⟩
  obtain ⟨hword, harr, hdram, hclus⟩ := hrest
  have hnow : (m.trumpHeld t ch after b).monS t = { m.monS t with trump := none, cur := some (.trump ch after) } := by
    have hwr : ∀ (a : Mach) pk f v, (a.wr pk f v).monS t = a.monS t := fun _ _ _ _ => rfl
    rw [trumpHeld, wr2, hwr, hwr, monS_modMon _ _ ht, hmon]
  refine ⟨by rw [hnow], by rw [hnow], rd2_wr2_same _ _ _ ⟨rfl, rfl⟩ ⟨rfl, rfl⟩ (by decide) (by decide) (by decide), by rw [hnow],
    fun pk off ho hoff => ?_, ?_⟩
  · have hlo : pk ≠ P.mon t ∨ off ≠ 0x054 := by by_contra h; exact hoff (by omega)
    have hhi : pk ≠ P.mon t ∨ off ≠ 0x058 := by by_contra h; exact hoff (by omega)
    rw [trumpHeld, wr2, word_wr_off _ _ (by decide) ho hhi, word_wr_off _ _ (by decide) ho hlo]
    exact hword pk off
  · simp only [trumpHeld, wr2, wr_arr, wr_dram, wr_clus]
    exact ⟨harr, hdram, hclus⟩

/-! ### Self-calibration (R398, R399) -/

theorem toS_ofS {w : Nat} (hw : 0 < w) {i : Int} (hlo : -(2 ^ (w - 1) : Nat) ≤ i) (hhi : i < (2 ^ (w - 1) : Nat)) : toS w (ofS w i) = i := by
  obtain ⟨k, rfl⟩ : ∃ k, w = k + 1 := ⟨w - 1, by omega⟩
  have hpow : (2 : Nat) ^ (k + 1) = 2 * 2 ^ k := Nat.pow_succ'
  rw [show k + 1 - 1 = k by omega] at hlo hhi
  rw [toS, ofS, show k + 1 - 1 = k by omega]
  have hcast : (2 : Int) ^ (k + 1) = ((2 ^ (k + 1) : Nat) : Int) := by push_cast; rfl
  rw [hcast]
  generalize 2 ^ (k + 1) = p at *
  generalize 2 ^ k = q at *
  have hmod : i % (p : Int) = if 0 ≤ i then i else i + p := by
    split
    · exact Int.emod_eq_of_lt (by omega) (by omega)
    · rw [← Int.add_emod_right, Int.emod_eq_of_lt (by omega) (by omega)]
  rw [hmod, Nat.mod_eq_of_lt (by split <;> omega)]
  split <;> split <;> omega

/-- Four signed bytes, the first lowest, as a register packs them. -/
def linWord (lin : List Int) (k : Nat) : Nat :=
  ofS 8 (lin.getD k 0) + 2 ^ 8 * ofS 8 (lin.getD (k + 1) 0) + 2 ^ 16 * ofS 8 (lin.getD (k + 2) 0) + 2 ^ 24 * ofS 8 (lin.getD (k + 3) 0)

theorem linWord_lt (lin : List Int) (k : Nat) : linWord lin k < 2 ^ 32 := by
  have hlt : ∀ j, ofS 8 (lin.getD j 0) < 2 ^ 8 := fun j => ofS_lt 8 _
  have h0 := hlt k
  have h1 := hlt (k + 1)
  have h2 := hlt (k + 2)
  have h3 := hlt (k + 3)
  unfold linWord
  omega

theorem linWord_byte (lin : List Int) (k : Nat) {j : Nat} (hj : j < 4) : linWord lin k / 2 ^ (8 * j) % 2 ^ 8 = ofS 8 (lin.getD (k + j) 0) := by
  have hlt : ∀ j, ofS 8 (lin.getD j 0) < 2 ^ 8 := fun j => ofS_lt 8 _
  have h0 := hlt k
  have h1 := hlt (k + 1)
  have h2 := hlt (k + 2)
  have h3 := hlt (k + 3)
  unfold linWord
  interval_cases j <;> norm_num only [Nat.div_one, Nat.add_zero] <;> omega

/-- A self-calibration whose factors are taken over. -/
def calTaken (m : Mach) (t : Nat) (ofs : Int) (gain a b : Nat) : Mach :=
  ((((((((m.modMon t fun s => { s with calRun := false }).wr (P.mon t) F.MON_CAL_OFS_OFS (ofS 16 ofs)).wr (P.mon t) F.MON_CAL_GAIN_GAIN
    gain).setWord (P.mon t) 0x088 (BitVec.ofNat 32 a)).setWord (P.mon t) 0x08C (BitVec.ofNat 32 b)).wr (P.mon t) F.MON_STAT_CAL_VALID 1).wr
      (P.mon t) F.MON_STAT_CAL_FAIL 0).modMon t fun s => { s with aon := some (ofS 16 ofs, gain, a, b) }).raise (P.mon t) 0

theorem monCalDone_taken {ofs : Int} {gain : Nat} {lin : List Int} (hlive : m.live t D.mon = true) (hrun : (m.monS t).calRun = true)
    (hofs : -4096 ≤ ofs ∧ ofs ≤ 4096) (hgain : 32113 ≤ gain ∧ gain ≤ 33423) (hlin : ∀ x, x ∈ lin → -127 ≤ x ∧ x ≤ 127) :
    m.monCalDone t ofs gain lin = m.calTaken t ofs gain (linWord lin 0) (linWord lin 4) := by
  have hall : (lin.all fun x => decide (-127 ≤ x) && decide (x ≤ 127)) = true :=
    List.all_eq_true.2 fun x hx => by simpa using hlin x hx
  unfold monCalDone
  dsimp only
  rw [hlive, hrun, hall, decide_eq_true hofs.1, decide_eq_true hofs.2, decide_eq_true hgain.1, decide_eq_true hgain.2]
  rfl

theorem word_modMon (m : Mach) (t : Nat) (f : MonSt → MonSt) (pk off : Nat) : (m.modMon t f).word pk off = m.word pk off := rfl

theorem rd_modMon (m : Mach) (t : Nat) (f : MonSt → MonSt) (pk : Nat) (fd : Field) : (m.modMon t f).rd pk fd = m.rd pk fd := rfl

theorem toS_mod (w n : Nat) : toS w (n % 2 ^ w) = toS w n := by rw [toS, toS, Nat.mod_mod]

theorem monLin_calTaken (ofs : Int) (gain : Nat) {lin : List Int} (hlin : ∀ x, x ∈ lin → -127 ≤ x ∧ x ≤ 127) {k : Nat} (hk : k < 8) :
    (m.calTaken t ofs gain (linWord lin 0) (linWord lin 4)).monLin t k = lin.getD k 0 := by
  have hword : (m.calTaken t ofs gain (linWord lin 0) (linWord lin 4)).word (P.mon t) (if k < 4 then 0x088 else 0x08C) =
      BitVec.ofNat 32 (linWord lin (4 * (k / 4))) := by
    rw [calTaken, word_raise_off _ (by split <;> decide) (.inr (by split <;> decide)), word_modMon,
      word_wr_off _ _ (by decide) (by split <;> decide) (.inr (by split <;> decide)),
      word_wr_off _ _ (by decide) (by split <;> decide) (.inr (by split <;> decide))]
    by_cases h : k < 4
    · rw [if_pos h, word_setWord_off _ _ (by decide) (by decide) (.inr (by decide)), word_setWord_same, show 4 * (k / 4) = 0 by omega]
    · rw [if_neg h, word_setWord_same, show 4 * (k / 4) = 4 by omega]
  have hbound : -127 ≤ lin.getD k 0 ∧ lin.getD k 0 ≤ 127 := by
    rw [List.getD_eq_getElem?_getD]
    cases h : lin[k]? with
    | none => decide
    | some x => exact hlin x (List.mem_of_getElem? h)
  rw [monLin, hword, BitVec.toNat_ofNat, Nat.mod_eq_of_lt (linWord_lt _ _), ← toS_mod, linWord_byte _ _ (by omega),
    show 4 * (k / 4) + k % 4 = k by omega]
  exact toS_ofS (by decide) (by omega) (by omega)

theorem calTaken_spec (ht : t < 8) {ofs : Int} {gain : Nat} (a b : Nat) (hofs : -4096 ≤ ofs ∧ ofs ≤ 4096) (hgain : gain ≤ 33423) :
    (m.calTaken t ofs gain a b).calValid t = true ∧ (m.calTaken t ofs gain a b).flag (P.mon t) F.MON_STAT_CAL_FAIL = false ∧
      (m.calTaken t ofs gain a b).rdS (P.mon t) F.MON_CAL_OFS_OFS = ofs ∧
      (m.calTaken t ofs gain a b).rd (P.mon t) F.MON_CAL_GAIN_GAIN = gain ∧ ((m.calTaken t ofs gain a b).monS t).calRun = false ∧
      ((m.calTaken t ofs gain a b).word (P.mon t) 0x010).toNat.testBit 0 = true ∧ (m.calTaken t ofs gain a b).arr = m.arr ∧
      (m.calTaken t ofs gain a b).dram = m.dram ∧ (m.calTaken t ofs gain a b).clus = m.clus := by
  have hvalid : (m.calTaken t ofs gain a b).rd (P.mon t) F.MON_STAT_CAL_VALID = 1 := by
    rw [calTaken, rd_raise_off _ (by decide) (.inr (by decide)), rd_modMon, rd_wr_apart _ _ _ (by decide) (by decide) (by rfl) (by decide),
      rd_wr_same _ _ _ (by decide) (by decide)]
    rfl
  have hfail : (m.calTaken t ofs gain a b).rd (P.mon t) F.MON_STAT_CAL_FAIL = 0 := by
    rw [calTaken, rd_raise_off _ (by decide) (.inr (by decide)), rd_modMon, rd_wr_same _ _ _ (by decide) (by decide), Nat.zero_mod]
  have hlow : ∀ f : Field, f.off = 0x080 ∨ f.off = 0x084 → (m.calTaken t ofs gain a b).rd (P.mon t) f =
      (((m.modMon t fun s => { s with calRun := false }).wr (P.mon t) F.MON_CAL_OFS_OFS (ofS 16 ofs)).wr (P.mon t) F.MON_CAL_GAIN_GAIN
        gain).rd (P.mon t) f := fun f hf => by
    have hlt : f.off < 4096 := by omega
    have hapart : ∀ off, off ≠ 0x080 → off ≠ 0x084 → f.off ≠ off := fun off h1 h2 h => by omega
    rw [calTaken, rd_raise_off _ hlt (.inr (hapart _ (by decide) (by decide))), rd_modMon,
      rd_wr_off _ _ (by decide) hlt (.inr (hapart _ (by decide) (by decide))), rd_wr_off _ _ (by decide) hlt (.inr (hapart _ (by decide) (by decide))),
      rd_setWord_off _ _ (by decide) hlt (.inr (hapart _ (by decide) (by decide))),
      rd_setWord_off _ _ (by decide) hlt (.inr (hapart _ (by decide) (by decide)))]
  have hcal : ((m.calTaken t ofs gain a b).monS t).calRun = false := by
    have hwr : ∀ (a : Mach) pk f v, (a.wr pk f v).monS t = a.monS t := fun _ _ _ _ => rfl
    have hset : ∀ (a : Mach) pk off w, (a.setWord pk off w).monS t = a.monS t := fun _ _ _ _ => rfl
    rw [calTaken, raise, hset, monS_modMon _ _ ht, hwr, hwr, hset, hset, hwr, hwr, monS_modMon _ _ ht]
  refine ⟨?_, ?_, ?_, ?_, hcal, raise_testBit _ _ (by decide), ?_⟩
  · rw [calValid, flag, hvalid]; rfl
  · rw [flag, hfail]; rfl
  · rw [rdS, hlow _ (.inl rfl), rd_wr_off _ _ (by decide) (by decide) (.inr (by decide)), rd_wr_same _ _ _ (by decide) (by decide)]
    exact (toS_mod 16 _).trans (toS_ofS (by decide) (by omega) (by omega))
  · rw [hlow _ (.inr rfl), rd_wr_same _ _ _ (by decide) (by decide)]
    exact Nat.mod_eq_of_lt (Nat.lt_of_le_of_lt hgain (by decide))
  · have hmod : ∀ (a : Mach) (f : MonSt → MonSt), (a.modMon t f).arr = a.arr ∧ (a.modMon t f).dram = a.dram ∧ (a.modMon t f).clus = a.clus :=
      fun _ _ => ⟨rfl, rfl, rfl⟩
    simp [calTaken, hmod]

/-! ### A completed snapshot (R405) -/

/-- The words of a snapshot, as the window shows them. -/
def copied (m : Mach) (t : Nat) (ws : List Nat) : Mach := ws.zipIdx.foldl (fun m (w, e) => m.setEl (P.mon t) 0 e w) m

theorem copied_keeps {β : Type} (v : Mach → β) (hv : ∀ b pk i w, v (setEl b pk 0 i w) = v b) (m : Mach) (t : Nat) (ws : List Nat) :
    v (m.copied t ws) = v m := foldl_keeps v _ (fun b _ _ => hv b _ _ _) m

theorem el_copied (m : Mach) (t : Nat) {ws : List Nat} {e : Nat} (he : e < ws.length) : (m.copied t ws).el (P.mon t) 0 e = ws.getD e 0 := by
  have hget : ws[e]? = some (ws.getD e 0) := by simp [he]
  have hx : (ws.getD e 0, e) ∈ ws.zipIdx := List.mem_zipIdx_iff_getElem?.2 hget
  refine foldl_makes (P := fun b => b.el (P.mon t) 0 e = ws.getD e 0) ws.zipIdx hx (fun b => el_setEl_same b _ _ _ _) (fun b y hy hb => ?_) m
  obtain ⟨w, i⟩ := y
  have hw : ws[i]? = some w := List.mem_zipIdx_iff_getElem?.1 hy
  show (b.setEl (P.mon t) 0 i w).el (P.mon t) 0 e = ws.getD e 0
  by_cases hi : i = e
  · subst hi
    rw [el_setEl_same, List.getD_eq_getElem?_getD, hw]
    rfl
  · rw [el_setEl_ne _ _ (by simp only [elKey]; omega), hb]

/-- A snapshot that its queue does not deliver. -/
def snapShown (m : Mach) (t n : Nat) (ws : List Nat) : Mach :=
  ((((((m.modMon t fun s => { s with snap := none }).copied t ws).incW (P.mon t) F.MON_SNAP_SEQ_SEQ).wr2 (P.mon t) F.MON_SNAP_T_LO_N
    F.MON_SNAP_T_HI_N n).wr (P.mon t) F.MON_SNAP_STAT_READY 1).raise (P.mon t) 4)

theorem word_copied (m : Mach) (t : Nat) (ws : List Nat) (pk off : Nat) : (m.copied t ws).word pk off = m.word pk off :=
  copied_keeps (fun b => b.word pk off) (fun _ _ _ _ => rfl) m t ws

theorem snapshotDone_shown {n : Nat} {ws : List Nat} (hsnap : (m.monS t).snap = some (n, ws)) (hlive : m.live t D.mon = true)
    (hdel : m.flag (P.mon t) F.MON_CFG_DELIVER = false) : m.snapshotDone t = m.snapShown t n ws := by
  have hkept : (m.snapShown t n ws).flag (P.mon t) F.MON_CFG_DELIVER = false := by
    rw [snapShown, flag, rd_raise_off _ (by decide) (.inr (by decide)), rd_wr_off _ _ (by decide) (by decide) (.inr (by decide)), wr2,
      rd_wr_off _ _ (by decide) (by decide) (.inr (by decide)), rd_wr_off _ _ (by decide) (by decide) (.inr (by decide)), incW,
      rd_wr_off _ _ (by decide) (by decide) (.inr (by decide)), rd, word_copied]
    exact hdel
  have hif : ∀ b : Mach, (if (!(m.snapShown t n ws).flag (P.mon t) F.MON_CFG_DELIVER) = true then m.snapShown t n ws else b) =
      m.snapShown t n ws := fun b => by rw [hkept]; rfl
  unfold snapshotDone
  rw [hsnap]
  dsimp only
  rw [hlive]
  exact hif _

theorem snapShown_spec (ht : t < 8) (n : Nat) (ws : List Nat) : ((m.snapShown t n ws).monS t).snap = none ∧
      (∀ e, e < ws.length → (m.snapShown t n ws).el (P.mon t) 0 e = ws.getD e 0) ∧
      (m.snapShown t n ws).flag (P.mon t) F.MON_SNAP_STAT_READY = true ∧
      (m.snapShown t n ws).rd (P.mon t) F.MON_SNAP_SEQ_SEQ = (m.rd (P.mon t) F.MON_SNAP_SEQ_SEQ + 1) % 2 ^ 32 ∧
      (m.snapShown t n ws).rd2 (P.mon t) F.MON_SNAP_T_LO_N F.MON_SNAP_T_HI_N = n % 2 ^ 64 ∧
      ((m.snapShown t n ws).word (P.mon t) 0x010).toNat.testBit 4 = true ∧
      (m.snapShown t n ws).dram = m.dram ∧ (m.snapShown t n ws).clus = m.clus := by
  have hwr : ∀ (a : Mach) pk f v, (a.wr pk f v).monS t = a.monS t := fun _ _ _ _ => rfl
  have hset : ∀ (a : Mach) pk off w, (a.setWord pk off w).monS t = a.monS t := fun _ _ _ _ => rfl
  have hcopied := fun b => copied_keeps (fun b => b.monS t) (fun _ _ _ _ => rfl) b t ws
  refine ⟨?_, fun e he => ?_, ?_, ?_, ?_, raise_testBit _ _ (by decide), ?_⟩
  · rw [snapShown, raise, hset, hwr, wr2, hwr, hwr, incW, hwr, hcopied, monS_modMon _ _ ht]
  · rw [← el_copied (m.modMon t fun s => { s with snap := none }) t he]
    simp only [snapShown, el, raise_arr, wr2, wr_arr, incW]
  · rw [snapShown, flag, rd_raise_off _ (by decide) (.inr (by decide)), rd_wr_same _ _ _ (by decide) (by decide)]
    rfl
  · rw [snapShown, rd_raise_off _ (by decide) (.inr (by decide)), rd_wr_off _ _ (by decide) (by decide) (.inr (by decide)), wr2,
      rd_wr_off _ _ (by decide) (by decide) (.inr (by decide)), rd_wr_off _ _ (by decide) (by decide) (.inr (by decide)), incW,
      rd_wr_same _ _ _ (by decide) (by decide), rd, word_copied, word_modMon, ← rd]
    rfl
  · rw [snapShown, rd2, rd_raise_off _ (by decide) (.inr (by decide)), rd_raise_off _ (by decide) (.inr (by decide)),
      rd_wr_off _ _ (by decide) (by decide) (.inr (by decide)), rd_wr_off _ _ (by decide) (by decide) (.inr (by decide))]
    exact rd2_wr2_same _ _ _ ⟨rfl, rfl⟩ ⟨rfl, rfl⟩ (by decide) (by decide) (by decide)
  · simp only [snapShown, raise_dram, raise_clus, wr_dram, wr_clus, wr2, incW]
    exact ⟨copied_keeps Mach.dram (fun _ _ _ _ => rfl) _ t ws, copied_keeps Mach.clus (fun _ _ _ _ => rfl) _ t ws⟩

/-! ### The front end's second half (R410) -/

theorem feVisits_congr {b : Mach} (hcfg : (b.feS t).cfg2 = (m.feS t).cfg2) (hchs : (b.feS t).chs = (m.feS t).chs) (n : Nat) :
    b.feVisits t n = m.feVisits t n := by
  unfold feVisits
  dsimp only
  rw [hcfg, hchs]

theorem excFaults_none (m : Mach) (t : Nat) : m.excFaults t 0 = m := by
  unfold excFaults
  refine foldl_eq_self _ fun n _ => ?_
  have hbit : bit 0 n = false := Nat.zero_testBit n
  simp [hbit]

theorem feOverrun_none (h : (m.feS t).due = []) : m.feOverrun t = m := by
  unfold feOverrun
  dsimp only
  rw [h]

/-- The front end in the second half of its cycle, which starts at `n`. -/
def secondHalf (m : Mach) (t n : Nat) : Mach :=
  (((m.advance t n).modFe t fun x => { x with negHalf := true, start := n }).wr (P.fe t) F.FE_STAT_NEG 1).modFe t fun x =>
    { x with due := m.feVisits t n }

theorem feHalfStart_second (ht : t < 8) (hmay : m.feMayRun t = true) (hrun : (m.feS t).run = true) (hdue : (m.feS t).due = [])
    (hneg : (m.feS t).negHalf = false) : m.feHalfStart t 0 = m.secondHalf t ((m.feS t).start + 250 * bits (m.feS t).cfg 19 0) := by
  have hvisits : ∀ n f, (f (m.feS t)).cfg2 = (m.feS t).cfg2 → (f (m.feS t)).chs = (m.feS t).chs →
      (((m.advance t n).modFe t f).wr (P.fe t) F.FE_STAT_NEG 1).feVisits t n = m.feVisits t n := fun n f h1 h2 => by
    have hnow : (((m.advance t n).modFe t f).wr (P.fe t) F.FE_STAT_NEG 1).feS t = f (m.feS t) := by
      have hwr : ∀ (a : Mach) pk f v, (a.wr pk f v).feS t = a.feS t := fun _ _ _ _ => rfl
      rw [hwr, feS_modFe _ _ ht, feS_advance _ _ _ ht]
    exact feVisits_congr (by rw [hnow, h1]) (by rw [hnow, h2]) n
  unfold feHalfStart
  dsimp only
  rw [hmay, hrun, hneg, feOverrun_none hdue, excFaults_none]
  simp only [Bool.not_true, Bool.false_eq_true, if_false, Bool.not_false, wrb, Bool.toNat_true]
  rw [hvisits _ _ rfl rfl]
  rfl

theorem secondHalf_spec (ht : t < 8) (n : Nat) : ((m.secondHalf t n).feS t).negHalf = true ∧ (m.secondHalf t n).flag (P.fe t) F.FE_STAT_NEG = true ∧
      ((m.secondHalf t n).feS t).start = n ∧ ((m.secondHalf t n).feS t).due = m.feVisits t n ∧
      (∀ pk off, off < 4096 → ¬ (pk = P.fe t ∧ off = 0x04C) → (m.secondHalf t n).word pk off = m.word pk off) ∧
      (m.secondHalf t n).arr = m.arr ∧ (m.secondHalf t n).dram = m.dram ∧ (m.secondHalf t n).clus = m.clus := by
  have hwr : ∀ (a : Mach) pk f v, (a.wr pk f v).feS t = a.feS t := fun _ _ _ _ => rfl
  have hmod : ∀ (a : Mach) (f : FeSt → FeSt), (a.modFe t f).arr = a.arr ∧ (a.modFe t f).dram = a.dram ∧ (a.modFe t f).clus = a.clus ∧
      (∀ pk off, (a.modFe t f).word pk off = a.word pk off) ∧ (∀ pk fd, (a.modFe t f).rd pk fd = a.rd pk fd) :=
    fun _ _ => ⟨rfl, rfl, rfl, fun _ _ => rfl, fun _ _ => rfl⟩
  have hnow : (m.secondHalf t n).feS t = { m.feS t with negHalf := true, start := n, due := m.feVisits t n } := by
    rw [secondHalf, feS_modFe _ _ ht, hwr, feS_modFe _ _ ht, feS_advance _ _ _ ht]
  obtain ⟨-, harr, hdram, hclus⟩ := advance_regs m t n
  refine ⟨by rw [hnow], ?_, by rw [hnow], by rw [hnow], fun pk off ho hoff => ?_, ?_, ?_, ?_⟩
  · rw [secondHalf, flag, (hmod _ _).2.2.2.2, rd_wr_same _ _ _ (by decide) (by decide)]
    rfl
  · have hne : pk ≠ P.fe t ∨ off ≠ 0x04C := by by_contra h; exact hoff (by omega)
    rw [secondHalf, (hmod _ _).2.2.2.1, word_wr_off _ _ (by decide) ho hne, (hmod _ _).2.2.2.1, word_advance]
  · simp [secondHalf, hmod, harr]
  · simp [secondHalf, hmod, hdram]
  · simp [secondHalf, hmod, hclus]

/-! ### What a result of the converter touches (R403–R405, R417–R421) -/

theorem logPackage_arr (m : Mach) (r : FaultRec) : (m.logPackage r).arr = m.arr := by
  obtain ⟨l, hl⟩ := m.logPackage_eq r
  rw [hl, countRecord]
  split
  · simp only [raise_arr, inc_arr, incW, wr_arr]
  · simp only [wr_arr, raise_arr, incW]

/-- The log of a segment leaves of a tile all but its record of the island. -/
theorem tile_logSegment {β : Type} (v : TileSt → β) (hv : ∀ ts r l, v { ts with ring := r, islLog := l } = v ts) (m : Mach) (t : Nat) (r : FaultRec)
    (u : Nat) : v ((m.logSegment t r).tile u) = v (m.tile u) := by
  have hswap : ∀ (b : Mach) d, v ((b.swapView d).tile u) = v (b.tile u) := fun b d => tile_modTile_congr v b d u fun ts => hv ts _ _
  unfold logSegment
  split
  · rw [hswap, tile, logPackage_tiles, ← tile, hswap]
  · rw [tile, logPackage_tiles, ← tile]

/-- `a` has the DRAM, the window elements, and of the converter and the front end of tile `t` the records, the request of a snapshot
and the visits due, as `m`. -/
structure Sampled (t : Nat) (m a : Mach) : Prop where
  dram : a.dram = m.dram
  arr : a.arr = m.arr
  recs : (a.monS t).recs = (m.monS t).recs
  snapReq : (a.monS t).snapReq = (m.monS t).snapReq
  due : (a.feS t).due = (m.feS t).due

namespace Sampled

theorem refl (m : Mach) : Sampled t m m := ⟨rfl, rfl, rfl, rfl, rfl⟩

theorem trans {b : Mach} (h : Sampled t m a) (k : Sampled t a b) : Sampled t m b :=
  ⟨k.dram.trans h.dram, k.arr.trans h.arr, k.recs.trans h.recs, k.snapReq.trans h.snapReq, k.due.trans h.due⟩

theorem setWord (m : Mach) (pk off : Nat) (w : Word) : Sampled t m (m.setWord pk off w) := ⟨rfl, rfl, rfl, rfl, rfl⟩

theorem modClu (m : Mach) (g : Nat) (f : Cluster → Cluster) : Sampled t m (m.modClu g f) := ⟨rfl, rfl, rfl, rfl, rfl⟩

theorem modTile (m : Mach) (u : Nat) {f : TileSt → TileSt} (hrecs : ∀ ts, (f ts).mon.recs = ts.mon.recs)
    (hreq : ∀ ts, (f ts).mon.snapReq = ts.mon.snapReq) (hdue : ∀ ts, (f ts).fe.due = ts.fe.due) : Sampled t m (m.modTile u f) :=
  ⟨rfl, rfl, tile_modTile_congr (fun ts => ts.mon.recs) m u t hrecs, tile_modTile_congr (fun ts => ts.mon.snapReq) m u t hreq,
    tile_modTile_congr (fun ts => ts.fe.due) m u t hdue⟩

/-- Uses of the queues of any tile leave what a result is entered in. -/
theorem closed (t u : Nat) : QueueClosed (Sampled t) (fun _ => True) u where
  refl := refl
  trans := trans
  setWord _ _ m w := setWord m _ _ w
  modTile m f hf := modTile m u (fun ts => show (f ts).sansQueues.mon.recs = ts.sansQueues.mon.recs by rw [hf])
    (fun ts => show (f ts).sansQueues.mon.snapReq = ts.sansQueues.mon.snapReq by rw [hf])
    (fun ts => show (f ts).sansQueues.fe.due = ts.sansQueues.fe.due by rw [hf])
  log m r := by
    have hmon : (m.logSegment u r).monS t = m.monS t := tile_logSegment TileSt.mon (fun _ _ _ => rfl) m u r t
    have hfe : (m.logSegment u r).feS t = m.feS t := tile_logSegment TileSt.fe (fun _ _ _ => rfl) m u r t
    have harr : (m.logSegment u r).arr = m.arr := by
      unfold logSegment
      split
      · exact logPackage_arr _ r
      · exact logPackage_arr m r
    exact ⟨(queueClosed_dram u).log m r, harr, by rw [hmon], by rw [hmon], by rw [hfe]⟩

theorem wr (m : Mach) (pk : Nat) (f : Field) (v : Nat) : Sampled t m (m.wr pk f v) := setWord m _ _ _

theorem raise (m : Mach) (pk b : Nat) : Sampled t m (m.raise pk b) := setWord m _ _ _

theorem ite {b c : Mach} {p : Prop} [Decidable p] (hb : Sampled t m b) (hc : Sampled t m c) : Sampled t m (if p then b else c) := by
  split
  · exact hb
  · exact hc

theorem foldl {α : Type} {f : Mach → α → Mach} (l : List α) (hf : ∀ m x, Sampled t m (f m x)) (m : Mach) : Sampled t m (l.foldl f m) :=
  (closed t 0).foldl l (fun m x _ => hf m x) m

theorem emitEvent (m : Mach) (u prod cap pk : Nat) {lost : Field} (ho : lost.off < 4096) (ev : Option Nat) (tr : Trick) :
    Sampled t m (m.emitEvent u prod cap pk lost ev tr) :=
  (closed t u).emitEvent ⟨trivial, trivial, trivial, trivial⟩ m prod cap trivial ho ev tr

theorem lampEvent (m : Mach) (g code cause : Nat) : Sampled t m (m.lampEvent g code cause) :=
  trans (modClu m g _) (emitEvent _ _ _ _ _ (by decide) _ _)

theorem boostUpdate (m : Mach) (g : Nat) : Sampled t m (m.boostUpdate g) := by
  unfold Mach.boostUpdate
  exact ite (refl m) (ite (trans (wr m _ _ _) (wr _ _ _ _)) (trans (trans (wr m _ _ _) (wr _ _ _ _)) (wr _ _ _ _)))

theorem countCut (m : Mach) (g k : Nat) : Sampled t m (m.countCut g k) := ite (refl m) (trans (wr m _ _ _) (raise _ _ _))

theorem lampJudge (m : Mach) (g : Nat) : Sampled t m (m.lampJudge g) := by
  have hshut : ∀ b : Mach, Sampled t b (((b.cutStrobes g).wr (P.lamp g) F.LAMP_CTRL_DIRECT 0).modLamp g fun s =>
      { s with heldOff := true, measured := [] }) := fun b =>
    trans (trans (trans (trans (modClu b g _) (modClu _ g _)) (countCut _ g _)) (wr _ _ _ _)) (modClu _ g _)
  have hcounted : ∀ b : Mach, Sampled t b (((b.boostUpdate g).inc (P.lamp g) F.LAMP_SHUTS_COUNT).raise (P.lamp g) 0) := fun b =>
    trans (boostUpdate b g) (trans (wr _ _ _ _) (raise _ _ _))
  have hlogged : ∀ (b : Mach) cause d, Sampled t b ((b.lampEvent g 1 cause).record (g / 2) 0x0B g cause 0 d) := fun b cause d =>
    trans (lampEvent b g 1 _) ((closed t (g / 2)).record ⟨trivial, trivial, trivial, trivial⟩ _ _ _ _ _ _)
  unfold Mach.lampJudge
  exact ite (refl m) (trans (trans (trans (trans (wr m _ _ _) (wr _ _ _ _)) (hshut _)) (hcounted _)) (hlogged _ _ _))

theorem derateUpdate (m : Mach) (g : Nat) : Sampled t m (m.derateUpdate g) := by
  unfold Mach.derateUpdate
  exact trans (wr m _ _ _) (ite (refl _) (trans (trans (wr _ _ _ _) (raise _ _ _)) (lampEvent _ g _ 0)))

theorem deliverT (m : Mach) (u ch : Nat) (x : Int) : Sampled t m (m.deliverT u ch x) := by
  have hshd : ∀ (b : Mach) g v, Sampled t b (b.deliverShd g v) := fun b g v => ite (setWord b _ _ _) (refl b)
  have hdie : ∀ (b : Mach) g v, Sampled t b (b.deliverDie g v) := fun b g v =>
    ite (refl b) (trans (trans (wr b _ _ _) (modClu _ g _)) (lampJudge _ g))
  have hbar : ∀ (b : Mach) g v, Sampled t b (b.deliverBar g v) := fun b g v =>
    ite (refl b) (trans (trans (trans (trans (wr b _ _ _) (wr _ _ _ _)) (modClu _ g _)) (derateUpdate _ g)) (lampJudge _ g))
  unfold Mach.deliverT
  exact foldl _ (fun b g => trans (trans (ite (hshd b g _) (refl b)) (ite (hdie _ g _) (refl _))) (ite (hbar _ g _) (refl _))) m

theorem modMeas (m : Mach) (u o : Nat) (f : MeasOut → MeasOut) : Sampled t m (m.modMeas u o f) :=
  modTile m u (fun _ => rfl) (fun _ => rfl) fun _ => rfl

theorem deliverMeas (m : Mach) (u o : Nat) (v : Int) : Sampled t m (m.deliverMeas u o v) := by
  have hsettle : Sampled t m (m.measSettle u o) := by
    unfold Mach.measSettle
    dsimp only
    split
    · exact refl m
    · exact ite (refl m) (trans (trans (wr m _ _ _) (wr _ _ _ _)) (modMeas _ u o _))
  unfold Mach.deliverMeas
  exact trans hsettle (ite (trans (trans (trans (wr _ _ _ _) (wr _ _ _ _)) (wr _ _ _ _)) (modMeas _ u o _)) (modMeas _ u o _))

theorem limitCheck (m : Mach) (u k ch : Nat) (a : Int) : Sampled t m (m.limitCheck u k ch a) := by
  have hevent : ∀ (b : Mach) (s : MonSt → Nat) tr, Sampled t b (((b.modMon u fun x => { x with limSeq := s x }).raise (P.mon u) 6).emitEvent u 0x06 4
      (P.mon u) F.MON_SNAP_LOST_COUNT (some 5) tr) := fun b s tr => by
    have hseq : Sampled t b (b.modMon u fun x => { x with limSeq := s x }) := modTile b u (fun _ => rfl) (fun _ => rfl) fun _ => rfl
    exact trans (trans hseq (raise _ (P.mon u) 6)) (emitEvent _ u 0x06 4 (P.mon u) (by decide) (some 5) tr)
  unfold Mach.limitCheck
  exact ite (refl m) (ite (refl m) (trans (setWord m _ _ _) (hevent _ (fun x => (x.limSeq + 1) % 2 ^ 32) _)))

theorem filterValue (m : Mach) (u ch : Nat) (x : Int) : Sampled t m (m.filterValue u ch x) := by
  have hfilled : ∀ (b : Mach) (s : MonSt → Nat), Sampled t b (b.modMon u fun x => { x with filled := s x }) := fun b _ =>
    modTile b u (fun _ => rfl) (fun _ => rfl) fun _ => rfl
  have htemp : ∀ (b : Mach) (temp : Option Int), Sampled t b (match temp with
      | some x => (if ch < 8 then b.wr (P.fe u) (F.FE_CH_STAT_T_VALID.nth ch) 1 else b).deliverT u ch x
      | none => b) := fun b temp => by
    cases temp with
    | some x => exact trans (ite (wr b _ _ _) (refl b)) (deliverT _ u ch x)
    | none => exact refl b
  have hout : ∀ (b : Mach) o (temp : Option Int), Sampled t b (match temp with | some x => b.deliverMeas u o x | none => b) := fun b o temp => by
    cases temp with
    | some x => exact deliverMeas b u o x
    | none => exact refl b
  unfold Mach.filterValue
  exact trans (trans (trans (trans (hfilled m fun x => putBit x.filled ch true) (ite (wr _ _ _ _) (wr _ _ _ _)))
    (foldl _ (fun b k => limitCheck b u k ch _) _)) (htemp _ _)) (foldl _ (fun b o => ite (refl b) (ite (hout b o _) (deliverMeas b u o _))) _)

end Sampled

/-! ### A slot enters the result of the one before (R397) -/

theorem seqServe_sampled (m : Mach) (t : Nat) : Sampled t m (m.seqServe t) := by
  unfold seqServe
  dsimp only
  split
  · exact .modTile m t (fun _ => rfl) (fun _ => rfl) fun _ => rfl
  · split <;> exact .modTile m t (fun _ => rfl) (fun _ => rfl) fun _ => rfl

theorem dropDue_none (h : (m.feS t).due = []) (k : Nat) : m.dropDue t k = m := by
  cases k with
  | zero => rfl
  | succ k =>
    unfold dropDue
    rw [h]

/-- With no visit of the front end due, what a slot serves touches the converter's own state only. -/
theorem monServe_sampled (h : (m.feS t).due = []) : Sampled t m (m.monServe t) := by
  have hmon : ∀ (b : Mach) (f : MonSt → MonSt), (∀ x, (f x).recs = x.recs) → (∀ x, (f x).snapReq = x.snapReq) → Sampled t b (b.modMon t f) :=
    fun b f hr hs => .modTile b t (fun _ => hr _) (fun _ => hs _) fun _ => rfl
  have hcal : ((m.modMon t fun s => { s with calPend := false, calRun := true }).feS t).due = [] := by rw [feS_modMon]; exact h
  unfold monServe
  dsimp only
  rw [h]
  dsimp only
  split
  · rw [dropDue_none h]
    exact .refl m
  · split
    · rw [dropDue_none hcal]
      exact hmon m _ (fun _ => rfl) fun _ => rfl
    · split
      · exact .refl m
      · split
        next ch after _ =>
          rw [if_neg Bool.false_ne_true]
          exact .trans (hmon m (fun s => { s with trump := none, cur := some (.trump ch after) }) (fun _ => rfl) fun _ => rfl)
            (.trans (.wr _ _ _ _) (.wr _ _ _ _))
        · exact seqServe_sampled m t

theorem monSlot_entered (ht : t < 8) {raw ch : Nat} (hon : m.monOn t = true) (hcur : (m.monS t).cur = some (.seq ch))
    (hsnap : (m.monS t).snapReq = false) (hdue : (m.feS t).due = []) :
    Sampled t ((m.slotBegun t).modRec t ch fun r => recAdd r ((m.slotBegun t).codeOf t ch raw) false) (m.monSlot t raw) := by
  have hcur' : ((m.advance t ((m.now t / 250 + 1) * 250)).monS t).cur = some (.seq ch) := by rw [monS_advance _ _ _ ht, hcur]
  have henter : (m.advance t ((m.now t / 250 + 1) * 250)).monEnter t raw =
      (m.slotBegun t).monResult t ch ((m.slotBegun t).codeOf t ch raw) false := by
    unfold monEnter
    dsimp only
    rw [hcur']
    rfl
  have hresult := Sampled.filterValue (t := t)
    ((m.slotBegun t).modRec t ch fun r => recAdd r ((m.slotBegun t).codeOf t ch raw) false) t ch ((m.slotBegun t).codeOf t ch raw)
  rw [← monResult] at hresult
  have hreq : (((m.slotBegun t).monResult t ch ((m.slotBegun t).codeOf t ch raw) false).monS t).snapReq = false := by
    rw [hresult.snapReq, modRec, monS_modMon _ _ ht, monS_slotBegun m ht]
    exact hsnap
  have hnone : (((m.slotBegun t).monResult t ch ((m.slotBegun t).codeOf t ch raw) false).feS t).due = [] := by
    rw [hresult.due, modRec, feS_modMon, slotBegun, feS_modMon, feS_advance _ _ _ ht]
    exact hdue
  unfold monSlot
  rw [hon, if_neg (by decide), henter, takeSnapshot_none hreq]
  exact hresult.trans (monServe_sampled hnone)

theorem codeOf_slotBegun (m : Mach) (t ch raw : Nat) :
    (m.slotBegun t).codeOf t ch raw = (m.advance t ((m.now t / 250 + 1) * 250)).codeOf t ch raw := by
  have hheld : ∀ (b : Mach) (f : MonSt → MonSt) g n, (b.modMon t f).heldCurrent g n = b.heldCurrent g n := fun b f g n => by
    have hlive : (b.modMon t f).live (g / 2) D.lamp = b.live (g / 2) D.lamp :=
      live_congr (a := b.modMon t f) (m := b) rfl (tile_modTile_congr TileSt.life b t _ fun _ => rfl)
        (tile_modTile_congr TileSt.seq b t _ fun _ => rfl) (fun _ _ => rfl) _
    have hnow : (b.modMon t f).now (g / 2) = b.now (g / 2) := tile_modTile_congr TileSt.n b t _ fun _ => rfl
    have hlamp : (b.modMon t f).lampS g = b.lampS g := rfl
    rw [heldCurrent, heldCurrent, hlive, hnow, hlamp]
  rw [slotBegun, codeOf, codeOf, hheld]
  rfl

/-! ### An overrun (R413) -/

/-- A word of a tile's page that differs from its reset value, and is neither the queues' nor the count of what is lost, stays through
an event that raises nothing. -/
theorem word_emitEvent {pk off : Nat} (hlow : pk < 14 * 256) (ho : off < 4096) (hpages : QueuePages (fun p => p ≠ pk) t) (prod cap : Nat) {lost : Field}
    (hlost : lost.off < 4096) (hne : off ≠ lost.off) (tr : Trick) (h : m.word pk off ≠ resetWord (pk * 4096 + off)) :
    (m.emitEvent t prod cap pk lost none tr).word pk off = m.word pk off := by
  have hR := queueClosed_word (C := fun p => p ≠ pk) (t := t) (not_not.2 rfl) ho hlow
  have hraw : ∀ b : Mach, b.word pk off ≠ resetWord (pk * 4096 + off) → (b.emitRaw t prod cap pk lost none tr).word pk off = b.word pk off :=
    fun b hb => by
      unfold emitRaw
      split
      · rfl
      next q _ =>
        dsimp only
        split
        · exact hR.trans (hR.openRaw b q _ prod tr) (hR.closeRaw _ q) hb
        · split
          · rfl
          · exact word_wr_off b _ hlost ho (.inr hne)
  unfold emitEvent
  split
  · rfl
  next q hq =>
    have huse := hR.useQueue hpages m (.inl (queueOfProd_lt hq)) h
    rw [hraw _ (huse ▸ h), huse]

/-- What the blanked results of a front end keep. -/
theorem blankResult_keeps {β : Type} (v : Mach → β) (hmon : ∀ b f, v (modMon b t f) = v b)
    (hset : ∀ b off w, 0x098 ≤ off → v (setWord b (P.fe t) off w) = v b) (m : Mach) (n : Nat) (count : Bool) : v (m.blankResult t n count) = v m := by
  unfold blankResult
  dsimp only
  split
  · refine (hset _ _ _ ?_).trans (hmon _ _)
    rw [Field.nth_off]
    exact Nat.le_add_right _ _
  · exact hmon _ _

/-- The front end's count of an overrun, with nothing left due. -/
def overrun (m : Mach) (t : Nat) : Mach := ((m.inc (P.fe t) F.FE_OVERRUN_COUNT).raise (P.fe t) 4).modFe t fun s => { s with due := [] }

/-- The results that an overrun spoils, of the channels `chs`. -/
def spoiled (m : Mach) (t : Nat) (neg : Bool) (chs : List Nat) : Mach :=
  chs.foldl (fun m c =>
    let m := m.modFeCh t c fun x => { x with ovr := true }
    if neg then m.blankResult t c (!(m.feCh t c).diag) else m) m

theorem spoiled_keeps {β : Type} (v : Mach → β) (hmon : ∀ b f, v (modMon b t f) = v b)
    (hfe : ∀ b f, (∀ x, FeSt.due (f x) = x.due) → v (modFe b t f) = v b)
    (hset : ∀ b off w, 0x098 ≤ off → v (setWord b (P.fe t) off w) = v b) (m : Mach) (neg : Bool) (chs : List Nat) : v (m.spoiled t neg chs) = v m := by
  refine foldl_keeps v chs (fun b c _ => ?_) m
  dsimp only
  split
  · exact (blankResult_keeps v hmon hset _ _ _).trans (hfe _ _ fun _ => rfl)
  · exact hfe _ _ fun _ => rfl

theorem feOverrun_eq {n k : Nat} {last : Bool} {r : List (Nat × Nat × Bool)} (h : (m.feS t).due = (k, n, last) :: r) :
    m.feOverrun t = ((m.overrun t).spoiled t (m.feS t).negHalf (((m.feS t).due.map fun d => d.2.1).eraseDups)).feEvent t n 5 0 := by
  unfold feOverrun
  dsimp only
  rw [h]
  rfl

theorem word_spoiled (m : Mach) (neg : Bool) (chs : List Nat) {off : Nat} (ho : off < 0x098) :
    (m.spoiled t neg chs).word (P.fe t) off = m.word (P.fe t) off :=
  spoiled_keeps (fun b => b.word (P.fe t) off) (fun _ _ => rfl) (fun _ _ _ => rfl)
    (fun b off' w h => b.word_setWord_ne w (by omega)) m neg chs

theorem word_feEvent (m : Mach) {t : Nat} (ht : t < 8) (n code cause : Nat) {off : Nat} (ho : off < 0x058)
    (h : m.word (P.fe t) off ≠ resetWord (P.fe t * 4096 + off)) : (m.feEvent t n code cause).word (P.fe t) off = m.word (P.fe t) off := by
  have hpages : QueuePages (fun p => p ≠ P.fe t) t := by constructor <;> simp only [P.que, P.kitty, P.dram, P.decl, P.fe, pageKey] <;> omega
  have hlow : P.fe t < 14 * 256 := by rw [P.fe, pageKey]; omega
  have hlost : off ≠ F.FE_EVT_LOST_COUNT.off := by simp only [F.FE_EVT_LOST_COUNT]; omega
  exact word_emitEvent (m := m.modFe t fun s => { s with seq := (s.seq + 1) % 2 ^ 32 }) hlow (by omega) hpages _ _ (by decide) hlost _ h

theorem feEvent_sampled (m : Mach) (t n code cause : Nat) : Sampled t m (m.feEvent t n code cause) := by
  have hseq : Sampled t m (m.modFe t fun s => { s with seq := (s.seq + 1) % 2 ^ 32 }) := .modTile m t (fun _ => rfl) (fun _ => rfl) fun _ => rfl
  exact hseq.trans (.emitEvent _ t 0x07 4 (P.fe t) (by decide) none _)

theorem feEvent_clus (m : Mach) (t n code cause : Nat) : (m.feEvent t n code cause).clus = m.clus :=
  (queueClosed_clus t).emitEvent ⟨trivial, trivial, trivial, trivial⟩ _ _ _ trivial (by decide) _ _

theorem rd_modFe (m : Mach) (t : Nat) (f : FeSt → FeSt) (pk : Nat) (fd : Field) : (m.modFe t f).rd pk fd = m.rd pk fd := rfl

theorem word_modFe (m : Mach) (t : Nat) (f : FeSt → FeSt) (pk off : Nat) : (m.modFe t f).word pk off = m.word pk off := rfl

theorem overrun_spec (ht : t < 8) : ((m.overrun t).feS t).due = [] ∧
    (m.overrun t).rd (P.fe t) F.FE_OVERRUN_COUNT = min (m.rd (P.fe t) F.FE_OVERRUN_COUNT + 1) 65535 ∧
    ((m.overrun t).word (P.fe t) 0x010).toNat.testBit 4 = true ∧ (m.overrun t).arr = m.arr ∧ (m.overrun t).dram = m.dram ∧
    (m.overrun t).clus = m.clus := by
  have hmod : ∀ (a : Mach) (f : FeSt → FeSt), (a.modFe t f).arr = a.arr ∧ (a.modFe t f).dram = a.dram ∧ (a.modFe t f).clus = a.clus :=
    fun _ _ => ⟨rfl, rfl, rfl⟩
  refine ⟨?_, ?_, ?_, ?_⟩
  · rw [overrun]
    exact congrArg FeSt.due (feS_modFe _ _ ht)
  · rw [overrun, rd_modFe, rd_raise_off _ (by decide) (.inr (by decide)), inc, incBy, rd_wr_same _ _ _ (by decide) (by decide)]
    simp only [F.FE_OVERRUN_COUNT, Field.width]
    omega
  · rw [overrun, word_modFe]
    exact raise_testBit _ _ (by decide)
  · simp [overrun, hmod]

theorem feOverrun_spec (ht : t < 8) (h : (m.feS t).due ≠ []) : ((m.feOverrun t).feS t).due = [] ∧
      (m.feOverrun t).rd (P.fe t) F.FE_OVERRUN_COUNT = min (m.rd (P.fe t) F.FE_OVERRUN_COUNT + 1) 65535 ∧
      ((m.feOverrun t).word (P.fe t) 0x010).toNat.testBit 4 = true ∧ (m.feOverrun t).arr = m.arr ∧ (m.feOverrun t).dram = m.dram ∧
      (m.feOverrun t).clus = m.clus := by
  obtain ⟨⟨k, n, last⟩, r, hdue⟩ := List.exists_cons_of_ne_nil h
  have hreset : ∀ u : Fin 8, bits (resetWord (P.fe u * 4096 + 0x054)).toNat 15 0 = 0 ∧
      (resetWord (P.fe u * 4096 + 0x010)).toNat.testBit 4 = false := by decide +kernel
  obtain ⟨hnone, hcount, hraise, harr, hdram, hclus⟩ := overrun_spec (m := m) ht
  rw [feOverrun_eq hdue]
  generalize hchs : ((m.feS t).due.map fun d => d.2.1).eraseDups = chs
  generalize (m.feS t).negHalf = neg
  have hdue' : (((m.overrun t).spoiled t neg chs).feS t).due = ((m.overrun t).feS t).due :=
    spoiled_keeps (fun b => (b.feS t).due) (fun b f => congrArg FeSt.due (feS_modMon b f))
      (fun b f hf => tile_modTile_congr (fun ts => ts.fe.due) b t t fun ts => hf ts.fe) (fun _ _ _ _ => rfl) _ neg chs
  have hword := fun {off} (ho : off < 0x098) => word_spoiled (m.overrun t) neg chs (t := t) ho
  have hrest := spoiled_keeps (t := t) (fun b => (b.arr, b.dram, b.clus)) (fun _ _ => rfl) (fun _ _ _ => rfl) (fun _ _ _ _ => rfl) (m.overrun t) neg chs
  simp only [Prod.mk.injEq] at hrest
  obtain ⟨harr', hdram', hclus'⟩ := hrest
  have hkept := feEvent_sampled ((m.overrun t).spoiled t neg chs) t n 5 0
  refine ⟨by rw [hkept.due, hdue', hnone], ?_, ?_, by rw [hkept.arr, harr', harr], by rw [hkept.dram, hdram', hdram],
    by rw [feEvent_clus, hclus', hclus]⟩
  · have hne : ((m.overrun t).spoiled t neg chs).word (P.fe t) 0x054 ≠ resetWord (P.fe t * 4096 + 0x054) := fun heq => by
      rw [hword (by decide)] at heq
      have hzero : (m.overrun t).rd (P.fe t) F.FE_OVERRUN_COUNT = 0 := (congrArg (fun w : Word => bits w.toNat 15 0) heq).trans (hreset ⟨t, ht⟩).1
      rw [hcount] at hzero
      omega
    exact (congrArg (fun w : Word => bits w.toNat 15 0) ((word_feEvent _ ht n 5 0 (by decide) hne).trans (hword (by decide)))).trans hcount
  · have hne : ((m.overrun t).spoiled t neg chs).word (P.fe t) 0x010 ≠ resetWord (P.fe t * 4096 + 0x010) := fun heq => by
      rw [hword (by decide)] at heq
      rw [heq, (hreset ⟨t, ht⟩).2] at hraise
      exact Bool.false_ne_true hraise
    rw [word_feEvent _ ht n 5 0 (by decide) hne, hword (by decide)]
    exact hraise

end
end Mach

/-- A write to a register of page MON with an action of its own. -/
theorem effect_monWrite {s : State} {p : Port} {t : Fin 8} {off : Nat} {v : Word} {f : MonSt → MonSt} (h : s.start.writable p t 0x30 off = true)
    (hoff : off = 0x048 ∨ off = 0x04C) (hw : s.start.writeMon t off v = some (s.start.modMon t f)) :
    s.effect (fun m => m.portWrite p (regAddr t 0x30 off) v) = .next (s.settled (s.start.modMon t f)) := by
  have hrow : (rowOf (pageKey 0 0x30) off).isSome = true := by rcases hoff with rfl | rfl <;> decide
  exact effect_tileWrite h (by omega) (by decide) (by omega) (by omega) (by omega) hrow (by omega)
    ((s.start.blockWrite_mon t off v).trans hw) (Mach.tile_modTile_congr TileSt.dormant s.start t t fun _ => rfl)

/-- Settles O50. -/
theorem measurementCommands : Obligations.MeasurementCommands := by
  unfold Obligations.MeasurementCommands
  refine ⟨fun s t raw ch after hon hcur hsnap hrun hpend hval htrump => ?_, fun s t raw ch hon hcur hch hsnap hdue => ?_, fun s p t v h h1 hrun => ?_,
    fun s t ofs gain lin hlive hrun hlo hhi hglo hghi hlin => ?_, fun s p t v h hch hpend hrun hval hnone => ?_, fun s p t v h h0 hon hnone => ?_,
    fun s t hms hon hnone => ?_, fun s t n ws hsnap _ hlive hdel => ?_, fun s t hmay hrun hdue hneg => ?_, fun s t hdue => ?_,
    fun s t o hlive hen hout hsafe => effect_next (f := fun m => m.failsafe t o) (Mach.failsafe_acts hlive hen hout hsafe)⟩
  case refine_1 =>
    have hmon := Mach.monS_slotBegun s.start t.isLt
    have hval' : (s.start.slotBegun t).calValid t = true := by
      rw [← hval, Mach.calValid, Mach.flag, Mach.rd, Mach.word_slotBegun, ← Mach.rd, ← Mach.flag, Mach.calValid]
    obtain ⟨b, hserve, hb⟩ := Mach.monServe_trump (m := s.start.slotBegun t) (by rw [hmon]; exact hrun) (by rw [hmon]; exact hpend) hval'
      (by rw [hmon]; exact htrump)
    have heq := (Mach.monSlot_idle t.isLt raw.toNat hon hcur hsnap).trans hserve
    obtain ⟨hnow, hnone, htime, hrecs, hword, harr, hdram, hclus⟩ := Mach.trumpHeld_spec t.isLt ch after hb
    obtain ⟨-, harr', hdram', hclus'⟩ := Mach.advance_regs s.start t ((s.start.now t / 250 + 1) * 250)
    refine ⟨_, effect_next (f := fun m => m.monSlot t raw.toNat) heq, hnow, hnone, htime.trans ?_, hrecs.trans (by rw [hmon]),
      fun pk off ho hoff => (hword pk off ho hoff).trans (Mach.word_slotBegun _ _ _ _), harr.trans harr', hdram.trans hdram', hclus.trans hclus'⟩
    exact congrArg (· % 2 ^ 64) (Mach.tile_modTile_congr TileSt.n _ t t fun _ => rfl)
  case refine_2 =>
    have hkept := Mach.monSlot_entered (raw := raw.toNat) t.isLt hon hcur hsnap hdue
    rw [Mach.codeOf_slotBegun] at hkept
    obtain ⟨-, harr, hdram, -⟩ := Mach.advance_regs s.start t ((s.start.now t / 250 + 1) * 250)
    have hrecs := hkept.recs
    rw [Mach.modRec, Mach.monS_modMon _ _ t.isLt, Mach.monS_slotBegun _ t.isLt] at hrecs
    refine ⟨_, effect_next (f := fun m => m.monSlot t raw.toNat) rfl, ?_, fun c _ hc => ?_, hkept.arr.trans harr, hkept.dram.trans hdram⟩
    · rw [hrecs]
      exact vget_vmod_same _ _ _ hch
    · rw [hrecs]
      exact vget_vmod_ne _ _ hc
  case refine_3 =>
    exact effect_monWrite h (.inl rfl) (Mach.writeMon_cal hrun ((bit_or_two_pow v 0 0).trans (by simp)) ((bit_or_two_pow v 1 0).trans (by simp [h1])))
  case refine_4 =>
    obtain ⟨hvalid, hfail, hofs, hgain, hcal, hraise, harr, hdram, hclus⟩ :=
      Mach.calTaken_spec (m := s.start) t.isLt (gain := gain) (Mach.linWord lin 0) (Mach.linWord lin 4) ⟨hlo, hhi⟩ hghi
    exact ⟨_, effect_next (f := fun m => m.monCalDone t ofs gain lin) (Mach.monCalDone_taken hlive hrun ⟨hlo, hhi⟩ ⟨hglo, hghi⟩ hlin), hvalid, hfail,
      hofs, hgain, fun k hk => Mach.monLin_calTaken ofs gain hlin hk, hcal, hraise, harr, hdram, hclus⟩
  case refine_5 =>
    have hch' : bits (v ||| 0x80000000).toNat 5 0 = bits v.toNat 5 0 := bits_or_two_pow v 31 (.inr (by decide))
    have h31 : bit (v ||| 0x80000000).toNat 31 = true := (bit_or_two_pow v 31 31).trans (by simp)
    have h8 : bit (v ||| 0x80000000).toNat 8 = bit v.toNat 8 := (bit_or_two_pow v 8 31).trans (by simp)
    have htaken := Mach.trump_taken h31 (hch'.symm ▸ hch) hpend hrun hval hnone
    rw [hch', h8] at htaken
    exact effect_monWrite h (.inr rfl) (congrArg some htaken)
  case refine_6 =>
    exact effect_monWrite h (.inl rfl)
      (Mach.writeMon_snap hon hnone ((bit_or_two_pow v 0 1).trans (by simp [h0])) ((bit_or_two_pow v 1 1).trans (by simp)))
  case refine_7 => exact effect_next (f := fun m => m.snapPeriod t) ((if_neg hms).trans (Mach.snapRequest_taken hon hnone))
  case refine_8 =>
    exact ⟨_, effect_next (f := fun m => m.snapshotDone t) (Mach.snapshotDone_shown hsnap hlive hdel), Mach.snapShown_spec t.isLt n ws⟩
  case refine_9 =>
    exact ⟨_, effect_next (f := fun m => m.feHalfStart t 0) (Mach.feHalfStart_second t.isLt hmay hrun hdue hneg), Mach.secondHalf_spec t.isLt _⟩
  case refine_10 => exact ⟨_, effect_next (f := fun m => m.feOverrun t) rfl, Mach.feOverrun_spec t.isLt hdue⟩

end Sys2Proof.Machine

/-!
PROOFS. Spilling, the two kitties of a tile, and the self-test of the pool (R308, R311–R315, R327).
-/

namespace Sys2Proof.Machine
namespace Mach

section
variable {m a : Mach} {t q : Nat}

/-! ### Commands of page KITTY -/

theorem blockWrite_kitty (m : Mach) (t : Fin 8) (off : Nat) (v : Word) : m.blockWrite (P.kitty t) off v = m.writeKitty t off v := by
  rw [blockWrite, P.kitty, tileOf_pageKey _ _ (by decide), pageOf_pageKey _ _ (by decide), blockCode_tilePage _ (by omega)]
  rfl

theorem writeKitty_cmd (m : Mach) (t : Nat) (v : Word) : m.writeKitty t 0x060 v = some (m.kittyCmd t v.toNat) := rfl

theorem modKit_modKit (m : Mach) (t : Nat) (f f' : KittySt → KittySt) : (m.modKit t f).modKit t f' = m.modKit t fun k => f' (f k) := by
  rw [modKit, modKit, modTile, modTile, vmod_vmod]
  rfl

section
variable {n : Nat}

theorem kittyCmd_sram (h0 : bit n 0 = true) (h1 : bit n 1 = false) (h2 : bit n 2 = false) (h3 : bit n 3 = false) (hbusy : m.poolBusy t false = false) :
    m.kittyCmd t n = m.reinitSram t := by simp [kittyCmd, h0, h1, h2, h3, hbusy]

theorem kittyCmd_dram (h0 : bit n 0 = false) (h1 : bit n 1 = true) (h2 : bit n 2 = false) (h3 : bit n 3 = false) (hok : m.dramInitOk t = true) :
    m.kittyCmd t n = ((m.reinitDram t).modKit t fun k => { k with dramReady := true }).updateFull t false := by
  simp [kittyCmd, h0, h1, h2, h3, hok]

theorem updateFull_notReady (h : (m.kit t).dramReady = false) (waiting : Bool) :
    m.updateFull t waiting = m.modKit t fun k => { k with nearFull := false, dramFull := false } := by
  unfold updateFull
  dsimp only
  rw [h]
  rfl

theorem kittyCmd_release (ht : t < 8) (h0 : bit n 0 = false) (h1 : bit n 1 = false) (h2 : bit n 2 = true) (h3 : bit n 3 = false)
    (hbusy : m.spillBusy t = false) : m.kittyCmd t n = m.modKit t fun k => { k with dramReady := false, nearFull := false, dramFull := false } := by
  have hoff : ((m.modKit t fun k => { k with dramReady := false }).kit t).dramReady = false := by rw [kit_modKit_same _ _ ht]
  have hcmd : m.kittyCmd t n = (m.modKit t fun k => { k with dramReady := false }).updateFull t false := by simp [kittyCmd, h0, h1, h2, h3, hbusy]
  rw [hcmd, updateFull_notReady hoff, modKit_modKit]

theorem kittyCmd_selftest (h0 : bit n 0 = false) (h1 : bit n 1 = false) (h2 : bit n 2 = false) (h3 : bit n 3 = true) (hbusy : m.poolBusy t true = false)
    (htest : (m.kit t).testing = false) : m.kittyCmd t n = ((m.modKit t fun k => { k with testing := true }).wr (P.kitty t) F.KITTY_STAT_ST_PASS 0).wr
      (P.kitty t) F.KITTY_STAT_ST_FAIL 0 := by simp [kittyCmd, h0, h1, h2, h3, hbusy, htest]

end

/-! ### The pools made new (R311, R312) -/

/-- The queues of a tile forget the cells that the reaper had. -/
def forgotten (m : Mach) (t : Nat) (f : Queue → Queue) : Mach := (List.range 32).foldl (fun m q => m.modQueue t q f) m

theorem forgotten_keeps {β : Type} (v : Mach → β) (hv : ∀ b k g, v (modQueue b t k g) = v b) (m : Mach) (f : Queue → Queue) : v (m.forgotten t f) = v m :=
  foldl_keeps v _ (fun b k _ => hv b k f) m

theorem queue_forgotten (m : Mach) (f : Queue → Queue) (ht : t < 8) (hq : q < 32) {v : Queue → Prop} (hmake : ∀ s, v (f s)) :
    v ((m.forgotten t f).queue t q) := by
  refine foldl_makes (P := fun b => v (b.queue t q)) (List.range 32) (x := q) (List.mem_range.2 hq) (fun b => ?_) (fun b k _ hb => ?_) m
  · rw [queue_modQueue_same _ _ ht hq]
    exact hmake _
  · by_cases h : q = k
    · subst h
      rw [queue_modQueue_same _ _ ht hq]
      exact hmake _
    · rwa [queue_modQueue_ne _ _ _ h]

theorem cells_forgotten (m : Mach) {f : Queue → Queue} (ht : t < 8) (hq : q < 32) (hf : ∀ s, (f s).cells = s.cells) :
    ((m.forgotten t f).queue t q).cells = (m.queue t q).cells := by
  refine foldl_keeps (fun b => (b.queue t q).cells) (List.range 32) (fun b k _ => ?_) m
  by_cases h : q = k
  · subst h
    exact (congrArg Queue.cells (queue_modQueue_same b f ht hq)).trans (hf _)
  · exact congrArg Queue.cells (queue_modQueue_ne b t f h)

/-- A queue whose cells in the pool are forgotten. -/
def forgetSram (s : Queue) : Queue := { s with reapSram := [], reapSramCount := 0, leaked := 0 }

theorem reinitSram_eq (m : Mach) (t : Nat) : m.reinitSram t = (m.modKit t fun k => { k with sram := {} }).forgotten t forgetSram := rfl

theorem reinitSram_keeps {β : Type} (v : Mach → β) (hq : ∀ b k g, v (modQueue b t k g) = v b) (hk : ∀ b f, v (modKit b t f) = v b) (m : Mach) :
    v (m.reinitSram t) = v m := (forgotten_keeps v hq _ forgetSram).trans (hk m _)

theorem reinitSram_spec (m : Mach) (ht : t < 8) : ((m.reinitSram t).kit t).sram = {} ∧
    ∀ q, q < 32 → ((m.reinitSram t).queue t q).leaked = 0 ∧ ((m.reinitSram t).queue t q).cells = (m.queue t q).cells := by
  rw [reinitSram_eq]
  refine ⟨?_, fun q hq => ⟨?_, ?_⟩⟩
  · rw [forgotten_keeps (fun b => b.kit t) (fun b k g => kit_modQueue b t k t g), kit_modKit_same m _ ht]
  · exact queue_forgotten (v := fun s => s.leaked = 0) _ forgetSram ht hq fun _ => rfl
  · rw [cells_forgotten (f := forgetSram) _ ht hq fun _ => rfl, queue_modKit]

theorem kit_reinitDram (m : Mach) (ht : t < 8) : (m.reinitDram t).kit t = { m.kit t with dram := {} } :=
  (forgotten_keeps (fun b => b.kit t) (fun b k g => kit_modQueue b t k t g) _ _).trans (kit_modKit_same m _ ht)

theorem reinitDram_keeps {β : Type} (v : Mach → β) (hq : ∀ b k g, v (modQueue b t k g) = v b) (hk : ∀ b f, v (modKit b t f) = v b) (m : Mach) :
    v (m.reinitDram t) = v m := (forgotten_keeps v hq _ _).trans (hk m _)

/-- What showing how full the DRAM kitty is leaves. -/
theorem updateFull_keeps {β : Type} (v : Mach → β) (hk : ∀ b f, v (modKit b t f) = v b) (hraise : ∀ b k, v (raise b (P.kitty t) k) = v b) (m : Mach)
    (waiting : Bool) : v (m.updateFull t waiting) = v m := by
  have hcond : ∀ (c : Bool) (b : Mach) (k : Nat), v (if c = true then b.raise (P.kitty t) k else b) = v b := fun c b k => by
    cases c
    · rfl
    · exact hraise b k
  unfold updateFull
  exact (hk _ _).trans ((hcond _ _ 1).trans (hcond _ _ 0))

theorem kit_updateFull (m : Mach) (ht : t < 8) (waiting : Bool) : (m.updateFull t waiting).kit t =
    { m.kit t with
      nearFull := (m.kit t).dramReady && decide (m.dramFree t < m.rd (P.kitty t) F.KITTY_DRAM_LOW_CELLS),
      dramFull := (m.kit t).dramReady && decide (m.dramFree t = 0) && (waiting || (m.kit t).dramFull) &&
        (List.range 32).any fun q => m.wantsSpill t q } := by
  have hcond : ∀ (c : Bool) (b : Mach) (k : Nat), (if c = true then b.raise (P.kitty t) k else b).kit t = b.kit t := fun c b k => by
    cases c <;> rfl
  unfold updateFull
  dsimp only
  rw [kit_modKit_same _ _ ht, hcond, hcond]

theorem dramCells_congr (h : a.word (P.kitty t) 0x050 = m.word (P.kitty t) 0x050) : a.dramCells t = m.dramCells t := by
  rw [dramCells, dramCells, rd, rd]
  exact congrArg (fun w : Word => bits w.toNat 28 0) h

/-- The DRAM kitty made ready. -/
def dramInited (m : Mach) (t : Nat) : Mach := ((m.reinitDram t).modKit t fun k => { k with dramReady := true }).updateFull t false

theorem dramInited_keeps {β : Type} (v : Mach → β) (hq : ∀ b k g, v (modQueue b t k g) = v b) (hk : ∀ b f, v (modKit b t f) = v b)
    (hraise : ∀ b k, v (raise b (P.kitty t) k) = v b) (m : Mach) :
    v (m.dramInited t) = v m := (updateFull_keeps v hk hraise _ false).trans ((hk _ _).trans (reinitDram_keeps v hq hk m))

theorem dramInited_spec (m : Mach) (ht : t < 8) : ((m.dramInited t).kit t).dramReady = true ∧ ((m.dramInited t).kit t).dram = {} ∧
    ((m.dramInited t).kit t).sram = (m.kit t).sram ∧ (m.dramInited t).dramFree t = m.dramCells t ∧
    (∀ pk off, off < 4096 → ¬ (pk = P.kitty t ∧ off = 0x010) → (m.dramInited t).word pk off = m.word pk off) ∧
    (m.dramInited t).arr = m.arr ∧ (m.dramInited t).dram = m.dram ∧ (m.dramInited t).clus = m.clus := by
  have hkit : ((m.reinitDram t).modKit t fun k => { k with dramReady := true }).kit t = { m.kit t with dram := {}, dramReady := true } := by
    rw [kit_modKit_same _ _ ht, kit_reinitDram m ht]
  have hnow := kit_updateFull ((m.reinitDram t).modKit t fun k => { k with dramReady := true }) ht false
  have hready : ((m.dramInited t).kit t).dramReady = true := by rw [dramInited, hnow, hkit]
  have hdram : ((m.dramInited t).kit t).dram = {} := by rw [dramInited, hnow, hkit]
  have hword : ∀ pk off, off < 4096 → ¬ (pk = P.kitty t ∧ off = 0x010) → (m.dramInited t).word pk off = m.word pk off := fun pk off ho hoff =>
    dramInited_keeps (fun b => b.word pk off) (fun _ _ _ => rfl) (fun _ _ => rfl) (fun b k => word_raise_off b ho (by by_contra h; exact hoff (by omega))) m
  refine ⟨hready, hdram, by rw [dramInited, hnow, hkit], ?_, hword, ?_⟩
  · rw [dramFree, hready, hdram, if_pos rfl, dramCells_congr (hword _ _ (by decide) (by omega))]
    exact Nat.zero_add _
  · exact ⟨dramInited_keeps Mach.arr (fun _ _ _ => rfl) (fun _ _ => rfl) (fun b k => raise_arr b _ k) m,
      dramInited_keeps Mach.dram (fun _ _ _ => rfl) (fun _ _ => rfl) (fun b k => raise_dram b _ k) m,
      dramInited_keeps Mach.clus (fun _ _ _ => rfl) (fun _ _ => rfl) (fun b k => raise_clus b _ k) m⟩

/-! ### The self-test (R327) -/

theorem resetWord_kitty {t : Nat} (ht : t < 8) : (resetWord (P.kitty t * 4096 + 0x010)).toNat.testBit 4 = false ∧
    bits (resetWord (P.kitty t * 4096 + 0x064)).toNat 7 7 = 0 ∧ resetWord (P.kitty t * 4096 + 0x06C) = 0 := by
  have hall : ∀ u : Fin 8, (resetWord (P.kitty u * 4096 + 0x010)).toNat.testBit 4 = false ∧
    bits (resetWord (P.kitty u * 4096 + 0x064)).toNat 7 7 = 0 ∧ resetWord (P.kitty u * 4096 + 0x06C) = 0 := by decide +kernel
  exact hall ⟨t, ht⟩

/-- `a` shows the outcome of the kitty's self-test as `m` does: its state, its words that are not as reset, its event. -/
structure Tested (t : Nat) (m a : Mach) : Prop where
  testing : (a.kit t).testing = (m.kit t).testing
  sramReady : (a.kit t).sramReady = (m.kit t).sramReady
  dram : a.dram = m.dram
  clus : a.clus = m.clus
  word : ∀ off, off = 0x064 ∨ off = 0x06C → m.word (P.kitty t) off ≠ resetWord (P.kitty t * 4096 + off) →
    a.word (P.kitty t) off = m.word (P.kitty t) off
  event : (m.word (P.kitty t) 0x010).toNat.testBit 4 = true → (a.word (P.kitty t) 0x010).toNat.testBit 4 = true

namespace Tested

theorem trans {b : Mach} (h : Tested t m a) (k : Tested t a b) : Tested t m b where
  testing := k.testing.trans h.testing
  sramReady := k.sramReady.trans h.sramReady
  dram := k.dram.trans h.dram
  clus := k.clus.trans h.clus
  word off ho hne := (k.word off ho (by rwa [h.word off ho hne])).trans (h.word off ho hne)
  event he := k.event (h.event he)

/-- A word beside those that show the test. -/
theorem setWord (m : Mach) {pk off : Nat} (w : Word) (ho : off < 4096) (h : pk ≠ P.kitty t ∨ (off ≠ 0x010 ∧ off ≠ 0x064 ∧ off ≠ 0x06C)) :
    Tested t m (m.setWord pk off w) where
  testing := rfl
  sramReady := rfl
  dram := rfl
  clus := rfl
  word off' ho' _ := m.word_setWord_off w ho (by omega) (by omega)
  event he := by rwa [m.word_setWord_off w ho (by decide) (by omega)]

theorem raise (m : Mach) (b : Nat) : Tested t m (m.raise (P.kitty t) b) where
  testing := rfl
  sramReady := rfl
  dram := rfl
  clus := rfl
  word off ho _ := m.word_raise_off (by omega) (.inr (by omega))
  event he := raise_keeps_testBit m _ he

/-- Uses of the queues of the tile leave the outcome shown. -/
theorem parts (ht : t < 8) : QueueParts (Tested t) (fun q => q < 32) t where
  refl m := ⟨rfl, rfl, rfl, rfl, fun _ _ _ => rfl, fun h => h⟩
  trans := trans
  tile m f _ hk := ⟨tile_modTile_congr (fun ts => ts.kitty.testing) m t t fun ts => (hk ts).1,
    tile_modTile_congr (fun ts => ts.kitty.sramReady) m t t fun ts => (hk ts).2, rfl, rfl, fun _ _ _ => rfl, fun h => h⟩
  log m r := by
    have hkit : (m.logSegment t r).kit t = m.kit t := tile_logSegment TileSt.kitty (fun _ _ _ => rfl) m t r t
    have hlow : P.kitty t < 14 * 256 := by rw [P.kitty, pageKey]; omega
    have hword : ∀ off, off < 4096 → m.word (P.kitty t) off ≠ resetWord (P.kitty t * 4096 + off) →
        (m.logSegment t r).word (P.kitty t) off = m.word (P.kitty t) off := fun off ho =>
      (queueClosed_word (C := fun pk => pk ≠ P.kitty t) (t := t) (not_not.2 rfl) ho hlow).log m r
    refine ⟨by rw [hkit], by rw [hkit], (queueClosed_dram t).log m r, logSegment_clus m t r, fun off ho => hword off (by omega), fun he => ?_⟩
    rwa [hword _ (by decide) fun h => ?_]
    rw [h, (resetWord_kitty ht).1] at he
    exact Bool.false_ne_true he
  small h := h
  queAt hq ho m w := setWord m w (ho hq) (.inl (by simp only [P.que, P.kitty, pageKey]; omega))
  que ho m w := setWord m w ho (.inl (by simp only [P.que, P.kitty, pageKey]; omega))
  dram ho m w := setWord m w ho (.inl (by simp only [P.dram, P.kitty, pageKey]; omega))
  decl ho m w := setWord m w ho (.inl (by simp only [P.decl, P.kitty, pageKey]; omega))
  ptrCount m := setWord m _ (by decide) (.inr (by decide))
  kittyRaise := raise

end Tested

/-- A self-test that found cell `c` wrong, before it is logged. -/
def testFailed (m : Mach) (t c : Nat) : Mach :=
  ((((m.reinitSram t).modKit t fun k => { k with testing := false, sramReady := false }).wr (P.kitty t) F.KITTY_STAT_ST_FAIL 1).setWord
    (P.kitty t) 0x06C (BitVec.ofNat 32 (2 ^ 31 + c))).raise (P.kitty t) 4

theorem selftestDone_failed {c : Nat} (hc : c < 2 ^ 17) (h : (m.kit t).testing = true) :
    m.selftestDone t (some c) = (m.testFailed t c).record t 0x09 t 0 0 (detail 0 4 c) := by
  unfold selftestDone
  dsimp only
  rw [h, Nat.mod_eq_of_lt hc]
  rfl

theorem selftestDone_passed (h : (m.kit t).testing = true) : m.selftestDone t none = ((((m.reinitSram t).modKit t fun k =>
    { k with testing := false, sramReady := true }).wr (P.kitty t) F.KITTY_STAT_ST_PASS 1).setWord (P.kitty t) 0x06C 0).raise (P.kitty t) 4 := by
  unfold selftestDone
  dsimp only
  rw [h]
  rfl

theorem testFailed_shows (ht : t < 8) (c : Nat) : ((m.testFailed t c).kit t).testing = false ∧ ((m.testFailed t c).kit t).sramReady = false ∧
    (m.testFailed t c).rd (P.kitty t) F.KITTY_STAT_ST_FAIL = 1 ∧ (m.testFailed t c).word (P.kitty t) 0x06C = BitVec.ofNat 32 (2 ^ 31 + c) ∧
    ((m.testFailed t c).word (P.kitty t) 0x010).toNat.testBit 4 = true ∧ (m.testFailed t c).dram = m.dram ∧ (m.testFailed t c).clus = m.clus := by
  have hkit : (m.testFailed t c).kit t = { (m.reinitSram t).kit t with testing := false, sramReady := false } := by
    have hset : ∀ (b : Mach) pk off w, (b.setWord pk off w).kit t = b.kit t := fun _ _ _ _ => rfl
    have hwr : ∀ (b : Mach) pk f v, (b.wr pk f v).kit t = b.kit t := fun _ _ _ _ => rfl
    rw [testFailed, raise, hset, hset, hwr, kit_modKit_same _ _ ht]
  have hmod : ∀ (b : Mach) f, (b.modKit t f).dram = b.dram ∧ (b.modKit t f).clus = b.clus := fun _ _ => ⟨rfl, rfl⟩
  refine ⟨by rw [hkit], by rw [hkit], ?_, ?_, raise_testBit _ _ (by decide), ?_, ?_⟩
  · rw [testFailed, rd_raise_off _ (by decide) (.inr (by decide)), rd_setWord_off _ _ (by decide) (by decide) (.inr (by decide)),
      rd_wr_same _ _ _ (by decide) (by decide)]
    rfl
  · rw [testFailed, word_raise_off _ (by decide) (.inr (by decide)), word_setWord_same]
  · rw [testFailed, raise_dram, setWord_dram, wr_dram, (hmod _ _).1, reinitSram_keeps Mach.dram (fun _ _ _ => rfl) fun _ _ => rfl]
  · rw [testFailed, raise_clus, setWord_clus, wr_clus, (hmod _ _).2, reinitSram_keeps Mach.clus (fun _ _ _ => rfl) fun _ _ => rfl]

theorem selftestDone_failed_spec (ht : t < 8) {c : Nat} (hc : c < 2 ^ 15) (h : (m.kit t).testing = true) :
    ((m.selftestDone t (some c)).kit t).testing = false ∧ ((m.selftestDone t (some c)).kit t).sramReady = false ∧
    (m.selftestDone t (some c)).rd (P.kitty t) F.KITTY_STAT_ST_FAIL = 1 ∧
    (m.selftestDone t (some c)).word (P.kitty t) 0x06C = BitVec.ofNat 32 (2 ^ 31 + c) ∧
    ((m.selftestDone t (some c)).word (P.kitty t) 0x010).toNat.testBit 4 = true ∧ (m.selftestDone t (some c)).dram = m.dram ∧
    (m.selftestDone t (some c)).clus = m.clus := by
  obtain ⟨htest, hready, hfail, hcell, hevent, hdram, hclus⟩ := testFailed_shows (m := m) ht c
  obtain ⟨-, hstat, hnone⟩ := resetWord_kitty ht
  have hkept := (Tested.parts ht).record (m.testFailed t c) 0x09 t 0 0 (detail 0 4 c)
  rw [← selftestDone_failed (by omega) h] at hkept
  refine ⟨hkept.testing.trans htest, hkept.sramReady.trans hready, ?_, (hkept.word _ (.inr rfl) fun heq => ?_).trans hcell, hkept.event hevent,
    hkept.dram.trans hdram, hkept.clus.trans hclus⟩
  · refine (congrArg (fun w : Word => bits w.toNat 7 7) (hkept.word 0x064 (.inl rfl) fun heq => ?_)).trans hfail
    have hzero : (m.testFailed t c).rd (P.kitty t) F.KITTY_STAT_ST_FAIL = 0 := (congrArg (fun w : Word => bits w.toNat 7 7) heq).trans hstat
    omega
  · have hzero := congrArg BitVec.toNat (hcell.symm.trans (heq.trans hnone))
    rw [BitVec.toNat_ofNat, Nat.mod_eq_of_lt (by omega)] at hzero
    simp at hzero

/-! ### The spill writer (R313, R314) -/

/-- `a` has `n` more cells in the spill list of queue `q`, and what else a spill leaves as it was. -/
structure Spilled (t q n : Nat) (m a : Mach) : Prop where
  cells : (a.queue t q).cells = (m.queue t q).cells
  opened : (a.queue t q).opened = (m.queue t q).opened
  tricks : (a.queue t q).spillTricks = (m.queue t q).spillTricks
  part : (a.queue t q).spillPart = (m.queue t q).spillPart
  length : (a.queue t q).spill.length = (m.queue t q).spill.length + n
  arr : a.arr = m.arr
  clus : a.clus = m.clus
  hands : a.hands = m.hands

theorem Spilled.trans {n k : Nat} {b : Mach} (h : Spilled t q n m a) (l : Spilled t q k a b) : Spilled t q (n + k) m b where
  cells := l.cells.trans h.cells
  opened := l.opened.trans h.opened
  tricks := l.tricks.trans h.tricks
  part := l.part.trans h.part
  length := by rw [l.length, h.length, Nat.add_assoc]
  arr := l.arr.trans h.arr
  clus := l.clus.trans h.clus
  hands := l.hands.trans h.hands

theorem alloc_some {size : Nat} {p : Pool} (h : 0 < Pool.count size p) :
    ∃ i p', Pool.alloc size p = some (i, p') ∧ Pool.count size p' + 1 = Pool.count size p := by
  unfold Pool.alloc
  rw [Pool.count] at h ⊢
  cases hf : p.free with
  | cons i r => exact ⟨i, _, rfl, by simp only [Pool.count, List.length_cons]; omega⟩
  | nil =>
    rw [hf, List.length_nil] at h
    have hlt : p.fresh0 < size := by omega
    exact ⟨p.fresh0, _, if_pos hlt, by simp only [Pool.count, List.length_nil]; omega⟩

theorem alloc_none {size : Nat} {p : Pool} (h : Pool.count size p = 0) : Pool.alloc size p = none := by
  unfold Pool.alloc
  rw [Pool.count] at h
  cases hf : p.free with
  | cons i r => rw [hf, List.length_cons] at h; omega
  | nil =>
    rw [hf, List.length_nil] at h
    exact if_neg (by omega)

/-- Bytes of the DRAM kitty written. -/
structure Stored (m a : Mach) : Prop where
  regs : a.regs = m.regs
  tiles : a.tiles = m.tiles
  arr : a.arr = m.arr
  clus : a.clus = m.clus
  hands : a.hands = m.hands

theorem Stored.dramWrite (m : Mach) (t f : Nat) (bs : List Byte) : Stored m (m.dramWrite t f bs) := by
  obtain ⟨hregs, harr, htiles, hclus⟩ := dramWrite_frame bs m t f
  exact ⟨hregs, htiles, harr, hclus, dramWrite_hands bs m t f⟩

theorem Stored.trans {b : Mach} (h : Stored m a) (k : Stored a b) : Stored m b :=
  ⟨k.regs.trans h.regs, k.tiles.trans h.tiles, k.arr.trans h.arr, k.clus.trans h.clus, k.hands.trans h.hands⟩

/-- The spill list of a queue with cell `i` at its end. -/
def withSpill (i : Nat) (s : Queue) : Queue :=
  { s with spill := s.spill ++ [i], stail0 := i, stail1 := i, shead0 := if s.spill.isEmpty then i else s.shead0,
           shead1 := if s.spill.isEmpty then i else s.shead1 }

/-- One cell goes to the spill list: its pool has given cell `i`, its bytes stand in DRAM. -/
theorem appendSpill_cons (m : Mach) (t q : Nat) (isl : Bool) (c : Cell) (r : List Cell) {i : Nat} {p : Pool}
    (h : Pool.alloc (m.dramCells t) (m.kit t).dram = some (i, p)) :
    ∃ b, m.appendSpill t q isl (c :: r) = (b.modQueue t q (withSpill i)).appendSpill t q isl r ∧ Stored (m.modKit t fun k => { k with dram := p }) b := by
  have hlink : ∀ (b : Mach) (l : Option Nat) (f : Nat → Cell), Stored b (match l with | some l => b.storeDramTag t (f l) | none => b) := fun b l f => by
    cases l with
    | some l => exact Stored.dramWrite b t _ _
    | none => exact ⟨rfl, rfl, rfl, rfl, rfl⟩
  have hcell : ∀ (b : Mach) c, Stored b (b.storeDramCell t c) := fun b c => (Stored.dramWrite b t _ _).trans (Stored.dramWrite _ t _ _)
  rw [appendSpill, h]
  exact ⟨_, rfl, (hlink _ _ _).trans (hcell _ _)⟩

theorem Stored.queue (h : Stored m a) (t q : Nat) : a.queue t q = m.queue t q := by rw [Mach.queue, Mach.queue, tile, tile, h.tiles]

theorem Stored.kit (h : Stored m a) (t : Nat) : a.kit t = m.kit t := by rw [Mach.kit, Mach.kit, tile, tile, h.tiles]

theorem appendSpill_spilled (ht : t < 8) (hq : q < 32) (isl : Bool) (cs : List Cell) (h : cs.length ≤ Pool.count (m.dramCells t) (m.kit t).dram) :
    Spilled t q cs.length m (m.appendSpill t q isl cs) := by
  induction cs generalizing m with
  | nil => exact ⟨rfl, rfl, rfl, rfl, rfl, rfl, rfl, rfl⟩
  | cons c r ih =>
    rw [List.length_cons] at h
    obtain ⟨i, p, halloc, hcount⟩ := alloc_some (p := (m.kit t).dram) (size := m.dramCells t) (by omega)
    obtain ⟨b, heq, hb⟩ := appendSpill_cons m t q isl c r halloc
    have hqueue : b.queue t q = m.queue t q := (hb.queue t q).trans (queue_modKit m t t q _)
    have hone : Spilled t q 1 m (b.modQueue t q (withSpill i)) := by
      have hnow := queue_modQueue_same b (withSpill i) ht hq
      rw [hqueue] at hnow
      exact ⟨by rw [hnow]; rfl, by rw [hnow]; rfl, by rw [hnow]; rfl, by rw [hnow]; rfl, by rw [hnow, withSpill, List.length_append]; rfl,
        hb.arr, hb.clus, hb.hands⟩
    have hkit : (b.modQueue t q (withSpill i)).kit t = { m.kit t with dram := p } := by rw [kit_modQueue, hb.kit, kit_modKit_same _ _ ht]
    have hcells : (b.modQueue t q (withSpill i)).dramCells t = m.dramCells t :=
      dramCells_congr (a := b.modQueue t q (withSpill i)) (by
        show b.word (P.kitty t) 0x050 = m.word (P.kitty t) 0x050
        rw [word, word, hb.regs]
        rfl)
    rw [heq, List.length_cons, Nat.add_comm]
    refine hone.trans (ih ?_)
    rw [hcells, hkit]
    exact Nat.le_of_add_le_add_right (hcount.symm ▸ h)

theorem appendSpill_full (isl : Bool) (cs : List Cell) (h : Pool.count (m.dramCells t) (m.kit t).dram = 0) : m.appendSpill t q isl cs = m := by
  cases cs with
  | nil => rfl
  | cons c r =>
    unfold appendSpill
    dsimp only
    rw [alloc_none h]

theorem countPart_spilled (ht : t < 8) (hq : q < 32) (m : Mach) (cs : List Cell) : Spilled t q 0 m (m.countPart t q cs) := by
  have hwr : ∀ (b : Mach) pk f v, Spilled t q 0 b (b.wr pk f v) := fun _ _ _ _ => ⟨rfl, rfl, rfl, rfl, rfl, rfl, rfl, rfl⟩
  have hraise : ∀ (b : Mach) pk k, Spilled t q 0 b (b.raise pk k) := fun b pk k =>
    ⟨rfl, rfl, rfl, rfl, rfl, raise_arr b pk k, raise_clus b pk k, raise_hands b pk k⟩
  have hraised : ∀ b : Mach, Spilled t q 0 b (b.modQueue t q fun s => { s with raised := true }) := fun b => by
    have hnow := queue_modQueue_same b (fun s => { s with raised := true }) ht hq
    exact ⟨by rw [hnow], by rw [hnow], by rw [hnow], by rw [hnow], by rw [hnow]; rfl, rfl, rfl, rfl⟩
  have hcount : Spilled t q 0 m (m.countPoison t q cs) := by
    unfold countPoison
    split
    · exact ⟨rfl, rfl, rfl, rfl, rfl, rfl, rfl, rfl⟩
    · exact (hwr m _ _ _).trans (hraise _ _ _)
  unfold countPart
  split
  · exact ⟨rfl, rfl, rfl, rfl, rfl, rfl, rfl, rfl⟩
  · dsimp only
    split
    · exact (hwr m _ _ _).trans (hraised _)
    · exact hcount.trans (hraised _)

theorem dropCells_queue (ht : t < 8) (hq : q < 32) (m : Mach) (k : Nat) : ((m.dropCells t q k).queue t q).cells = (m.queue t q).cells.drop k ∧
    ((m.dropCells t q k).queue t q).spillTricks = (m.queue t q).spillTricks ∧ ((m.dropCells t q k).queue t q).spill = (m.queue t q).spill ∧
    ((m.dropCells t q k).queue t q).opened = (m.queue t q).opened ∧ (m.dropCells t q k).arr = m.arr ∧ (m.dropCells t q k).clus = m.clus ∧
    (m.dropCells t q k).hands = m.hands := by
  unfold dropCells
  dsimp only
  split
  · rw [queue_modQueue_same _ _ ht hq, queue_modKit]
    exact ⟨rfl, rfl, rfl, rfl, rfl, rfl, rfl⟩
  · rw [queue_modQueue_same _ _ ht hq]
    exact ⟨rfl, rfl, rfl, rfl, rfl, rfl, rfl⟩

/-- The head trick of a queue stands in its spill list and has left the queue. -/
theorem spillHead_moves (ht : t < 8) (hq : q < 32) (isl : Bool) {cs : List Cell} (hcheck : m.checkQueue t q true = none)
    (hhead : m.headTrick t q = some cs) (hpart : (m.queue t q).spillPart = 0) (hready : (m.kit t).dramReady = true) (hfree : cs.length ≤ m.dramFree t) :
    ((m.spillHead t q isl).queue t q).cells = (m.queue t q).cells.drop cs.length ∧
      ((m.spillHead t q isl).queue t q).spillTricks = (m.queue t q).spillTricks + 1 ∧
      ((m.spillHead t q isl).queue t q).spill.length = (m.queue t q).spill.length + cs.length ∧
      ((m.spillHead t q isl).queue t q).opened = (m.queue t q).opened ∧ (m.spillHead t q isl).arr = m.arr ∧
      (m.spillHead t q isl).clus = m.clus ∧ (m.spillHead t q isl).hands = m.hands := by
  rw [dramFree, hready, if_pos rfl] at hfree
  have happend := appendSpill_spilled ht hq isl cs hfree
  have hk : ((m.appendSpill t q isl cs).queue t q).spill.length - (m.queue t q).spill.length = cs.length := by rw [happend.length]; omega
  have hmoved := happend.trans (countPart_spilled ht hq (m.appendSpill t q isl cs) cs)
  have heq : m.spillHead t q isl = (((((m.appendSpill t q isl cs).countPart t q cs).modQueue t q fun s =>
      { s with spillTricks := s.spillTricks + 1, spillPart := 0 }).dropCells t q cs.length).updateFull t false) := by
    unfold spillHead
    rw [hcheck, hhead]
    dsimp only
    rw [hpart, List.drop_zero, hk, if_neg (Nat.lt_irrefl _), List.take_length]
  have hnow := queue_modQueue_same ((m.appendSpill t q isl cs).countPart t q cs) (fun s => { s with spillTricks := s.spillTricks + 1, spillPart := 0 })
    ht hq
  have hfull := QueueKept.updateFull (C := fun _ => True) (t := t) (q := q) trivial
    ((((m.appendSpill t q isl cs).countPart t q cs).modQueue t q fun s => { s with spillTricks := s.spillTricks + 1, spillPart := 0 }).dropCells
      t q cs.length) false
  obtain ⟨hcells, htricks, hspill, hopen, harr, hclus, hhands⟩ := dropCells_queue ht hq
    (((m.appendSpill t q isl cs).countPart t q cs).modQueue t q fun s => { s with spillTricks := s.spillTricks + 1, spillPart := 0 }) cs.length
  rw [← heq] at hfull
  rw [hfull.queue, hcells, htricks, hspill, hopen, hnow]
  exact ⟨congrArg (List.drop cs.length) hmoved.cells, congrArg (· + 1) hmoved.tricks, hmoved.length, hmoved.opened,
    hfull.arr.trans (harr.trans hmoved.arr), hfull.clus.trans (hclus.trans hmoved.clus), hfull.hands.trans (hhands.trans hmoved.hands)⟩

/-- A trick that finds no cell of the DRAM kitty free waits, the kitty shown full. -/
theorem spillHead_waits (isl : Bool) (hwants : m.wantsSpill t q = true) (hready : (m.kit t).dramReady = true)
    (hcheck : m.checkQueue t q true = none) (hfree : m.dramFree t = 0)
    (hleft : ∀ cs, m.headTrick t q = some cs → (m.queue t q).spillPart < cs.length) : m.spillHead t q isl = m.updateFull t true := by
  rw [dramFree, hready, if_pos rfl] at hfree
  have hsome : (m.headTrick t q).isSome = true := by
    unfold wantsSpill at hwants
    exact ((Bool.and_eq_true _ _).mp hwants).2
  obtain ⟨cs, hcs⟩ := Option.isSome_iff_exists.1 hsome
  have hlt := hleft cs hcs
  have hnone : m.countPart t q [] = m := rfl
  unfold spillHead
  rw [hcheck, hcs]
  dsimp only
  rw [appendSpill_full isl _ hfree, Nat.sub_self, List.take_zero, hnone, if_pos (by rw [List.length_drop]; omega)]
  exact congrArg (fun b => updateFull b t true) (modQueue_self rfl)

theorem updateFull_full (ht : t < 8) (hq : q < 32) (hwants : m.wantsSpill t q = true) (hready : (m.kit t).dramReady = true)
    (hfree : m.dramFree t = 0) : ((m.updateFull t true).kit t).dramFull = true := by
  rw [kit_updateFull m ht, hready, hfree]
  exact List.any_eq_true.2 ⟨q, List.mem_range.2 hq, hwants⟩

end
end Mach

/-- A write of KITTY.CMD. -/
theorem effect_kittyCmd {s : State} {p : Port} {t : Fin 8} {v : Word} {a : Mach} (h : s.start.writable p t 0x1D 0x060 = true)
    (hw : s.start.kittyCmd t v.toNat = a) (hd : (a.tile t).dormant = (s.start.tile t).dormant) :
    s.effect (fun m => m.portWrite p (regAddr t 0x1D 0x060) v) = .next (s.settled a) :=
  effect_tileWrite h (by omega) (by decide) (by decide) (by decide) (by decide) (by decide) (by omega)
    ((s.start.blockWrite_kitty t 0x060 v).trans ((Mach.writeKitty_cmd _ _ _).trans (congrArg some hw))) hd

/-- The bits of a command of one action: that bit set, the others as `v` says. -/
theorem bit_command (v : Word) (k : Fin 32) : bit (v ||| BitVec.ofNat 32 (2 ^ k.val)).toNat k = true ∧
    ∀ i, i ≠ k.val → bit v.toNat i = false → bit (v ||| BitVec.ofNat 32 (2 ^ k.val)).toNat i = false :=
  ⟨by rw [bit_or_two_pow, decide_eq_true rfl, Bool.or_true], fun i hi h => by rw [bit_or_two_pow, h, decide_eq_false hi, Bool.or_false]⟩

/-- Settles O45. -/
theorem spillAndKittyCommands : Obligations.SpillAndKittyCommands := by
  unfold Obligations.SpillAndKittyCommands
  have hkit : ∀ (t : Nat) (m : Mach) f, ((m.modKit t f).tile t).dormant = (m.tile t).dormant := fun t m _ =>
    Mach.tile_modTile_congr TileSt.dormant m t t fun _ => rfl
  have hqueue : ∀ (t : Nat) (m : Mach) k f, ((m.modQueue t k f).tile t).dormant = (m.tile t).dormant := fun t m _ _ =>
    Mach.tile_modTile_congr TileSt.dormant m t t fun _ => rfl
  have hraise : ∀ (t : Nat) (m : Mach) k, ((m.raise (P.kitty t) k).tile t).dormant = (m.tile t).dormant := fun _ _ _ => rfl
  refine ⟨fun s t q cs hok hcons hready hspill hcheck hhead hpart hfree => ?_, fun s p t v h hv hbusy => ?_, fun s p t v h h0 hv hok => ?_,
    fun s p t v h hv h3 hbusy => ?_, fun s p t v h hv hbusy htest => ?_, fun s t htest => ?_, fun s t c htest => ?_,
    fun s t q hwants hready hcheck hfree hleft => ?_⟩
  case refine_1 =>
    have hwants : s.start.wantsSpill t q = true := by simp [Mach.wantsSpill, hok, hcons, hspill, hhead]
    have heq : s.start.spillWrite t q = s.start.spillHead t q true := by rw [Mach.spillWrite, hwants, hready, hspill]; rfl
    exact ⟨_, effect_next (f := fun m => m.spillWrite t q) heq, Mach.spillHead_moves t.isLt q.isLt true hcheck hhead hpart hready hfree⟩
  case refine_2 =>
    obtain ⟨hset, hrest⟩ := bit_command v 0
    have hoff := fun i (h1 : 1 ≤ i) (h3 : i ≤ 3) => hrest i (by omega) (bit_of_bits_eq_zero hv h1 h3)
    exact ⟨effect_kittyCmd h (Mach.kittyCmd_sram hset (hoff 1 (by decide) (by decide)) (hoff 2 (by decide) (by decide)) (hoff 3 (by decide) (by decide)) hbusy)
      (Mach.reinitSram_keeps (fun b => (b.tile t).dormant) (hqueue t) (hkit t) _), Mach.reinitSram_spec _ t.isLt⟩
  case refine_3 =>
    obtain ⟨hset, hrest⟩ := bit_command v 1
    have hoff := fun i (h1 : 2 ≤ i) (h3 : i ≤ 3) => hrest i (by simp; omega) (bit_of_bits_eq_zero hv h1 h3)
    refine ⟨_, effect_kittyCmd h (Mach.kittyCmd_dram (hrest 0 (by decide) h0) hset (hoff 2 (by decide) (by decide)) (hoff 3 (by decide) (by decide)) hok)
      (Mach.dramInited_keeps (fun b => (b.tile t).dormant) (hqueue t) (hkit t) (hraise t) _), Mach.dramInited_spec _ t.isLt⟩
  case refine_4 =>
    obtain ⟨hset, hrest⟩ := bit_command v 2
    have hoff := fun i (h3 : i ≤ 1) => hrest i (by simp; omega) (bit_of_bits_eq_zero hv (Nat.zero_le i) h3)
    exact effect_kittyCmd h (Mach.kittyCmd_release t.isLt (hoff 0 (by decide)) (hoff 1 (by decide)) hset (hrest 3 (by decide) h3) hbusy)
      (hkit t _ _)
  case refine_5 =>
    obtain ⟨hset, hrest⟩ := bit_command v 3
    have hoff := fun i (h3 : i ≤ 2) => hrest i (by simp; omega) (bit_of_bits_eq_zero hv (Nat.zero_le i) h3)
    exact effect_kittyCmd h (Mach.kittyCmd_selftest (hoff 0 (by decide)) (hoff 1 (by decide)) (hoff 2 (by decide)) hset hbusy htest)
      (hkit t s.start fun k => { k with testing := true })
  case refine_6 => exact effect_next (f := fun m => m.selftestDone t none) (Mach.selftestDone_passed htest)
  case refine_7 =>
    exact ⟨_, effect_next (f := fun m => m.selftestDone t (some c.val)) rfl, Mach.selftestDone_failed_spec t.isLt c.isLt htest⟩
  case refine_8 =>
    have heq : s.start.spillWrite t q = s.start.updateFull t true := by
      rw [Mach.spillWrite, hwants, hready]
      exact Mach.spillHead_waits _ hwants hready hcheck hfree hleft
    have hkept := Mach.QueueKept.updateFull (C := fun _ => True) (t := t) (q := q) trivial s.start true
    exact ⟨_, effect_next (f := fun m => m.spillWrite t q) heq, hkept.queue, Mach.updateFull_full t.isLt q.isLt hwants hready hfree, hkept.arr,
      hkept.dram, hkept.clus⟩

end Sys2Proof.Machine

/-!
PROOFS. A part in which no tile answers: every access to a global page waits, and settling shows ISLAND and roles alone.
-/

namespace Sys2Proof.Machine

namespace Mach

/-! ### Which tiles answer -/

/-- Of each tile, whether its pages answer. -/
def ups (m : Mach) : Vector Bool 8 := m.tiles.map fun ts => decide (ts.life = .up)

/-- No tile answers. -/
abbrev Silent (m : Mach) : Prop := m.ups = Vector.replicate 8 false

theorem ups_of_tiles {m m' : Mach} (h : m'.tiles = m.tiles) : m'.ups = m.ups :=
  congrArg (Vector.map fun ts : TileSt => decide (ts.life = .up)) h

theorem ups_apartFromSettling (m : Mach) : m.apartFromSettling.ups = m.ups := by
  simp only [ups, apartFromSettling, Vector.map_map]
  rfl

theorem ups_of_apartFromSettling {m m' : Mach} (h : m'.apartFromSettling = m.apartFromSettling) : m'.ups = m.ups := by
  rw [← ups_apartFromSettling, h, ups_apartFromSettling]

theorem Silent.answers {m : Mach} (h : Silent m) (d : Nat) : m.answers d = false := by
  by_cases hd : d < 8
  · have hlife : decide ((m.tile d).life = .up) = false := by
      simpa [ups, tile, vget, hd] using congrArg (fun v => v[d]) h
    simp [Mach.answers, hlife]
  · have hout : m.tile d = default := by simp [tile, vget, hd]
    rw [Mach.answers, hout, show (default : TileSt).life = .por from rfl]
    simp

/-! ### Settling where no tile answers -/

/-- Where no tile answers every access to a global page waits. -/
theorem Silent.globalsHeld {m : Mach} (h : Silent m) (e : Nat) : m.globalsHeld e = true := by
  unfold Mach.globalsHeld
  cases m.serving e with
  | none => rfl
  | some d => simp [h.answers d]

theorem Silent.replayHeld {m : Mach} (h : Silent m) : m.replayHeld = m := by
  simp [Mach.replayHeld, h.globalsHeld]

theorem Silent.followSpill {m : Mach} (h : Silent m) (t : Nat) (spill : Bool) : Silent (m.followSpill t spill) :=
  (ups_of_apartFromSettling (m.followSpill_apartFromSettling t spill)).trans h

/-- No segment sees ISLAND change. -/
theorem Silent.followIsland_eq {m : Mach} (h : Silent m) (t : Nat) : ∃ spill, m.followIsland t = m.followSpill t spill := by
  refine ⟨m.inIsland t && (m.kit t).dramReady, ?_⟩
  unfold followIsland
  rw [h.answers t]
  cases m.serving t <;> simp [Mach.followSpill]

theorem Silent.foldl_followIsland {m : Mach} (h : Silent m) (l : List Nat) :
    Silent (l.foldl followIsland m) ∧ SameBut ShowsIsland m (l.foldl followIsland m) := by
  induction l generalizing m with
  | nil => exact ⟨h, .refl m⟩
  | cons t l ih =>
    obtain ⟨spill, hfollow⟩ := h.followIsland_eq t
    have hrest := ih (h.followSpill t spill)
    rw [List.foldl_cons, hfollow]
    exact ⟨hrest.1, (sameBut_followSpill m t spill).trans hrest.2⟩

theorem Silent.islandDeclarers {m : Mach} (h : Silent m) : m.islandDeclarers = [] := by
  simp [Mach.islandDeclarers, h.answers]

theorem Silent.showIslMember {m : Mach} (h : Silent m) (d : Nat) (flags : List (Nat × Bool × Bool)) (isl : List Bool) :
    Silent ((m.showIsland d flags).showIslMember isl) :=
  (ups_of_apartFromSettling ((showIslMember_apartFromSettling _ isl).trans (m.showIsland_apartFromSettling d flags))).trans h

theorem Silent.settleIsland {m : Mach} (h : Silent m) : SameBut ShowsIsland m m.settleIsland := by
  obtain ⟨hsilent, hsame⟩ := h.foldl_followIsland (List.range 8)
  unfold Mach.settleIsland
  dsimp only
  generalize (List.range 8).foldl followIsland m = m1 at *
  split
  · rw [(hsilent.showIslMember _ _ _).islandDeclarers, List.foldl_nil]
    exact hsame.trans ((sameBut_showIsland m1 _ _).trans (sameBut_showIslMember _ _))
  · rw [hsilent.islandDeclarers, List.foldl_nil]
    exact hsame

theorem Silent.settle {m : Mach} (h : Silent m) : SameBut ShowsIslandOrRole m m.settle := by
  have hsettle := sameBut_settle_of_island (m := m)
  rw [h.replayHeld] at hsettle
  exact hsettle h.settleIsland

end Mach

theorem settle_eq_of_settled {s : State} {a b : Mach} {o : Host.Outcome State Fault Refusal} (ha : o = .next (s.settled a))
    (hb : o = .next (s.settled b)) : a.settle = b.settle := by
  have hm := congrArg State.m (Host.Outcome.next.inj (ha.symm.trans hb))
  simpa only [State.settled] using hm

end Sys2Proof.Machine

/-!
PROOFS. The planner's tick: it restarts the segment of every axis whose domain works, one that may not move included.
-/

namespace Sys2Proof.Machine

theorem Mach.axS_of_clus {m m' : Mach} (h : m'.clus = m.clus) (g : Nat) : m'.axS g = m.axS g := congrArg (fun u => (vget u g).axis) h

/-! ### A standing axis that may not move -/

/-- Tiles 0 and 1 released and not yet answering, their motion domains on: axis 0 has a GO waiting, axis 2 is not enabled, and its STOP waits. -/
def planning : Mach :=
  let tile : TileSt := { life := .starting, selfOk := true }
  let m : Mach := { tiles := Vector.replicate 8 tile }
  let on := (m.setWord (P.pwr 0) 0x044 0x0FFFF).setWord (P.pwr 1) 0x044 0x0FFFF
  let axis := ((((((on.wr (P.axis 0) F.PAGE_CTRL_ENABLE 1).wr (P.axis 0) F.AXIS_CTRL_DRV_EN 1).wr (P.axis 0) F.AXIS_VMAX_V 1000).wr (P.axis 0) F.AXIS_ACC_A
    500).wr (P.axis 0) F.AXIS_DEC_A 600).wr (P.axis 0) F.AXIS_MODE_VEL 1).wr (P.axis 0) F.AXIS_VTARGET_LO_VTARGET 65536000
  (axis.modAxS 0 fun s => { s with pendGo := true }).modAxS 2 fun s => { s with pendStop := true }

/-- No command waits, and the part stands as in `planning`. -/
def planningState : State := { pending := [], m := planning }

/-- The part of `planning` at its first tick. -/
def planned : Mach := planningState.start.advance 0 2000

/-- What the tick makes of it. -/
def ticked : Mach := (List.range 16).foldl (fun m g => m.lampTick g (([] : List (List Nat)).getD g [])) planningState.start.plannerTick

theorem silent_planned : planned.Silent := by decide +kernel

theorem tiles_ticked : ticked.tiles = planned.tiles := by decide +kernel

/-- Refutes O48: an axis that may not move and stands, its motion domain on, drops a waiting STOP at the tick, so that its cluster does
not stay as the third clause says. -/
theorem not_plannerAndPace : ¬ Obligations.PlannerAndPace := by
  intro h
  obtain ⟨-, -, hplans, -, -⟩ := h
  obtain ⟨a, hexec, -, -, -, -, -, -, -, -, htiles, -, -, -, hclu⟩ := hplans planningState [] 0 0 planned _
    (by decide +kernel) (by decide +kernel) (by decide +kernel) (by decide +kernel) (by decide +kernel) (by decide +kernel) (by decide +kernel)
    (by decide +kernel) (by decide +kernel) (by decide +kernel) (by decide +kernel) (by decide +kernel) (by decide +kernel) (by decide +kernel)
    (by decide +kernel) (by decide +kernel) rfl (by decide +kernel)
  have htick : exec (.plannerTick []) planningState = .next (planningState.settled ticked) :=
    effect_next (f := fun m => (List.range 16).foldl (fun m g => m.lampTick g (([] : List (List Nat)).getD g [])) m.plannerTick) rfl
  have hsettle : ticked.settle = a.settle := settle_eq_of_settled htick hexec
  have hclus : ticked.clus = a.clus := by
    have ht : ticked.Silent := (Mach.ups_of_tiles tiles_ticked).trans silent_planned
    have ha : a.Silent := (Mach.ups_of_tiles htiles).trans silent_planned
    rw [← ht.settle.clus, hsettle, ha.settle.clus]
  have hkept : a.axS 2 = planned.axS 2 := congrArg Cluster.axis (hclu 2 (by decide) (by decide))
  have hstop : (ticked.axS 2).pendStop = (planned.axS 2).pendStop := by
    rw [← hkept, Mach.axS_of_clus hclus]
  exact absurd hstop (by decide +kernel)

end Sys2Proof.Machine

/-!
PROOFS. Which tiles answer, kept by the queues, the axes, the two-wire controller and the headers of the pages.
-/

namespace Sys2Proof.Machine

namespace Mach

/-! ### Changes of a tile, folds, and writes that may be left to the general rule -/

@[simp] theorem ups_modTile (m : Mach) (t : Nat) {f : TileSt → TileSt} (hf : ∀ ts, (f ts).life = ts.life) : (m.modTile t f).ups = m.ups := by
  exact map_vmod_forgotten m.tiles t f (fun ts => decide (ts.life = .up)) fun ts => by rw [hf ts]

/-- A tile that does not answer, and does not after the change. -/
theorem ups_modTile_of_down {m : Mach} {t : Nat} {f : TileSt → TileSt} (h : (m.tile t).life ≠ .up) (hf : (f (m.tile t)).life ≠ .up) :
    (m.modTile t f).ups = m.ups := by
  simp only [tile, vget] at h hf
  simp only [ups, modTile, vmod]
  split
  next ht =>
    simp only [Vector.getElem?_eq_getElem ht, Option.getD_some] at h hf
    ext i hi
    by_cases hit : t = i
    · subst hit
      simp [h, hf]
    · simp [hit]
  · rfl

@[simp] theorem ups_foldl {α : Type} {f : Mach → α → Mach} (l : List α) (m : Mach) (hf : ∀ a x, (f a x).ups = a.ups) : (l.foldl f m).ups = m.ups :=
  foldl_keeps ups l (fun a x _ => hf a x) m

theorem ups_foldl_fst {α β : Type} {f : Mach × β → α → Mach × β} (hf : ∀ r x, (f r x).1.ups = r.1.ups) (l : List α) (r : Mach × β) :
    (l.foldl f r).1.ups = r.1.ups := by
  induction l generalizing r with
  | nil => rfl
  | cons x l ih => exact (ih _).trans (hf r x)

/-- A write that may be left to the general rule, where it is made, keeps which tiles answer. -/
def KeepsUps (m : Mach) (o : Option Mach) : Prop := ∀ a, o = some a → a.ups = m.ups

@[simp] theorem keepsUps_none (m : Mach) : KeepsUps m none := fun _ h => nomatch h

@[simp] theorem keepsUps_some (m a : Mach) : KeepsUps m (some a) ↔ a.ups = m.ups :=
  ⟨fun h => h a rfl, fun h _ hb => Option.some.inj hb ▸ h⟩

@[simp] theorem keepsUps_ite (m : Mach) (c : Prop) [Decidable c] (x y : Option Mach) :
    KeepsUps m (if c then x else y) ↔ if c then KeepsUps m x else KeepsUps m y := iff_of_eq (apply_ite (KeepsUps m) c x y)

theorem KeepsUps.map {m : Mach} {o : Option Mach} {f : Mach → Mach} (h : KeepsUps m o) (hf : ∀ a, (f a).ups = a.ups) : KeepsUps m (o.map f) := by
  cases o with
  | none => exact keepsUps_none m
  | some a => exact (keepsUps_some ..).2 ((hf a).trans (h a rfl))

theorem KeepsUps.getD {m a : Mach} {o : Option Mach} (h : KeepsUps m o) (ha : a.ups = m.ups) : (o.getD a).ups = m.ups := by
  cases o with
  | none => exact ha
  | some b => exact h b rfl

/-! ### Views, words, events and counters -/

@[simp] theorem ups_swapView (m : Mach) (d : Nat) : (m.swapView d).ups = m.ups := ups_modTile m d fun _ => rfl

@[simp] theorem ups_inView (m : Mach) (d : Nat) {f : Mach → Mach} (hf : ∀ a, (f a).ups = a.ups) : (m.inView d f).ups = m.ups := by
  have hswap : ∀ a : Mach, (a.swapView d).ups = a.ups := fun a => ups_modTile a d fun _ => rfl
  unfold inView
  exact (hswap _).trans ((hf _).trans (hswap m))

@[simp] theorem ups_inSeg (m : Mach) (t : Nat) {f : Mach → Mach} (hf : ∀ a, (f a).ups = a.ups) : (m.inSeg t f).ups = m.ups := by
  unfold inSeg
  split
  · exact ups_inView m _ hf
  · exact hf m

@[simp] theorem ups_setWord (m : Mach) (pk off : Nat) (w : Word) : (m.setWord pk off w).ups = m.ups := rfl

@[simp] theorem ups_wr (m : Mach) (pk : Nat) (f : Field) (v : Nat) : (m.wr pk f v).ups = m.ups := by simp [wr]

@[simp] theorem ups_raise (m : Mach) (pk b : Nat) : (m.raise pk b).ups = m.ups := by simp [raise]

/-! ### Wakes and small steps of the blocks -/

@[simp] theorem ups_seqKick (m : Mach) (t : Nat) : (m.seqKick t).ups = m.ups := by
  unfold seqKick
  split
  · rfl
  · split
    · simp
    · split <;> simp

@[simp] theorem ups_unprepare (m : Mach) (t : Nat) : (m.unprepare t).ups = m.ups := by simp [unprepare, apply_ite ups]

@[simp] theorem ups_wakeUp (m : Mach) (t causes : Nat) : (m.wakeUp t causes).ups = m.ups := by simp [wakeUp, apply_ite ups]

@[simp] theorem ups_accessWake (m : Mach) (tf pg : Nat) : (m.accessWake tf pg).ups = m.ups := by simp [accessWake, apply_ite ups]

@[simp] theorem ups_incBy (m : Mach) (pk : Nat) (f : Field) (k : Nat) : (m.incBy pk f k).ups = m.ups := by simp [incBy]

@[simp] theorem ups_inc (m : Mach) (pk : Nat) (f : Field) : (m.inc pk f).ups = m.ups := by simp [inc]

@[simp] theorem ups_guardCount (m : Mach) (p : Nat) : (m.guardCount p).ups = m.ups := by simp [guardCount]

@[simp] theorem ups_errCount (m : Mach) (pk : Nat) : (m.errCount pk).ups = m.ups := by simp [errCount]

@[simp] theorem ups_wrb (m : Mach) (pk : Nat) (f : Field) (b : Bool) : (m.wrb pk f b).ups = m.ups := by simp [wrb]

@[simp] theorem ups_shdEnable (m : Mach) (g : Nat) (was en : Bool) : (m.shdEnable g was en).ups = m.ups := by simp [shdEnable, apply_ite ups]

@[simp] theorem ups_modClu (m : Mach) (g : Nat) (f : Cluster → Cluster) : (m.modClu g f).ups = m.ups := rfl

@[simp] theorem ups_outputOff (m : Mach) (t : Nat) : (m.outputOff t).ups = m.ups := by
  refine ups_foldl _ m fun a g => ?_
  dsimp only
  split <;> rfl

@[simp] theorem ups_refuse (m : Mach) (pk b : Nat) : (m.refuse pk b).ups = m.ups := by simp [refuse]

@[simp] theorem ups_modDma (m : Mach) (t c : Nat) (f : DmaCh → DmaCh) : (m.modDma t c f).ups = m.ups := by simp [modDma]

@[simp] theorem ups_updateOfs (m : Mach) (t c : Nat) : (m.updateOfs t c).ups = m.ups := by simp [updateOfs]

@[simp] theorem ups_setDmaState (m : Mach) (t c s : Nat) : (m.setDmaState t c s).ups = m.ups := ups_wr ..

@[simp] theorem ups_incW (m : Mach) (pk : Nat) (f : Field) : (m.incW pk f).ups = m.ups := by simp [incW]

/-! ### Logs and queues -/

@[simp] theorem ups_logPackage (m : Mach) (r : FaultRec) : (m.logPackage r).ups = m.ups := by
  unfold logPackage
  dsimp only
  split <;> rfl

@[simp] theorem ups_logSegment (m : Mach) (t : Nat) (r : FaultRec) : (m.logSegment t r).ups = m.ups := by
  unfold logSegment
  split <;> simp

/-- What a tile's queues do keeps which tiles answer. -/
theorem queueParts_ups (t : Nat) : QueueParts (fun m a => a.ups = m.ups) (fun _ => True) t where
  refl _ := rfl
  trans h k := k.trans h
  tile m _ hs _ := ups_modTile m t fun ts => (congrArg TileSt.life (hs ts) :)
  log m r := ups_logSegment m t r
  small _ := trivial
  queAt _ _ _ _ := rfl
  que _ _ _ := rfl
  dram _ _ _ := rfl
  decl _ _ _ := rfl
  ptrCount _ := rfl
  kittyRaise _ _ := rfl

@[simp] theorem ups_modQueue (m : Mach) (t q : Nat) (f : Queue → Queue) : (m.modQueue t q f).ups = m.ups := by simp [modQueue]

@[simp] theorem ups_modKit (m : Mach) (t : Nat) (f : KittySt → KittySt) : (m.modKit t f).ups = m.ups := by simp [modKit]

@[simp] theorem ups_pushCell (m : Mach) (t q : Nat) (hdr filled : Bool) (dc : Nat) (ws : List Word) : (m.pushCell t q hdr filled dc ws).ups = m.ups :=
  (queueParts_ups t).pushCell m q hdr filled dc ws

@[simp] theorem ups_closeRaw (m : Mach) (t q : Nat) : (m.closeRaw t q).ups = m.ups := (queueParts_ups t).closeRaw m q

@[simp] theorem ups_openRaw (m : Mach) (t q r prod : Nat) (tr : Trick) : (m.openRaw t q r prod tr).ups = m.ups :=
  (queueParts_ups t).openRaw m q r prod tr

@[simp] theorem ups_emitRaw (m : Mach) (t prod cap pk : Nat) (lost : Field) (ev : Option Nat) (tr : Trick) :
    (m.emitRaw t prod cap pk lost ev tr).ups = m.ups :=
  (queueParts_ups t).emitRaw m prod cap (fun _ => rfl) ev (fun _ _ _ => rfl) tr

@[simp] theorem ups_recordRaw (m : Mach) (t code unit subA subB detail : Nat) : (m.recordRaw t code unit subA subB detail).ups = m.ups :=
  (queueParts_ups t).recordRaw m code unit subA subB detail

@[simp] theorem ups_noteReset (m : Mach) (t q cause : Nat) (s : Queue) : (m.noteReset t q cause s).ups = m.ups := by
  simp [noteReset]

@[simp] theorem ups_updateFull (m : Mach) (t : Nat) (waiting : Bool) : (m.updateFull t waiting).ups = m.ups :=
  (queueParts_ups t).updateFull m waiting

@[simp] theorem ups_abandon (m : Mach) (t q : Nat) : (m.abandon t q).ups = m.ups := (queueParts_ups t).abandon m trivial

@[simp] theorem ups_emptyQueue (m : Mach) (t q : Nat) : (m.emptyQueue t q).ups = m.ups := (queueParts_ups t).emptyQueue m trivial

@[simp] theorem ups_queueReset (m : Mach) (t q cause : Nat) : (m.queueReset t q cause).ups = m.ups :=
  (queueParts_ups t).queueReset m trivial cause

@[simp] theorem ups_ptrErr (m : Mach) (t : Nat) : (m.ptrErr t).ups = m.ups := rfl

@[simp] theorem ups_reinitDram (m : Mach) (t : Nat) : (m.reinitDram t).ups = m.ups := (queueParts_ups t).reinitDram m

@[simp] theorem ups_reinitSram (m : Mach) (t : Nat) : (m.reinitSram t).ups = m.ups := (queueParts_ups t).reinitSram m

@[simp] theorem ups_poolReset (m : Mach) (t : Nat) (dram : Bool) : (m.poolReset t dram).ups = m.ups := (queueParts_ups t).poolReset m dram

@[simp] theorem ups_wr2 (m : Mach) (pk : Nat) (lo hi : Field) (v : Nat) : (m.wr2 pk lo hi v).ups = m.ups := by simp [wr2]

@[simp] theorem ups_dramCheck (m : Mach) (t f len : Nat) : (m.dramCheck t f len).1.ups = m.ups := (queueParts_ups t).dramCheck m f len

@[simp] theorem ups_checkTag (m : Mach) (t i : Nat) : (m.checkTag t i).ups = m.ups := ups_dramCheck ..

@[simp] theorem ups_checkStop (m : Mach) (t k i : Nat) : (m.checkStop t k i).ups = m.ups := (queueParts_ups t).checkStop m k i

@[simp] theorem keepsUps_checkQueue (m : Mach) (t q : Nat) (dram : Bool) : KeepsUps m (m.checkQueue t q dram) :=
  fun _ h => (queueParts_ups t).checkQueue trivial dram h

@[simp] theorem ups_useQueue (m : Mach) (t q : Nat) : (m.useQueue t q).ups = m.ups := (queueParts_ups t).useQueue m trivial

@[simp] theorem ups_closeTrick (m : Mach) (t q : Nat) : (m.closeTrick t q).ups = m.ups := by simp [closeTrick]

@[simp] theorem ups_openTrick (m : Mach) (t q r prod : Nat) (tr : Trick) : (m.openTrick t q r prod tr).ups = m.ups := by simp [openTrick]

@[simp] theorem ups_putTrick (m : Mach) (t q r prod : Nat) (tr : Trick) : (m.putTrick t q r prod tr).ups = m.ups := by simp [putTrick]

@[simp] theorem ups_flushRecs (t c k : Nat) (m : Mach) : (flushRecs t c k m).ups = m.ups := by
  induction k generalizing m with
  | zero => rfl
  | succ k ih =>
    unfold flushRecs
    split
    · exact ups_wr ..
    · split <;> simp [ih, apply_ite ups]

/-! ### DMA channels that halt -/

@[simp] theorem ups_dmaRecord (m : Mach) (t c code cause moved : Nat) : (m.dmaRecord t c code cause moved).ups = m.ups := by simp [dmaRecord]

@[simp] theorem ups_dmaHalt (m : Mach) (t c cause : Nat) : (m.dmaHalt t c cause).ups = m.ups := by
  unfold dmaHalt
  dsimp only
  rw [ups_dmaRecord, apply_ite ups]
  simp

@[simp] theorem ups_dmaDramDown (m : Mach) (t : Nat) : (m.dmaDramDown t).ups = m.ups := by simp [dmaDramDown, apply_ite ups]

@[simp] theorem ups_dramStop (m : Mach) (t : Nat) : (m.dramStop t).ups = m.ups := by simp [dramStop, apply_ite ups]

/-! ### Axes -/

@[simp] theorem ups_modAxS (m : Mach) (g : Nat) (f : AxisSt → AxisSt) : (m.modAxS g f).ups = m.ups := rfl

@[simp] theorem ups_stand (m : Mach) (g n : Nat) : (m.stand g n).ups = m.ups := rfl

@[simp] theorem ups_emitEvent (m : Mach) (t prod cap pk : Nat) (lost : Field) (ev : Option Nat) (tr : Trick) :
    (m.emitEvent t prod cap pk lost ev tr).ups = m.ups := by
  unfold emitEvent
  split <;> simp

/-- What an axis does keeps which tiles answer. -/
theorem axisClosed_ups (g : Nat) : AxisClosed (fun m a => a.ups = m.ups) (fun _ => True) g where
  refl _ := rfl
  trans h k := k.trans h
  setWord _ _ _ _ := rfl
  modTile m _ hs := ups_modTile m (g / 2) fun ts => (congrArg TileSt.life (hs ts) :)
  log m r := ups_logSegment m (g / 2) r
  pages := ⟨trivial, trivial, trivial, trivial⟩
  page := trivial
  modClu _ _ := rfl
  emitOut _ _ := rfl

@[simp] theorem ups_motionEvent (m : Mach) (g b code time : Nat) : (m.motionEvent g b code time).ups = m.ups :=
  (axisClosed_ups g).motionEvent m b code time

@[simp] theorem ups_edecEnd (m : Mach) (g n : Nat) : (m.edecEnd g n).ups = m.ups := (axisClosed_ups g).edecEnd m n

@[simp] theorem ups_axisHalt (m : Mach) (g n : Nat) : (m.axisHalt g n).ups = m.ups := (axisClosed_ups g).axisHalt m n

@[simp] theorem ups_modAxA (m : Mach) (g : Nat) (f : AxisAon → AxisAon) : (m.modAxA g f).ups = m.ups := rfl

@[simp] theorem ups_emitOut (m : Mach) (o : Out) : (m.emitOut o).ups = m.ups := rfl

@[simp] theorem ups_axisRun (m : Mach) (g n : Nat) : (m.axisRun g n).ups = m.ups := (axisClosed_ups g).axisRun m n

@[simp] theorem ups_axisEdec (m : Mach) (g cause : Nat) : (m.axisEdec g cause).ups = m.ups := by simp [axisEdec, apply_ite ups]

@[simp] theorem ups_axisDisable (m : Mach) (g : Nat) : (m.axisDisable g).ups = m.ups := by simp [axisDisable, apply_ite ups]

/-! ### Lamps, monitor, front end, measurement outputs, two-wire controller -/

@[simp] theorem ups_modLamp (m : Mach) (g : Nat) (f : LampSt → LampSt) : (m.modLamp g f).ups = m.ups := by simp [modLamp]

@[simp] theorem ups_countCut (m : Mach) (g k : Nat) : (m.countCut g k).ups = m.ups := by simp [countCut, apply_ite ups]

@[simp] theorem ups_holdCurrents (m : Mach) (g n2 : Nat) : (m.holdCurrents g n2).ups = m.ups := by simp [holdCurrents]

@[simp] theorem ups_cutStrobes (m : Mach) (g : Nat) : (m.cutStrobes g).ups = m.ups := by simp [cutStrobes]

@[simp] theorem ups_boostUpdate (m : Mach) (g : Nat) : (m.boostUpdate g).ups = m.ups := by simp [boostUpdate, apply_ite ups]

@[simp] theorem ups_record (m : Mach) (t code unit subA subB detail : Nat) : (m.record t code unit subA subB detail).ups = m.ups :=
  (queueParts_ups t).record m code unit subA subB detail

@[simp] theorem ups_lampEvent (m : Mach) (g code cause : Nat) : (m.lampEvent g code cause).ups = m.ups := by simp [lampEvent]

@[simp] theorem ups_lampJudge (m : Mach) (g : Nat) : (m.lampJudge g).ups = m.ups := by simp [lampJudge, apply_ite ups]

@[simp] theorem ups_lampEnable (m : Mach) (g : Nat) : (m.lampEnable g).ups = m.ups := by simp [lampEnable, apply_ite ups]

@[simp] theorem ups_modFe (m : Mach) (t : Nat) (f : FeSt → FeSt) : (m.modFe t f).ups = m.ups := by simp [modFe]

@[simp] theorem ups_feStop (m : Mach) (t : Nat) : (m.feStop t).ups = m.ups := by simp [feStop]

@[simp] theorem ups_feEnable (m : Mach) (t : Nat) : (m.feEnable t).ups = m.ups := by simp [feEnable, apply_ite ups]

@[simp] theorem ups_modMon (m : Mach) (t : Nat) (f : MonSt → MonSt) : (m.modMon t f).ups = m.ups := by simp [modMon]

@[simp] theorem ups_monEnable (m : Mach) (t : Nat) : (m.monEnable t).ups = m.ups := by simp [monEnable, apply_ite ups]

@[simp] theorem ups_modMeas (m : Mach) (t o : Nat) (f : MeasOut → MeasOut) : (m.modMeas t o f).ups = m.ups := by simp [modMeas]

@[simp] theorem ups_measSettle (m : Mach) (t o : Nat) : (m.measSettle t o).ups = m.ups := by
  unfold measSettle
  dsimp only
  split <;> simp [apply_ite ups]

@[simp] theorem ups_failsafe (m : Mach) (t o : Nat) : (m.failsafe t o).ups = m.ups := by simp [failsafe, apply_ite ups]

@[simp] theorem ups_measEnable (m : Mach) (t : Nat) : (m.measEnable t).ups = m.ups := by simp [measEnable]

@[simp] theorem ups_modTwc (m : Mach) (t : Nat) (f : TwcSt → TwcSt) : (m.modTwc t f).ups = m.ups := by simp [modTwc]

@[simp] theorem ups_busClear (m : Mach) (t : Nat) : (m.busClear t).ups = m.ups := by simp [busClear]

@[simp] theorem ups_twcAbort (m : Mach) (t : Nat) : (m.twcAbort t).ups = m.ups := by simp [twcAbort, apply_ite ups]

@[simp] theorem ups_twcEnable (m : Mach) (t : Nat) (en : Bool) : (m.twcEnable t en).ups = m.ups := by simp [twcEnable, apply_ite ups]

@[simp] theorem ups_gpioEvent (m : Mach) (t n : Nat) (rising : Bool) : (m.gpioEvent t n rising).ups = m.ups := by simp [gpioEvent, apply_ite ups]

/-! ### Hands and ball edges -/

@[simp] theorem ups_refuseMode (m : Mach) : (m.refuseMode).ups = m.ups := by simp [refuseMode]

@[simp] theorem ups_modHand (m : Mach) (h : Nat) (f : Hand → Hand) : (m.modHand h f).ups = m.ups := rfl

@[simp] theorem ups_setQueue (m : Mach) (h : Nat) (q : List (Nat × HandCmd)) : (m.setQueue h q).ups = m.ups := by simp [setQueue]

@[simp] theorem ups_enqueue (m : Mach) (h n : Nat) (c : HandCmd) : (m.enqueue h n c).ups = m.ups := by simp [enqueue, apply_ite ups]

@[simp] theorem ups_dealPin (m : Mach) (h : Nat) (rising : Bool) : (m.dealPin h rising).ups = m.ups := by simp [dealPin, apply_ite ups]

@[simp] theorem ups_ballEdge (m : Mach) (t n : Nat) (rising : Bool) : (m.ballEdge t n rising).ups = m.ups := by simp [ballEdge, apply_ite ups]

@[simp] theorem ups_ballEdges (m : Mach) (t old : Nat) : (m.ballEdges t old).ups = m.ups := by simp [ballEdges, apply_ite ups]

/-! ### ENABLE, producers that stop, soft reset of a page -/

@[simp] theorem ups_writeEnable (m : Mach) (pk : Nat) (en : Bool) : (m.writeEnable pk en).ups = m.ups := by
  unfold writeEnable
  dsimp only
  split <;> simp [apply_ite ups]

@[simp] theorem ups_stopProducers (m : Mach) (t : Nat) (prods : List Nat) : (m.stopProducers t prods).ups = m.ups := by
  unfold stopProducers
  dsimp only
  rw [ups_modTile]
  · refine ups_foldl _ m fun a q => ?_
    split
    · split <;> simp
    · rfl
  · exact fun _ => rfl

@[simp] theorem ups_softResetPage (m : Mach) (pk : Nat) : (m.softResetPage pk).ups = m.ups := ups_foldl _ m fun _ _ => ups_setWord ..

@[simp] theorem ups_setReq (m : Mach) (t d : Nat) (b : Bool) : (m.setReq t d b).ups = m.ups := by simp [setReq]

end Mach

end Sys2Proof.Machine

/-!
PROOFS. Which tiles answer, kept by soft resets, commits, windows and the global pages.
-/

namespace Sys2Proof.Machine

namespace Mach

/-! ### Soft resets of the blocks (R84) -/

@[simp] theorem ups_softResetPwr (m : Mach) (t : Nat) : (m.softResetPwr t).ups = m.ups := by simp [softResetPwr]

@[simp] theorem ups_softResetClk (m : Mach) (t : Nat) : (m.softResetClk t).ups = m.ups := by simp [softResetClk]

@[simp] theorem ups_softResetTb (m : Mach) (t : Nat) : (m.softResetTb t).ups = m.ups := by simp [softResetTb]

@[simp] theorem ups_softResetRing (m : Mach) (t : Nat) : (m.softResetRing t).ups = m.ups := by simp [softResetRing]

@[simp] theorem ups_modRing (m : Mach) (t : Nat) (f : RingSt → RingSt) : (m.modRing t f).ups = m.ups := by simp [modRing]

@[simp] theorem ups_softResetDecl (m : Mach) (t : Nat) : (m.softResetDecl t).ups = m.ups := by simp [softResetDecl]

@[simp] theorem ups_loseCapture (m : Mach) (g : Nat) (c : Capture) : (m.loseCapture g c).ups = m.ups := by simp [loseCapture, apply_ite ups]

@[simp] theorem ups_captureOver (m : Mach) (g : Nat) : (m.captureOver g).ups = m.ups := by simp [captureOver]

@[simp] theorem ups_endReading (m : Mach) (g : Nat) : (m.endReading g).ups = m.ups := by simp [endReading]

@[simp] theorem ups_softResetSport (m : Mach) (g : Nat) : (m.softResetSport g).ups = m.ups := by
  unfold softResetSport
  split <;> simp

@[simp] theorem ups_softResetDeal (m : Mach) (g : Nat) : (m.softResetDeal g).ups = m.ups := by simp [softResetDeal]

@[simp] theorem ups_modConv (m : Mach) (g v : Nat) (f : Conv → Conv) : (m.modConv g v f).ups = m.ups := by simp [modConv]

@[simp] theorem ups_abandonSteps (m : Mach) (g : Nat) : (m.abandonSteps g).ups = m.ups := by simp [abandonSteps, apply_ite ups]

@[simp] theorem ups_softResetVc (m : Mach) (g : Nat) : (m.softResetVc g).ups = m.ups := by
  refine (ups_foldl _ _ fun _ _ => ups_setWord ..).trans ?_
  simp

@[simp] theorem ups_clearArr (m : Mach) (pk a : Nat) : (m.clearArr pk a).ups = m.ups := rfl

@[simp] theorem ups_modAcc (m : Mach) (g : Nat) (f : AccSt → AccSt) : (m.modAcc g f).ups = m.ups := by simp [modAcc]

@[simp] theorem ups_softResetAcc (m : Mach) (g : Nat) : (m.softResetAcc g).ups = m.ups := by simp [softResetAcc]

@[simp] theorem ups_freeNat (m : Mach) : (m.freeNat).2.ups = m.ups := rfl

@[simp] theorem ups_setEl (m : Mach) (pk a i v : Nat) : (m.setEl pk a i v).ups = m.ups := rfl

@[simp] theorem ups_readEntry (m : Mach) (g e : Nat) : (m.readEntry g e).ups = m.ups := by
  unfold readEntry
  split <;> simp

@[simp] theorem ups_writeEntry (m : Mach) (g e v : Nat) : (m.writeEntry g e v).ups = m.ups := by simp [writeEntry]

@[simp] theorem ups_buildOne (m : Mach) (g kind e : Nat) : (m.buildOne g kind e).ups = m.ups := by
  unfold buildOne
  dsimp only
  (repeat' split) <;> simp

@[simp] theorem ups_buildUpTo (m : Mach) (g k : Nat) : (m.buildUpTo g k).ups = m.ups := by simp [buildUpTo]

@[simp] theorem ups_abortBuild (m : Mach) (g : Nat) : (m.abortBuild g).ups = m.ups := by simp [abortBuild, apply_ite ups]

@[simp] theorem ups_liveBaseline (m : Mach) (g : Nat) : (m.liveBaseline g).ups = m.ups := by simp [liveBaseline]

@[simp] theorem ups_softResetShd (m : Mach) (g : Nat) : (m.softResetShd g).ups = m.ups := by simp [softResetShd]

@[simp] theorem ups_softResetCal (m : Mach) (g : Nat) : (m.softResetCal g).ups = m.ups := by simp [softResetCal, apply_ite ups]

@[simp] theorem ups_softResetMeld (m : Mach) (t : Nat) : (m.softResetMeld t).ups = m.ups := by simp [softResetMeld]

@[simp] theorem ups_softResetOutf (m : Mach) (t : Nat) : (m.softResetOutf t).ups = m.ups := by simp [softResetOutf]

@[simp] theorem ups_softResetChk (m : Mach) (t : Nat) : (m.softResetChk t).ups = m.ups := by simp [softResetChk]

@[simp] theorem ups_dramWrite (m : Mach) (t f : Nat) (bs : List Byte) : (m.dramWrite t f bs).ups = m.ups :=
  ups_of_tiles (dramWrite_frame bs m t f).2.2.1

@[simp] theorem ups_storeDramTag (m : Mach) (t : Nat) (c : Cell) : (m.storeDramTag t c).ups = m.ups := by simp [storeDramTag]

@[simp] theorem ups_undoPart (m : Mach) (t q : Nat) : (m.undoPart t q).ups = m.ups := by
  unfold undoPart
  dsimp only
  (repeat' split) <;> simp

@[simp] theorem ups_softResetQue (m : Mach) (t : Nat) : (m.softResetQue t).ups = m.ups := by simp [softResetQue]

@[simp] theorem ups_recordSpillLost (m was : Mach) (t : Nat) : (m.recordSpillLost was t).ups = m.ups := by simp [recordSpillLost, apply_ite ups]

@[simp] theorem ups_softResetKitty (m : Mach) (t : Nat) : (m.softResetKitty t).ups = m.ups := by
  unfold softResetKitty
  simp

@[simp] theorem ups_softResetDma (m : Mach) (t : Nat) : (m.softResetDma t).ups = m.ups := by simp [softResetDma]

@[simp] theorem ups_softResetDram (m : Mach) (t : Nat) : (m.softResetDram t).ups = m.ups := by simp [softResetDram]

@[simp] theorem ups_detach (m : Mach) : (m.detach).ups = m.ups := by simp [detach, apply_ite ups]

@[simp] theorem ups_clearStatus (m : Mach) (pk : Nat) : (m.clearStatus pk).ups = m.ups := by simp [clearStatus]

@[simp] theorem ups_modHost (m : Mach) (t : Nat) (f : HostSt → HostSt) : (m.modHost t f).ups = m.ups := by simp [modHost]

@[simp] theorem ups_mirrorCredit (m : Mach) (t q : Nat) : (m.mirrorCredit t q).ups = m.ups := by simp [mirrorCredit]

@[simp] theorem ups_mirrorCredits (m : Mach) (t : Nat) : (m.mirrorCredits t).ups = m.ups := by simp [mirrorCredits]

@[simp] theorem ups_sendTr (m : Mach) (t c : Nat) (x : DmaTr) : (m.sendTr t c x).ups = m.ups := by simp [sendTr, apply_ite ups]

@[simp] theorem ups_sendWaiting (m : Mach) (t : Nat) : (m.sendWaiting t).ups = m.ups := by
  refine ups_foldl _ m fun a c => ?_
  split
  · rfl
  · simp [apply_ite ups]

@[simp] theorem ups_dmaHostDown (m : Mach) (t : Nat) : (m.dmaHostDown t).ups = m.ups := by simp [dmaHostDown, apply_ite ups]

@[simp] theorem ups_startTraining (m : Mach) (t : Nat) : (m.startTraining t).ups = m.ups := by simp [startTraining]

@[simp] theorem ups_hostResetNow (m : Mach) (t cause : Nat) : (m.hostResetNow t cause).ups = m.ups := by simp [hostResetNow, apply_ite ups]

@[simp] theorem ups_hostReset (m : Mach) (t cause : Nat) : (m.hostReset t cause).ups = m.ups := by simp [hostReset, apply_ite ups]

@[simp] theorem ups_softResetHostPage (m : Mach) (t pk : Nat) : (m.softResetHostPage t pk).ups = m.ups := by simp [softResetHostPage]

@[simp] theorem ups_axisCut (m : Mach) (g : Nat) : (m.axisCut g).ups = m.ups := by simp [axisCut]

@[simp] theorem ups_setUncertain (m : Mach) (g cause : Nat) : (m.setUncertain g cause).ups = m.ups := by simp [setUncertain]

@[simp] theorem ups_softResetAxis (m : Mach) (g : Nat) : (m.softResetAxis g).ups = m.ups := by simp [softResetAxis, apply_ite ups]

@[simp] theorem ups_paceRelease (m : Mach) (g : Nat) : (m.paceRelease g).ups = m.ups := by simp [paceRelease, apply_ite ups]

@[simp] theorem ups_softResetPace (m : Mach) (t : Nat) : (m.softResetPace t).ups = m.ups := by simp [softResetPace]

@[simp] theorem ups_softResetLamp (m : Mach) (g : Nat) : (m.softResetLamp g).ups = m.ups := by simp [softResetLamp]

@[simp] theorem ups_softResetLchain (m : Mach) (t : Nat) : (m.softResetLchain t).ups = m.ups := by simp [softResetLchain]

@[simp] theorem ups_softResetPatt (m : Mach) (t : Nat) : (m.softResetPatt t).ups = m.ups := by simp [softResetPatt]

@[simp] theorem ups_softResetMon (m : Mach) (t : Nat) : (m.softResetMon t).ups = m.ups := by simp [softResetMon]

@[simp] theorem ups_softResetFe (m : Mach) (t : Nat) : (m.softResetFe t).ups = m.ups := by simp [softResetFe]

@[simp] theorem ups_softResetMeas (m : Mach) (t : Nat) : (m.softResetMeas t).ups = m.ups := by simp [softResetMeas]

@[simp] theorem ups_setBin (m : Mach) (g n scale : Nat) (w : List Nat) : (m.setBin g n scale w).ups = m.ups := by simp [setBin]

@[simp] theorem ups_unityBin (m : Mach) (g n : Nat) : (m.unityBin g n).ups = m.ups := by simp [unityBin]

@[simp] theorem ups_binDone (m : Mach) (g : Nat) (rec_ : Option (List Byte)) : (m.binDone g rec_).ups = m.ups := by simp [binDone, apply_ite ups]

@[simp] theorem ups_binRefuse (m : Mach) (t : Nat) : (m.binRefuse t).ups = m.ups := by simp [binRefuse, apply_ite ups]

@[simp] theorem ups_clearArrays (m : Mach) (pk : Nat) : (m.clearArrays pk).ups = m.ups := rfl

@[simp] theorem ups_twcStop (m : Mach) (t : Nat) : (m.twcStop t).ups = m.ups := by simp [twcStop]

@[simp] theorem ups_softResetTwc (m : Mach) (t : Nat) : (m.softResetTwc t).ups = m.ups := by simp [softResetTwc]

@[simp] theorem ups_softResetSspi (m : Mach) (t : Nat) : (m.softResetSspi t).ups = m.ups := by simp [softResetSspi]

@[simp] theorem ups_softReset (m : Mach) (pk : Nat) : (m.softReset pk).ups = m.ups := by
  unfold softReset
  dsimp only
  split <;> simp

/-! ### Page headers, COMMIT and windows -/

@[simp] theorem ups_writePageCtrl (m : Mach) (pk : Nat) (v : Word) : (m.writePageCtrl pk v).ups = m.ups := by simp [writePageCtrl, apply_ite ups]

@[simp] theorem ups_copyShadows (m : Mach) (pk : Nat) : (m.copyShadows pk).ups = m.ups := by
  refine ups_foldl _ m fun a r => ?_
  split
  · rfl
  · exact ups_foldl _ a fun _ _ => ups_setWord ..

@[simp] theorem ups_bgFollow (m : Mach) (g : Nat) (was : Bool) : (m.bgFollow g was).ups = m.ups := by simp [bgFollow, apply_ite ups]

@[simp] theorem ups_commitAtOnce (m : Mach) (pk : Nat) : (m.commitAtOnce pk).ups = m.ups := by simp [commitAtOnce, apply_ite ups]

@[simp] theorem ups_writeCommit (m : Mach) (pk : Nat) (v : Word) : (m.writeCommit pk v).ups = m.ups := by
  unfold writeCommit
  dsimp only
  split <;> simp [apply_ite ups]

@[simp] theorem ups_writeHeader (m : Mach) (pk off : Nat) (v : Word) : (m.writeHeader pk off v).ups = m.ups := by
  unfold writeHeader
  split <;> simp

@[simp] theorem ups_rangeCheck (m : Mach) (pk : Nat) : (m.rangeCheck pk).ups = m.ups := by simp [rangeCheck, apply_ite ups]

@[simp] theorem ups_winCopy (m : Mach) (pk : Nat) : (m.winCopy pk).ups = m.ups := by
  unfold winCopy
  rw [ups_rangeCheck, ups_foldl _ _ fun _ _ => ups_setWord .., apply_ite ups, ups_readEntry, ite_self]

@[simp] theorem ups_winNext (m : Mach) (pk : Nat) : (m.winNext pk).ups = m.ups := ups_setWord ..

@[simp] theorem ups_hostEntry (m : Mach) (g e v : Nat) : (m.hostEntry g e v).ups = m.ups := by simp [hostEntry, apply_ite ups]

@[simp] theorem ups_winStore (m : Mach) (pk a i v : Nat) : (m.winStore pk a i v).ups = m.ups := by simp [winStore, apply_ite ups]

@[simp] theorem ups_winData (m : Mach) (pk k v : Nat) : (m.winData pk k v).ups = m.ups := by
  unfold winData
  dsimp only
  split
  · rfl
  split
  · exact ups_rangeCheck ..
  split
  · rfl
  split
  · exact ups_errCount ..
  split
  · exact ups_rangeCheck ..
  split <;> simp

@[simp] theorem ups_winWrite (m : Mach) (pk off : Nat) (v : Word) : (m.winWrite pk off v).ups = m.ups := by
  unfold winWrite
  split
  · exact ups_setWord ..
  · exact (ups_winCopy ..).trans (ups_setWord ..)
  · simp [apply_ite ups]
  · exact ups_winData ..

/-! ### Page PORTS, and the hands on page MODE -/

@[simp] theorem ups_semClaim (m : Mach) (p n c : Nat) : (m.semClaim p n c).ups = m.ups := by simp [semClaim, apply_ite ups]

@[simp] theorem ups_genericWrite (m : Mach) (pk off : Nat) (v : Word) : (m.genericWrite pk off v).ups = m.ups := by
  unfold genericWrite
  dsimp only
  split <;> simp [apply_ite ups]

@[simp] theorem ups_keepalive (m : Mach) (p : Nat) : (m.keepalive p).ups = m.ups := by
  unfold keepalive
  split <;> rfl

@[simp] theorem ups_writePorts (m : Mach) (p off : Nat) (v : Word) : (m.writePorts p off v).ups = m.ups := by
  unfold writePorts
  dsimp only
  split
  · split
    · rfl
    · exact ups_errCount ..
  split
  · exact ups_errCount ..
  split <;> simp [apply_ite ups]

@[simp] theorem ups_modPace (m : Mach) (t h : Nat) (f : PaceHand → PaceHand) : (m.modPace t h f).ups = m.ups := by simp [modPace]

@[simp] theorem ups_paceForms (m : Mach) (h : Nat) : (m.paceForms h).ups = m.ups := by simp [paceForms]

@[simp] theorem ups_runAxes (m : Mach) (gs : List Nat) : (m.runAxes gs).ups = m.ups := by simp [runAxes, apply_ite ups]

end Mach

end Sys2Proof.Machine

/-!
PROOFS. Which tiles answer, kept by what a write of a block register does.
-/

namespace Sys2Proof.Machine

namespace Mach

/-! ### Hands -/

@[simp] theorem ups_setHandState (m : Mach) (h s : Nat) : (m.setHandState h s).ups = m.ups := by simp [setHandState, apply_ite ups]

@[simp] theorem ups_lampMember (m : Mach) (g : Nat) : (m.lampMember g).ups = m.ups := by simp [lampMember, apply_ite ups]

@[simp] theorem ups_commitNow (m : Mach) (pk : Nat) : (m.commitNow pk).ups = m.ups := by simp [commitNow]

@[simp] theorem ups_dealBoundary (m : Mach) (g : Nat) : (m.dealBoundary g).ups = m.ups := by simp [dealBoundary, apply_ite ups]

@[simp] theorem ups_writeHandCfg (m : Mach) (h : Nat) (v : Word) : (m.writeHandCfg h v).ups = m.ups := by simp [writeHandCfg, apply_ite ups]

@[simp] theorem ups_handCommand (m : Mach) (h n : Nat) : (m.handCommand h n).ups = m.ups := by
  unfold handCommand
  split
  · exact ups_enqueue ..
  · split
    · exact ups_wr ..
    · exact ups_refuseMode m

/-! ### Preparation and DORMANT -/

@[simp] theorem ups_monCalStart (m : Mach) (t : Nat) : (m.monCalStart t).ups = m.ups := by simp [monCalStart, apply_ite ups]

@[simp] theorem ups_monRestore (m : Mach) (t : Nat) : (m.monRestore t).ups = m.ups := by
  unfold monRestore
  split <;> simp

@[simp] theorem ups_vcCalStart (m : Mach) (g : Nat) (host : Bool) : (m.vcCalStart g host).ups = m.ups := by simp [vcCalStart, apply_ite ups]

@[simp] theorem ups_loseDram (m : Mach) (t : Nat) : (m.loseDram t).ups = m.ups := rfl

@[simp] theorem ups_dramTrainStart (m : Mach) (t : Nat) : (m.dramTrainStart t).ups = m.ups := by simp [dramTrainStart, apply_ite ups]

@[simp] theorem ups_twcSend (m : Mach) (t : Nat) : (m.twcSend t).ups = m.ups := ups_foldl _ m fun _ _ => rfl

@[simp] theorem ups_twcBegin (m : Mach) (t owner : Nat) : (m.twcBegin t owner).ups = m.ups := by simp [twcBegin, apply_ite ups]

@[simp] theorem ups_twcServe (m : Mach) (t : Nat) : (m.twcServe t).ups = m.ups := by simp [twcServe, apply_ite ups]

@[simp] theorem ups_binStart (m : Mach) (g : Nat) : (m.binStart g).ups = m.ups := by simp [binStart, apply_ite ups]

@[simp] theorem ups_prepStart (m : Mach) (t : Nat) : (m.prepStart t).ups = m.ups := by simp [prepStart, apply_ite ups]

@[simp] theorem ups_showSucc (m : Mach) (s : Nat) (x : Option Nat) : (m.showSucc s x).ups = m.ups := by simp [showSucc, apply_ite ups]

@[simp] theorem ups_setRole (m : Mach) (t r : Nat) : (m.setRole t r).ups = m.ups := by simp [setRole, apply_ite ups]

@[simp] theorem ups_dramReset (m : Mach) (t : Nat) : (m.dramReset t).ups = m.ups := by simp [dramReset]

@[simp] theorem ups_dormantEnter (m : Mach) (t : Nat) : (m.dormantEnter t).ups = m.ups := by simp [dormantEnter, apply_ite ups]

@[simp] theorem ups_dormantRequest (m : Mach) (t : Nat) : (m.dormantRequest t).ups = m.ups := by
  have hsucc : ∀ s next, ((({ m with copying := none } : Mach).setRole t 0).showSucc s next).ups = m.ups := fun s next => by
    rw [ups_showSucc, ups_setRole]
    rfl
  unfold dormantRequest
  split
  · exact ups_refuse ..
  · dsimp only
    rw [ups_dormantEnter]
    split
    · rfl
    · split
      · rfl
      · split
        · exact (ups_setRole ..).trans (hsucc ..)
        · exact hsucc ..

@[simp] theorem ups_tileCommand (m : Mach) (v : Word) : (m.tileCommand v).ups = m.ups := by simp [tileCommand, apply_ite ups]

@[simp] theorem ups_writeMode (m : Mach) (off : Nat) (v : Word) : (m.writeMode off v).ups = m.ups := by
  unfold writeMode
  dsimp only
  split <;> simp [apply_ite ups]

@[simp] theorem ups_writeEntryN (m : Mach) (p n : Nat) (v : Word) : (m.writeEntryN p n v).ups = m.ups := by simp [writeEntryN, apply_ite ups]

@[simp] theorem ups_globalWrite (m : Mach) (p pk off : Nat) (v : Word) : (m.globalWrite p pk off v).ups = m.ups := by simp [globalWrite, apply_ite ups]

/-! ### Pages PWR, TB, RING and DECL -/

@[simp] theorem ups_setDom (m : Mach) (t d : Nat) : (m.setDom t d).ups = m.ups := by simp [setDom, apply_ite ups]

@[simp] theorem ups_clearDom (m : Mach) (t d : Nat) : (m.clearDom t d).ups = m.ups := by simp [clearDom, apply_ite ups]

@[simp] theorem ups_writeDomReq (m : Mach) (t : Nat) (v : Word) : (m.writeDomReq t v).ups = m.ups := by
  unfold writeDomReq
  dsimp only
  rw [ups_seqKick, ups_foldl _ _ fun a d => ups_setDom a t d, ups_foldl _ _ fun a d => ups_clearDom a t d]

@[simp] theorem ups_setShtReq (m : Mach) (t c x : Nat) : (m.setShtReq t c x).ups = m.ups := by simp [setShtReq, apply_ite ups]

@[simp] theorem ups_writeShtMode (m : Mach) (t : Nat) (v : Word) : (m.writeShtMode t v).ups = m.ups := by simp [writeShtMode]

@[simp] theorem keepsUps_writePwr (m : Mach) (t off : Nat) (v : Word) : KeepsUps m (m.writePwr t off v) := by
  unfold writePwr
  split <;> simp [apply_ite ups]

@[simp] theorem ups_alarmFire (m : Mach) (t : Nat) : (m.alarmFire t).ups = m.ups := by simp [alarmFire, apply_ite ups]

@[simp] theorem ups_writeTbCtrl (m : Mach) (t : Nat) (v : Word) : (m.writeTbCtrl t v).ups = m.ups := by simp [writeTbCtrl, apply_ite ups]

@[simp] theorem keepsUps_writeTb (m : Mach) (t off : Nat) (v : Word) : KeepsUps m (m.writeTb t off v) := by
  unfold writeTb
  split <;> simp

@[simp] theorem ups_unsettle (m : Mach) : (m.unsettle).ups = m.ups := by simp [unsettle, apply_ite ups]

@[simp] theorem ups_endDown (m : Mach) (t : Nat) (up downs : Field) : (m.endDown t up downs).ups = m.ups := by simp [endDown, apply_ite ups]

@[simp] theorem ups_linkDown (m : Mach) (t : Nat) : (m.linkDown t).ups = m.ups := by simp [linkDown]

@[simp] theorem keepsUps_writeRing (m : Mach) (t off : Nat) (v : Word) : KeepsUps m (m.writeRing t off v) := by
  unfold writeRing
  split <;> simp [apply_ite ups]

/-- A release changes the life of a tile held in reset, which did not answer and does not yet. -/
@[simp] theorem ups_tileRelease (m : Mach) (t : Nat) : (m.tileRelease t).ups = m.ups := by
  unfold tileRelease
  split
  · rfl
  next h =>
    simp only [ne_eq, Decidable.not_not] at h
    rw [ups_seqKick]
    exact ups_modTile_of_down (by rw [setWord_tile, h]; decide) nofun

@[simp] theorem ups_recoverCmd (m : Mach) (t : Nat) (v : Word) : (m.recoverCmd t v).ups = m.ups := by
  refine ups_foldl _ m fun a x => ?_
  split
  · rfl
  split
  next h =>
    rw [ups_tileRelease, ups_modRing]
    exact ups_modTile_of_down (by rw [h]; decide) nofun
  · exact ups_errCount ..

@[simp] theorem keepsUps_writeDecl (m : Mach) (t off : Nat) (v : Word) : KeepsUps m (m.writeDecl t off v) := by
  unfold writeDecl
  split <;> simp

/-! ### Sensor and output pages -/

@[simp] theorem ups_dropDeskew (m : Mach) (g : Nat) : (m.dropDeskew g).ups = m.ups := by simp [dropDeskew]

@[simp] theorem keepsUps_writeSport (m : Mach) (g off : Nat) (v : Word) : KeepsUps m (m.writeSport g off v) := by
  unfold writeSport
  dsimp only
  (repeat' split) <;> simp

@[simp] theorem keepsUps_writeDeal (m : Mach) (g off : Nat) (v : Word) : KeepsUps m (m.writeDeal g off v) := by
  unfold writeDeal
  dsimp only
  (repeat' split) <;> simp

@[simp] theorem keepsUps_writeVc (m : Mach) (g off : Nat) (v : Word) : KeepsUps m (m.writeVc g off v) := by
  unfold writeVc
  split <;> simp

@[simp] theorem keepsUps_writeAcc (m : Mach) (g off : Nat) (v : Word) : KeepsUps m (m.writeAcc g off v) := by
  unfold writeAcc
  dsimp only
  (repeat' split) <;> simp

@[simp] theorem ups_deliverShd (m : Mach) (g t : Nat) : (m.deliverShd g t).ups = m.ups := by simp [deliverShd, apply_ite ups]

@[simp] theorem keepsUps_writeShd (m : Mach) (g off : Nat) (v : Word) : KeepsUps m (m.writeShd g off v) := by
  unfold writeShd
  split <;> simp

@[simp] theorem ups_calCmd (m : Mach) (g n : Nat) : (m.calCmd g n).ups = m.ups := by simp [calCmd, apply_ite ups]

@[simp] theorem keepsUps_writeCal (m : Mach) (g off : Nat) (v : Word) : KeepsUps m (m.writeCal g off v) := by
  unfold writeCal
  split <;> simp

@[simp] theorem keepsUps_writeMeld (m : Mach) (t off : Nat) (v : Word) : KeepsUps m (m.writeMeld t off v) := by simp [writeMeld]

@[simp] theorem keepsUps_writeOutf (m : Mach) (t off : Nat) (v : Word) : KeepsUps m (m.writeOutf t off v) := by simp [writeOutf]

@[simp] theorem keepsUps_writeChk (m : Mach) (t off : Nat) (v : Word) : KeepsUps m (m.writeChk t off v) := by
  unfold writeChk
  split <;> simp [apply_ite ups]

/-! ### Queues, kitty and DMA -/

@[simp] theorem ups_issueFetch (m : Mach) (t c a : Nat) (fresh : Bool) : (m.issueFetch t c a fresh).ups = m.ups := by
  unfold issueFetch
  dsimp only
  (repeat' split) <;> simp

@[simp] theorem ups_dmaNext (m : Mach) (t c : Nat) : (m.dmaNext t c).ups = m.ups := by simp [dmaNext, apply_ite ups]

@[simp] theorem ups_dmaFree (m : Mach) (t : Nat) : (m.dmaFree t).ups = m.ups := by simp [dmaFree, apply_ite ups]

@[simp] theorem ups_countPoison (m : Mach) (t q : Nat) (cs : List Cell) : (m.countPoison t q cs).ups = m.ups := by simp [countPoison, apply_ite ups]

@[simp] theorem ups_countPart (m : Mach) (t q : Nat) (cs : List Cell) : (m.countPart t q cs).ups = m.ups := by simp [countPart, apply_ite ups]

@[simp] theorem ups_showHead (m : Mach) (t q : Nat) (consume : Bool) : (m.showHead t q consume).ups = m.ups := by
  unfold showHead
  dsimp only
  split <;> simp [apply_ite ups]

@[simp] theorem ups_queCmdErr (m : Mach) (t : Nat) : (m.queCmdErr t).ups = m.ups := by simp [queCmdErr]

@[simp] theorem ups_dropCells (m : Mach) (t q k : Nat) : (m.dropCells t q k).ups = m.ups := by simp [dropCells, apply_ite ups]

@[simp] theorem ups_discardTrick (m : Mach) (t q : Nat) : (m.discardTrick t q).ups = m.ups := by simp [discardTrick]

@[simp] theorem ups_resetQueue (m : Mach) (t q : Nat) : (m.resetQueue t q).ups = m.ups := by
  unfold resetQueue
  split <;> simp

@[simp] theorem ups_queCmd (m : Mach) (t q op : Nat) : (m.queCmd t q op).ups = m.ups := by
  have hshow : ∀ a : Mach, a.ups = m.ups → (match m.checkQueue t q false with | some m' => m' | none => a).ups = m.ups := fun a ha => by
    split
    next b hb => exact keepsUps_checkQueue m t q false b hb
    · exact ha
  unfold queCmd
  dsimp only
  split
  · simp
  · split
    · exact ups_queCmdErr ..
    · exact hshow _ (by simp)
  · split
    · exact ups_queCmdErr ..
    · exact hshow _ (by simp)
  · exact ups_resetQueue ..
  · exact ups_queCmdErr ..

@[simp] theorem ups_writeQueCfg (m : Mach) (t q : Nat) (v : Word) : (m.writeQueCfg t q v).ups = m.ups := by simp [writeQueCfg, apply_ite ups]

@[simp] theorem keepsUps_writeQue (m : Mach) (t off : Nat) (v : Word) : KeepsUps m (m.writeQue t off v) := by simp [writeQue]

@[simp] theorem ups_kittyCmd (m : Mach) (t n : Nat) : (m.kittyCmd t n).ups = m.ups := by simp [kittyCmd, apply_ite ups]

@[simp] theorem keepsUps_writeKitty (m : Mach) (t off : Nat) (v : Word) : KeepsUps m (m.writeKitty t off v) := by
  unfold writeKitty
  split <;> simp

@[simp] theorem ups_dmaGo (m : Mach) (t c : Nat) : (m.dmaGo t c).ups = m.ups := by simp [dmaGo, apply_ite ups]

@[simp] theorem ups_dmaSettle (m : Mach) (t c : Nat) : (m.dmaSettle t c).ups = m.ups := by simp [dmaSettle, apply_ite ups]

@[simp] theorem ups_dmaStop (m : Mach) (t c : Nat) : (m.dmaStop t c).ups = m.ups := by
  unfold dmaStop
  split <;> simp

@[simp] theorem ups_hostWrites (t mps k : Nat) (m : Mach) (a : Nat) (bs : List Byte) : (hostWrites t mps k m a bs).ups = m.ups := by
  induction k generalizing m a bs with
  | zero => rfl
  | succ k ih =>
    unfold hostWrites
    split
    · rfl
    · exact ih ..

@[simp] theorem ups_dmaComplete (m : Mach) (t c : Nat) : (m.dmaComplete t c).ups = m.ups := by simp [dmaComplete, apply_ite ups]

@[simp] theorem ups_dmaWritten (m : Mach) (t c : Nat) : (m.dmaWritten t c).ups = m.ups := by simp [dmaWritten, apply_ite ups]

@[simp] theorem ups_dmaResume (m : Mach) (t c : Nat) : (m.dmaResume t c).ups = m.ups := by simp [dmaResume, apply_ite ups]

@[simp] theorem ups_dmaCmd (m : Mach) (t c n : Nat) : (m.dmaCmd t c n).ups = m.ups := by simp [dmaCmd, apply_ite ups]

@[simp] theorem keepsUps_writeDma (m : Mach) (t off : Nat) (v : Word) : KeepsUps m (m.writeDma t off v) := by
  unfold writeDma
  dsimp only
  (repeat' split) <;> simp

@[simp] theorem keepsUps_writeDram (m : Mach) (t off : Nat) (v : Word) : KeepsUps m (m.writeDram t off v) := by
  unfold writeDram
  split <;> simp

@[simp] theorem ups_hostRestart (m : Mach) (t : Nat) : (m.hostRestart t).ups = m.ups := by simp [hostRestart, apply_ite ups]

@[simp] theorem keepsUps_writeHostp (m : Mach) (t off : Nat) (v : Word) : KeepsUps m (m.writeHostp t off v) := by
  unfold writeHostp
  split <;> simp [apply_ite ups]

end Mach

end Sys2Proof.Machine

/-!
PROOFS. Which tiles answer, kept by every access that waits; so a part settled while no tile answers had no tile that answered.
-/

namespace Sys2Proof.Machine

namespace Mach

/-! ### Host ports -/

@[simp] theorem keepsUps_writePcie (m : Mach) (t off : Nat) (v : Word) : KeepsUps m (m.writePcie t off v) := by
  unfold writePcie
  dsimp only
  (repeat' split) <;> simp

@[simp] theorem ups_ptpPop (m : Mach) (t : Nat) : (m.ptpPop t).ups = m.ups := by simp [ptpPop, apply_ite ups]

@[simp] theorem ups_ptpGo (m : Mach) (t : Nat) : (m.ptpGo t).ups = m.ups := by simp [ptpGo, apply_ite ups]

@[simp] theorem ups_slewRateWrite (m : Mach) (t : Nat) (v : Word) : (m.slewRateWrite t v).ups = m.ups := by
  unfold slewRateWrite
  dsimp only
  split
  · exact ups_errCount ..
  · split
    · exact ups_refuse ..
    · exact ups_setWord m (P.eth t) 0x0A0 v

@[simp] theorem ups_slewOfsWrite (m : Mach) (t : Nat) (v : Word) : (m.slewOfsWrite t v).ups = m.ups := by
  unfold slewOfsWrite
  dsimp only
  split
  · exact ups_errCount ..
  · split <;> rfl

@[simp] theorem keepsUps_writeEth (m : Mach) (t off : Nat) (v : Word) : KeepsUps m (m.writeEth t off v) := by
  unfold writeEth
  split <;> simp [apply_ite ups]

@[simp] theorem keepsUps_writeThaig (m : Mach) (t off : Nat) (v : Word) : KeepsUps m (m.writeThaig t off v) := by simp [writeThaig]

/-! ### Pages AXIS and PACE -/

@[simp] theorem ups_axisSnap (m : Mach) (g : Nat) : (m.axisSnap g).ups = m.ups := by simp [axisSnap]

@[simp] theorem ups_chatClr (m : Mach) (g : Nat) : (m.chatClr g).ups = m.ups := by simp [chatClr, apply_ite ups]

@[simp] theorem ups_forget (m : Mach) (g : Nat) : (m.forget g).ups = m.ups := by simp [forget, apply_ite ups]

@[simp] theorem ups_moveRefused (m : Mach) (g : Nat) : (m.moveRefused g).ups = m.ups := by simp [moveRefused]

@[simp] theorem ups_homeGo (m : Mach) (g : Nat) : (m.homeGo g).ups = m.ups := by simp [homeGo, apply_ite ups]

@[simp] theorem ups_homingFault (m : Mach) (g cause : Nat) : (m.homingFault g cause).ups = m.ups := by simp [homingFault]

@[simp] theorem ups_axisEstop (m : Mach) (g : Nat) : (m.axisEstop g).ups = m.ups := by simp [axisEstop, apply_ite ups]

@[simp] theorem ups_axisStop (m : Mach) (g : Nat) : (m.axisStop g).ups = m.ups := by simp [axisStop, apply_ite ups]

@[simp] theorem ups_axisGo (m : Mach) (g : Nat) : (m.axisGo g).ups = m.ups := by simp [axisGo, apply_ite ups]

@[simp] theorem ups_writeAxisCtrl (m : Mach) (g : Nat) (v : Word) : (m.writeAxisCtrl g v).ups = m.ups := by simp [writeAxisCtrl, apply_ite ups]

@[simp] theorem keepsUps_writeAxis (m : Mach) (g off : Nat) (v : Word) : KeepsUps m (m.writeAxis g off v) := by
  unfold writeAxis
  split <;> simp

@[simp] theorem keepsUps_writePace (m : Mach) (t off : Nat) (v : Word) : KeepsUps m (m.writePace t off v) := by
  unfold writePace
  split <;> simp

/-! ### Light and measurement -/

@[simp] theorem ups_derateUpdate (m : Mach) (g : Nat) : (m.derateUpdate g).ups = m.ups := by simp [derateUpdate, apply_ite ups]

@[simp] theorem ups_deliverBar (m : Mach) (g t : Nat) : (m.deliverBar g t).ups = m.ups := by simp [deliverBar, apply_ite ups]

@[simp] theorem ups_formCodes (m : Mach) (g : Nat) : (m.formCodes g).ups = m.ups := by simp [formCodes, apply_ite ups]

@[simp] theorem ups_writeLampCtrl (m : Mach) (g : Nat) (v : Word) : (m.writeLampCtrl g v).ups = m.ups := by simp [writeLampCtrl, apply_ite ups]

@[simp] theorem keepsUps_writeLamp (m : Mach) (g off : Nat) (v : Word) : KeepsUps m (m.writeLamp g off v) := by
  unfold writeLamp
  dsimp only
  (repeat' split) <;> simp

@[simp] theorem ups_sendFrame (m : Mach) (t : Nat) (s : Sweep) : (m.sendFrame t s).ups = m.ups := by simp [sendFrame]

@[simp] theorem keepsUps_writeLchain (m : Mach) (t off : Nat) (v : Word) : KeepsUps m (m.writeLchain t off v) := by
  unfold writeLchain
  split <;> simp

@[simp] theorem ups_modEng (m : Mach) (t e : Nat) (f : PattEng → PattEng) : (m.modEng t e f).ups = m.ups := by simp [modEng]

@[simp] theorem keepsUps_writePatt (m : Mach) (t off : Nat) (v : Word) : KeepsUps m (m.writePatt t off v) := by
  unfold writePatt
  split <;> simp [apply_ite ups]

@[simp] theorem ups_snapRequest (m : Mach) (t : Nat) : (m.snapRequest t).ups = m.ups := by simp [snapRequest, apply_ite ups]

@[simp] theorem ups_trump (m : Mach) (t : Nat) (v : Word) : (m.trump t v).ups = m.ups := by simp [trump, apply_ite ups]

@[simp] theorem keepsUps_writeMon (m : Mach) (t off : Nat) (v : Word) : KeepsUps m (m.writeMon t off v) := by
  unfold writeMon
  split <;> simp [apply_ite ups]

@[simp] theorem ups_fePend (m : Mach) (t : Nat) (chs : List Nat) : (m.fePend t chs).ups = m.ups := by simp [fePend, apply_ite ups]

@[simp] theorem keepsUps_writeFe (m : Mach) (t off : Nat) (v : Word) : KeepsUps m (m.writeFe t off v) := by
  unfold writeFe
  dsimp only
  (repeat' split) <;> simp

@[simp] theorem keepsUps_writeMeas (m : Mach) (t off : Nat) (v : Word) : KeepsUps m (m.writeMeas t off v) := by
  unfold writeMeas
  dsimp only
  (repeat' split) <;> simp

/-! ### Two-wire controller and sensor SPI -/

@[simp] theorem ups_twcRefuse (m : Mach) (t : Nat) : (m.twcRefuse t).ups = m.ups := by simp [twcRefuse]

@[simp] theorem ups_twcGo (m : Mach) (t : Nat) : (m.twcGo t).ups = m.ups := by simp [twcGo, apply_ite ups]

@[simp] theorem ups_alertRead (m : Mach) (t : Nat) : (m.alertRead t).ups = m.ups := by simp [alertRead, apply_ite ups]

@[simp] theorem ups_twcClear (m : Mach) (t : Nat) : (m.twcClear t).ups = m.ups := by simp [twcClear, apply_ite ups]

@[simp] theorem keepsUps_writeTwc (m : Mach) (t off : Nat) (v : Word) : KeepsUps m (m.writeTwc t off v) := by
  unfold writeTwc
  split <;> simp [apply_ite ups]

@[simp] theorem ups_spiStart (m : Mach) (g at_ : Nat) (held : Bool) : (m.spiStart g at_ held).ups = m.ups := by
  unfold spiStart
  split <;> simp

@[simp] theorem ups_spiKick (m : Mach) (g : Nat) : (m.spiKick g).ups = m.ups := by
  unfold spiKick
  dsimp only
  (repeat' split) <;> simp

@[simp] theorem keepsUps_writeSspi (m : Mach) (t off : Nat) (v : Word) : KeepsUps m (m.writeSspi t off v) := by
  unfold writeSspi
  split <;> simp [apply_ite ups]

/-! ### Register writes and accesses -/

@[simp] theorem keepsUps_blockWrite (m : Mach) (pk off : Nat) (v : Word) : KeepsUps m (m.blockWrite pk off v) := by
  unfold blockWrite
  dsimp only
  split
  case h_14 => exact (keepsUps_writeQue m _ off v).map fun a => ups_dmaFree a _
  all_goals simp

@[simp] theorem ups_regWrite (m : Mach) (p pk off : Nat) (v : Word) : (m.regWrite p pk off v).ups = m.ups := by
  unfold regWrite
  split
  · exact ups_errCount ..
  split
  · exact ups_errCount ..
  split
  · exact ups_writeHeader ..
  split
  · exact ups_errCount ..
  split
  · exact ups_errCount ..
  split
  · exact ups_winWrite ..
  split
  · exact ups_globalWrite ..
  · exact (keepsUps_blockWrite m pk off v).getD (ups_genericWrite ..)

@[simp] theorem ups_badAddr (m : Mach) : (m.badAddr).ups = m.ups := by simp [badAddr]

@[simp] theorem ups_offAccess (m : Mach) (t : Nat) : (m.offAccess t).ups = m.ups := by simp [offAccess]

@[simp] theorem ups_missed (m : Mach) (x : Target) (tf pg : Nat) : (m.missed x tf pg).ups = m.ups := by
  unfold missed
  split <;> simp

@[simp] theorem ups_writeOne (m : Mach) (p e tf addr : Nat) (v : Word) : (m.writeOne p e tf addr v).ups = m.ups := by
  unfold writeOne
  dsimp only
  split <;> simp [apply_ite ups]

@[simp] theorem ups_bcastMiss (m : Mach) : (m.bcastMiss).ups = m.ups := by simp [bcastMiss]

@[simp] theorem ups_busWrite (m : Mach) (p e addr : Nat) (v : Word) : (m.busWrite p e addr v).ups = m.ups := by simp [busWrite, apply_ite ups]

@[simp] theorem ups_hostWrite (m : Mach) (p e addr : Nat) (v : Word) : (m.hostWrite p e addr v).ups = m.ups := by simp [hostWrite]

@[simp] theorem ups_readEffect (m : Mach) (e addr : Nat) : (m.readEffect e addr).ups = m.ups := by simp [readEffect]

@[simp] theorem ups_pcieRead0 (m : Mach) (t addr n : Nat) : (m.pcieRead0 t addr n).ups = m.ups :=
  (ups_emitOut ..).trans (ups_foldl_fst (fun _ _ => ups_readEffect ..) _ _)

@[simp] theorem ups_attach (m : Mach) (t : Nat) : (m.attach t).ups = m.ups := by simp [attach]

@[simp] theorem ups_runOp (m : Mach) (t : Nat) (op : Nat × Nat × Nat) : (m.runOp t op).1.ups = m.ups := by
  unfold runOp
  dsimp only
  split
  · exact ups_readEffect ..
  · exact ups_hostWrite ..

@[simp] theorem ups_sendUdp (m : Mach) (t mac ip port : Nat) (bytes : List Byte) : (m.sendUdp t mac ip port bytes).ups = m.ups := by simp [sendUdp]

@[simp] theorem ups_runOps (m : Mach) (t mac ip port : Nat) (bs : List Byte) : (m.runOps t mac ip port bs).ups = m.ups := by
  unfold runOps
  dsimp only
  rw [ups_sendUdp, ups_modHost, ups_foldl_fst]
  · simp
  · exact fun r i => ups_runOp r.1 t _

@[simp] theorem ups_judgeSeq (m : Mach) (t mac ip port : Nat) (bs : List Byte) : (m.judgeSeq t mac ip port bs).ups = m.ups := by
  have hattach : (m.inSeg t fun m => if m.attachedAt t then m else m.attach t).ups = m.ups := ups_inSeg m t fun a => by
    split
    · rfl
    · exact ups_attach ..
  unfold judgeSeq
  dsimp only
  split
  · split
    · exact hattach
    · exact (ups_runOps ..).trans hattach
  · split <;> simp

/-! ### Accesses that waited, and settling -/

/-- A waiting access, once made, changes no tile's answering. -/
@[simp] theorem ups_runHeld (m : Mach) (x : HeldAcc) : (m.runHeld x).ups = m.ups := by
  cases x with
  | write p e a v => exact ups_hostWrite ..
  | pcieRead t a n => exact ups_pcieRead0 ..
  | thaig t mac ip port bs => exact ups_judgeSeq ..

@[simp] theorem ups_replayHeld (m : Mach) : m.replayHeld.ups = m.ups := ups_foldl _ _ ups_runHeld

theorem ups_settle (m : Mach) : m.settle.ups = m.ups := (ups_of_apartFromSettling m.settle_apartFromSettling).trans m.ups_replayHeld

/-- A part that settles as one in which no tile answers differs from it in what shows ISLAND and roles alone. -/
theorem Silent.of_settle_eq {a b : Mach} (hb : Silent b) (h : a.settle = b.settle) : SameBut ShowsIslandOrRole b a := by
  have ha : Silent a := by rw [Silent, ← ups_settle, h, ups_settle, hb]
  have hsa := ha.settle
  have hsb := hb.settle
  rw [h] at hsa
  exact ⟨hsa.clus.symm.trans hsb.clus, hsa.hands.symm.trans hsb.hands, hsa.viewOf.symm.trans hsb.viewOf, fun pk off ho hc =>
    (hsa.word pk off ho hc).symm.trans (hsb.word pk off ho hc)⟩

end Mach

end Sys2Proof.Machine

/-!
PROOFS. A wake of a tile cut off: what its segment shows of the cut changes with it.
-/

namespace Sys2Proof.Machine

/-- Of a command's next state, where no tile answered: the effects that it may have had differ in what shows ISLAND and roles alone. -/
theorem sameBut_of_next {s : State} {a b : Mach} {o : Host.Outcome State Fault Refusal} (hb : o = .next (s.settled b))
    (ha : o = .next (s.settled a)) (h : b.Silent) : Mach.SameBut Mach.ShowsIslandOrRole b a :=
  h.of_settle_eq (settle_eq_of_settled ha hb)

/-- What shows ISLAND or roles stands on no page of a tile but DECL. -/
theorem Mach.not_showsIslandOrRole_tilePage {t pg off : Nat} (ht : t < 8) (hp : pg < 256) (hd : pg ≠ 5) :
    ¬ Mach.ShowsIslandOrRole (pageKey t pg) off := by
  rintro (h | ⟨u, -, hpage, -⟩)
  · exact Mach.not_showsIsland_tilePage ht hp h
  · simp only [P.decl, pageKey] at hpage
    omega

/-- So settling shows every other word of a tile as the command left it. -/
theorem Mach.SameBut.word_tilePage {a b : Mach} (h : Mach.SameBut Mach.ShowsIslandOrRole b a) {t pg off : Nat} (ht : t < 8) (hp : pg < 256)
    (hd : pg ≠ 5) (ho : off < 4096) : a.word (pageKey t pg) off = b.word (pageKey t pg) off :=
  h.word _ _ ho (Mach.not_showsIslandOrRole_tilePage ht hp hd)

theorem Mach.SameBut.flag_tilePage {a b : Mach} (h : Mach.SameBut Mach.ShowsIslandOrRole b a) {t pg : Nat} {f : Field} (ht : t < 8)
    (hp : pg < 256) (hd : pg ≠ 5) (ho : f.off < 4096) : a.flag (pageKey t pg) f = b.flag (pageKey t pg) f := by
  rw [Mach.flag, Mach.flag, Mach.rd, Mach.rd, h.word_tilePage ht hp hd ho]

/-- Tile 0 dormant, in an island segment of its own, cluster 0 cut with hand 0 in state 3; a wake by its command port is enabled. -/
def dozing : Mach :=
  let m : Mach := { tiles := Vector.replicate 8 { life := .starting } }
  let m := ((m.modTile 0 fun ts => { ts with dormant := true }).wr (P.pwr 0) F.PWR_WAKE_CFG_CP_WAKE 1).wr (P.ring 0) F.RING_STAT_OUTSIDE 1
  m.modClu 0 fun c => { c with cut := some { hand := 0, state := 3 } }

/-- No command waits, and the part stands as in `dozing`. -/
def dozingState : State := { pending := [], m := dozing }

/-- The part of `dozing` woken. -/
def woken : Mach := dozingState.start.wakeUp 0 1

/-- Refutes O34: a wake of a tile in an island segment shows its members' hand anew, so that the clusters do not stay as the last clause
says. -/
theorem not_tileModeCommands : ¬ Obligations.TileModeCommands := by
  intro h
  obtain ⟨-, -, -, hwake⟩ := h
  obtain ⟨a, hexec, -, -, -, hclus⟩ := hwake dozingState 0 0 false true (by decide +kernel) (by decide +kernel)
  have hwoken : exec (.wake 0 0 false true) dozingState = .next (dozingState.settled woken) :=
    effect_next (f := fun m => m.wakeUp 0 (m.wakeSources 0 (0 : BitVec 8).toNat false true)) rfl
  have hsame := sameBut_of_next hwoken hexec (by decide +kernel)
  exact absurd (hsame.clus.symm.trans hclus) (by decide +kernel)

end Sys2Proof.Machine

/-!
PROOFS. A record of a tile in an island segment whose declarer's number names no tile: the exchange of the views loses the hands.
-/

namespace Sys2Proof.Machine

/-- Tile 0 outside with its declarer given as 9, which no tile is; its axis 0 works, its driver's fault enabled; hand 0 with a lead-in of 3. -/
def faulting : Mach :=
  let m : Mach := { tiles := Vector.replicate 8 { life := .starting } }
  let m := ((m.setWord (P.pwr 0) 0x044 0x0FFFF).wr (P.axis 0) F.PAGE_CTRL_ENABLE 1).wr (P.axis 0) F.AXIS_CFG_DRV_FAULT_EN 1
  ((m.wr (P.ring 0) F.RING_STAT_OUTSIDE 1).wr (P.decl 0) F.DECL_ROLE_DECL 9).modHand 0 fun h => { h with leadInLen := 3 }

/-- No command waits, and the part stands as in `faulting`. -/
def faultingState : State := { pending := [], m := faulting }

/-- The part of `faulting` with its driver's fault. -/
def faulted : Mach := faultingState.start.driverFaultEdge 0 true

/-- Refutes O47: a driver fault is recorded in the segment of its tile; where the number of that segment's declarer names no tile the hands
do not stay as the seventh clause says. -/
theorem not_axisEvents : ¬ Obligations.AxisEvents := by
  intro h
  obtain ⟨-, -, -, -, -, -, hfault, -, -⟩ := h
  obtain ⟨a, hexec, -, -, -, -, hhands⟩ := hfault faultingState 0 (by decide +kernel) (by decide +kernel) (by decide +kernel) (by decide +kernel)
    (by decide +kernel) (by decide +kernel) (by decide +kernel) (by decide +kernel) (by decide +kernel)
  have hfaulted : exec (.drvFault 0 true) faultingState = .next (faultingState.settled faulted) :=
    effect_next (f := fun m => m.driverFaultEdge 0 true) rfl
  have hsame := sameBut_of_next hfaulted hexec (by decide +kernel)
  exact absurd (hsame.hands.symm.trans hhands) (by decide +kernel)

/-! ### A time base loaded (R498) -/

/-- Tile 0 a time master whose LOAD waits, in a segment as of `faulting`; its axis 0, which may not move, brakes, and the queue of that axis's
events holds a cell whose tag is wrong. -/
def halting : Mach :=
  let m : Mach := { tiles := Vector.replicate 8 { life := .starting } }
  let m := ((m.setWord (P.pwr 0) 0x044 0x3FFFF).wr (P.que 0) (F.QUE_Q_CFG_PROD.nth 8) 1).wr (P.decl 0) F.DECL_ROLE_ROLE 1
  let m := ((m.wr (P.tb 0) F.TB_STAT_MASTER 1).wr (P.tb 0) F.TB_STAT_LOAD_PEND 1).wr (P.tb 0) F.TB_LOAD_LO_N_LO 7
  let m := (m.modQueue 0 8 fun q => { q with cells := [{ idx := 0, words := [], tag := 1, filled := true }] }).modAxS 0 fun x => { x with mode := .edec }
  ((m.wr (P.ring 0) F.RING_STAT_OUTSIDE 1).wr (P.decl 0) F.DECL_ROLE_DECL 9).modHand 0 fun h => { h with leadInLen := 3 }

/-- No command waits, and the part stands as in `halting`. -/
def haltingState : State := { pending := [], m := halting }

/-- The part of `halting` once it has sent its time base. -/
def loaded : Mach := haltingState.start.syncSend 0

/-- Refutes O57: the LOAD that a SYNC message takes ends the braking of an axis that may not move, whose event finds its queue unsound and
is recorded; where the number of the segment's declarer names no tile the hands do not stay as the fifth clause says. -/
theorem not_ringLinksAndSync : ¬ Obligations.RingLinksAndSync := by
  intro h
  obtain ⟨-, -, -, -, hload, -⟩ := h
  obtain ⟨a, hexec, -, -, -, -, -, -, -, hhands, -⟩ := hload haltingState 0 (by decide +kernel) (by decide +kernel) (by decide +kernel)
    (by decide +kernel)
  have hloaded : exec (.syncSend 0) haltingState = .next (haltingState.settled loaded) := effect_next (f := fun m => m.syncSend 0) rfl
  have hsame := sameBut_of_next hloaded hexec (by decide +kernel)
  exact absurd (hsame.hands.symm.trans hhands) (by decide +kernel)

end Sys2Proof.Machine

/-!
PROOFS. What the part meets in states that no run reaches: words of tile pages in the view that an island declarer holds, and a free list
that names a cell outside of the pool.
-/

namespace Sys2Proof.Machine

/-! ### A training that fails at step 0 (R483) -/

/-- Tile 0 in the segment of tile 1, whose view holds the word STAT of tile 0's page DRAM with TRAINING set; tile 0 trains. -/
def training : Mach :=
  let m : Mach := { tiles := Vector.replicate 8 { life := .starting } }
  let m := (m.setWord (P.pwr 0) 0x044 0xFFFFF).wr (P.dram 0) F.DRAM_STAT_TRAINING 1
  let m := (m.wr (P.ring 0) F.RING_STAT_OUTSIDE 1).wr (P.decl 0) F.DECL_ROLE_DECL 1
  m.modTile 1 fun ts => { ts with ring := { ts.ring with view := [(P.dram 0 * 4096 + 0x0A0, 2)] } }

/-- No command waits, and the part stands as in `training`. -/
def trainingState : State := { pending := [], m := training }

/-- The part of `training` once step 0 failed. -/
def untrained : Mach := trainingState.start.dramTrainDone 0 (some 0)

/-- Refutes O56: the failure is recorded in the segment of its tile; where the view of that segment holds a word of STAT, TRAINING shows
again after it fell, against the second clause. -/
theorem not_dramControllerEvents : ¬ Obligations.DramControllerEvents := by
  intro h
  obtain ⟨-, hfails, -⟩ := h
  obtain ⟨a, hexec, hfell, -⟩ := hfails trainingState 0 (some 0) (by decide +kernel) (by decide +kernel) fun _ => rfl
  have hdone : exec (.dramTrainingDone 0 (some 0)) trainingState = .next (trainingState.settled untrained) :=
    effect_next (f := fun m => m.dramTrainDone 0 (some 0)) rfl
  have hsame := sameBut_of_next hdone hexec (by decide +kernel)
  have hshown := hsame.flag_tilePage (t := 0) (pg := 0x1F) (f := F.DRAM_STAT_TRAINING) (by decide) (by decide) (by decide) (by decide)
  exact absurd (hshown.symm.trans hfell) (by decide +kernel)

/-! ### A host transfer of the two-wire controller (R533) -/

/-- Tile 0 in the segment of tile 1, whose view holds the word CMD of tile 0's page TWC with GO set; a host transfer of tile 0 runs, and
the queue of its events holds a cell whose tag is wrong. -/
def transferring : Mach :=
  let m : Mach := { tiles := Vector.replicate 8 { life := .starting } }
  let m := (m.setWord (P.pwr 0) 0x044 0xFFFFF).wr (P.que 0) (F.QUE_Q_CFG_PROD.nth 8) 8
  let m := m.modQueue 0 8 fun q => { q with cells := [{ idx := 0, words := [], tag := 1, filled := true }] }
  let m := (m.wr (P.twc 0) F.TWC_STAT_BUSY 1).wr (P.twc 0) F.TWC_STAT_OWNER 1
  let m := (m.wr (P.ring 0) F.RING_STAT_OUTSIDE 1).wr (P.decl 0) F.DECL_ROLE_DECL 1
  m.modTile 1 fun ts => { ts with ring := { ts.ring with view := [(P.twc 0 * 4096 + 0x054, 1)] } }

/-- No command waits, and the part stands as in `transferring`. -/
def transferringState : State := { pending := [], m := transferring }

/-- The part of `transferring` once the transfer is complete. -/
def transferred : Mach := transferringState.start.twcTransferEnd 0 .complete 1 []

/-- Refutes O60: the event of a complete host transfer that finds its queue unsound is recorded in the segment of its tile; where the view
of that segment holds a word of CMD, GO shows again after it fell, against the eighth clause. -/
theorem not_twoWireCommands : ¬ Obligations.TwoWireCommands := by
  intro h
  obtain ⟨-, -, -, -, -, -, -, hends, -⟩ := h
  obtain ⟨a, hexec, -, -, hfell, -⟩ := hends transferringState 0 1 [] (by decide +kernel) (by decide +kernel) (by decide +kernel)
    (by decide +kernel) (by decide +kernel) (by decide +kernel)
  have hdone : exec (.twcTransferEnd 0 .complete 1 []) transferringState = .next (transferringState.settled transferred) :=
    effect_next (f := fun m => m.twcTransferEnd 0 .complete 1 []) rfl
  have hsame := sameBut_of_next hdone hexec (by decide +kernel)
  have hshown := hsame.flag_tilePage (t := 0) (pg := 0x34) (f := F.TWC_CMD_GO) (by decide) (by decide) (by decide) (by decide)
  exact absurd (hshown.symm.trans hfell) (by decide +kernel)

/-! ### A silent transaction of a DMA channel (R470) -/

/-- Channel 0 of tile 0 runs, a transaction outstanding and a record waiting; the queue of the records takes its cells from the pool, whose
free list names a second cell that no link can name. -/
def unanswered : Mach :=
  let m : Mach := { tiles := Vector.replicate 8 { life := .starting } }
  let m := ((m.setWord (P.pwr 0) 0x044 0xFFFFF).wr (P.que 0) F.PAGE_CTRL_ENABLE 1).wr (P.kitty 0) F.PAGE_CTRL_ENABLE 1
  let m := ((m.wr (P.que 0) (F.QUE_Q_CFG_PROD.nth 8) 9).wr (P.que 0) (F.QUE_Q_CFG_LIMIT.nth 8) 8).wr (P.dma 0) (F.DMA_CH_STAT_STATE.nth 0) 1
  (m.modDma 0 0 fun c => { c with outs := [{}], recs := [{ hdr := [], payload := [] }] }).modKit 0 fun k =>
    { k with sram := { free := [5, 2 ^ 40], freeHead1 := some 5 } }

/-- No command waits, and the part stands as in `unanswered`. -/
def unansweredState : State := { pending := [], m := unanswered }

/-- The part of `unanswered` once the transaction has timed out. -/
def timedOut : Mach := unansweredState.start.dmaTimeout 0 0

/-- Refutes O54: a queue that is sound when a transaction times out need not be so once the record that waited before has taken its cell;
the one of the halt then counts a pointer error on page KITTY, which the last clause keeps. -/
theorem not_dmaChannelCommands : ¬ Obligations.DmaChannelCommands := by
  intro h
  obtain ⟨-, -, -, -, -, -, -, hsilent⟩ := h
  obtain ⟨a, hexec, -, -, -, -, -, -, -, -, hword⟩ := hsilent unansweredState 0 0 (by decide +kernel) (by decide +kernel) (by decide +kernel)
  have hdone : exec (.dmaTimeout 0 0) unansweredState = .next (unansweredState.settled timedOut) :=
    effect_next (f := fun m => m.dmaTimeout 0 0) rfl
  have hsame := sameBut_of_next hdone hexec (by decide +kernel)
  have hkept := hword (P.kitty 0) F.KITTY_PTR_ERR_COUNT.off (by decide) (by decide)
  have hshown := hsame.word_tilePage (t := 0) (pg := 0x1D) (off := F.KITTY_PTR_ERR_COUNT.off) (by decide) (by decide) (by decide) (by decide)
  exact absurd (hshown.symm.trans hkept) (by decide +kernel)

end Sys2Proof.Machine
